-- ==== Sys2Proof/Word.lean ====
section
/-! DEFINITION. Sys2Proof/Word.lean: the words the block's registers, frames and buffers are made of. -/

namespace Sys2Proof

/-- One byte of a frame, a descriptor or a host buffer. -/
abbrev Byte := BitVec 8

/-- One 32-bit set-up register of BAR0 (R513). -/
abbrev Word := BitVec 32

/-- A byte string, lowest offset first. -/
abbrev Bytes := List Byte

/-- A sparse table: (index, value) pairs, indices strictly rising; an unlisted index has the
table's default value (named where the table is read). -/
abbrev Tab (α : Type) := List (Nat × α)

end Sys2Proof
end

