-- ==== Sys2Proof/Operand.lean ====
section
/-! DEFINITION. Sys2Proof/Operand.lean: the kinds of operand that the commands of the block take. -/

namespace Sys2Proof.Machine

open Sys2Proof

/-- A 64-bit doorbell value or EUI. -/
abbrev DWord := BitVec 64
/-- Ring index (R130). -/
abbrev Ring128 := Fin 128
/-- Internal queue index (R429). -/
abbrev Queue64 := Fin 64
/-- Member index (R34). -/
abbrev Mix := Fin 128
/-- Axis index (R338). -/
abbrev Axis48 := Fin 48
/-- Head index (R314). -/
abbrev Head8 := Fin 8
/-- STO group index (R180). -/
abbrev Group12 := Fin 12
/-- E-stop loop index (R177). -/
abbrev Loop4 := Fin 4
/-- GNSS channel index (R211). -/
abbrev Chan64 := Fin 64
/-- SRAM bank index (R442). -/
abbrev Bank16 := Fin 16
/-- Memory master index (R442). -/
abbrev Master12 := Fin 12
/-- Compare unit index (R420). -/
abbrev Cmp32 := Fin 32

/-- A descriptor as the ring engine dispatches it: the submission ring it came from, its slots'
bytes (R71, R138), and how many function-level resets there had been when it was fetched (R129). -/
structure Desc where
  ring : Ring128
  bytes : Bytes
  flrs : Nat := 0
  deriving DecidableEq, Repr

/-- How a doorbell is written (R133): 8 bytes, the low half, or the high half alone. -/
inductive DbHalf where
  | full | low | high
  deriving DecidableEq, Repr

/-- The causes of a device-originated transaction (R109). -/
inductive DevCause where
  | taskDone | associating | associated | assocFailed | sleep | awake | unheard | reassociated
  | security | resumed
  deriving DecidableEq, Repr

/-- One test pulse of an E-stop loop as the inputs and the read-back show it (R178): the circuit pulsed, the time in ns from
the pulse's start until its own input was low, if it was, whether the other circuit's input was low during the pulse and high
again after it, and for how many ns the output's read-back differed from the driven level. -/
structure PulseObs where
  circuitB : Bool
  lowAfter : Option Nat
  crossed : Bool
  differs : Nat
  deriving DecidableEq, Repr

/-- The clocks that Clamp cross-counts (R8). -/
inductive ClockSrc where
  | oscA | oscB | refclk
  deriving DecidableEq, Repr

/-- The islands in the order of R7's table. -/
inductive Island where
  | hst | dvt | pos | gns | air | hdl | axs | inv | clpA | clpB | key | mem | aon
  deriving DecidableEq, Repr

/-- An island is clocked by a PLL of its own (R7). -/
def Island.hasPll : Island → Bool
  | .clpA | .clpB | .aon => false
  | _ => true

/-- Segment-table index (R360). -/
abbrev Table256 := Fin 256

/-- Pulses of the pulse line (R392): how many, whether the direction line was high at their rising edges, and how long each
was, in ns. -/
structure PulseRun where
  count : Nat
  up : Bool
  width : Nat
  deriving DecidableEq, Repr

/-- What an axis's inputs give at a sample instant (R343, R344, R391, R392): encoder counts since the last
sample, the SSI word as read (none where a check of R344 failed), the analogue input in 1/16 mV, the pulses of the pulse
line since the last sample, and the encoder pairs now open (bit 0 A, 1 B, 2 Z). -/
structure AxisIn where
  axis : Axis48
  counts : Int
  ssi : Option Nat
  uin : Int
  pulses : List PulseRun
  openMask : Nat
  deriving DecidableEq, Repr

/-- What went wrong with an island's access to the SRAM (R444, R445, R449): the master, the word of a bank, whether it
writes, how often its transfer through the fabric failed its CRC, how many WRITE_LOST answers it got, and what it concerned:
the axis (AXS), the member (POS, GNS, 0xFF for a host snapshot), the queue (queue engine), 2^16 times the ring plus the tag
(HST) or the MRAM block (MRAM controller). -/
structure MemAcc where
  master : Master12
  bank : Bank16
  word : Nat
  write : Bool
  crc : Nat
  lost : Nat
  obj : Nat
  deriving DecidableEq, Repr

/-- A read of an MRAM block whose CRC did not match at first (R451): how often it was read again, and whether a read
matched. -/
structure MramRead where
  block : Nat
  rereads : Nat
  ok : Bool
  deriving DecidableEq, Repr

/-- What a channel measures at a reference epoch (R220, R222-R224): the signal's transmit time in its system's time (2^-32 ns),
the accumulated carrier phase and the integrated Doppler since the last epoch (2^-32 cycles, both in the sign of PR), Doppler
(1/1024 Hz), noise estimates in the record's units, and what is valid. -/
structure RefObs where
  chan : Chan64
  tx : Int := 0
  phase : Int := 0
  turn : Int := 0
  doppler : Int := 0
  prStd : Nat := 0
  cpStd : Nat := 0
  prOk : Bool := false
  phaseOk : Bool := false
  dopOk : Bool := false
  deriving DecidableEq, Repr

/-- What an acquisition search gives (R214): the Doppler of the strongest cell (mHz), the power of that cell and the mean of
its Doppler bin in each dwell, the same of the second dwell, and how far (code steps, Doppler bins) its strongest cell lies
from the first. -/
structure AcqObs where
  doppler : Int
  cell : List Nat
  mean : List Nat
  cell2 : List Nat
  mean2 : List Nat
  dCode : Int
  dBin : Int
  deriving DecidableEq, Repr

/-- A narrowband line of a spectrum (R208): the monitor's number of it, frequency (Hz from F_L1), level above the floor
(0.5 dB), attenuation that a notch on it gives (dB). -/
structure SpecLine where
  line : Nat
  freq : Int
  level : Nat
  depth : Nat
  deriving DecidableEq, Repr

/-- A channel's estimates (R218): mean of cos 2φ over 100 ms in 0.001, C/N0 in 0.01 dB-Hz. -/
structure TrkIn where
  chan : Chan64
  cos2 : Int
  cn0 : Nat
  deriving DecidableEq, Repr

/-- What the search for one satellite in a snapshot gives (R214, R233): SYS, SVID, the power of the strongest cell and the
mean of its Doppler bin, that cell's Doppler (mHz) and code phase (2^-20 of 1 ms). -/
structure SnapDet where
  sys : Nat
  svid : Nat
  peak : Nat
  mean : Nat
  doppler : Int
  phase : Nat
  deriving DecidableEq, Repr

/-- What the 1 ms measurement gives (R527): supplies in mV, field supplies and grounds in mV, field currents in mA,
junction temperatures in 0.1 °C. -/
structure MonIn where
  vcore : Nat
  vio : Nat
  vana : Nat
  vfield0 : Int
  vfield1 : Int
  fgnd0 : Int
  fgnd1 : Int
  ifield0 : Nat
  ifield1 : Nat
  tDig : Int
  tRf : Int
  tFio0 : Int
  tFio1 : Int
  deriving DecidableEq, Repr

/-- An output land measured off (R504): its level without test current (mV) and its load (Ω). -/
structure OutMeas where
  mv : Int
  ohm : Nat
  deriving DecidableEq, Repr

/-- An input land (R504): its level (mV) and whether it reads on. -/
structure InMeas where
  mv : Int
  on : Bool
  deriving DecidableEq, Repr

/-- The lands of an axis in the FIELD section (R503): STEP, DIR, ENA, the current reference, the set-point input (mV)
and the three inputs. -/
structure FieldMeas where
  axis : Axis48
  stepO : OutMeas
  dirO : OutMeas
  enaO : OutMeas
  irefO : OutMeas
  spMv : Int
  limp : InMeas
  limn : InMeas
  home : InMeas
  deriving DecidableEq, Repr

/-- A group's pair in the STO section. -/
structure StoMeas where
  group : Group12
  a : OutMeas
  b : OutMeas
  deriving DecidableEq, Repr

/-- An encoder pair (R504): differential (mV), below the open-wire threshold, both lines below 0.5 V, both above VIO. -/
structure PairMeas where
  diff : Nat
  isOpen : Bool
  low : Bool
  high : Bool
  deriving DecidableEq, Repr

/-- An axis's pairs in the ENC section. -/
structure EncMeas where
  axis : Axis48
  a : PairMeas
  b : PairMeas
  z : PairMeas
  clk : PairMeas
  deriving DecidableEq, Repr

/-- An E-stop circuit (R504): resistance (Ω), test output in limit, input high with the output off, lowered by
another circuit. -/
structure CircuitMeas where
  ohm : Nat
  limited : Bool
  high : Bool
  cross : Bool
  deriving DecidableEq, Repr

/-- A loop in the ESTOP section. -/
structure EstopMeas where
  loop : Loop4
  a : CircuitMeas
  b : CircuitMeas
  deriving DecidableEq, Repr

/-- A contactor monitor in the ESTOP section. -/
structure CmonMeas where
  m : Fin 2
  isOpen : Bool
  ohm : Nat
  deriving DecidableEq, Repr

/-- What head `j` received of head `i`'s survey frames (R505): how many with FPQ of at least 128, and the mean m_ij
(ps). -/
structure HeadMeas where
  i : Head8
  j : Head8
  frames : Nat
  mean : Int
  deriving DecidableEq, Repr

/-- A member in the MEMBERS section (R506): the CLK_OFF (1/1024 ppm) of each of its frames, and the errors (0.1 ns) of its
acknowledgement starts. -/
structure MemMeas where
  mix : Mix
  offs : List Int
  gaps : List Int
  deriving DecidableEq, Repr

/-- An item that its producer still holds open (R432): its SEQ, and the payload words written so far. -/
structure OpenItem where
  seq : Nat
  written : Nat
  deriving DecidableEq, Repr

/-- The open items of one queue. -/
structure QueueOpen where
  q : Queue64
  items : List OpenItem
  deriving DecidableEq, Repr

/-- What a survey measured (R502-R506): the items begun, rails in mV, the entries measured, mean P_IN (0.01 dBm). -/
structure SurveyIn where
  begun : Nat
  rails : List Int
  field : List FieldMeas
  sto : List StoMeas
  enc : List EncMeas
  estop : List EstopMeas
  cmon : List CmonMeas
  pIn : Int
  heads : List HeadMeas
  members : List MemMeas
  deriving DecidableEq, Repr

end Sys2Proof.Machine
end

