-- ==== Sys2Proof/Syntax.lean ====
section
/-! DEFINITION. Sys2Proof/Syntax.lean: the commands of the block, one constructor per row of
spec/opcode_table.json, in the table's order. -/

namespace Sys2Proof

open Sys2Proof.Machine

/-- A command sent to the block.  A descriptor command carries its descriptor; a command that a timer,
a clock or an event outside brings carries the fleet instant `t` in ns at which it comes, and what was
observed. -/
inductive Instr where
  /-- SQ_DOORBELL_WRITE (R134): The host writes an SQ doorbell TAIL, publishing slots for fetch, or the write is ignored under the index checks. -/
  | sqDoorbellWrite (ring : Ring128) (value : DWord) (half : DbHalf)
  /-- CQ_DOORBELL_WRITE (R135): The host writes a CQ doorbell HEAD to free entries, and optionally ARM to re-arm the interrupt. -/
  | cqDoorbellWrite (ring : Ring128) (value : DWord) (half : DbHalf)
  /-- DESCRIPTOR_FETCH (R138): The fetcher starts reading the descriptor at the fetch index of an eligible SQ chosen by weighted round-robin. -/
  | descriptorFetch (nslot : Nat)
  /-- SLOTS_ON_CHIP (R138): The last slot of a descriptor arrives; the device advances the fetch index, writes it back and dispatches the descriptor. -/
  | slotsOnChip (ring : Ring128) (bytes : Bytes) (refetch : Bool)
  /-- HST_FETCH_ERR (R142): A slot read returns an error, is poisoned or times out twice, so a ring-error entry is written and the ring enters ERROR. -/
  | hstFetchErr (ring : Ring128) (slot : Fin 5)
  /-- HST_DMA_ERR (R142): A read of host data for a fetched operation fails twice, and the operation completes HST_DMA_ERR. -/
  | hstDmaErr (ring : Ring128) (tag : Nat) (addr : Nat)
  /-- MODERATION_TIMER_EXPIRY (R157): HST_RIRQ.TIMER passes since the oldest held entry, so every held entry is written and the MSI-X message is sent if ARMED. -/
  | moderationTimerExpiry (t : Nat) (cq : Ring128)
  /-- SUPERFRAME_BATCH_FLUSH (R154): At the end of each superframe, held class 0x03 and 0x04 completions are written, followed by a batch marker in each CQ that received one. -/
  | superframeBatchFlush
  /-- COALESCED_PENDING_WRITE (R155): The merged pending axis coalesced entry is written once the CQ has room again. -/
  | coalescedPendingWrite
  /-- QUEUE_ITEM_COPY (R156): An item of a bound queue is copied to the data area and its entry written, once the CQ and the data area have room. -/
  | queueItemCopy (q : Queue64) (opens : List OpenItem)
  /-- FUNCTION_LEVEL_RESET (R129): A function-level reset disables every ring, resets the HST registers and drops in-flight state, without undoing any commit. -/
  | functionLevelReset
  /-- RING_ENABLE (R131): ENABLE = 1 written to an OFF ring resets its indices (and the phase and ARMED for a CQ) and puts it in RUN. -/
  | ringEnable (ring : Ring128) (w : Word)
  /-- RING_DISABLE (R131): ENABLE = 0 moves an SQ to DRAIN, or a CQ from RUN to OFF. -/
  | ringDisable (ring : Ring128) (w : Word)
  /-- SQ_DRAIN_DONE (R131): The last operation in flight of a draining SQ completes, and the SQ goes to OFF. -/
  | sqDrainDone (ring : Ring128)
  /-- HST_MODE_WRITE (R160): A write of HST_MODE.MODE while every ring is OFF switches between native and planes mode. -/
  | hstModeWrite (w : Word)
  /-- MODE_PERSIST (R524): PERSIST written 1 stores MODE in the inactive persistent-settings block with GEN + 1. -/
  | modePersist
  /-- TXN (R88): A host transaction is judged in stages against the working copy, and it commits, waits or aborts. -/
  | txn (d : Desc) (freeze : Bool)
  /-- WAIT_CANCEL (R101): Withdraws a waiting transaction named by ring and tag, which completes DVT_WAIT_CANCELLED. -/
  | waitCancel (d : Desc)
  /-- WAITS_READ (R102): Writes the wait-for graph edges to a host buffer. -/
  | waitsRead (d : Desc)
  /-- WAIT_REJUDGE (R99): A commit frees a segment with WAITERS, and every transaction waiting on it is judged again in full, in order of entry. -/
  | waitRejudge
  /-- AFTER_EPOCH_RELEASE (R105): The epoch reaches AFTER, and the transactions held for it enter judgement at the front of the host side. -/
  | afterEpochRelease
  /-- WAIT_LIMIT_EXPIRY (R100): A conflict wait lasts longer than WAIT_LIMIT and completes TIMEOUT, cause 1. -/
  | waitLimitExpiry (t : Nat)
  /-- AFTER_LIMIT_EXPIRY (R105): AFTER is not reached within AFTER_LIMIT, and the held transaction completes TIMEOUT, cause 3. -/
  | afterLimitExpiry (t : Nat)
  /-- AIR_TXN_JUDGE (R106): A member request in its admission place is judged with the air restrictions and quota, and a REPLY is queued. -/
  | airTxnJudge
  /-- DEVICE_TXN (R109): The device judges and commits its own transaction for a member state change, task-done report or eviction, or defers it during a stop. -/
  | deviceTxn (mix : Mix) (cause : DevCause)
  /-- QUOTA_PERIOD_START (R107): Every PERIOD superframes the air quota of every member is refilled. -/
  | quotaPeriodStart
  /-- MAP_LOAD (R58): Starts reading a map image into the load area after checking the IMAGE_SIZE operand. -/
  | mapLoad (d : Desc)
  /-- MAP_IMAGE_VALIDATED (R56): The image has been read and is validated in order, then replaces the shadow or is rejected. -/
  | mapImageValidated (image : Bytes)
  /-- MAP_SWITCH (R59): Puts the shadow map in service in one commit with epoch 1, or completes MAP_BUSY or MAP_ID_MISMATCH. -/
  | mapSwitch (d : Desc)
  /-- MAP_DISCARD (R58): Empties the shadow. -/
  | mapDiscard (d : Desc)
  /-- SNAPSHOT (R63): Takes a state snapshot at the current epoch, waits for a future AT_EPOCH, or refuses a past one. -/
  | snapshot (d : Desc)
  /-- SNAPSHOT_AT_EPOCH (R63): A waiting snapshot is taken directly after its AT_EPOCH commits. -/
  | snapshotAtEpoch
  /-- SNAPSHOT_WAIT_TIMEOUT (R63): A waiting snapshot's AT_EPOCH does not commit within AFTER_LIMIT, and it completes TIMEOUT. -/
  | snapshotWaitTimeout (t : Nat)
  /-- SNAPSHOT_WRITTEN (R64): The snapshot sections and then the header are written to host memory, and the completion follows. -/
  | snapshotWritten
  /-- ESTOP_LOOP_OPEN (R178): A loop circuit input is low for 100 ns outside its pulse window, and the ESTOP source qualifies in both channels. -/
  | estopLoopOpen (loop : Loop4) (circuitA : Bool) (circuitB : Bool)
  /-- ESTOP_TEST_PULSE (R178): Each TP_PERIOD the loop test outputs pulse and the device classifies shorts, cross-faults and output faults. -/
  | estopTestPulse (t : Nat) (loop : Loop4) (obs : PulseObs)
  /-- ESTOP_DISCREPANCY (R178): One circuit stays open while the other stays closed for longer than DISC_TIME. -/
  | estopDiscrepancy (t : Nat) (loop : Loop4)
  /-- ESTOP_LOOP_CLEARED (R179): Both circuits close and two test periods pass with correct pulses, so the loop source becomes inactive. -/
  | estopLoopCleared (loop : Loop4)
  /-- CLP_STOP_REQ_WRITE (R173): A write of CLP_STOP_REQ.REQ asserts or ends the REG stop source. -/
  | clpStopReqWrite (w : Word)
  /-- CLP_HB_WRITE (R176): A heartbeat write is valid if SEQ advances by 1, and then restarts the heartbeat timer; otherwise it is counted. -/
  | clpHbWrite (w : Word)
  /-- HEARTBEAT_TIMEOUT (R173): HB_TIMEOUT passes without a valid heartbeat, and the HEARTBEAT stop source asserts. -/
  | heartbeatTimeout (t : Nat)
  /-- STOP (R199): A STOP descriptor asserts the DESC stop source, or reports that a stop is already asserted. -/
  | stop (d : Desc)
  /-- CMON_MISMATCH (R185): A contactor feedback mismatch persists beyond TIMEOUT, which is fault CF07. -/
  | cmonMismatch (m : Fin 2) (isOpen : Bool) (held : Nat) (t : Nat)
  /-- CHANNEL_CROSS_CHECK (R170): Every 1 µs the channels exchange their state, and a disagreement of more than 2 µs is fault CF03. -/
  | channelCrossCheck (disagree : Bool)
  /-- CLOCK_DEVIATION (R8): OSC-A, OSC-B or REFCLK is off by more than 1 % for 10 µs, which is fault CF01. -/
  | clockDeviation (which : ClockSrc)
  /-- PLL_LOCK_LOSS (R10): REFCLK is absent or a PLL loses lock, so the event is recorded and Clamp stops with CF02. -/
  | pllLockLoss (island : Island) (refclk : Bool)
  /-- FREEZE_ACK_TIMEOUT (R202): DVT does not acknowledge a freeze within 1 µs, which is fault CF08 with beacon suppression. -/
  | freezeAckTimeout
  /-- WINDOW_CONFIRM_TIMEOUT (R202): AIR does not confirm a stop window within 200 µs of its end, which is fault CF09. -/
  | windowConfirmTimeout (t : Nat)
  /-- PERIOD_KEY_NOT_READY (R192): K_(P+1) is not ready when WC[15:0] reaches 65 000, which is fault CF10. -/
  | periodKeyNotReady (t : Nat)
  /-- VFIELD_OUT_OF_RANGE (R539): VFIELD is outside 16–34 V or reversed for 10 µs, which is fault CF12. -/
  | vfieldOutOfRange (die : Fin 2) (rev : Bool)
  /-- VFIELD_RECOVERED (R202): VFIELD stays in range for 100 ms, and CF12 clears. -/
  | vfieldRecovered (t : Nat) (die : Fin 2) (held : Nat)
  /-- ECC_UNCORRECTABLE (R446): A double-bit SRAM error is reported, and in banks 0–1 it is fault CF14. -/
  | eccUncorrectable (bank : Bank16) (wordAddr : Nat) (master : Master12) (obj : Nat)
  /-- DIE_OVERTEMP (R202): The digital die exceeds +125 °C, which is fault CF15 until it falls below +115 °C. -/
  | dieOvertemp (isOver : Bool)
  /-- RAMP_LIMIT_EXPIRY (R183): CLP_RAMP_LIMIT passes since qualification, and a ramping group's STO pair turns off. -/
  | rampLimitExpiry (t : Nat) (g : Group12)
  /-- STO_DARK_TEST (R182): Each PERIOD an on output is briefly switched off, and its read-back is checked. -/
  | stoDarkTest (g : Group12) (chB : Bool) (followed : Bool)
  /-- STO_READBACK_FAULT (R182): An STO output reads on while driven off (CF04), or off while driven on for 20 µs (CF05 group stop). -/
  | stoReadbackFault (g : Group12) (chB : Bool) (readsOn : Bool)
  /-- STO_DELAY_EXPIRY (R181): STO_DELAY passes after a release commit, and the pairs switch on. -/
  | stoDelayExpiry (t : Nat)
  /-- RELEASE (R196): Checks the stop epoch and preconditions in both channels, then commits S_R, clears the 0xFF entries and replays deferred transactions. -/
  | release (d : Desc)
  /-- GROUP_RELEASE (R184): Switches named groups out of group stop when no site stop is asserted and their axes are fault-free. -/
  | groupRelease (d : Desc)
  /-- RESUME (R198): Queues unicast resume frames to each named STOPPED member. -/
  | resume (d : Desc)
  /-- RESUME_TIMEOUT (R198): RESUME_TO passes before every named member is resumed, and RESUME completes CLP_RESUME_PARTIAL. -/
  | resumeTimeout (t : Nat)
  /-- STOP_WINDOW (R328): While a stop is asserted, each 1 ms window sends STOPWIN to every head for the STS-only stop packet. -/
  | stopWindow (t : Nat)
  /-- SUPERFRAME_START (R290): At each 10 ms boundary the device chooses the drift regime, fills the slot map and sends the beacon on each channel. -/
  | superframeStart (t : Nat)
  /-- RXPLAN_SEND (R329): Each superframe's RXPLAN is sent to every head at least 1 ms before the superframe. -/
  | rxplanSend
  /-- UP_FRAME_RX (R277): A member's UP frame forwarded by a head is checked (site, MIC, counter) and its elements are processed. -/
  | upFrameRx (head : Head8) (frame : Bytes)
  /-- POLL_RX (R299): A sleeper's POLL is acknowledged and its clock error e updated, including collisions and resync polls. -/
  | pollRx (head : Head8) (frame : Bytes)
  /-- ASSOC_REQ_RX (R285): An ASSOC_REQ is verified and answered ACCEPTED, WAIT, FULL or REFUSED, with link keys derived on acceptance. -/
  | assocReqRx (head : Head8) (frame : Bytes)
  /-- ASSOC_TIMEOUT (R286): No frame under K_LINK arrives within 1 s of acceptance, and the entry returns to ABSENT. -/
  | assocTimeout (t : Nat) (mix : Mix)
  /-- WAIT_LIST_KEEP_EXPIRY (R289): A freed MIX kept for the first waiting partner is released after 1 s. -/
  | waitListKeepExpiry (t : Nat) (mix : Mix)
  /-- WAIT_LIST_DROP (R289): A waiting partner not heard for 3 s leaves the waiting list. -/
  | waitListDrop (t : Nat) (eui : DWord)
  /-- DOWN_SLOT_TX (R296): In a member's DOWN slot the device sends a unicast DOWN frame carrying pending elements. -/
  | downSlotTx (mix : Mix)
  /-- DOWN_ACK_RX (R296): A member acknowledges a DOWN frame, applying AIR effects at the later of T and the ack, and completing sends. -/
  | downAckRx (t : Nat) (head : Head8) (frame : Bytes)
  /-- DOWN_NO_ACK (R303): A unicast DOWN frame is not acknowledged; elements stay pending and AIR_SEND completes AIR_NO_ACK after RETRY. -/
  | downNoAck (mix : Mix)
  /-- EXPECTED_UPLINK_MISSED (R304): An UPLINK slot or POLL window ends with no frame accepted, and 3 in a row commit UNHEARD. -/
  | expectedUplinkMissed (mix : Mix)
  /-- POS_DL_SLOT_TX (R292): Queued solutions are sent as a position batch in a POS_DL slot. -/
  | posDlSlotTx (chan : Fin 2) (slot : Nat)
  /-- BCAST_SLOT_TX (R285): ASSOC_RSP or RTCM broadcast DOWN frames are sent in a BCAST slot. -/
  | bcastSlotTx (chan : Fin 2)
  /-- KEY_DELIVERY_START (R192): At WC[15:0] = 45 536 the device starts sending K_(P+1) to members and heads. -/
  | keyDeliveryStart
  /-- PERIOD_KEY_DERIVE (R458): At the start of period P, KEY derives K_(P+1) and K_BCN,P+1 within 2 µs. -/
  | periodKeyDerive
  /-- BCOPY_RX (R334): A subordinate receives a primary BCOPY and aligns its superframes, ending ORPHAN after 3. -/
  | bcopyRx (port : Fin 2) (frame : Bytes)
  /-- PRIMARY_BEACON_MISSED (R307): No BCOPY arrives within 1 ms of a superframe's end, and 3 misses make the subordinate ORPHAN. -/
  | primaryBeaconMissed
  /-- AIR_SEND (R309): Queues a DATA element from host memory to a member. -/
  | airSend (d : Desc) (data : Bytes)
  /-- AIR_RX_BIND (R309): Binds or unbinds the queue for received DATA elements. -/
  | airRxBind (d : Desc)
  /-- AIR_ADMIT (R309): Adds, removes or clears EUIs in the admission list. -/
  | airAdmit (d : Desc)
  /-- AIR_MEMBERS_READ (R309): Writes the 128-entry member link table to host memory. -/
  | airMembersRead (d : Desc)
  /-- HELLO_RX (R320): An unjoined head's HELLO is verified and answered with JOIN, deriving K_HS and starting calibration. -/
  | helloRx (head : Head8) (frame : Bytes)
  /-- HB_DN_TX (R322): At every 125 µs the device sends HB_DN to each joined head with RATE and earlier time-stamps. -/
  | hbDnTx (t : Nat) (egress : List Nat)
  /-- HB_UP_RX (R322): A head's HB_UP arrives, giving T2 and T3 for a delay exchange and its radio flags. -/
  | hbUpRx (head : Head8) (frame : Bytes) (t4 : Nat)
  /-- SYNC_INTERVAL_END (R323): Every 8 ms the device fits each head's mapping, computes M and tests for path steps and calibration completion. -/
  | syncIntervalEnd (t : Nat)
  /-- SUSPECT_HOLD_EXPIRY (R325): A head still SUSPECT HOLD_MAX after its step enters NO_AIR. -/
  | suspectHoldExpiry (t : Nat) (head : Head8)
  /-- HEAD_RECAL_HOLD (R326): RECAL with MODE 0 sets A from the frozen mapping and rebuilds the mapping. -/
  | headRecalHold (head : Head8) (w : Word)
  /-- HEAD_RECAL_SET (R326): RECAL with MODE 1 takes the written ASYM and rebuilds the mapping. -/
  | headRecalSet (head : Head8) (w : Word)
  /-- TX_REPORT_RX (R327): A head reports a TX frame SENT or refused, giving the transmit RMARKER or a stop window confirmation. -/
  | txReportRx (head : Head8) (frame : Bytes)
  /-- HEAD_HB_LOSS (R333): No accepted HB_UP for HB_LOSS heartbeats, so the head is LOST (CF11) and failover runs. -/
  | headHbLoss (t : Nat) (head : Head8)
  /-- SGMII_LINK_CHANGE (R333): A port's SGMII link goes down for 10 µs (head LOST) or comes up. -/
  | sgmiiLinkChange (port : Fin 10) (up : Bool)
  /-- STOPWIN_REPORT_MISSING (R328): A head fails to report SENT for 3 consecutive stop windows and is declared LOST. -/
  | stopwinReportMissing (head : Head8)
  /-- REFERENCE_EPOCH (R222): Every 50 ms the receiver produces observation records and a timing solution, and may emit RTCM. -/
  | referenceEpoch (t : Nat) (obs : List RefObs)
  /-- AGC_UPDATE (R207): Every 1 ms the AGC steps the RF gain towards TARGET and updates P_IN. -/
  | agcUpdate (rms : Nat) (pIn : Int)
  /-- SPECTRUM_UPDATE (R208): Every 1 ms a spectrum is taken and notches are assigned, moved or released. -/
  | spectrumUpdate (lines : List SpecLine)
  /-- JAM_UPDATE (R210): Every 100 ms J is computed and JAM_ALARM is set or cleared. -/
  | jamUpdate
  /-- ANTENNA_CURRENT_SAMPLE (R206): Every 1 ms the bias current is measured and the antenna classified NORMAL, OPEN or SHORT. -/
  | antennaCurrentSample (ma : Nat)
  /-- ANTENNA_RETRY (R206): 1 s after SHORT, the supply is retried for 10 ms. -/
  | antennaRetry (t : Nat)
  /-- CHANNEL_REVIEW (R217): Every 10 s channel assignments are reviewed against elevation. -/
  | channelReview (t : Nat)
  /-- ACQ_SEARCH_DONE (R214): An FFT search completes with a detection verified or not, handing a channel to tracking. -/
  | acqSearchDone (chan : Chan64) (obs : AcqObs)
  /-- TRACKING_UPDATE (R218): Every 100 ms lock and C/N0 are evaluated, declaring or losing lock and releasing weak channels. -/
  | trackingUpdate (ins : List TrkIn)
  /-- NAV_SYMBOL_ITEM (R225): Each fleet second, or when tracking ends, a navigation-symbol item is written per channel. -/
  | navSymbolItem (chan : Chan64) (first : Nat) (nSym : Nat) (known : Bool) (gap : Bool) (sym : Bytes)
  /-- SNAP_FRAGMENT_TIMEOUT (R229): Not all fragments arrive within FRAG_TIMEOUT, and the snapshot ends GNS_SNAP_INCOMPLETE. -/
  | snapFragmentTimeout (t : Nat)
  /-- SNAP_PROCESS_START (R231): On the 25 ms grid, the earliest complete snapshot starts processing. -/
  | snapProcessStart (t : Nat)
  /-- SNAP_RESULT (R234): Snapshot processing ends and its result is queued to the host and the member. -/
  | snapResult (t : Nat) (dets : List SnapDet)
  /-- GNS_RESTART (R235): Restarts the receiver warm or cold. -/
  | gnsRestart (d : Desc)
  /-- GNS_SNAP_HOST (R235): Submits a snapshot from host memory. -/
  | gnsSnapHost (d : Desc) (data : Bytes)
  /-- GNS_SPECTRUM (R235): Writes 1024 averaged bin powers to host memory. -/
  | gnsSpectrum (d : Desc) (bins : Bytes)
  /-- OBS_PAYLOAD_TIMEOUT (R248): Not all fragments of a payload arrive within 10 ms, and it is discarded. -/
  | obsPayloadTimeout (t : Nat) (mix : Mix)
  /-- POS_EPOCH_ADMIT (R261): A completed payload is admitted to the solver with its reference epoch. -/
  | posEpochAdmit
  /-- SEARCH_DEADLINE (R261): An ambiguity search still running at t0 + 1.8 ms is abandoned. -/
  | searchDeadline (t : Nat) (mix : Mix)
  /-- SOLUTION_COMPLETE (R259): A member epoch's filter update and fix tests finish, and the solution is output to air, queue and member table. -/
  | solutionComplete (t : Nat)
  /-- DEGRADE_EVALUATE (R262): Every 1 s demand is computed and a degradation step applied or relaxed. -/
  | degradeEvaluate (t : Nat)
  /-- ORBIT_SET_ACTIVATE (R243): A validated orbit set becomes active at the next reference epoch and ORBIT_LOAD completes. -/
  | orbitSetActivate (t : Nat)
  /-- POS_REF_SET (R239): Sets the reference antenna position, possibly reinitialising filters. -/
  | posRefSet (d : Desc)
  /-- ORBIT_LOAD (R242): Reads and validates an orbit set. -/
  | orbitLoad (d : Desc) (set : Bytes)
  /-- HEAD_SET (R256): Loads the head table, effective at the next superframe. -/
  | headSet (d : Desc) (tab : Bytes)
  /-- MEMBER_FILTER_RESET (R264): Reinitialises the filters of named members. -/
  | memberFilterReset (d : Desc)
  /-- POS_OFFER_READ (R264): Writes the rate at which each member is served. -/
  | posOfferRead (d : Desc)
  /-- AXIS_SAMPLE (R383): At each sample instant an axis applies due effects, computes its set-point, loop law, current reference and supervisors, and reports to Dovetail. -/
  | axisSample (t : Nat) (ins : List AxisIn)
  /-- SAMPLE_OVERRUN (R398): An axis misses its deadline, so its outputs repeat, and a second overrun is fault OVERRUN with a group stop. -/
  | sampleOverrun (t : Nat) (axis : Axis48)
  /-- LIMIT_INPUT_EDGE (R345): A limit or home input holds a new level for FILT, giving a qualified edge, a latch, a limit reaction or a chatter count. -/
  | limitInputEdge (t : Nat) (axis : Axis48) (which : Fin 3) (level : Bool)
  /-- Z_EDGE_CAPTURE (R343): A Z rising edge is captured with count and time-stamp. -/
  | zEdgeCapture (t : Nat) (axis : Axis48) (pos : Int)
  /-- ENCODER_QUAD_ERROR (R343): A and B change together, which is fault ENC_QUAD. -/
  | encoderQuadError (axis : Axis48)
  /-- ENCODER_OPEN_WIRE (R343): An encoder pair stays below the open-wire threshold for 2 µs, which is fault ENC_WIRE. -/
  | encoderOpenWire (axis : Axis48) (pair : Fin 3)
  /-- FOLLOW_ERROR_EXPIRY (R395): |e| exceeds FE_LIM for FE_T, which is fault FOLLOW_ERR. -/
  | followErrorExpiry (t : Nat) (axis : Axis48)
  /-- STALL_EXPIRY (R396): AT_CEIL and |e| > FE_LIM hold for STALL_T, which is fault STALL. -/
  | stallExpiry (t : Nat) (axis : Axis48)
  /-- SP_RANGE_EXPIRY (R391): SP_RANGE stays 1 for 10 ms while following, which is fault SP_INPUT. -/
  | spRangeExpiry (t : Nat) (axis : Axis48)
  /-- OUTPUT_CURRENT_LIMIT (R541): An output is in current limit for 100 µs, is switched off, and is fault OUTPUT. -/
  | outputCurrentLimit (axis : Axis48)
  /-- OUTPUT_OVERVOLTAGE (R541): An output land is forced beyond +33 V or −1 V for 10 µs, which is fault OUTPUT. -/
  | outputOvervoltage (axis : Axis48)
  /-- CTL_APPLY (R390): APPLY written 1 copies every shadowed loop parameter into use at the next sample. -/
  | ctlApply (axis : Axis48) (w : Word)
  /-- AXS_TABLE_LOAD (R360): Starts loading a segment table, which becomes LOADING unless busy. -/
  | axsTableLoad (d : Desc)
  /-- TABLE_VALIDATED (R359): A loaded table is validated and placed in the pool, becoming VALID or EMPTY. -/
  | tableValidated (table : Table256) (image : Bytes)
  /-- AXS_TABLE_FREE (R360): Empties a table unless busy. -/
  | axsTableFree (d : Desc)
  /-- AXS_FAULT_CLEAR (R351): Clears faults of named axes whose cause has ended. -/
  | axsFaultClear (d : Desc)
  /-- AXS_SET_POS (R379): Sets an IDLE axis's position and set-point. -/
  | axsSetPos (d : Desc)
  /-- AXS_READ (R379): Writes 48 axis records from one sample. -/
  | axsRead (d : Desc)
  /-- REFCLK_LOSS (R407): Fleet time is carried on the RC oscillator, the state becomes FREE and time-stamps stop. -/
  | refclkLoss
  /-- REFCLK_RESTORE (R407): The INV PLL locks again and fleet time returns to INC continuously. -/
  | refclkRestore
  /-- FLEET_SECONDS_STORE (R406): Every 8 s of fleet time the seconds are stored in MRAM. -/
  | fleetSecondsStore (t : Nat)
  /-- TIME_STATE_EVAL (R411): At each new offset and every 10 ms the time state and TQ are evaluated. -/
  | timeStateEval (t : Nat)
  /-- HOLDOVER_BUDGET_EXPIRY (R412): The holdover error estimate exceeds BUDGET, and the state becomes FREE. -/
  | holdoverBudgetExpiry (t : Nat)
  /-- PPS_OUT_PULSE (R414): PPS_OUT goes active at each whole fleet second. -/
  | ppsOutPulse (t : Nat)
  /-- PPS_IN_EDGE (R415): A PPS_IN edge is time-stamped and the PPS_IN offset formed and qualified. -/
  | ppsInEdge (t : Nat) (rising : Bool)
  /-- PPS_IN_LOSS (R410): No PPS_IN edge arrives for 1.5 s, and the reference is lost. -/
  | ppsInLoss (t : Nat)
  /-- HOST_REF_LOSS (R410): INV_HOST_OFF is not written within REF_LOSS s, and the HOST reference is lost. -/
  | hostRefLoss (t : Nat)
  /-- INV_INC_WRITE (R405): A write of INV_INC_HI applies the clamped INC pair at the next INV edge. -/
  | invIncWrite (w : Word)
  /-- INV_UTC_OFF_WRITE (R416): A write of INV_UTC_OFF_HI applies U and writes a record and an item. -/
  | invUtcOffWrite (w : Word)
  /-- INV_HOST_OFF_WRITE (R410): The host writes its measured offset, qualifying the HOST reference. -/
  | invHostOffWrite (w : Word)
  /-- TIME_STEP (R408): Accepts a forward fleet-time step for the next 10 ms boundary, or refuses it. -/
  | timeStep (d : Desc)
  /-- TIME_STEP_APPLY (R409): At t_j fleet time jumps by DELTA, and schedules and due items restart. -/
  | timeStepApply
  /-- LAN_FRAME_RX (R417): A LAN frame is time-stamped, checked for PTP exchanges and delivered or dropped. -/
  | lanFrameRx (t : Nat) (port : Fin 2) (frame : Bytes)
  /-- LAN_INTERVAL_END (R419): At each INTERVAL the mean path delay is updated and ASYM_SUSPECT set or cleared. -/
  | lanIntervalEnd (t : Nat) (port : Fin 2)
  /-- LAN_RECAL (R419): RECAL written 1 clears ASYM_SUSPECT after a steady interval. -/
  | lanRecal (port : Fin 2) (w : Word)
  /-- LAN_SEND (R424): Sends a LAN frame with transmit time-stamp. -/
  | lanSend (t : Nat) (d : Desc) (frame : Bytes)
  /-- LAN_RX_BIND (R424): Binds or unbinds the queue for received LAN frames. -/
  | lanRxBind (d : Desc)
  /-- COMPARE_TARGET_LOAD (R420): A pending COMPARE_ARM's target is loaded when T is less than 2^30 counts away. -/
  | compareTargetLoad (t : Nat)
  /-- COMPARE_FIRE (R421): A compare unit reaches its target, fires and writes an item, continuing if periodic. -/
  | compareFire (t : Nat) (unit : Cmp32)
  /-- COMPARE_HOST_ARM (R422): ARM written to a host-owned unit arms it at once. -/
  | compareHostArm (unit : Cmp32) (w : Word)
  /-- RESERVATION_GRANT (R432): A waiting reservation is granted as open items commit. -/
  | reservationGrant (q : Queue64)
  /-- QUEUE_POP (R434): A write of QUE_RD_CTL pops the oldest committed item into the read window. -/
  | queuePop (w : Word) (opens : List OpenItem)
  /-- QUEUE_MARK_APPLY (R439): At its effect time a MARK item is written to the named queue. -/
  | queueMarkApply (t : Nat)
  /-- QUEUE_BIND (R440): Binds a queue to a CQ and data area. -/
  | queueBind (d : Desc)
  /-- QUEUE_UNBIND (R440): Unbinds a queue after pending entries are written. -/
  | queueUnbind (d : Desc)
  /-- QUEUE_FLUSH (R435): Flushes queues at one MEM edge, voiding open items. -/
  | queueFlush (d : Desc) (opens : List QueueOpen)
  /-- SRAM_SCRUB (R446): The background scrub reads words and corrects single-bit errors. -/
  | sramScrub (err : Option (Fin 8)) (accs : List MemAcc)
  /-- KEY_INSTALL (R463): Installs K_SITE into an empty store during a stop. -/
  | keyInstall (d : Desc) (site : Bytes)
  /-- KEY_IMPORT (R464): Unwraps and stores a key in a store entry. -/
  | keyImport (d : Desc) (blob : Bytes)
  /-- KEY_DELETE (R464): Deletes a store entry and zeroises loaded copies. -/
  | keyDelete (d : Desc)
  /-- STORE_UPDATE_DONE (R460): The commit record of a store change is written, the slot becomes active and the operation completes. -/
  | storeUpdateDone
  /-- KEY_LOAD (R464): Loads a store entry into the cache. -/
  | keyLoad (d : Desc)
  /-- KEY_DERIVE (R464): Derives a child key into the cache. -/
  | keyDerive (d : Desc) (data : Bytes)
  /-- KEY_CIPHER (R464): Runs an AES, CCM* or CMAC function under a handle. -/
  | keyCipher (d : Desc) (data : Bytes) (aux : Bytes)
  /-- KEY_EXPORT_ENROL (R464): Exports a wrapped enrolment or head link key. -/
  | keyExportEnrol (d : Desc)
  /-- KEY_EVICT (R464): Zeroises a cache entry and its descendants. -/
  | keyEvict (d : Desc)
  /-- KEY_HASH (R464): Writes a SHA-256 digest of host data. -/
  | keyHash (d : Desc) (data : Bytes)
  /-- KEY_CHALLENGE (R464): Issues a 16-byte challenge for a purpose. -/
  | keyChallenge (d : Desc)
  /-- TAMPER_ACK (R472): Clears the tamper latch and unseals the store. -/
  | tamperAck (d : Desc)
  /-- LC_CHANGE (R467): Changes the life-cycle state, destroys keys and restarts. -/
  | lcChange (d : Desc)
  /-- TAMPER_QUALIFY (R469): A mesh, external or environmental tamper source qualifies, and the phase reaction runs. -/
  | tamperQualify (src : Fin 6) (ms : Nat) (high : Bool) (held : Nat)
  /-- AIR_HOLD_EXPIRY (R471): AIR_HOLD after a tamper, air keys and internal keys are zeroised and the store sealed. -/
  | airHoldExpiry (t : Nat)
  /-- RECORD_COMMIT (R477): An MRAM block write completes and commits its staged records. -/
  | recordCommit (reads : List MramRead)
  /-- EVR_READ (R482): Copies committed records of one area to host memory. -/
  | evrRead (d : Desc)
  /-- EVR_CLEAR (R483): Authenticates a recorder clear. -/
  | evrClear (d : Desc)
  /-- CLEAR_START (R484): After reads complete, the CLEARED record is committed and EVR_OLDEST set. -/
  | clearStart
  /-- CLEAR_COMPLETE (R484): The circulating blocks have been zeroed and EVR_CLEAR completes DONE. -/
  | clearComplete
  /-- POWER_UP (R496): Supplies and REFCLK come up, and boot begins with the POWER_UP stop. -/
  | powerUp
  /-- BOOT_STAGE_ADVANCE (R495): A boot stage's work completes and the next stage starts. -/
  | bootStageAdvance (dt : Nat) (reads : List MramRead)
  /-- BROWN_OUT (R539): A logic supply below threshold for 2 µs resets all islands except AON. -/
  | brownOut (torn : Bool)
  /-- VANA_LOSS (R539): VANA below 2.5 V stops AON, and the next rise is a power-up. -/
  | vanaLoss (torn : Bool)
  /-- SUPPLY_OUT_OF_RANGE (R539): A logic supply outside its range for 10 µs sets the SUPPLY cause and OOR flags. -/
  | supplyOutOfRange (rail : Fin 3)
  /-- PERST_N_DEASSERT (R493): PERST_N becomes inactive, waking the device or starting link training. -/
  | perstNDeassert (ms : Nat)
  /-- WAKE_TIMER (R493): WAKE_S after t_e the AON timer wakes the device. -/
  | wakeTimer
  /-- SLEEP_ENTRY_DONE (R492): At t_e the link goes down and islands except AON are unpowered. -/
  | sleepEntryDone
  /-- POWER_STATE (R491): Changes the power state, with preconditions for SLEEP and OFF. -/
  | powerState (d : Desc)
  /-- SYSTEM_RESTART (R510): Restarts every island except AON from RESET. -/
  | systemRestart (d : Desc)
  /-- SURVEY (R502): Starts the requested survey items. -/
  | survey (d : Desc)
  /-- SURVEY_COMPLETE (R503): The survey items end and the result is written and stored. -/
  | surveyComplete (x : SurveyIn)
  /-- SURVEY_READ (R509): Writes a stored survey result. -/
  | surveyRead (d : Desc)
  /-- WAKE_INFO (R511): Writes the wake information. -/
  | wakeInfo (d : Desc)
  /-- MON_MEASURE (R529): Every 1 ms supplies, currents and temperatures are measured. -/
  | monMeasure (x : MonIn)
  /-- REGISTER_WRITE (R519): A write to a register without its own row is applied field by field with clamping and report items. -/
  | registerWrite (off : Nat) (w : Word) (full : Bool)
  /-- LATCHED_LO_READ (R516): A read of a latched LO register captures HI into its holding copy. -/
  | latchedLoRead (off : Nat)
  /-- READ_CLEAR_COUNTER (R517): A read of an RC field returns and clears it. -/
  | readClearCounter (off : Nat)
  /-- SUPPLY_RECOVERED (R539): VCORE, VIO or VANA returns into its operating range, clearing the SUPPLY cause bit and its OOR flag, which may raise READY. -/
  | supplyRecovered (rail : Fin 3)
  /-- BIT_SYNC_FOUND (R219): A tracking channel finds the data-bit edges (C/A) or the secondary-code phase (pilot) and switches to its configured coherent integration. -/
  | bitSyncFound (chan : Chan64)
  /-- PREAMBLE_DECODED (R221): A C/A channel decodes the subframe preamble 0x8B and its polarity, resolving the half cycle and setting HALF_CYCLE_OK. -/
  | preambleDecoded (chan : Chan64)
  /-- MSIX_TABLE_ENTRY_WRITE (R157): A host write to an MSI-X table entry in BAR2 masks or unmasks a vector, and unmasking sends a message whose pending bit is set. -/
  | msixTableEntryWrite (vector : Mix) (dw : Fin 4) (value : Word)
  /-- DEFERRED_WAKE (R493): A wake requested by PERST_N before t_e + 20 s takes effect at t_e + 20 s. -/
  | deferredWake
  /-- TAMPER_SOURCE_INACTIVE (R472): A qualified tamper source ceases to qualify, clearing its TMP_STATUS.ACTIVE bit while the latch stays set. -/
  | tamperSourceInactive (src : Fin 6)
  /-- KEY_OPERATION_DONE (R464): A running key operation such as KEY_CIPHER, KEY_HASH or KEY_DERIVE finishes and writes its output and completion. -/
  | keyOperationDone
  /-- EVR_READ_DONE (R482): An EVR_READ walk finishes copying records and completes, letting a waiting recorder clear proceed. -/
  | evrReadDone
  deriving DecidableEq, Repr

end Sys2Proof
end

