-- ==== Sys2Proof/WellFormed.lean ====
section
/-! DEFINITION. Sys2Proof/WellFormed.lean: which commands can come: the operands that their rules bound and that their
types do not. -/

namespace Sys2Proof

open Sys2Proof.Machine

/-- Whole slots of 64 bytes, one to five (R71). -/
def wfSlots (b : Bytes) : Bool :=
  decide (b.length % 64 = 0) && decide (64 ≤ b.length) && decide (b.length ≤ 320)

/-- A descriptor is whole slots (R71). -/
def wfDesc (d : Desc) : Bool := wfSlots d.bytes

/-- A frame on the air or on a link holds at least a byte and fits an Ethernet frame (R272, R315). -/
def wfFrame (b : Bytes) : Bool := decide (1 ≤ b.length) && decide (b.length ≤ 1522)

/-- A DW of BAR0 (R513, R515). -/
def wfOffset (off : Nat) : Bool := decide (off < 0x100000) && decide (off % 4 = 0)

/-- An access to the SRAM: a word of a bank, at most four failures on the fabric, an axis and a queue that exist (R442-R449). -/
def wfAcc (a : MemAcc) : Bool :=
  decide (a.word < 196608) && decide (a.crc ≤ 4) && (a.master.val != 1 || decide (a.obj < 48))
    && (a.master.val != 8 || decide (a.obj < 64))

/-- A read of an MRAM block: read again once or twice, twice where none matched (R450, R451). -/
def wfRead (r : MramRead) : Bool :=
  decide (r.block < 32768) && decide (1 ≤ r.rereads) && decide (r.rereads ≤ 2) && (r.ok || r.rereads == 2)

/-- The command can come. -/
def WellFormed (i : Instr) : Bool :=
  match i with
  | .sqDoorbellWrite _ _ _ => true
  | .cqDoorbellWrite _ _ _ => true
  | .descriptorFetch nslot => decide (nslot < 256)
  | .slotsOnChip _ bytes _ => wfSlots bytes
  | .hstFetchErr _ _ => true
  | .hstDmaErr _ tag addr => decide (tag < 1024) && decide (addr < 2 ^ 64)
  | .moderationTimerExpiry _ _ => true
  | .superframeBatchFlush => true
  | .coalescedPendingWrite => true
  | .queueItemCopy _ _ => true
  | .functionLevelReset => true
  | .ringEnable _ _ => true
  | .ringDisable _ _ => true
  | .sqDrainDone _ => true
  | .hstModeWrite _ => true
  | .modePersist => true
  | .txn d _ => wfDesc d
  | .waitCancel d => wfDesc d
  | .waitsRead d => wfDesc d
  | .waitRejudge => true
  | .afterEpochRelease => true
  | .waitLimitExpiry _ => true
  | .afterLimitExpiry _ => true
  | .airTxnJudge => true
  | .deviceTxn _ _ => true
  | .quotaPeriodStart => true
  | .mapLoad d => wfDesc d
  | .mapImageValidated _ => true
  | .mapSwitch d => wfDesc d
  | .mapDiscard d => wfDesc d
  | .snapshot d => wfDesc d
  | .snapshotAtEpoch => true
  | .snapshotWaitTimeout _ => true
  | .snapshotWritten => true
  | .estopLoopOpen _ _ _ => true
  | .estopTestPulse _ _ _ => true
  | .estopDiscrepancy _ _ => true
  | .estopLoopCleared _ => true
  | .clpStopReqWrite _ => true
  | .clpHbWrite _ => true
  | .heartbeatTimeout _ => true
  | .stop d => wfDesc d
  | .cmonMismatch _ _ _ _ => true
  | .channelCrossCheck _ => true
  | .clockDeviation _ => true
  | .pllLockLoss island refclk => refclk || island.hasPll
  | .freezeAckTimeout => true
  | .windowConfirmTimeout _ => true
  | .periodKeyNotReady _ => true
  | .vfieldOutOfRange _ _ => true
  | .vfieldRecovered _ _ _ => true
  | .eccUncorrectable _ wordAddr _ _ => decide (wordAddr < 196608)
  | .dieOvertemp _ => true
  | .rampLimitExpiry _ _ => true
  | .stoDarkTest _ _ _ => true
  | .stoReadbackFault _ _ _ => true
  | .stoDelayExpiry _ => true
  | .release d => wfDesc d
  | .groupRelease d => wfDesc d
  | .resume d => wfDesc d
  | .resumeTimeout _ => true
  | .stopWindow _ => true
  | .superframeStart _ => true
  | .rxplanSend => true
  | .upFrameRx _ frame => wfFrame frame
  | .pollRx _ frame => wfFrame frame
  | .assocReqRx _ frame => wfFrame frame
  | .assocTimeout _ _ => true
  | .waitListKeepExpiry _ _ => true
  | .waitListDrop _ _ => true
  | .downSlotTx _ => true
  | .downAckRx _ _ frame => wfFrame frame
  | .downNoAck _ => true
  | .expectedUplinkMissed _ => true
  | .posDlSlotTx _ _ => true
  | .bcastSlotTx _ => true
  | .keyDeliveryStart => true
  | .periodKeyDerive => true
  | .bcopyRx _ frame => wfFrame frame
  | .primaryBeaconMissed => true
  | .airSend d _ => wfDesc d
  | .airRxBind d => wfDesc d
  | .airAdmit d => wfDesc d
  | .airMembersRead d => wfDesc d
  | .helloRx _ frame => wfFrame frame
  | .hbDnTx _ _ => true
  | .hbUpRx _ frame _ => wfFrame frame
  | .syncIntervalEnd _ => true
  | .suspectHoldExpiry _ _ => true
  | .headRecalHold _ _ => true
  | .headRecalSet _ _ => true
  | .txReportRx _ frame => wfFrame frame
  | .headHbLoss _ _ => true
  | .sgmiiLinkChange _ _ => true
  | .stopwinReportMissing _ => true
  | .referenceEpoch t _ => decide (t % 50000000 = 0)
  | .agcUpdate _ _ => true
  | .spectrumUpdate _ => true
  | .jamUpdate => true
  | .antennaCurrentSample _ => true
  | .antennaRetry _ => true
  | .channelReview _ => true
  | .acqSearchDone _ _ => true
  | .trackingUpdate _ => true
  | .navSymbolItem _ _ _ _ _ _ => true
  | .snapFragmentTimeout _ => true
  | .snapProcessStart t => decide (t % 25000000 = 0)
  | .snapResult _ _ => true
  | .gnsRestart d => wfDesc d
  | .gnsSnapHost d _ => wfDesc d
  | .gnsSpectrum d _ => wfDesc d
  | .obsPayloadTimeout _ _ => true
  | .posEpochAdmit => true
  | .searchDeadline _ _ => true
  | .solutionComplete _ => true
  | .degradeEvaluate _ => true
  | .orbitSetActivate _ => true
  | .posRefSet d => wfDesc d
  | .orbitLoad d _ => wfDesc d
  | .headSet d _ => wfDesc d
  | .memberFilterReset d => wfDesc d
  | .posOfferRead d => wfDesc d
  | .axisSample _ _ => true
  | .sampleOverrun _ _ => true
  | .limitInputEdge _ _ _ _ => true
  | .zEdgeCapture _ _ _ => true
  | .encoderQuadError _ => true
  | .encoderOpenWire _ _ => true
  | .followErrorExpiry _ _ => true
  | .stallExpiry _ _ => true
  | .spRangeExpiry _ _ => true
  | .outputCurrentLimit _ => true
  | .outputOvervoltage _ => true
  | .ctlApply _ _ => true
  | .axsTableLoad d => wfDesc d
  | .tableValidated _ _ => true
  | .axsTableFree d => wfDesc d
  | .axsFaultClear d => wfDesc d
  | .axsSetPos d => wfDesc d
  | .axsRead d => wfDesc d
  | .refclkLoss => true
  | .refclkRestore => true
  | .fleetSecondsStore _ => true
  | .timeStateEval _ => true
  | .holdoverBudgetExpiry _ => true
  | .ppsOutPulse _ => true
  | .ppsInEdge _ _ => true
  | .ppsInLoss _ => true
  | .hostRefLoss _ => true
  | .invIncWrite _ => true
  | .invUtcOffWrite _ => true
  | .invHostOffWrite _ => true
  | .timeStep d => wfDesc d
  | .timeStepApply => true
  | .lanFrameRx _ _ frame => wfFrame frame
  | .lanIntervalEnd _ _ => true
  | .lanRecal _ _ => true
  | .lanSend _ d frame => wfDesc d && wfFrame frame
  | .lanRxBind d => wfDesc d
  | .compareTargetLoad _ => true
  | .compareFire _ _ => true
  | .compareHostArm _ _ => true
  | .reservationGrant _ => true
  | .queuePop _ _ => true
  | .queueMarkApply _ => true
  | .queueBind d => wfDesc d
  | .queueUnbind d => wfDesc d
  | .queueFlush d _ => wfDesc d
  | .sramScrub _ accs => accs.all wfAcc
  | .keyInstall d _ => wfDesc d
  | .keyImport d _ => wfDesc d
  | .keyDelete d => wfDesc d
  | .storeUpdateDone => true
  | .keyLoad d => wfDesc d
  | .keyDerive d _ => wfDesc d
  | .keyCipher d _ _ => wfDesc d
  | .keyExportEnrol d => wfDesc d
  | .keyEvict d => wfDesc d
  | .keyHash d _ => wfDesc d
  | .keyChallenge d => wfDesc d
  | .tamperAck d => wfDesc d
  | .lcChange d => wfDesc d
  | .tamperQualify _ _ _ _ => true
  | .airHoldExpiry _ => true
  | .recordCommit reads => reads.all wfRead
  | .evrRead d => wfDesc d
  | .evrClear d => wfDesc d
  | .clearStart => true
  | .clearComplete => true
  | .powerUp => true
  | .bootStageAdvance _ reads => reads.all wfRead
  | .brownOut _ => true
  | .vanaLoss _ => true
  | .supplyOutOfRange _ => true
  | .perstNDeassert _ => true
  | .wakeTimer => true
  | .sleepEntryDone => true
  | .powerState d => wfDesc d
  | .systemRestart d => wfDesc d
  | .survey d => wfDesc d
  | .surveyComplete _ => true
  | .surveyRead d => wfDesc d
  | .wakeInfo d => wfDesc d
  | .monMeasure _ => true
  | .registerWrite off _ _ => wfOffset off
  | .latchedLoRead off => wfOffset off
  | .readClearCounter off => wfOffset off
  | .supplyRecovered _ => true
  | .bitSyncFound _ => true
  | .preambleDecoded _ => true
  | .msixTableEntryWrite _ _ _ => true
  | .deferredWake => true
  | .tamperSourceInactive _ => true
  | .keyOperationDone => true
  | .evrReadDone => true

end Sys2Proof
end

