-- ==== Sys2Proof/Decode.lean ====
section
/-! DEFINITION. Sys2Proof/Decode.lean: the command that a word spells.  No row of spec/opcode_table.json gives bits: the
commands of this block are events, register accesses and descriptors, and a descriptor's slots are an operand. -/

namespace Sys2Proof

open Sys2Proof.Machine

/-- The command that a word of `nbits` bits spells by the table's bits: none, for no row gives any. -/
def decodeTableWord (_nbits _w : Nat) : Option Instr := none

end Sys2Proof
end

