-- ==== Sys2Proof/Config.lean ====
section
/-! DEFINITION. Sys2Proof/Config.lean: what one module or one implementation fixes, and the free values
of the spec: constants and functions with no body, so that nothing can be proved of their values. -/

namespace Sys2Proof.Config

open Sys2Proof

/-- SYS_UID of the module, unique per module (R4). -/
opaque sysUid : BitVec 64

/-- SYS_UID of the primary coordinator whose beacon copies a subordinate takes (R334). -/
opaque primaryUid : BitVec 64

/-- SYS_PCC at delivery (R525: per module). -/
opaque deliveredPcc : BitVec 24

/-- Operating time at delivery, ms (R525: per module). -/
opaque deliveredOptime : BitVec 48

/-- The n-th free value: a value that the spec says results but does not fix (log 3). -/
opaque freeValue : Nat → Nat

/-- The rate error c of the RC oscillator in 2^-31, as last measured against REFCLK before its loss (R407): the n-th free
value of its kind. -/
opaque rcError : Nat → Int

/-- The device root K_DR, fused at manufacture, unique per module (R456). -/
opaque deviceRoot : Bytes

/-- AES with a 128- or 256-bit key on one 16-byte block: direction (true encrypts), key, block
(R464; FIPS 197). -/
opaque aesBlock : Bool → Bytes → Bytes → Bytes

/-- CMAC-AES under a key over a message (R191, R454; NIST SP 800-38B). -/
opaque cmac : Bytes → Bytes → Bytes

/-- CCM* encryption: key, nonce, associated data, payload, MIC length; the ciphertext and MIC
(R274; IEEE 802.15.4). -/
opaque ccmSeal : Bytes → Bytes → Bytes → Bytes → Nat → Bytes

/-- CCM* decryption: key, nonce, associated data, ciphertext with MIC, MIC length; the payload, or none
when the MIC does not match. -/
opaque ccmOpen : Bytes → Bytes → Bytes → Bytes → Nat → Option Bytes

/-- AES key wrap and unwrap (R455, R464): wrapping key, data. -/
opaque keyWrap : Bytes → Bytes → Bytes

/-- AES key unwrap: wrapping key, wrapped data; none when the integrity check fails. -/
opaque keyUnwrap : Bytes → Bytes → Option Bytes

/-- SHA-256 of a message (FIPS 180-4). -/
opaque sha256 : Bytes → Bytes

/-- The set-point that a pulse count gives when SP_SCALE's DEN is 0 (R367): NUM, pulses. -/
opaque spOverZero : Nat → Int → Int

/-! ## What POS and GNS compute by algorithms that the spec names and does not give (log 109)

Orbits are "evaluated by the broadcast-orbit algorithm of its system's interface specification" (R241), the troposphere by
"a standard-atmosphere model" (R251), the integers by "a decorrelating integer least-squares search" (R252); no rule gives
the arithmetic in which roots, angles and solutions are formed.  Each is a function with no body of what it depends on. -/

/-- A position or velocity, ECEF or farm frame, in metres or metres per second. -/
structure V3 where
  x : Rat := 0
  y : Rat := 0
  z : Rat := 0
  deriving DecidableEq, Repr, Inhabited

/-- A matrix by rows. -/
abbrev Mat := List (List Rat)

/-- Where a satellite is at an instant, its velocity, and the relativistic part of its clock in s. -/
structure SatPos where
  pos : V3 := {}
  vel : V3 := {}
  rel : Rat := 0
  deriving DecidableEq, Repr, Inhabited

/-- The broadcast-orbit algorithm of a KIND (R241): the parameters SQRTA to CIS in the order of the record, and the time in s
from TOE. -/
opaque orbitAt : Nat → List Rat → Rat → SatPos

/-- The distance between a receiver and a satellite at transmission, with the Earth's rotation in between, m. -/
opaque range : V3 → V3 → Rat

/-- The unit vector from a receiver to a satellite or head. -/
opaque sight : V3 → V3 → V3

/-- The elevation of a satellite at a receiver, degrees. -/
opaque elevation : V3 → V3 → Rat

/-- sin² of an angle in degrees (R251). -/
opaque sinSq : Rat → Rat

/-- 10 to a power (R251). -/
opaque pow10 : Rat → Rat

/-- The square root, as FP64 gives it. -/
opaque sqrt : Rat → Rat

/-- The height of an ECEF position above the ellipsoid, m. -/
opaque height : V3 → Rat

/-- The tropospheric delay at a height for an elevation, m (R251). -/
opaque tropo : Rat → Rat → Rat

/-- The rotation from ECEF to east, north, up at a position. -/
opaque enu : V3 → Mat

/-- An ECEF position in the farm frame of an origin and ORIENT (R51), and the way back. -/
opaque toFarm : V3 → Nat → V3 → V3
opaque fromFarm : V3 → Nat → V3 → V3

/-- The direction of a velocity east and north in mm/s, 1/65536 turn (R259). -/
opaque course : Int → Int → Nat

/-- A value of the solver as FP64 keeps it. -/
opaque fp64 : Rat → Rat

/-- The code solution of pseudoranges corrected for the satellite clocks, each with SYS and the satellite's position, from
an approximate position: position and clock offset in m, where the equations have one (R249, R255). -/
opaque codeSolve : List (Nat × V3 × Rat) → V3 → Option (V3 × Rat)

/-- A UWB solution (R256): the heads' positions, each with its arrival as a distance in m after the earliest, from an
approximate position. -/
opaque uwbSolve : List (V3 × Rat) → V3 → Option V3

/-- The timing solution (R212, R213) of the records' residuals by SYS, in ns and in ps/s: the offset in ns and its rate in
ps/s, and each system's bias referred to GPS in ns. -/
opaque timing : List (Nat × Rat × Rat) → Rat × Rat × List (Nat × Rat)

/-- The position of the reference antenna from its own code residuals while none is loaded (R213). -/
opaque selfPos : List (Nat × V3 × Rat) → V3

/-- The integer search over float ambiguities and their covariance (R252): the best vector, the ratio of the squared norms
and the bootstrapped failure rate. -/
opaque integers : List Rat → Mat → List Int × Rat × Rat

/-- Variances that no rule gives: of an initial position by its source and, of a snapshot's, its H_UNC (R249), of a code
solution's coordinates (R255), of an arrival by its first-path quality and of a range (R257), of a range bias at its start;
m². -/
opaque initVar : Nat → Nat → Rat
opaque biasVar : Rat
opaque codeVar : Rat
opaque arrivalVar : Nat → Rat
opaque rangeVar : Rat

/-- The solution of a snapshot (R233) from its a priori position, time in ns and oscillator error, coarse-time or not, and
the code phases found of satellites at known positions: position in the farm frame in 0.1 mm, capture time in ns, oscillator
error, whether it was solved, the uncertainties, PDOP, and each satellite's residual in mm. -/
structure SnapFix where
  x : Int := 0
  y : Int := 0
  z : Int := 0
  time : Nat := 0
  osc : Int := 0
  oscSolved : Bool := false
  hUnc : Nat := 0
  vUnc : Nat := 0
  tUnc : Nat := 0
  pdop : Nat := 0
  res : List Int := []
  deriving DecidableEq, Repr, Inhabited

opaque snapSolve : V3 → Nat → Int → Bool → List (V3 × Nat) → SnapFix

end Sys2Proof.Config
end

