-- ==== Sys2Proof/Machine/Tab.lean ====
section
/-! DEFINITION. Sys2Proof/Machine/Tab.lean: the operations of sparse tables, of little-endian byte
strings, of bit fields, and CRC-32C and CRC-16, as every chapter of the spec uses them. -/

namespace Sys2Proof.Machine

open Sys2Proof

/-- The value at index `i`; `d` where the table lists none. -/
def Tab.val {α : Type} (t : Tab α) (i : Nat) (d : α) : α :=
  match t with
  | [] => d
  | (j, x) :: rest => if j = i then x else Tab.val rest i d

/-- The table with value `x` at index `i`, the indices kept rising. -/
def Tab.put {α : Type} (t : Tab α) (i : Nat) (x : α) : Tab α :=
  match t with
  | [] => [(i, x)]
  | (j, y) :: rest =>
    if j = i then (i, x) :: rest
    else if i < j then (i, x) :: (j, y) :: rest
    else (j, y) :: Tab.put rest i x

/-- The table with nothing listed at index `i`. -/
def Tab.del {α : Type} (t : Tab α) (i : Nat) : Tab α :=
  t.filter (fun p => p.1 ≠ i)

/-- The table with index `i` updated by `f` (from the default `d` where unlisted). -/
def Tab.upd {α : Type} (t : Tab α) (i : Nat) (d : α) (f : α → α) : Tab α :=
  Tab.put t i (f (Tab.val t i d))

/-- The indices rise strictly: the canonical form of a sparse table. -/
def Tab.wf {α : Type} (t : Tab α) : Prop := t.Pairwise (fun p q => p.1 < q.1)

/-- Byte `i` of a byte string; 0 past its end. -/
def byteAt (bs : Bytes) (i : Nat) : Nat := (bs.getD i 0).toNat

/-- The little-endian number of `n` bytes from offset `off`. -/
def le (bs : Bytes) (off : Nat) : Nat → Nat
  | 0 => 0
  | n + 1 => byteAt bs off + 256 * le bs (off + 1) n

/-- The big-endian number of `n` bytes from offset `off`. -/
def be (bs : Bytes) (off n : Nat) : Nat :=
  (List.range n).foldl (fun a k => a * 256 + byteAt bs (off + k)) 0

/-- A number below 2^w read as two's complement. -/
def toSigned (w v : Nat) : Int :=
  if v % 2 ^ w < 2 ^ (w - 1) then ((v % 2 ^ w : Nat) : Int) else ((v % 2 ^ w : Nat) : Int) - 2 ^ w

/-- The signed little-endian number of `n` bytes from offset `off`. -/
def sle (bs : Bytes) (off n : Nat) : Int := toSigned (8 * n) (le bs off n)

/-- `v` as `n` little-endian bytes. -/
def leBytes : Nat → Nat → Bytes
  | 0, _ => []
  | n + 1, v => BitVec.ofNat 8 v :: leBytes n (v / 256)

/-- A signed number as `n` little-endian bytes, two's complement. -/
def sleBytes (n : Nat) (v : Int) : Bytes := leBytes n (v % (2 ^ (8 * n) : Int)).toNat

/-- `v` as `n` big-endian bytes. -/
def beBytes (n v : Nat) : Bytes := (leBytes n v).reverse

/-- `n` zero bytes. -/
def zeros (n : Nat) : Bytes := List.replicate n 0

/-- `n` bytes from offset `off`; bytes past the end read 0. -/
def slice (bs : Bytes) (off n : Nat) : Bytes := (List.range n).map (fun k => bs.getD (off + k) 0)

/-- Every byte of the range is 0. -/
def allZero (bs : Bytes) (off n : Nat) : Bool := (List.range n).all (fun k => byteAt bs (off + k) == 0)

/-- Bits `hi` to `lo` of a number. -/
def bitsOf (v hi lo : Nat) : Nat := v / 2 ^ lo % 2 ^ (hi - lo + 1)

/-- Bit `i` of a number. -/
def bitOf (v i : Nat) : Bool := v.testBit i

/-- A Bool as the number 1 or 0. -/
def b2n (b : Bool) : Nat := if b then 1 else 0

/-- A number as a 32-bit word, modulo 2^32. -/
def word (v : Nat) : Word := BitVec.ofNat 32 v

/-- A signed number as a 32-bit word, two's complement. -/
def sword (v : Int) : Word := BitVec.ofInt 32 v

/-- Bits `hi` to `lo` of a register word, as a number. -/
def fieldOf (w : Word) (hi lo : Nat) : Nat := bitsOf w.toNat hi lo

/-- A register word with bits `hi` to `lo` replaced. -/
def setField (w : Word) (hi lo v : Nat) : Word :=
  word (w.toNat - fieldOf w hi lo * 2 ^ lo + v % 2 ^ (hi - lo + 1) * 2 ^ lo)

/-- The number with bit `i` set. -/
def setBit (v i : Nat) : Nat := v ||| 2 ^ i

/-- The number with bit `i` cleared. -/
def clearBit (v i : Nat) : Nat := if bitOf v i then v ^^^ 2 ^ i else v

/-- A mask number of the indices below `n` that satisfy `p`. -/
def maskOf (n : Nat) (p : Nat → Bool) : Nat :=
  (List.range n).foldl (fun a i => if p i then a + 2 ^ i else a) 0

/-- The number of set bits below `n`. -/
def popCount (n v : Nat) : Nat := ((List.range n).filter (bitOf v)).length

/-- The least number at or above `x` that is a multiple of `m`. -/
def ceilTo (x m : Nat) : Nat := if m = 0 then x else (x + m - 1) / m * m

/-- The ceiling of `x / m`. -/
def ceilDiv (x m : Nat) : Nat := if m = 0 then 0 else (x + m - 1) / m

/-- A number limited to `[lo, hi]`. -/
def clampNat (lo hi v : Nat) : Nat := if v < lo then lo else if hi < v then hi else v

/-- An integer limited to `[lo, hi]`. -/
def clampInt (lo hi v : Int) : Int := if v < lo then lo else if hi < v then hi else v

/-- The signed difference `a - b` on `w` bits (R404). -/
def sdiff (w : Nat) (a b : Nat) : Int := toSigned w ((a % 2 ^ w + 2 ^ w - b % 2 ^ w) % 2 ^ w)

/-- One bit step of the reflected CRC-32C (Castagnoli, R140). -/
def crc32cBit (c : Word) : Word :=
  if c.getLsbD 0 then (c >>> 1) ^^^ 0x82F63B78#32 else c >>> 1

/-- One byte of CRC-32C. -/
def crc32cByte (c : Word) (b : Byte) : Word :=
  (List.range 8).foldl (fun a _ => crc32cBit a) (c ^^^ b.setWidth 32)

/-- CRC-32C with the parameters of R140: initial value and final XOR 0xFFFF_FFFF, reflected. -/
def crc32c (bs : Bytes) : Word := bs.foldl crc32cByte 0xFFFFFFFF#32 ^^^ 0xFFFFFFFF#32

/-- One bit step of CRC-16 with polynomial 0x1021. -/
def crc16Bit (c : BitVec 16) : BitVec 16 :=
  if c.getLsbD 15 then (c <<< 1) ^^^ 0x1021#16 else c <<< 1

/-- CRC-16, polynomial 0x1021, initial value 0xFFFF (R449). -/
def crc16 (bs : Bytes) : BitVec 16 :=
  bs.foldl (fun c b => (List.range 8).foldl (fun a _ => crc16Bit a) (c ^^^ ((b.setWidth 16 : BitVec 16) <<< (8 : Nat)))) 0xFFFF#16

end Sys2Proof.Machine
end

