-- ==== Sys2Proof/Machine/RegMap.lean ====
section
/-! DEFINITION. Sys2Proof/Machine/RegMap.lean: the set-up registers of BAR0 with their offsets, access
codes, reset values, fields and ranges, from the register tables of the chapters (R513, R517, R519). -/

namespace Sys2Proof.Machine

open Sys2Proof

/-- The access codes of R517. -/
inductive Access where
  | rw | ro | w1c | w1s | rc | wo | mixed
  deriving DecidableEq, Repr

/-- What a field admits (R519): any value its width holds; a number range; a signed range; an
enumeration up to `max` with the value an unlisted one is clamped to; a list of values; a mask of the
bits that may be 1; an FP32 range given by the bounds' raw bits. -/
inductive FieldRange where
  | any
  | num (lo hi : Nat)
  | int (lo hi : Int)
  | enum (max clampTo : Nat)
  | oneOf (vals : List Nat) (clampTo : Nat)
  | mask (m : Nat)
  | fp (lo hi : Nat)
  deriving DecidableEq, Repr

/-- One field of a register: bits `hi` to `lo`, its access code and its range. -/
structure FieldDesc where
  hi : Nat
  lo : Nat
  acc : Access
  rng : FieldRange
  name : String
  deriving DecidableEq, Repr

/-- One register, or `count` of them `stride` bytes apart from BAR0 offset `base`; `reset` is the
value of the first and `step` what is added per index. -/
structure RegDesc where
  name : String
  base : Nat
  stride : Nat
  count : Nat
  acc : Access
  reset : Nat
  step : Nat
  fields : List FieldDesc
  deriving DecidableEq, Repr

/-! ## Offsets -/

/-- BAR0 offset of SYS_ID (R525). -/
def Reg.SYS_ID : Nat := 0x0
/-- BAR0 offset of SYS_REV (R525). -/
def Reg.SYS_REV : Nat := 0x4
/-- BAR0 offset of SYS_UID_LO (R525). -/
def Reg.SYS_UID_LO : Nat := 0x8
/-- BAR0 offset of SYS_UID_HI (R525). -/
def Reg.SYS_UID_HI : Nat := 0xC
/-- BAR0 offset of SYS_BOOT (R525). -/
def Reg.SYS_BOOT : Nat := 0x10
/-- BAR0 offset of SYS_READY_CAUSE (R525). -/
def Reg.SYS_READY_CAUSE : Nat := 0x14
/-- BAR0 offset of SYS_PCC (R525). -/
def Reg.SYS_PCC : Nat := 0x18
/-- BAR0 offset of SYS_OPTIME_LO (R525). -/
def Reg.SYS_OPTIME_LO : Nat := 0x1C
/-- BAR0 offset of SYS_OPTIME_HI (R525). -/
def Reg.SYS_OPTIME_HI : Nat := 0x20
/-- BAR0 offset of SYS_SCRATCH (R525). -/
def Reg.SYS_SCRATCH : Nat := 0x24
/-- BAR0 offset of SYS_CLAMP_COUNT (R525). -/
def Reg.SYS_CLAMP_COUNT : Nat := 0x28
/-- BAR0 offset of SYS_ACC_ERR_COUNT (R525). -/
def Reg.SYS_ACC_ERR_COUNT : Nat := 0x2C
/-- BAR0 offset of SYS_LAST_CLAMP (R525). -/
def Reg.SYS_LAST_CLAMP : Nat := 0x30
/-- BAR0 offset of SYS_PERSIST (R526). -/
def Reg.SYS_PERSIST : Nat := 0x34
/-- BAR0 offset of HST_STATUS (R166). -/
def Reg.HST_STATUS : Nat := 0x10000
/-- BAR0 offset of HST_MODE (R166). -/
def Reg.HST_MODE : Nat := 0x10004
/-- BAR0 offset of HST_INFLIGHT (R166). -/
def Reg.HST_INFLIGHT : Nat := 0x10008
/-- BAR0 offset of HST_COAL_CFG (R166). -/
def Reg.HST_COAL_CFG : Nat := 0x1000C
/-- BAR0 offset of HST_DB_ERR_COUNT (R165). -/
def Reg.HST_DB_ERR_COUNT : Nat := 0x10010
/-- BAR0 offset of HST_REFETCH_COUNT (R165). -/
def Reg.HST_REFETCH_COUNT : Nat := 0x10014
/-- BAR0 offset of HST_COAL_DROP_COUNT (R165). -/
def Reg.HST_COAL_DROP_COUNT : Nat := 0x10018
/-- BAR0 offset of HST_RBASE_LO, index below 128 (R168). -/
def Reg.HST_RBASE_LO (n : Nat) : Nat := 0x11000 + 0x40 * n
/-- BAR0 offset of HST_RBASE_HI, index below 128 (R168). -/
def Reg.HST_RBASE_HI (n : Nat) : Nat := 0x11004 + 0x40 * n
/-- BAR0 offset of HST_RCFG, index below 128 (R168). -/
def Reg.HST_RCFG (n : Nat) : Nat := 0x11008 + 0x40 * n
/-- BAR0 offset of HST_RSCHED, index below 128 (R168). -/
def Reg.HST_RSCHED (n : Nat) : Nat := 0x1100C + 0x40 * n
/-- BAR0 offset of HST_RIRQ, index below 128 (R168). -/
def Reg.HST_RIRQ (n : Nat) : Nat := 0x11010 + 0x40 * n
/-- BAR0 offset of HST_RWB_LO, index below 128 (R168). -/
def Reg.HST_RWB_LO (n : Nat) : Nat := 0x11014 + 0x40 * n
/-- BAR0 offset of HST_RWB_HI, index below 128 (R168). -/
def Reg.HST_RWB_HI (n : Nat) : Nat := 0x11018 + 0x40 * n
/-- BAR0 offset of HST_RSTATUS, index below 128 (R168). -/
def Reg.HST_RSTATUS (n : Nat) : Nat := 0x1101C + 0x40 * n
/-- BAR0 offset of HST_RHEAD, index below 128 (R168). -/
def Reg.HST_RHEAD (n : Nat) : Nat := 0x11020 + 0x40 * n
/-- BAR0 offset of HST_RTAIL, index below 128 (R168). -/
def Reg.HST_RTAIL (n : Nat) : Nat := 0x11024 + 0x40 * n
/-- BAR0 offset of HST_RINFLIGHT, index below 128 (R168). -/
def Reg.HST_RINFLIGHT (n : Nat) : Nat := 0x11028 + 0x40 * n
/-- BAR0 offset of DVT_STATUS (R120). -/
def Reg.DVT_STATUS : Nat := 0x20000
/-- BAR0 offset of DVT_WAIT_CFG (R121). -/
def Reg.DVT_WAIT_CFG : Nat := 0x20004
/-- BAR0 offset of DVT_ARB_CFG (R122). -/
def Reg.DVT_ARB_CFG : Nat := 0x20008
/-- BAR0 offset of DVT_AIR_QUOTA (R123). -/
def Reg.DVT_AIR_QUOTA : Nat := 0x2000C
/-- BAR0 offset of DVT_VMAX_CFG (R124). -/
def Reg.DVT_VMAX_CFG : Nat := 0x20010
/-- BAR0 offset of DVT_EVQ_CFG (R125). -/
def Reg.DVT_EVQ_CFG : Nat := 0x20014
/-- BAR0 offset of DVT_COMMIT_COUNT (R119). -/
def Reg.DVT_COMMIT_COUNT : Nat := 0x20020
/-- BAR0 offset of DVT_ABORT_COUNT (R119). -/
def Reg.DVT_ABORT_COUNT : Nat := 0x20024
/-- BAR0 offset of DVT_DEADLOCK_COUNT (R119). -/
def Reg.DVT_DEADLOCK_COUNT : Nat := 0x20028
/-- BAR0 offset of DVT_WAIT_COUNT (R126). -/
def Reg.DVT_WAIT_COUNT : Nat := 0x2002C
/-- BAR0 offset of DVT_DEFER_COUNT (R126). -/
def Reg.DVT_DEFER_COUNT : Nat := 0x20030
/-- BAR0 offset of MAP_STATUS (R66). -/
def Reg.MAP_STATUS : Nat := 0x30000
/-- BAR0 offset of MAP_ID (R66). -/
def Reg.MAP_ID : Nat := 0x30004
/-- BAR0 offset of MAP_GEN (R66). -/
def Reg.MAP_GEN : Nat := 0x30008
/-- BAR0 offset of MAP_EPOCH_LO (R66). -/
def Reg.MAP_EPOCH_LO : Nat := 0x30010
/-- BAR0 offset of MAP_EPOCH_HI (R66). -/
def Reg.MAP_EPOCH_HI : Nat := 0x30014
/-- BAR0 offset of MAP_EFFECT_CFG (R68). -/
def Reg.MAP_EFFECT_CFG : Nat := 0x30018
/-- BAR0 offset of MAP_PEND_COUNT (R69). -/
def Reg.MAP_PEND_COUNT : Nat := 0x3001C
/-- BAR0 offset of MAP_LATE_COUNT (R69). -/
def Reg.MAP_LATE_COUNT : Nat := 0x30020
/-- BAR0 offset of CLP_STATUS (R203). -/
def Reg.CLP_STATUS : Nat := 0x40000
/-- BAR0 offset of CLP_SRC_ACTIVE (R203). -/
def Reg.CLP_SRC_ACTIVE : Nat := 0x40004
/-- BAR0 offset of CLP_SRC_LATCH (R203). -/
def Reg.CLP_SRC_LATCH : Nat := 0x40008
/-- BAR0 offset of CLP_STOP_EPOCH_LO (R203). -/
def Reg.CLP_STOP_EPOCH_LO : Nat := 0x4000C
/-- BAR0 offset of CLP_STOP_EPOCH_HI (R203). -/
def Reg.CLP_STOP_EPOCH_HI : Nat := 0x40010
/-- BAR0 offset of CLP_STOP_REQ (R204). -/
def Reg.CLP_STOP_REQ : Nat := 0x40014
/-- BAR0 offset of CLP_HB (R204). -/
def Reg.CLP_HB : Nat := 0x40018
/-- BAR0 offset of CLP_SRC_CFG (R204). -/
def Reg.CLP_SRC_CFG : Nat := 0x4001C
/-- BAR0 offset of CLP_REL_CFG (R204). -/
def Reg.CLP_REL_CFG : Nat := 0x40020
/-- BAR0 offset of CLP_GRP_CAT (R204). -/
def Reg.CLP_GRP_CAT : Nat := 0x40024
/-- BAR0 offset of CLP_DT_CFG (R204). -/
def Reg.CLP_DT_CFG : Nat := 0x40028
/-- BAR0 offset of CLP_FAULT (R203). -/
def Reg.CLP_FAULT : Nat := 0x4002C
/-- BAR0 offset of CLP_GRP_STATE (R203). -/
def Reg.CLP_GRP_STATE : Nat := 0x40030
/-- BAR0 offset of CLP_STO_STATUS (R203). -/
def Reg.CLP_STO_STATUS : Nat := 0x40034
/-- BAR0 offset of CLP_WC_LO (R203). -/
def Reg.CLP_WC_LO : Nat := 0x40038
/-- BAR0 offset of CLP_WC_HI (R203). -/
def Reg.CLP_WC_HI : Nat := 0x4003C
/-- BAR0 offset of CLP_ES_CFG, index below 4 (R204). -/
def Reg.CLP_ES_CFG (n : Nat) : Nat := 0x40040 + 0x4 * n
/-- BAR0 offset of CLP_ES_STATUS, index below 4 (R204). -/
def Reg.CLP_ES_STATUS (n : Nat) : Nat := 0x40050 + 0x4 * n
/-- BAR0 offset of CLP_RAMP_LIMIT, index below 6 (R204). -/
def Reg.CLP_RAMP_LIMIT (n : Nat) : Nat := 0x40060 + 0x4 * n
/-- BAR0 offset of CLP_CMON_CFG, index below 2 (R204). -/
def Reg.CLP_CMON_CFG (n : Nat) : Nat := 0x40078 + 0x4 * n
/-- BAR0 offset of CLP_STOP_COUNT (R203). -/
def Reg.CLP_STOP_COUNT : Nat := 0x40080
/-- BAR0 offset of CLP_HB_BAD_COUNT (R203). -/
def Reg.CLP_HB_BAD_COUNT : Nat := 0x40084
/-- BAR0 offset of GNS_STATUS (R238). -/
def Reg.GNS_STATUS : Nat := 0x50000
/-- BAR0 offset of GNS_ANT_CFG (R238). -/
def Reg.GNS_ANT_CFG : Nat := 0x50004
/-- BAR0 offset of GNS_ANT_STATUS (R238). -/
def Reg.GNS_ANT_STATUS : Nat := 0x50008
/-- BAR0 offset of GNS_AGC_CFG (R238). -/
def Reg.GNS_AGC_CFG : Nat := 0x5000C
/-- BAR0 offset of GNS_AGC_STATUS (R238). -/
def Reg.GNS_AGC_STATUS : Nat := 0x50010
/-- BAR0 offset of GNS_JAM_CFG (R238). -/
def Reg.GNS_JAM_CFG : Nat := 0x50014
/-- BAR0 offset of GNS_JAM_STATUS (R238). -/
def Reg.GNS_JAM_STATUS : Nat := 0x50018
/-- BAR0 offset of GNS_NOTCH_CFG (R238). -/
def Reg.GNS_NOTCH_CFG : Nat := 0x5001C
/-- BAR0 offset of GNS_NOTCH_STATUS, index below 4 (R238). -/
def Reg.GNS_NOTCH_STATUS (n : Nat) : Nat := 0x50020 + 0x4 * n
/-- BAR0 offset of GNS_SYS_CFG (R238). -/
def Reg.GNS_SYS_CFG : Nat := 0x50030
/-- BAR0 offset of GNS_TRK_CFG (R238). -/
def Reg.GNS_TRK_CFG : Nat := 0x50034
/-- BAR0 offset of GNS_COH_CFG (R238). -/
def Reg.GNS_COH_CFG : Nat := 0x50038
/-- BAR0 offset of GNS_ACQ_CFG (R238). -/
def Reg.GNS_ACQ_CFG : Nat := 0x5003C
/-- BAR0 offset of GNS_OUT_CFG (R238). -/
def Reg.GNS_OUT_CFG : Nat := 0x50040
/-- BAR0 offset of GNS_SNAP_CFG (R238). -/
def Reg.GNS_SNAP_CFG : Nat := 0x50044
/-- BAR0 offset of GNS_SNAP_STATUS (R238). -/
def Reg.GNS_SNAP_STATUS : Nat := 0x50048
/-- BAR0 offset of GNS_CLK_OFF (R238). -/
def Reg.GNS_CLK_OFF : Nat := 0x5004C
/-- BAR0 offset of GNS_CLK_DRIFT (R238). -/
def Reg.GNS_CLK_DRIFT : Nat := 0x50050
/-- BAR0 offset of GNS_SNAP_BUSY_COUNT (R237). -/
def Reg.GNS_SNAP_BUSY_COUNT : Nat := 0x50054
/-- BAR0 offset of GNS_SLIP_COUNT (R237). -/
def Reg.GNS_SLIP_COUNT : Nat := 0x50058
/-- BAR0 offset of GNS_CH_STATUS, index below 64 (R238). -/
def Reg.GNS_CH_STATUS (n : Nat) : Nat := 0x50100 + 0x4 * n
/-- BAR0 offset of POS_STATUS (R267). -/
def Reg.POS_STATUS : Nat := 0x60000
/-- BAR0 offset of POS_OBS_CFG (R267). -/
def Reg.POS_OBS_CFG : Nat := 0x60004
/-- BAR0 offset of POS_AR_CFG (R267). -/
def Reg.POS_AR_CFG : Nat := 0x60008
/-- BAR0 offset of POS_FIX_CFG (R267). -/
def Reg.POS_FIX_CFG : Nat := 0x6000C
/-- BAR0 offset of POS_INTEG_CFG (R267). -/
def Reg.POS_INTEG_CFG : Nat := 0x60010
/-- BAR0 offset of POS_OUT_CFG (R267). -/
def Reg.POS_OUT_CFG : Nat := 0x60014
/-- BAR0 offset of POS_RTCM_CFG (R267). -/
def Reg.POS_RTCM_CFG : Nat := 0x60018
/-- BAR0 offset of POS_RTCM_HGT (R266). -/
def Reg.POS_RTCM_HGT : Nat := 0x6001C
/-- BAR0 offset of POS_LOAD (R267). -/
def Reg.POS_LOAD : Nat := 0x60020
/-- BAR0 offset of POS_OBS_DROP_COUNT (R266). -/
def Reg.POS_OBS_DROP_COUNT : Nat := 0x60024
/-- BAR0 offset of POS_SKIP_COUNT (R266). -/
def Reg.POS_SKIP_COUNT : Nat := 0x60028
/-- BAR0 offset of POS_FIX_LOSS_COUNT (R266). -/
def Reg.POS_FIX_LOSS_COUNT : Nat := 0x6002C
/-- BAR0 offset of POS_SEARCH_ABORT_COUNT (R266). -/
def Reg.POS_SEARCH_ABORT_COUNT : Nat := 0x60030
/-- BAR0 offset of POS_ORBIT_ID (R266). -/
def Reg.POS_ORBIT_ID : Nat := 0x60034
/-- BAR0 offset of POS_MCFG, index below 128 (R267). -/
def Reg.POS_MCFG (n : Nat) : Nat := 0x61000 + 0x4 * n
/-- BAR0 offset of AIR_STATUS (R312). -/
def Reg.AIR_STATUS : Nat := 0x70000
/-- BAR0 offset of AIR_CFG (R312). -/
def Reg.AIR_CFG : Nat := 0x70004
/-- BAR0 offset of AIR_ADDR_CFG (R312). -/
def Reg.AIR_ADDR_CFG : Nat := 0x70008
/-- BAR0 offset of AIR_SLEEP_CFG (R312). -/
def Reg.AIR_SLEEP_CFG : Nat := 0x7000C
/-- BAR0 offset of AIR_SEC_CFG (R312). -/
def Reg.AIR_SEC_CFG : Nat := 0x70010
/-- BAR0 offset of AIR_SUB_CFG (R312). -/
def Reg.AIR_SUB_CFG : Nat := 0x70014
/-- BAR0 offset of AIR_SFN (R311). -/
def Reg.AIR_SFN : Nat := 0x70018
/-- BAR0 offset of AIR_ASSOC_COUNT (R312). -/
def Reg.AIR_ASSOC_COUNT : Nat := 0x7001C
/-- BAR0 offset of AIR_MIC_FAIL_COUNT (R311). -/
def Reg.AIR_MIC_FAIL_COUNT : Nat := 0x70020
/-- BAR0 offset of AIR_REFUSE_COUNT (R311). -/
def Reg.AIR_REFUSE_COUNT : Nat := 0x70024
/-- BAR0 offset of AIR_NOACK_COUNT (R311). -/
def Reg.AIR_NOACK_COUNT : Nat := 0x70028
/-- BAR0 offset of AIR_MISS_COUNT (R311). -/
def Reg.AIR_MISS_COUNT : Nat := 0x7002C
/-- BAR0 offset of AIR_COLLIDE_COUNT (R311). -/
def Reg.AIR_COLLIDE_COUNT : Nat := 0x70030
/-- BAR0 offset of AIR_DEFER_COUNT (R311). -/
def Reg.AIR_DEFER_COUNT : Nat := 0x70034
/-- BAR0 offset of AIR_EFFECT_DROP_COUNT (R311). -/
def Reg.AIR_EFFECT_DROP_COUNT : Nat := 0x70038
/-- BAR0 offset of AIR_HEAD_CFG, index below 8 (R312). -/
def Reg.AIR_HEAD_CFG (n : Nat) : Nat := 0x70040 + 0x4 * n
/-- BAR0 offset of AIR_MSTAT, index below 128 (R312). -/
def Reg.AIR_MSTAT (n : Nat) : Nat := 0x70100 + 0x4 * n
/-- BAR0 offset of HDL_STATUS (R337). -/
def Reg.HDL_STATUS : Nat := 0x80000
/-- BAR0 offset of HDL_CFG (R337). -/
def Reg.HDL_CFG : Nat := 0x80004
/-- BAR0 offset of HDL_SYNC_CFG (R337). -/
def Reg.HDL_SYNC_CFG : Nat := 0x80008
/-- BAR0 offset of HDL_LAN_CFG (R337). -/
def Reg.HDL_LAN_CFG : Nat := 0x8000C
/-- BAR0 offset of HDL_HCRC_ERR_COUNT (R336). -/
def Reg.HDL_HCRC_ERR_COUNT : Nat := 0x80010
/-- BAR0 offset of HDL_MIC_ERR_COUNT (R336). -/
def Reg.HDL_MIC_ERR_COUNT : Nat := 0x80014
/-- BAR0 offset of HDL_LATE_COUNT (R336). -/
def Reg.HDL_LATE_COUNT : Nat := 0x80018
/-- BAR0 offset of HDL_OUTLIER_COUNT (R336). -/
def Reg.HDL_OUTLIER_COUNT : Nat := 0x8001C
/-- BAR0 offset of HDL_REFUSE_COUNT (R336). -/
def Reg.HDL_REFUSE_COUNT : Nat := 0x80020
/-- BAR0 offset of HDL_HEAD_STATUS, index below 8 (R337). -/
def Reg.HDL_HEAD_STATUS (n : Nat) : Nat := 0x81000 + 0x40 * n
/-- BAR0 offset of HDL_HEAD_EUI_LO, index below 8 (R337). -/
def Reg.HDL_HEAD_EUI_LO (n : Nat) : Nat := 0x81004 + 0x40 * n
/-- BAR0 offset of HDL_HEAD_EUI_HI, index below 8 (R337). -/
def Reg.HDL_HEAD_EUI_HI (n : Nat) : Nat := 0x81008 + 0x40 * n
/-- BAR0 offset of HDL_HEAD_CAP, index below 8 (R337). -/
def Reg.HDL_HEAD_CAP (n : Nat) : Nat := 0x8100C + 0x40 * n
/-- BAR0 offset of HDL_HEAD_DELAY, index below 8 (R337). -/
def Reg.HDL_HEAD_DELAY (n : Nat) : Nat := 0x81010 + 0x40 * n
/-- BAR0 offset of HDL_HEAD_DELAY_UP, index below 8 (R337). -/
def Reg.HDL_HEAD_DELAY_UP (n : Nat) : Nat := 0x81014 + 0x40 * n
/-- BAR0 offset of HDL_HEAD_ASYM, index below 8 (R337). -/
def Reg.HDL_HEAD_ASYM (n : Nat) : Nat := 0x81018 + 0x40 * n
/-- BAR0 offset of HDL_HEAD_CTL, index below 8 (R337). -/
def Reg.HDL_HEAD_CTL (n : Nat) : Nat := 0x8101C + 0x40 * n
/-- BAR0 offset of HDL_HEAD_HB_MISS_COUNT, index below 8 (R337). -/
def Reg.HDL_HEAD_HB_MISS_COUNT (n : Nat) : Nat := 0x81020 + 0x40 * n
/-- BAR0 offset of AXS_STATUS (R382). -/
def Reg.AXS_STATUS : Nat := 0x90000
/-- BAR0 offset of AXS_FAULT_LO (R381). -/
def Reg.AXS_FAULT_LO : Nat := 0x90004
/-- BAR0 offset of AXS_FAULT_HI (R381). -/
def Reg.AXS_FAULT_HI : Nat := 0x90008
/-- BAR0 offset of AXS_BUSY_LO (R381). -/
def Reg.AXS_BUSY_LO : Nat := 0x9000C
/-- BAR0 offset of AXS_BUSY_HI (R381). -/
def Reg.AXS_BUSY_HI : Nat := 0x90010
/-- BAR0 offset of AXS_TABLE_FREE (R381). -/
def Reg.AXS_TABLE_FREE : Nat := 0x90014
/-- BAR0 offset of AXS_EVQ_CFG (R382). -/
def Reg.AXS_EVQ_CFG : Nat := 0x90018
/-- BAR0 offset of AXS_DROP_COUNT (R381). -/
def Reg.AXS_DROP_COUNT : Nat := 0x9001C
/-- BAR0 offset of AXS_MASTER_CFG, index below 2 (R382). -/
def Reg.AXS_MASTER_CFG (n : Nat) : Nat := 0x90020 + 0x8 * n
/-- BAR0 offset of AXS_MASTER_MOD, index below 2 (R381). -/
def Reg.AXS_MASTER_MOD (n : Nat) : Nat := 0x90024 + 0x8 * n
/-- BAR0 offset of AXS_MASTER_POS, index below 2 (R381). -/
def Reg.AXS_MASTER_POS (n : Nat) : Nat := 0x90030 + 0x4 * n
/-- BAR0 offset of AXS_GRP_MASK_LO, index below 8 (R381). -/
def Reg.AXS_GRP_MASK_LO (n : Nat) : Nat := 0x90040 + 0x8 * n
/-- BAR0 offset of AXS_GRP_MASK_HI, index below 8 (R381). -/
def Reg.AXS_GRP_MASK_HI (n : Nat) : Nat := 0x90044 + 0x8 * n
/-- BAR0 offset of AXS_TBL_INFO, index below 256 (R382). -/
def Reg.AXS_TBL_INFO (n : Nat) : Nat := 0x90100 + 0x4 * n
/-- BAR0 offset of AXS_AX_CFG, index below 48 (R381). -/
def Reg.AXS_AX_CFG (n : Nat) : Nat := 0x91000 + 0x80 * n
/-- BAR0 offset of AXS_AX_VMAX, index below 48 (R381). -/
def Reg.AXS_AX_VMAX (n : Nat) : Nat := 0x91004 + 0x80 * n
/-- BAR0 offset of AXS_AX_ACC, index below 48 (R381). -/
def Reg.AXS_AX_ACC (n : Nat) : Nat := 0x91008 + 0x80 * n
/-- BAR0 offset of AXS_AX_DEC, index below 48 (R381). -/
def Reg.AXS_AX_DEC (n : Nat) : Nat := 0x9100C + 0x80 * n
/-- BAR0 offset of AXS_AX_JERK, index below 48 (R381). -/
def Reg.AXS_AX_JERK (n : Nat) : Nat := 0x91010 + 0x80 * n
/-- BAR0 offset of AXS_AX_LIM_DEC, index below 48 (R381). -/
def Reg.AXS_AX_LIM_DEC (n : Nat) : Nat := 0x91014 + 0x80 * n
/-- BAR0 offset of AXS_AX_STOP_DEC, index below 48 (R381). -/
def Reg.AXS_AX_STOP_DEC (n : Nat) : Nat := 0x91018 + 0x80 * n
/-- BAR0 offset of AXS_AX_SOFT_MIN, index below 48 (R381). -/
def Reg.AXS_AX_SOFT_MIN (n : Nat) : Nat := 0x9101C + 0x80 * n
/-- BAR0 offset of AXS_AX_SOFT_MAX, index below 48 (R381). -/
def Reg.AXS_AX_SOFT_MAX (n : Nat) : Nat := 0x91020 + 0x80 * n
/-- BAR0 offset of AXS_AX_IO_CFG, index below 48 (R381). -/
def Reg.AXS_AX_IO_CFG (n : Nat) : Nat := 0x91024 + 0x80 * n
/-- BAR0 offset of AXS_AX_IN_CFG, index below 48 (R381). -/
def Reg.AXS_AX_IN_CFG (n : Nat) : Nat := 0x91028 + 0x80 * n
/-- BAR0 offset of AXS_AX_HOME_VFAST, index below 48 (R381). -/
def Reg.AXS_AX_HOME_VFAST (n : Nat) : Nat := 0x9102C + 0x80 * n
/-- BAR0 offset of AXS_AX_HOME_VSLOW, index below 48 (R381). -/
def Reg.AXS_AX_HOME_VSLOW (n : Nat) : Nat := 0x91030 + 0x80 * n
/-- BAR0 offset of AXS_AX_HOME_LOCKOUT, index below 48 (R381). -/
def Reg.AXS_AX_HOME_LOCKOUT (n : Nat) : Nat := 0x91034 + 0x80 * n
/-- BAR0 offset of AXS_AX_HOME_SEARCH, index below 48 (R381). -/
def Reg.AXS_AX_HOME_SEARCH (n : Nat) : Nat := 0x91038 + 0x80 * n
/-- BAR0 offset of AXS_AX_HOME_OFFSET, index below 48 (R381). -/
def Reg.AXS_AX_HOME_OFFSET (n : Nat) : Nat := 0x9103C + 0x80 * n
/-- BAR0 offset of AXS_AX_INPOS, index below 48 (R381). -/
def Reg.AXS_AX_INPOS (n : Nat) : Nat := 0x91040 + 0x80 * n
/-- BAR0 offset of AXS_AX_GEAR_RAMP, index below 48 (R381). -/
def Reg.AXS_AX_GEAR_RAMP (n : Nat) : Nat := 0x91044 + 0x80 * n
/-- BAR0 offset of AXS_AX_SP_SCALE, index below 48 (R381). -/
def Reg.AXS_AX_SP_SCALE (n : Nat) : Nat := 0x91048 + 0x80 * n
/-- BAR0 offset of AXS_AX_STEP_RATIO, index below 48 (R381). -/
def Reg.AXS_AX_STEP_RATIO (n : Nat) : Nat := 0x9104C + 0x80 * n
/-- BAR0 offset of AXS_AX_STATUS, index below 48 (R381). -/
def Reg.AXS_AX_STATUS (n : Nat) : Nat := 0x91060 + 0x80 * n
/-- BAR0 offset of AXS_AX_POS, index below 48 (R381). -/
def Reg.AXS_AX_POS (n : Nat) : Nat := 0x91064 + 0x80 * n
/-- BAR0 offset of AXS_AX_SETPOINT, index below 48 (R381). -/
def Reg.AXS_AX_SETPOINT (n : Nat) : Nat := 0x91068 + 0x80 * n
/-- BAR0 offset of AXS_AX_TURN, index below 48 (R381). -/
def Reg.AXS_AX_TURN (n : Nat) : Nat := 0x9106C + 0x80 * n
/-- BAR0 offset of AXS_AX_LATCH, index below 48 (R381). -/
def Reg.AXS_AX_LATCH (n : Nat) : Nat := 0x91070 + 0x80 * n
/-- BAR0 offset of AXS_AX_WIRE, index below 48 (R381). -/
def Reg.AXS_AX_WIRE (n : Nat) : Nat := 0x91074 + 0x80 * n
/-- BAR0 offset of AXS_AX_CHAT_COUNT, index below 48 (R381). -/
def Reg.AXS_AX_CHAT_COUNT (n : Nat) : Nat := 0x91078 + 0x80 * n
/-- BAR0 offset of AXS_AX_QERR_COUNT, index below 48 (R381). -/
def Reg.AXS_AX_QERR_COUNT (n : Nat) : Nat := 0x9107C + 0x80 * n
/-- BAR0 offset of CTL_STATUS (R402). -/
def Reg.CTL_STATUS : Nat := 0xA0000
/-- BAR0 offset of CTL_WRAP_LO (R401). -/
def Reg.CTL_WRAP_LO : Nat := 0xA0004
/-- BAR0 offset of CTL_WRAP_HI (R401). -/
def Reg.CTL_WRAP_HI : Nat := 0xA0008
/-- BAR0 offset of CTL_OVR_LO (R401). -/
def Reg.CTL_OVR_LO : Nat := 0xA000C
/-- BAR0 offset of CTL_OVR_HI (R401). -/
def Reg.CTL_OVR_HI : Nat := 0xA0010
/-- BAR0 offset of CTL_LOAD_PEAK (R401). -/
def Reg.CTL_LOAD_PEAK : Nat := 0xA0014
/-- BAR0 offset of CTL_AX_CFG, index below 48 (R402). -/
def Reg.CTL_AX_CFG (n : Nat) : Nat := 0xA1000 + 0x80 * n
/-- BAR0 offset of CTL_AX_KP, index below 48 (R402). -/
def Reg.CTL_AX_KP (n : Nat) : Nat := 0xA1004 + 0x80 * n
/-- BAR0 offset of CTL_AX_KI, index below 48 (R402). -/
def Reg.CTL_AX_KI (n : Nat) : Nat := 0xA1008 + 0x80 * n
/-- BAR0 offset of CTL_AX_KD, index below 48 (R402). -/
def Reg.CTL_AX_KD (n : Nat) : Nat := 0xA100C + 0x80 * n
/-- BAR0 offset of CTL_AX_KVFF, index below 48 (R402). -/
def Reg.CTL_AX_KVFF (n : Nat) : Nat := 0xA1010 + 0x80 * n
/-- BAR0 offset of CTL_AX_KAFF, index below 48 (R402). -/
def Reg.CTL_AX_KAFF (n : Nat) : Nat := 0xA1014 + 0x80 * n
/-- BAR0 offset of CTL_AX_OUT_MAX, index below 48 (R402). -/
def Reg.CTL_AX_OUT_MAX (n : Nat) : Nat := 0xA1018 + 0x80 * n
/-- BAR0 offset of CTL_AX_BQ0_B0, index below 48 (R402). -/
def Reg.CTL_AX_BQ0_B0 (n : Nat) : Nat := 0xA101C + 0x80 * n
/-- BAR0 offset of CTL_AX_BQ0_B1, index below 48 (R402). -/
def Reg.CTL_AX_BQ0_B1 (n : Nat) : Nat := 0xA1020 + 0x80 * n
/-- BAR0 offset of CTL_AX_BQ0_B2, index below 48 (R402). -/
def Reg.CTL_AX_BQ0_B2 (n : Nat) : Nat := 0xA1024 + 0x80 * n
/-- BAR0 offset of CTL_AX_BQ0_A1, index below 48 (R402). -/
def Reg.CTL_AX_BQ0_A1 (n : Nat) : Nat := 0xA1028 + 0x80 * n
/-- BAR0 offset of CTL_AX_BQ0_A2, index below 48 (R402). -/
def Reg.CTL_AX_BQ0_A2 (n : Nat) : Nat := 0xA102C + 0x80 * n
/-- BAR0 offset of CTL_AX_BQ1_B0, index below 48 (R402). -/
def Reg.CTL_AX_BQ1_B0 (n : Nat) : Nat := 0xA1030 + 0x80 * n
/-- BAR0 offset of CTL_AX_BQ1_B1, index below 48 (R402). -/
def Reg.CTL_AX_BQ1_B1 (n : Nat) : Nat := 0xA1034 + 0x80 * n
/-- BAR0 offset of CTL_AX_BQ1_B2, index below 48 (R402). -/
def Reg.CTL_AX_BQ1_B2 (n : Nat) : Nat := 0xA1038 + 0x80 * n
/-- BAR0 offset of CTL_AX_BQ1_A1, index below 48 (R402). -/
def Reg.CTL_AX_BQ1_A1 (n : Nat) : Nat := 0xA103C + 0x80 * n
/-- BAR0 offset of CTL_AX_BQ1_A2, index below 48 (R402). -/
def Reg.CTL_AX_BQ1_A2 (n : Nat) : Nat := 0xA1040 + 0x80 * n
/-- BAR0 offset of CTL_AX_FE_LIM, index below 48 (R402). -/
def Reg.CTL_AX_FE_LIM (n : Nat) : Nat := 0xA1044 + 0x80 * n
/-- BAR0 offset of CTL_AX_TIMERS, index below 48 (R402). -/
def Reg.CTL_AX_TIMERS (n : Nat) : Nat := 0xA1048 + 0x80 * n
/-- BAR0 offset of CTL_AX_CUR_CFG, index below 48 (R402). -/
def Reg.CTL_AX_CUR_CFG (n : Nat) : Nat := 0xA104C + 0x80 * n
/-- BAR0 offset of CTL_AX_BOOST_CFG, index below 48 (R402). -/
def Reg.CTL_AX_BOOST_CFG (n : Nat) : Nat := 0xA1050 + 0x80 * n
/-- BAR0 offset of CTL_AX_BOOST_E, index below 48 (R402). -/
def Reg.CTL_AX_BOOST_E (n : Nat) : Nat := 0xA1054 + 0x80 * n
/-- BAR0 offset of CTL_AX_SP_CFG, index below 48 (R402). -/
def Reg.CTL_AX_SP_CFG (n : Nat) : Nat := 0xA1058 + 0x80 * n
/-- BAR0 offset of CTL_AX_HOLD_DLY, index below 48 (R402). -/
def Reg.CTL_AX_HOLD_DLY (n : Nat) : Nat := 0xA105C + 0x80 * n
/-- BAR0 offset of CTL_AX_STATUS, index below 48 (R402). -/
def Reg.CTL_AX_STATUS (n : Nat) : Nat := 0xA1060 + 0x80 * n
/-- BAR0 offset of CTL_AX_FE, index below 48 (R402). -/
def Reg.CTL_AX_FE (n : Nat) : Nat := 0xA1064 + 0x80 * n
/-- BAR0 offset of CTL_AX_IREF, index below 48 (R402). -/
def Reg.CTL_AX_IREF (n : Nat) : Nat := 0xA1068 + 0x80 * n
/-- BAR0 offset of CTL_AX_INTEG_LO, index below 48 (R402). -/
def Reg.CTL_AX_INTEG_LO (n : Nat) : Nat := 0xA106C + 0x80 * n
/-- BAR0 offset of CTL_AX_INTEG_HI, index below 48 (R402). -/
def Reg.CTL_AX_INTEG_HI (n : Nat) : Nat := 0xA1070 + 0x80 * n
/-- BAR0 offset of CTL_AX_WRAP_COUNT, index below 48 (R402). -/
def Reg.CTL_AX_WRAP_COUNT (n : Nat) : Nat := 0xA1074 + 0x80 * n
/-- BAR0 offset of CTL_AX_OVR_COUNT, index below 48 (R402). -/
def Reg.CTL_AX_OVR_COUNT (n : Nat) : Nat := 0xA1078 + 0x80 * n
/-- BAR0 offset of CTL_AX_SP_IN, index below 48 (R402). -/
def Reg.CTL_AX_SP_IN (n : Nat) : Nat := 0xA107C + 0x80 * n
/-- BAR0 offset of INV_STATUS (R427). -/
def Reg.INV_STATUS : Nat := 0xB0000
/-- BAR0 offset of INV_TIME_SEC_LO (R427). -/
def Reg.INV_TIME_SEC_LO : Nat := 0xB0004
/-- BAR0 offset of INV_TIME_SEC_HI (R427). -/
def Reg.INV_TIME_SEC_HI : Nat := 0xB0008
/-- BAR0 offset of INV_TIME_NS (R427). -/
def Reg.INV_TIME_NS : Nat := 0xB000C
/-- BAR0 offset of INV_TIME_FRAC (R427). -/
def Reg.INV_TIME_FRAC : Nat := 0xB0010
/-- BAR0 offset of INV_INC_LO (R427). -/
def Reg.INV_INC_LO : Nat := 0xB0014
/-- BAR0 offset of INV_INC_HI (R427). -/
def Reg.INV_INC_HI : Nat := 0xB0018
/-- BAR0 offset of INV_UTC_OFF_LO (R427). -/
def Reg.INV_UTC_OFF_LO : Nat := 0xB001C
/-- BAR0 offset of INV_UTC_OFF_HI (R427). -/
def Reg.INV_UTC_OFF_HI : Nat := 0xB0020
/-- BAR0 offset of INV_REF_CFG (R428). -/
def Reg.INV_REF_CFG : Nat := 0xB0024
/-- BAR0 offset of INV_PPS_IN_DLY (R427). -/
def Reg.INV_PPS_IN_DLY : Nat := 0xB0028
/-- BAR0 offset of INV_PPS_CFG (R428). -/
def Reg.INV_PPS_CFG : Nat := 0xB002C
/-- BAR0 offset of INV_TQ_CFG (R427). -/
def Reg.INV_TQ_CFG : Nat := 0xB0030
/-- BAR0 offset of INV_HOLD_CFG (R428). -/
def Reg.INV_HOLD_CFG : Nat := 0xB0034
/-- BAR0 offset of INV_OFFSET_LO (R427). -/
def Reg.INV_OFFSET_LO : Nat := 0xB0038
/-- BAR0 offset of INV_OFFSET_HI (R427). -/
def Reg.INV_OFFSET_HI : Nat := 0xB003C
/-- BAR0 offset of INV_PPS_IN_OFF (R427). -/
def Reg.INV_PPS_IN_OFF : Nat := 0xB0040
/-- BAR0 offset of INV_HOST_OFF (R427). -/
def Reg.INV_HOST_OFF : Nat := 0xB0044
/-- BAR0 offset of INV_HOLD_ERR (R427). -/
def Reg.INV_HOLD_ERR : Nat := 0xB0048
/-- BAR0 offset of INV_EVQ_CFG (R428). -/
def Reg.INV_EVQ_CFG : Nat := 0xB004C
/-- BAR0 offset of INV_CMP_NOW (R427). -/
def Reg.INV_CMP_NOW : Nat := 0xB0050
/-- BAR0 offset of INV_CMP_LATE_COUNT (R427). -/
def Reg.INV_CMP_LATE_COUNT : Nat := 0xB0054
/-- BAR0 offset of INV_LAN_DROP_COUNT (R427). -/
def Reg.INV_LAN_DROP_COUNT : Nat := 0xB0058
/-- BAR0 offset of INV_UTC_LO (R427). -/
def Reg.INV_UTC_LO : Nat := 0xB005C
/-- BAR0 offset of INV_LAN_CFG, index below 2 (R428). -/
def Reg.INV_LAN_CFG (n : Nat) : Nat := 0xB0060 + 0x20 * n
/-- BAR0 offset of INV_LAN_PARENT_LO, index below 2 (R427). -/
def Reg.INV_LAN_PARENT_LO (n : Nat) : Nat := 0xB0064 + 0x20 * n
/-- BAR0 offset of INV_LAN_PARENT_HI, index below 2 (R427). -/
def Reg.INV_LAN_PARENT_HI (n : Nat) : Nat := 0xB0068 + 0x20 * n
/-- BAR0 offset of INV_LAN_PPORT, index below 2 (R427). -/
def Reg.INV_LAN_PPORT (n : Nat) : Nat := 0xB006C + 0x20 * n
/-- BAR0 offset of INV_LAN_MPD, index below 2 (R427). -/
def Reg.INV_LAN_MPD (n : Nat) : Nat := 0xB0070 + 0x20 * n
/-- BAR0 offset of INV_UTC_HI (R427). -/
def Reg.INV_UTC_HI : Nat := 0xB00A0
/-- BAR0 offset of INV_CMP_CFG, index below 32 (R428). -/
def Reg.INV_CMP_CFG (n : Nat) : Nat := 0xB0100 + 0x10 * n
/-- BAR0 offset of INV_CMP_TIME, index below 32 (R427). -/
def Reg.INV_CMP_TIME (n : Nat) : Nat := 0xB0104 + 0x10 * n
/-- BAR0 offset of INV_CMP_PERIOD, index below 32 (R427). -/
def Reg.INV_CMP_PERIOD (n : Nat) : Nat := 0xB0108 + 0x10 * n
/-- BAR0 offset of INV_CMP_STATUS, index below 32 (R428). -/
def Reg.INV_CMP_STATUS (n : Nat) : Nat := 0xB010C + 0x10 * n
/-- BAR0 offset of QUE_STATUS (R452). -/
def Reg.QUE_STATUS : Nat := 0xC0000
/-- BAR0 offset of QUE_RD_CTL (R452). -/
def Reg.QUE_RD_CTL : Nat := 0xC0004
/-- BAR0 offset of QUE_RD_HDR (R452). -/
def Reg.QUE_RD_HDR : Nat := 0xC0008
/-- BAR0 offset of QUE_RD_SEQ (R452). -/
def Reg.QUE_RD_SEQ : Nat := 0xC000C
/-- BAR0 offset of QUE_PTR_ERR_COUNT (R452). -/
def Reg.QUE_PTR_ERR_COUNT : Nat := 0xC0010
/-- BAR0 offset of QUE_VOID_COUNT (R452). -/
def Reg.QUE_VOID_COUNT : Nat := 0xC0014
/-- BAR0 offset of QUE_Q_CFG, index below 64 (R453). -/
def Reg.QUE_Q_CFG (n : Nat) : Nat := 0xC0100 + 0x10 * n
/-- BAR0 offset of QUE_Q_STATUS, index below 64 (R453). -/
def Reg.QUE_Q_STATUS (n : Nat) : Nat := 0xC0104 + 0x10 * n
/-- BAR0 offset of QUE_Q_LOST_COUNT, index below 64 (R452). -/
def Reg.QUE_Q_LOST_COUNT (n : Nat) : Nat := 0xC0108 + 0x10 * n
/-- BAR0 offset of QUE_Q_SEQ, index below 64 (R452). -/
def Reg.QUE_Q_SEQ (n : Nat) : Nat := 0xC010C + 0x10 * n
/-- BAR0 offset of QUE_RD_BUF, index below 1024 (R452). -/
def Reg.QUE_RD_BUF (n : Nat) : Nat := 0xC1000 + 0x4 * n
/-- BAR0 offset of MEM_STATUS (R452). -/
def Reg.MEM_STATUS : Nat := 0xC8000
/-- BAR0 offset of MEM_CONFLICT_COUNT (R452). -/
def Reg.MEM_CONFLICT_COUNT : Nat := 0xC8004
/-- BAR0 offset of MEM_VIOL_COUNT (R452). -/
def Reg.MEM_VIOL_COUNT : Nat := 0xC8008
/-- BAR0 offset of MEM_ECC_CORR_COUNT (R452). -/
def Reg.MEM_ECC_CORR_COUNT : Nat := 0xC800C
/-- BAR0 offset of MEM_ECC_UNCORR_COUNT (R452). -/
def Reg.MEM_ECC_UNCORR_COUNT : Nat := 0xC8010
/-- BAR0 offset of MEM_FABRIC_RETRY_COUNT (R452). -/
def Reg.MEM_FABRIC_RETRY_COUNT : Nat := 0xC8014
/-- BAR0 offset of MEM_FABRIC_FAIL_COUNT (R452). -/
def Reg.MEM_FABRIC_FAIL_COUNT : Nat := 0xC8018
/-- BAR0 offset of MEM_MRAM_REREAD_COUNT (R452). -/
def Reg.MEM_MRAM_REREAD_COUNT : Nat := 0xC801C
/-- BAR0 offset of MEM_MRAM_BAD_COUNT (R452). -/
def Reg.MEM_MRAM_BAD_COUNT : Nat := 0xC8020
/-- BAR0 offset of MEM_LAST_ERR (R453). -/
def Reg.MEM_LAST_ERR : Nat := 0xC8024
/-- BAR0 offset of MEM_BANK_STATUS, index below 16 (R453). -/
def Reg.MEM_BANK_STATUS (n : Nat) : Nat := 0xC8040 + 0x4 * n
/-- BAR0 offset of MEM_RGN_LO, index below 48 (R453). -/
def Reg.MEM_RGN_LO (n : Nat) : Nat := 0xC8100 + 0x8 * n
/-- BAR0 offset of MEM_RGN_HI, index below 48 (R453). -/
def Reg.MEM_RGN_HI (n : Nat) : Nat := 0xC8104 + 0x8 * n
/-- BAR0 offset of KEY_STATUS (R474). -/
def Reg.KEY_STATUS : Nat := 0xD0000
/-- BAR0 offset of KEY_LC (R473). -/
def Reg.KEY_LC : Nat := 0xD0004
/-- BAR0 offset of KEY_STORE_STATUS (R473). -/
def Reg.KEY_STORE_STATUS : Nat := 0xD0008
/-- BAR0 offset of KEY_STORE_GEN (R473). -/
def Reg.KEY_STORE_GEN : Nat := 0xD000C
/-- BAR0 offset of KEY_STORE_MASK (R473). -/
def Reg.KEY_STORE_MASK : Nat := 0xD0010
/-- BAR0 offset of KEY_CACHE_USED (R473). -/
def Reg.KEY_CACHE_USED : Nat := 0xD0014
/-- BAR0 offset of KEY_OP_COUNT (R473). -/
def Reg.KEY_OP_COUNT : Nat := 0xD0018
/-- BAR0 offset of KEY_ATTR_COUNT (R473). -/
def Reg.KEY_ATTR_COUNT : Nat := 0xD001C
/-- BAR0 offset of KEY_AUTH_FAIL_COUNT (R473). -/
def Reg.KEY_AUTH_FAIL_COUNT : Nat := 0xD0020
/-- BAR0 offset of TMP_STATUS (R474). -/
def Reg.TMP_STATUS : Nat := 0xD8000
/-- BAR0 offset of TMP_CFG (R474). -/
def Reg.TMP_CFG : Nat := 0xD8004
/-- BAR0 offset of TMP_EXT_CFG (R474). -/
def Reg.TMP_EXT_CFG : Nat := 0xD8008
/-- BAR0 offset of TMP_FIRST (R474). -/
def Reg.TMP_FIRST : Nat := 0xD800C
/-- BAR0 offset of TMP_COUNT (R474). -/
def Reg.TMP_COUNT : Nat := 0xD8010
/-- BAR0 offset of EVR_STATUS (R487). -/
def Reg.EVR_STATUS : Nat := 0xE0000
/-- BAR0 offset of EVR_NEXT_LO (R487). -/
def Reg.EVR_NEXT_LO : Nat := 0xE0004
/-- BAR0 offset of EVR_NEXT_HI (R487). -/
def Reg.EVR_NEXT_HI : Nat := 0xE0008
/-- BAR0 offset of EVR_OLDEST_LO (R487). -/
def Reg.EVR_OLDEST_LO : Nat := 0xE000C
/-- BAR0 offset of EVR_OLDEST_HI (R487). -/
def Reg.EVR_OLDEST_HI : Nat := 0xE0010
/-- BAR0 offset of EVR_PERM_COUNT (R487). -/
def Reg.EVR_PERM_COUNT : Nat := 0xE0014
/-- BAR0 offset of EVR_STAGED (R487). -/
def Reg.EVR_STAGED : Nat := 0xE0018
/-- BAR0 offset of EVR_DROP_COUNT (R487). -/
def Reg.EVR_DROP_COUNT : Nat := 0xE001C
/-- BAR0 offset of EVR_BAD_COUNT (R487). -/
def Reg.EVR_BAD_COUNT : Nat := 0xE0020
/-- BAR0 offset of EVR_AUTH_FAIL_COUNT (R487). -/
def Reg.EVR_AUTH_FAIL_COUNT : Nat := 0xE0024
/-- BAR0 offset of MON_STATUS (R527). -/
def Reg.MON_STATUS : Nat := 0xF0000
/-- BAR0 offset of MON_VCORE (R527). -/
def Reg.MON_VCORE : Nat := 0xF0004
/-- BAR0 offset of MON_VIO (R527). -/
def Reg.MON_VIO : Nat := 0xF0008
/-- BAR0 offset of MON_VANA (R527). -/
def Reg.MON_VANA : Nat := 0xF000C
/-- BAR0 offset of MON_VFIELD, index below 2 (R527). -/
def Reg.MON_VFIELD (n : Nat) : Nat := 0xF0010 + 0x4 * n
/-- BAR0 offset of MON_FGND, index below 2 (R527). -/
def Reg.MON_FGND (n : Nat) : Nat := 0xF0018 + 0x4 * n
/-- BAR0 offset of MON_IFIELD, index below 2 (R527). -/
def Reg.MON_IFIELD (n : Nat) : Nat := 0xF0020 + 0x4 * n
/-- BAR0 offset of MON_TEMP_DIG (R527). -/
def Reg.MON_TEMP_DIG : Nat := 0xF0028
/-- BAR0 offset of MON_TEMP_RF (R527). -/
def Reg.MON_TEMP_RF : Nat := 0xF002C
/-- BAR0 offset of MON_TEMP_FIO, index below 2 (R527). -/
def Reg.MON_TEMP_FIO (n : Nat) : Nat := 0xF0030 + 0x4 * n
/-- BAR0 offset of MON_TEMP_PEAK (R528). -/
def Reg.MON_TEMP_PEAK : Nat := 0xF0038
/-- BAR0 offset of MON_TEMP_WARN (R527). -/
def Reg.MON_TEMP_WARN : Nat := 0xF003C
/-- BAR0 offset of MON_SURVEY (R528). -/
def Reg.MON_SURVEY : Nat := 0xF0040
/-- BAR0 offset of MON_SURVEY_SEQ (R527). -/
def Reg.MON_SURVEY_SEQ : Nat := 0xF0044

/-! ## The tables, block by block -/

/-- Registers of the block at 0x0, part 0. -/
def regsBlock00_0 : List RegDesc := [
  ⟨"SYS_ID", 0x0, 0x4, 1, .ro, 0x07719648, 0x0, []⟩,
  ⟨"SYS_REV", 0x4, 0x4, 1, .ro, 0x02004230, 0x0, []⟩,
  ⟨"SYS_UID_LO", 0x8, 0x4, 1, .ro, 0x00000000, 0x0, []⟩,
  ⟨"SYS_UID_HI", 0xC, 0x4, 1, .ro, 0x00000000, 0x0, []⟩,
  ⟨"SYS_BOOT", 0x10, 0x4, 1, .ro, 0x00000100, 0x0, []⟩,
  ⟨"SYS_READY_CAUSE", 0x14, 0x4, 1, .ro, 0x00000001, 0x0, []⟩,
  ⟨"SYS_PCC", 0x18, 0x4, 1, .ro, 0x00000000, 0x0, []⟩,
  ⟨"SYS_OPTIME_LO", 0x1C, 0x4, 1, .ro, 0x00000000, 0x0, []⟩,
  ⟨"SYS_OPTIME_HI", 0x20, 0x4, 1, .ro, 0x00000000, 0x0, []⟩,
  ⟨"SYS_SCRATCH", 0x24, 0x4, 1, .rw, 0x00000000, 0x0, [⟨31, 0, .rw, .any, "SCRATCH"⟩]⟩,
  ⟨"SYS_CLAMP_COUNT", 0x28, 0x4, 1, .rc, 0x00000000, 0x0, [⟨31, 0, .rc, .any, ""⟩]⟩,
  ⟨"SYS_ACC_ERR_COUNT", 0x2C, 0x4, 1, .rc, 0x00000000, 0x0, [⟨31, 0, .rc, .any, ""⟩]⟩,
  ⟨"SYS_LAST_CLAMP", 0x30, 0x4, 1, .ro, 0x00000000, 0x0, []⟩,
  ⟨"SYS_PERSIST", 0x34, 0x4, 1, .ro, 0x00000000, 0x0, []⟩]
/-- Registers of the block at 0x10000, part 0. -/
def regsBlock02_0 : List RegDesc := [
  ⟨"HST_STATUS", 0x10000, 0x4, 1, .ro, 0x00000000, 0x0, []⟩,
  ⟨"HST_MODE", 0x10004, 0x4, 1, .rw, 0x00000000, 0x0, [⟨1, 1, .w1s, .any, "PERSIST"⟩, ⟨0, 0, .rw, .any, "MODE"⟩]⟩,
  ⟨"HST_INFLIGHT", 0x10008, 0x4, 1, .ro, 0x00000000, 0x0, []⟩,
  ⟨"HST_COAL_CFG", 0x1000C, 0x4, 1, .rw, 0x00000000, 0x0, [⟨7, 7, .rw, .any, "AXIS_EN"⟩, ⟨6, 0, .rw, .any, "AXIS_CQ"⟩]⟩,
  ⟨"HST_DB_ERR_COUNT", 0x10010, 0x4, 1, .rc, 0x00000000, 0x0, [⟨31, 0, .rc, .any, ""⟩]⟩,
  ⟨"HST_REFETCH_COUNT", 0x10014, 0x4, 1, .rc, 0x00000000, 0x0, [⟨31, 0, .rc, .any, ""⟩]⟩,
  ⟨"HST_COAL_DROP_COUNT", 0x10018, 0x4, 1, .rc, 0x00000000, 0x0, [⟨31, 0, .rc, .any, ""⟩]⟩,
  ⟨"HST_RBASE_LO", 0x11000, 0x40, 128, .rw, 0x00000000, 0x0, [⟨31, 6, .rw, .any, "BASE_LO"⟩]⟩,
  ⟨"HST_RBASE_HI", 0x11004, 0x40, 128, .rw, 0x00000000, 0x0, [⟨31, 0, .rw, .any, "BASE_HI"⟩]⟩,
  ⟨"HST_RCFG", 0x11008, 0x40, 128, .rw, 0x00000060, 0x0, [⟨1, 1, .rw, .any, "ROLE"⟩, ⟨8, 4, .rw, .num 6 16, "LOG2SIZE"⟩, ⟨2, 2, .rw, .any, "CRC"⟩, ⟨0, 0, .rw, .any, "ENABLE"⟩]⟩,
  ⟨"HST_RSCHED", 0x1100C, 0x40, 128, .rw, 0x00400001, 0x0, [⟨26, 16, .rw, .num 1 1024, "CREDIT"⟩, ⟨14, 8, .rw, .any, "CQ"⟩, ⟨3, 0, .rw, .num 1 15, "WEIGHT"⟩]⟩,
  ⟨"HST_RIRQ", 0x11010, 0x40, 128, .rw, 0x00000100, 0x0, [⟨25, 16, .rw, .any, "TIMER"⟩, ⟨15, 8, .rw, .num 1 255, "COUNT"⟩, ⟨6, 0, .rw, .any, "VECTOR"⟩]⟩,
  ⟨"HST_RWB_LO", 0x11014, 0x40, 128, .rw, 0x00000000, 0x0, [⟨31, 3, .rw, .any, "WB_LO"⟩]⟩,
  ⟨"HST_RWB_HI", 0x11018, 0x40, 128, .rw, 0x00000000, 0x0, [⟨31, 0, .rw, .any, "WB_HI"⟩]⟩,
  ⟨"HST_RSTATUS", 0x1101C, 0x40, 128, .mixed, 0x00000000, 0x0, [⟨4, 4, .w1c, .any, "DB_ERR"⟩, ⟨3, 3, .w1c, .any, "CRC_ERR"⟩, ⟨2, 2, .w1c, .any, "FETCH_ERR"⟩]⟩,
  ⟨"HST_RHEAD", 0x11020, 0x40, 128, .ro, 0x00000000, 0x0, []⟩]
/-- Registers of the block at 0x10000, part 1. -/
def regsBlock02_1 : List RegDesc := [
  ⟨"HST_RTAIL", 0x11024, 0x40, 128, .ro, 0x00000000, 0x0, []⟩,
  ⟨"HST_RINFLIGHT", 0x11028, 0x40, 128, .ro, 0x00000000, 0x0, []⟩]
/-- Registers of the block at 0x20000, part 0. -/
def regsBlock04_0 : List RegDesc := [
  ⟨"DVT_STATUS", 0x20000, 0x4, 1, .ro, 0x00000000, 0x0, []⟩,
  ⟨"DVT_WAIT_CFG", 0x20004, 0x4, 1, .rw, 0x03E81388, 0x0, [⟨31, 16, .rw, .num 1 60000, "AFTER_LIMIT"⟩, ⟨15, 0, .rw, .num 0 60000, "WAIT_LIMIT"⟩]⟩,
  ⟨"DVT_ARB_CFG", 0x20008, 0x4, 1, .rw, 0x00080103, 0x0, [⟨23, 16, .rw, .num 1 64, "DEV_BURST"⟩, ⟨11, 8, .rw, .num 1 15, "AIR_WEIGHT"⟩, ⟨3, 0, .rw, .num 1 15, "HOST_WEIGHT"⟩]⟩,
  ⟨"DVT_AIR_QUOTA", 0x2000C, 0x4, 1, .rw, 0x00010A08, 0x0, [⟨16, 16, .rw, .any, "WAIT_OK"⟩, ⟨15, 8, .rw, .num 1 255, "PERIOD"⟩, ⟨7, 0, .rw, .num 1 255, "QUOTA"⟩]⟩,
  ⟨"DVT_VMAX_CFG", 0x20010, 0x4, 1, .rw, 0x000007D0, 0x0, [⟨14, 0, .rw, .num 1 32767, "VMAX"⟩]⟩,
  ⟨"DVT_EVQ_CFG", 0x20014, 0x4, 1, .rw, 0x00000102, 0x0, [⟨9, 9, .rw, .any, "AIR_ABORTS"⟩, ⟨8, 8, .rw, .any, "ENABLE"⟩, ⟨5, 0, .rw, .num 1 63, "QUEUE"⟩]⟩,
  ⟨"DVT_COMMIT_COUNT", 0x20020, 0x4, 1, .rc, 0x00000000, 0x0, [⟨31, 0, .rc, .any, ""⟩]⟩,
  ⟨"DVT_ABORT_COUNT", 0x20024, 0x4, 1, .rc, 0x00000000, 0x0, [⟨31, 0, .rc, .any, ""⟩]⟩,
  ⟨"DVT_DEADLOCK_COUNT", 0x20028, 0x4, 1, .rc, 0x00000000, 0x0, [⟨31, 0, .rc, .any, ""⟩]⟩,
  ⟨"DVT_WAIT_COUNT", 0x2002C, 0x4, 1, .ro, 0x00000000, 0x0, []⟩,
  ⟨"DVT_DEFER_COUNT", 0x20030, 0x4, 1, .ro, 0x00000000, 0x0, []⟩]
/-- Registers of the block at 0x30000, part 0. -/
def regsBlock06_0 : List RegDesc := [
  ⟨"MAP_STATUS", 0x30000, 0x4, 1, .ro, 0x00000000, 0x0, []⟩,
  ⟨"MAP_ID", 0x30004, 0x4, 1, .ro, 0x00000000, 0x0, []⟩,
  ⟨"MAP_GEN", 0x30008, 0x4, 1, .ro, 0x00000000, 0x0, []⟩,
  ⟨"MAP_EPOCH_LO", 0x30010, 0x4, 1, .ro, 0x00000000, 0x0, []⟩,
  ⟨"MAP_EPOCH_HI", 0x30014, 0x4, 1, .ro, 0x00000000, 0x0, []⟩,
  ⟨"MAP_EFFECT_CFG", 0x30018, 0x4, 1, .rw, 0x271003E8, 0x0, [⟨31, 16, .rw, .num 1 60000, "HORIZON"⟩, ⟨15, 0, .rw, .num 0 10000, "PAST_TOL"⟩]⟩,
  ⟨"MAP_PEND_COUNT", 0x3001C, 0x4, 1, .ro, 0x00000000, 0x0, []⟩,
  ⟨"MAP_LATE_COUNT", 0x30020, 0x4, 1, .rc, 0x00000000, 0x0, [⟨31, 0, .rc, .any, ""⟩]⟩]
/-- Registers of the block at 0x40000, part 0. -/
def regsBlock08_0 : List RegDesc := [
  ⟨"CLP_STATUS", 0x40000, 0x4, 1, .ro, 0xFF000007, 0x0, []⟩,
  ⟨"CLP_SRC_ACTIVE", 0x40004, 0x4, 1, .ro, 0x00000000, 0x0, []⟩,
  ⟨"CLP_SRC_LATCH", 0x40008, 0x4, 1, .ro, 0x00000800, 0x0, []⟩,
  ⟨"CLP_STOP_EPOCH_LO", 0x4000C, 0x4, 1, .ro, 0x00000000, 0x0, []⟩,
  ⟨"CLP_STOP_EPOCH_HI", 0x40010, 0x4, 1, .ro, 0x00000000, 0x0, []⟩,
  ⟨"CLP_STOP_REQ", 0x40014, 0x4, 1, .rw, 0x00000000, 0x0, [⟨1, 1, .rw, .any, "CAT"⟩, ⟨0, 0, .rw, .any, "REQ"⟩]⟩,
  ⟨"CLP_HB", 0x40018, 0x4, 1, .wo, 0x00000000, 0x0, [⟨15, 0, .wo, .any, "SEQ"⟩]⟩,
  ⟨"CLP_SRC_CFG", 0x4001C, 0x4, 1, .rw, 0x03E80003, 0x0, [⟨31, 16, .rw, .num 10 10000, "HB_TIMEOUT"⟩, ⟨3, 3, .rw, .any, "HB_CAT"⟩, ⟨2, 2, .rw, .any, "HB_EN"⟩, ⟨1, 1, .rw, .any, "MEMBER_CAT"⟩, ⟨0, 0, .rw, .any, "MEMBER_EN"⟩]⟩,
  ⟨"CLP_REL_CFG", 0x40020, 0x4, 1, .rw, 0x0A1403E8, 0x0, [⟨31, 24, .rw, .num 1 255, "RESUME_TO"⟩, ⟨23, 16, .rw, .any, "STO_DELAY"⟩, ⟨15, 0, .rw, .num 0 60000, "MIN_HOLD"⟩]⟩,
  ⟨"CLP_GRP_CAT", 0x40024, 0x4, 1, .rw, 0x00000000, 0x0, [⟨11, 0, .rw, .any, "CAT1"⟩]⟩,
  ⟨"CLP_DT_CFG", 0x40028, 0x4, 1, .rw, 0x03E8012C, 0x0, [⟨31, 16, .rw, .num 100 10000, "PERIOD"⟩, ⟨8, 0, .rw, .num 100 500, "WIDTH"⟩]⟩,
  ⟨"CLP_FAULT", 0x4002C, 0x4, 1, .ro, 0x00000000, 0x0, []⟩,
  ⟨"CLP_GRP_STATE", 0x40030, 0x4, 1, .ro, 0x00AAAAAA, 0x0, []⟩,
  ⟨"CLP_STO_STATUS", 0x40034, 0x4, 1, .ro, 0x00000000, 0x0, []⟩,
  ⟨"CLP_WC_LO", 0x40038, 0x4, 1, .ro, 0x00000000, 0x0, []⟩,
  ⟨"CLP_WC_HI", 0x4003C, 0x4, 1, .ro, 0x00000000, 0x0, []⟩]
/-- Registers of the block at 0x40000, part 1. -/
def regsBlock08_1 : List RegDesc := [
  ⟨"CLP_ES_CFG", 0x40040, 0x4, 4, .rw, 0x190C8321, 0x0, [⟨31, 22, .rw, .num 10 1000, "TP_PERIOD"⟩, ⟨21, 13, .rw, .num 20 500, "TP_WIDTH"⟩, ⟨12, 4, .rw, .num 1 500, "DISC_TIME"⟩, ⟨1, 1, .rw, .any, "CAT"⟩, ⟨0, 0, .rw, .any, "EN"⟩]⟩,
  ⟨"CLP_ES_STATUS", 0x40050, 0x4, 4, .mixed, 0x00000000, 0x0, [⟨7, 7, .w1c, .any, "OUT_FAULT"⟩, ⟨6, 6, .w1c, .any, "DISCREPANCY"⟩, ⟨5, 5, .w1c, .any, "CROSS"⟩, ⟨4, 4, .w1c, .any, "SHORT_HIGH_B"⟩, ⟨3, 3, .w1c, .any, "SHORT_HIGH_A"⟩]⟩,
  ⟨"CLP_RAMP_LIMIT", 0x40060, 0x4, 6, .rw, 0x01F401F4, 0x0, [⟨31, 16, .rw, .num 1 10000, "LIMIT_HI"⟩, ⟨15, 0, .rw, .num 1 10000, "LIMIT_LO"⟩]⟩,
  ⟨"CLP_CMON_CFG", 0x40078, 0x4, 2, .rw, 0x00640000, 0x0, [⟨31, 16, .rw, .num 10 1000, "TIMEOUT"⟩, ⟨15, 15, .rw, .any, "EN"⟩, ⟨11, 0, .rw, .any, "GROUP_MASK"⟩]⟩,
  ⟨"CLP_STOP_COUNT", 0x40080, 0x4, 1, .rc, 0x00000000, 0x0, [⟨31, 0, .rc, .any, ""⟩]⟩,
  ⟨"CLP_HB_BAD_COUNT", 0x40084, 0x4, 1, .rc, 0x00000000, 0x0, [⟨31, 0, .rc, .any, ""⟩]⟩]
/-- Registers of the block at 0x50000, part 0. -/
def regsBlock10_0 : List RegDesc := [
  ⟨"GNS_STATUS", 0x50000, 0x4, 1, .ro, 0x00000030, 0x0, []⟩,
  ⟨"GNS_ANT_CFG", 0x50004, 0x4, 1, .rw, 0x64140000, 0x0, [⟨31, 24, .rw, .num 20 150, "I_SHORT"⟩, ⟨23, 16, .rw, .num 5 100, "I_OPEN"⟩, ⟨1, 0, .rw, .enum 2 0, "BIAS"⟩]⟩,
  ⟨"GNS_ANT_STATUS", 0x50008, 0x4, 1, .ro, 0x00000000, 0x0, []⟩,
  ⟨"GNS_AGC_CFG", 0x5000C, 0x4, 1, .rw, 0x00000028, 0x0, [⟨8, 8, .rw, .any, "FREEZE"⟩, ⟨7, 0, .rw, .num 16 80, "TARGET"⟩]⟩,
  ⟨"GNS_AGC_STATUS", 0x50010, 0x4, 1, .ro, 0x00000000, 0x0, []⟩,
  ⟨"GNS_JAM_CFG", 0x50014, 0x4, 1, .rw, 0xDCD80030, 0x0, [⟨31, 16, .rw, .int (-12000) (-4000), "P_REF"⟩, ⟨7, 0, .rw, .num 1 255, "THRESH"⟩]⟩,
  ⟨"GNS_JAM_STATUS", 0x50018, 0x4, 1, .mixed, 0x00000000, 0x0, [⟨15, 8, .rc, .any, "J_PEAK"⟩]⟩,
  ⟨"GNS_NOTCH_CFG", 0x5001C, 0x4, 1, .rw, 0x000F1E32, 0x0, [⟨19, 16, .rw, .any, "EN"⟩, ⟨15, 8, .rw, .num 12 80, "DETECT"⟩, ⟨7, 0, .rw, .num 5 200, "WIDTH"⟩]⟩,
  ⟨"GNS_NOTCH_STATUS", 0x50020, 0x4, 4, .ro, 0x00000000, 0x0, []⟩,
  ⟨"GNS_SYS_CFG", 0x50030, 0x4, 1, .rw, 0x0000050F, 0x0, [⟨15, 8, .rw, .num 0 45, "ELEV_MASK"⟩, ⟨3, 0, .rw, .any, "SYS_EN"⟩]⟩,
  ⟨"GNS_TRK_CFG", 0x50034, 0x4, 1, .rw, 0x0A04321E, 0x0, [⟨31, 24, .rw, .num 2 30, "PLL_BW"⟩, ⟨23, 16, .rw, .num 1 20, "FLL_BW"⟩, ⟨15, 8, .rw, .num 1 200, "DLL_BW"⟩, ⟨7, 0, .rw, .num 20 45, "CN0_MIN"⟩]⟩,
  ⟨"GNS_COH_CFG", 0x50038, 0x4, 1, .rw, 0x00000035, 0x0, [⟨5, 4, .rw, .any, "CA"⟩, ⟨3, 2, .rw, .enum 2 2, "E1"⟩, ⟨1, 0, .rw, .enum 2 2, "B1C"⟩]⟩,
  ⟨"GNS_ACQ_CFG", 0x5003C, 0x4, 1, .rw, 0x148C0008, 0x0, [⟨31, 24, .rw, .num 1 100, "REF_PPM"⟩, ⟨23, 16, .rw, .num 100 250, "THRESH"⟩, ⟨6, 0, .rw, .num 1 64, "N_NC"⟩]⟩,
  ⟨"GNS_OUT_CFG", 0x50040, 0x4, 1, .rw, 0x05040314, 0x0, [⟨29, 24, .rw, .any, "SNAP_QUEUE"⟩, ⟨21, 16, .rw, .any, "NAV_QUEUE"⟩, ⟨13, 8, .rw, .any, "OBS_QUEUE"⟩, ⟨4, 0, .rw, .num 1 20, "OBS_DIV"⟩]⟩,
  ⟨"GNS_SNAP_CFG", 0x50044, 0x4, 1, .rw, 0x01F40051, 0x0, [⟨31, 16, .rw, .num 50 2000, "FRAG_TIMEOUT"⟩, ⟨7, 4, .rw, .num 5 12, "MIN_SV"⟩, ⟨0, 0, .rw, .any, "EN"⟩]⟩,
  ⟨"GNS_SNAP_STATUS", 0x50048, 0x4, 1, .ro, 0x00000000, 0x0, []⟩]
/-- Registers of the block at 0x50000, part 1. -/
def regsBlock10_1 : List RegDesc := [
  ⟨"GNS_CLK_OFF", 0x5004C, 0x4, 1, .ro, 0x00000000, 0x0, []⟩,
  ⟨"GNS_CLK_DRIFT", 0x50050, 0x4, 1, .ro, 0x00000000, 0x0, []⟩,
  ⟨"GNS_SNAP_BUSY_COUNT", 0x50054, 0x4, 1, .rc, 0x00000000, 0x0, [⟨31, 0, .rc, .any, ""⟩]⟩,
  ⟨"GNS_SLIP_COUNT", 0x50058, 0x4, 1, .rc, 0x00000000, 0x0, [⟨31, 0, .rc, .any, ""⟩]⟩,
  ⟨"GNS_CH_STATUS", 0x50100, 0x4, 64, .ro, 0x00000000, 0x0, []⟩]
/-- Registers of the block at 0x60000, part 0. -/
def regsBlock12_0 : List RegDesc := [
  ⟨"POS_STATUS", 0x60000, 0x4, 1, .ro, 0x0000000C, 0x0, []⟩,
  ⟨"POS_OBS_CFG", 0x60004, 0x4, 1, .rw, 0x640A1C0A, 0x0, [⟨31, 24, .rw, .num 10 150, "MAX_AGE"⟩, ⟨23, 16, .rw, .num 0 45, "ELEV_MASK"⟩, ⟨15, 8, .rw, .num 20 45, "CN0_MIN"⟩, ⟨5, 0, .rw, .num 4 32, "MAX_SV"⟩]⟩,
  ⟨"POS_AR_CFG", 0x60008, 0x4, 1, .rw, 0x1E325005, 0x0, [⟨31, 24, .rw, .num 15 100, "RATIO"⟩, ⟨23, 20, .rw, .num 2 6, "PSR"⟩, ⟨19, 16, .rw, .num 1 10, "CONFIRM"⟩, ⟨15, 12, .rw, .num 4 12, "MIN_AMB"⟩, ⟨7, 0, .rw, .num 1 200, "LOCK_MIN"⟩]⟩,
  ⟨"POS_FIX_CFG", 0x6000C, 0x4, 1, .rw, 0x03E81E32, 0x0, [⟨31, 16, .rw, .num 100 10000, "FIX_HOLD"⟩, ⟨15, 8, .rw, .num 10 100, "RES_MAX"⟩, ⟨7, 0, .rw, .num 1 255, "PRED_MAX"⟩]⟩,
  ⟨"POS_INTEG_CFG", 0x60010, 0x4, 1, .rw, 0x3C371428, 0x0, [⟨31, 24, .rw, .num 10 100, "K_H"⟩, ⟨23, 16, .rw, .num 10 100, "K_V"⟩, ⟨15, 8, .rw, .num 1 255, "HAL"⟩, ⟨7, 0, .rw, .num 1 255, "VAL"⟩]⟩,
  ⟨"POS_OUT_CFG", 0x60014, 0x4, 1, .rw, 0x00000607, 0x0, [⟨13, 8, .rw, .any, "SOL_QUEUE"⟩, ⟨5, 0, .rw, .any, "RTCM_QUEUE"⟩]⟩,
  ⟨"POS_RTCM_CFG", 0x60018, 0x4, 1, .rw, 0x0000040B, 0x0, [⟨31, 20, .rw, .any, "STATION_ID"⟩, ⟨15, 12, .rw, .enum 4 4, "RATE"⟩, ⟨11, 8, .rw, .oneOf [4, 7] 4, "MSM"⟩, ⟨7, 7, .rw, .any, "STATION_MSG"⟩, ⟨3, 0, .rw, .mask 11, "SYS_EN"⟩]⟩,
  ⟨"POS_RTCM_HGT", 0x6001C, 0x4, 1, .rw, 0x00000000, 0x0, [⟨15, 0, .rw, .any, "HGT"⟩]⟩,
  ⟨"POS_LOAD", 0x60020, 0x4, 1, .ro, 0x00000000, 0x0, []⟩,
  ⟨"POS_OBS_DROP_COUNT", 0x60024, 0x4, 1, .rc, 0x00000000, 0x0, [⟨31, 0, .rc, .any, ""⟩]⟩,
  ⟨"POS_SKIP_COUNT", 0x60028, 0x4, 1, .rc, 0x00000000, 0x0, [⟨31, 0, .rc, .any, ""⟩]⟩,
  ⟨"POS_FIX_LOSS_COUNT", 0x6002C, 0x4, 1, .rc, 0x00000000, 0x0, [⟨31, 0, .rc, .any, ""⟩]⟩,
  ⟨"POS_SEARCH_ABORT_COUNT", 0x60030, 0x4, 1, .rc, 0x00000000, 0x0, [⟨31, 0, .rc, .any, ""⟩]⟩,
  ⟨"POS_ORBIT_ID", 0x60034, 0x4, 1, .ro, 0x00000000, 0x0, []⟩,
  ⟨"POS_MCFG", 0x61000, 0x4, 128, .rw, 0x00008401, 0x0, [⟨15, 15, .rw, .any, "UWB_EN"⟩, ⟨11, 10, .rw, .any, "PRIO"⟩, ⟨9, 8, .rw, .any, "DYN"⟩, ⟨5, 4, .rw, .any, "MODE"⟩, ⟨1, 0, .rw, .enum 2 2, "RATE"⟩]⟩]
/-- Registers of the block at 0x70000, part 0. -/
def regsBlock14_0 : List RegDesc := [
  ⟨"AIR_STATUS", 0x70000, 0x4, 1, .ro, 0x00000000, 0x0, []⟩,
  ⟨"AIR_CFG", 0x70004, 0x4, 1, .rw, 0x00230004, 0x0, [⟨23, 20, .rw, .num 0 8, "EXTRA_CONT"⟩, ⟨19, 16, .rw, .num 0 7, "RETRY"⟩, ⟨3, 3, .rw, .any, "ADMIT_ALL"⟩, ⟨2, 2, .rw, .any, "HPRF_EN"⟩, ⟨1, 1, .rw, .any, "ASSOC_OPEN"⟩, ⟨0, 0, .rw, .any, "EN"⟩]⟩,
  ⟨"AIR_ADDR_CFG", 0x70008, 0x4, 1, .rw, 0x00010100, 0x0, [⟨31, 16, .rw, .num 1 65534, "SITE"⟩, ⟨15, 0, .rw, .num 1 65406, "BASE"⟩]⟩,
  ⟨"AIR_SLEEP_CFG", 0x7000C, 0x4, 1, .rw, 0x3C28140A, 0x0, [⟨31, 24, .rw, .num 1 255, "SLEEP_MAX"⟩, ⟨23, 16, .rw, .num 10 150, "GUARD_S"⟩, ⟨15, 8, .rw, .num 5 100, "G0"⟩, ⟨7, 0, .rw, .num 1 255, "RESID"⟩]⟩,
  ⟨"AIR_SEC_CFG", 0x70010, 0x4, 1, .rw, 0x00000A10, 0x0, [⟨15, 8, .rw, .num 1 255, "MIC_WIN"⟩, ⟨7, 0, .rw, .any, "MIC_MAX"⟩]⟩,
  ⟨"AIR_SUB_CFG", 0x70014, 0x4, 1, .rw, 0x00000000, 0x0, [⟨1, 1, .rw, .any, "LAN"⟩, ⟨0, 0, .rw, .any, "ROLE"⟩]⟩,
  ⟨"AIR_SFN", 0x70018, 0x4, 1, .ro, 0x00000000, 0x0, []⟩,
  ⟨"AIR_ASSOC_COUNT", 0x7001C, 0x4, 1, .ro, 0x00000000, 0x0, []⟩,
  ⟨"AIR_MIC_FAIL_COUNT", 0x70020, 0x4, 1, .rc, 0x00000000, 0x0, [⟨31, 0, .rc, .any, ""⟩]⟩,
  ⟨"AIR_REFUSE_COUNT", 0x70024, 0x4, 1, .rc, 0x00000000, 0x0, [⟨31, 0, .rc, .any, ""⟩]⟩,
  ⟨"AIR_NOACK_COUNT", 0x70028, 0x4, 1, .rc, 0x00000000, 0x0, [⟨31, 0, .rc, .any, ""⟩]⟩,
  ⟨"AIR_MISS_COUNT", 0x7002C, 0x4, 1, .rc, 0x00000000, 0x0, [⟨31, 0, .rc, .any, ""⟩]⟩,
  ⟨"AIR_COLLIDE_COUNT", 0x70030, 0x4, 1, .rc, 0x00000000, 0x0, [⟨31, 0, .rc, .any, ""⟩]⟩,
  ⟨"AIR_DEFER_COUNT", 0x70034, 0x4, 1, .rc, 0x00000000, 0x0, [⟨31, 0, .rc, .any, ""⟩]⟩,
  ⟨"AIR_EFFECT_DROP_COUNT", 0x70038, 0x4, 1, .rc, 0x00000000, 0x0, [⟨31, 0, .rc, .any, ""⟩]⟩,
  ⟨"AIR_HEAD_CFG", 0x70040, 0x4, 8, .rw, 0x00000209, 0x0, [⟨15, 15, .rw, .any, "EN"⟩, ⟨11, 10, .rw, .any, "REUSE"⟩, ⟨9, 9, .rw, .any, "HPRF"⟩, ⟨8, 8, .rw, .any, "CHAN"⟩, ⟨4, 0, .rw, .num 9 12, "CODE"⟩]⟩]
/-- Registers of the block at 0x70000, part 1. -/
def regsBlock14_1 : List RegDesc := [
  ⟨"AIR_MSTAT", 0x70100, 0x4, 128, .ro, 0x00000000, 0x0, []⟩]
/-- Registers of the block at 0x80000, part 0. -/
def regsBlock16_0 : List RegDesc := [
  ⟨"HDL_STATUS", 0x80000, 0x4, 1, .ro, 0x00000000, 0x0, []⟩,
  ⟨"HDL_CFG", 0x80004, 0x4, 1, .rw, 0x88B57000, 0x0, [⟨31, 16, .rw, .num 1536 65535, "ETYPE"⟩, ⟨15, 15, .rw, .any, "VLAN_EN"⟩, ⟨14, 12, .rw, .any, "PCP"⟩, ⟨11, 0, .rw, .num 0 4094, "VID"⟩]⟩,
  ⟨"HDL_SYNC_CFG", 0x80008, 0x4, 1, .rw, 0x0A0A3203, 0x0, [⟨31, 24, .rw, .num 1 60, "HOLD_MAX"⟩, ⟨23, 16, .rw, .num 2 200, "STEP"⟩, ⟨15, 8, .rw, .num 5 255, "OUTLIER"⟩, ⟨1, 0, .rw, .num 2 3, "HB_LOSS"⟩]⟩,
  ⟨"HDL_LAN_CFG", 0x8000C, 0x4, 1, .rw, 0x00000000, 0x0, [⟨1, 0, .rw, .any, "BCOPY"⟩]⟩,
  ⟨"HDL_HCRC_ERR_COUNT", 0x80010, 0x4, 1, .rc, 0x00000000, 0x0, [⟨31, 0, .rc, .any, ""⟩]⟩,
  ⟨"HDL_MIC_ERR_COUNT", 0x80014, 0x4, 1, .rc, 0x00000000, 0x0, [⟨31, 0, .rc, .any, ""⟩]⟩,
  ⟨"HDL_LATE_COUNT", 0x80018, 0x4, 1, .rc, 0x00000000, 0x0, [⟨31, 0, .rc, .any, ""⟩]⟩,
  ⟨"HDL_OUTLIER_COUNT", 0x8001C, 0x4, 1, .rc, 0x00000000, 0x0, [⟨31, 0, .rc, .any, ""⟩]⟩,
  ⟨"HDL_REFUSE_COUNT", 0x80020, 0x4, 1, .rc, 0x00000000, 0x0, [⟨31, 0, .rc, .any, ""⟩]⟩,
  ⟨"HDL_HEAD_STATUS", 0x81000, 0x40, 8, .mixed, 0x00000000, 0x0, [⟨6, 6, .w1c, .any, "RECALIBRATED"⟩]⟩,
  ⟨"HDL_HEAD_EUI_LO", 0x81004, 0x40, 8, .rw, 0x00000000, 0x0, [⟨31, 0, .rw, .any, "EUI"⟩]⟩,
  ⟨"HDL_HEAD_EUI_HI", 0x81008, 0x40, 8, .rw, 0x00000000, 0x0, [⟨31, 0, .rw, .any, "EUI"⟩]⟩,
  ⟨"HDL_HEAD_CAP", 0x8100C, 0x40, 8, .ro, 0x00000000, 0x0, []⟩,
  ⟨"HDL_HEAD_DELAY", 0x81010, 0x40, 8, .ro, 0x00000000, 0x0, []⟩,
  ⟨"HDL_HEAD_DELAY_UP", 0x81014, 0x40, 8, .ro, 0x00000000, 0x0, []⟩,
  ⟨"HDL_HEAD_ASYM", 0x81018, 0x40, 8, .rw, 0x00000000, 0x0, [⟨31, 0, .rw, .int (-1000000) (1000000), "A"⟩]⟩]
/-- Registers of the block at 0x80000, part 1. -/
def regsBlock16_1 : List RegDesc := [
  ⟨"HDL_HEAD_CTL", 0x8101C, 0x40, 8, .mixed, 0x00000000, 0x0, [⟨1, 1, .rw, .any, "MODE"⟩, ⟨0, 0, .w1s, .any, "RECAL"⟩]⟩,
  ⟨"HDL_HEAD_HB_MISS_COUNT", 0x81020, 0x40, 8, .rc, 0x00000000, 0x0, [⟨31, 0, .rc, .any, ""⟩]⟩]
/-- Registers of the block at 0x90000, part 0. -/
def regsBlock18_0 : List RegDesc := [
  ⟨"AXS_STATUS", 0x90000, 0x4, 1, .ro, 0x00FFF000, 0x0, []⟩,
  ⟨"AXS_FAULT_LO", 0x90004, 0x4, 1, .ro, 0x00000000, 0x0, []⟩,
  ⟨"AXS_FAULT_HI", 0x90008, 0x4, 1, .ro, 0x00000000, 0x0, []⟩,
  ⟨"AXS_BUSY_LO", 0x9000C, 0x4, 1, .ro, 0x00000000, 0x0, []⟩,
  ⟨"AXS_BUSY_HI", 0x90010, 0x4, 1, .ro, 0x00000000, 0x0, []⟩,
  ⟨"AXS_TABLE_FREE", 0x90014, 0x4, 1, .ro, 0x00010000, 0x0, []⟩,
  ⟨"AXS_EVQ_CFG", 0x90018, 0x4, 1, .rw, 0x00000048, 0x0, [⟨6, 6, .rw, .any, "EN"⟩, ⟨5, 0, .rw, .num 1 63, "QUEUE"⟩]⟩,
  ⟨"AXS_DROP_COUNT", 0x9001C, 0x4, 1, .rc, 0x00000000, 0x0, [⟨31, 0, .rc, .any, ""⟩]⟩,
  ⟨"AXS_MASTER_CFG", 0x90020, 0x8, 2, .rw, 0x00000000, 0x0, [⟨31, 31, .rw, .any, "EN"⟩, ⟨5, 0, .rw, .num 0 47, "SRC"⟩]⟩,
  ⟨"AXS_MASTER_MOD", 0x90024, 0x8, 2, .rw, 0x00000000, 0x0, [⟨31, 0, .rw, .any, "MOD"⟩]⟩,
  ⟨"AXS_MASTER_POS", 0x90030, 0x4, 2, .ro, 0x00000000, 0x0, []⟩,
  ⟨"AXS_GRP_MASK_LO", 0x90040, 0x8, 8, .rw, 0x00000000, 0x0, [⟨31, 0, .rw, .any, "MASK"⟩]⟩,
  ⟨"AXS_GRP_MASK_HI", 0x90044, 0x8, 8, .rw, 0x00000000, 0x0, [⟨15, 0, .rw, .any, "MASK"⟩]⟩,
  ⟨"AXS_TBL_INFO", 0x90100, 0x4, 256, .ro, 0x00000000, 0x0, []⟩,
  ⟨"AXS_AX_CFG", 0x91000, 0x80, 48, .rw, 0x00030100, 0x0, [⟨18, 16, .rw, .num 0 5, "SAMPLE"⟩, ⟨12, 12, .rw, .any, "MASTER"⟩, ⟨8, 8, .rw, .any, "HOME_REQ"⟩, ⟨5, 4, .rw, .enum 2 0, "SP_MODE"⟩, ⟨3, 0, .rw, .enum 3 0, "MODE"⟩]⟩,
  ⟨"AXS_AX_VMAX", 0x91004, 0x80, 48, .rw, 0x00002710, 0x0, [⟨31, 0, .rw, .num 1 20000000, "VMAX"⟩]⟩]
/-- Registers of the block at 0x90000, part 1. -/
def regsBlock18_1 : List RegDesc := [
  ⟨"AXS_AX_ACC", 0x91008, 0x80, 48, .rw, 0x000186A0, 0x0, [⟨31, 0, .rw, .num 1 2000000000, "ACC"⟩]⟩,
  ⟨"AXS_AX_DEC", 0x9100C, 0x80, 48, .rw, 0x000186A0, 0x0, [⟨31, 0, .rw, .num 1 2000000000, "DEC"⟩]⟩,
  ⟨"AXS_AX_JERK", 0x91010, 0x80, 48, .rw, 0x00000000, 0x0, [⟨31, 0, .rw, .any, "JERK"⟩]⟩,
  ⟨"AXS_AX_LIM_DEC", 0x91014, 0x80, 48, .rw, 0x000F4240, 0x0, [⟨31, 0, .rw, .num 1 2000000000, "LIM_DEC"⟩]⟩,
  ⟨"AXS_AX_STOP_DEC", 0x91018, 0x80, 48, .rw, 0x000F4240, 0x0, [⟨31, 0, .rw, .num 1 2000000000, "STOP_DEC"⟩]⟩,
  ⟨"AXS_AX_SOFT_MIN", 0x9101C, 0x80, 48, .rw, 0x80000001, 0x0, [⟨31, 0, .rw, .int (-2147483647) (2147483647), "SOFT_MIN"⟩]⟩,
  ⟨"AXS_AX_SOFT_MAX", 0x91020, 0x80, 48, .rw, 0x7FFFFFFF, 0x0, [⟨31, 0, .rw, .int (-2147483647) (2147483647), "SOFT_MAX"⟩]⟩,
  ⟨"AXS_AX_IO_CFG", 0x91024, 0x80, 48, .rw, 0x08286859, 0x0, [⟨31, 24, .rw, .num 5 255, "STEP_W"⟩, ⟨23, 16, .rw, .num 4 255, "DIR_SU"⟩, ⟨15, 14, .rw, .any, "ENC"⟩, ⟨13, 12, .rw, .any, "SSI_CLK"⟩, ⟨11, 11, .rw, .any, "SSI_GRAY"⟩, ⟨10, 10, .rw, .any, "ENC_INV"⟩, ⟨9, 9, .rw, .any, "DIR_INV"⟩, ⟨7, 6, .rw, .any, "PWM_F"⟩, ⟨5, 0, .rw, .num 10 32, "SSI_BITS"⟩]⟩,
  ⟨"AXS_AX_IN_CFG", 0x91028, 0x80, 48, .rw, 0x0664321F, 0x0, [⟨31, 24, .rw, .num 2 255, "CHAT_N"⟩, ⟨23, 16, .rw, .num 1 255, "CHAT_WIN"⟩, ⟨15, 8, .rw, .any, "FILT"⟩, ⟨5, 5, .rw, .any, "HOME_POL"⟩, ⟨4, 4, .rw, .any, "LIMN_POL"⟩, ⟨3, 3, .rw, .any, "LIMP_POL"⟩, ⟨2, 2, .rw, .any, "HOME_EN"⟩, ⟨1, 1, .rw, .any, "LIMN_EN"⟩, ⟨0, 0, .rw, .any, "LIMP_EN"⟩]⟩,
  ⟨"AXS_AX_HOME_VFAST", 0x9102C, 0x80, 48, .rw, 0x00001388, 0x0, [⟨31, 0, .rw, .num 1 20000000, "V"⟩]⟩,
  ⟨"AXS_AX_HOME_VSLOW", 0x91030, 0x80, 48, .rw, 0x000001F4, 0x0, [⟨31, 0, .rw, .num 1 20000000, "V"⟩]⟩,
  ⟨"AXS_AX_HOME_LOCKOUT", 0x91034, 0x80, 48, .rw, 0x000003E8, 0x0, [⟨31, 0, .rw, .any, "L"⟩]⟩,
  ⟨"AXS_AX_HOME_SEARCH", 0x91038, 0x80, 48, .rw, 0x000F4240, 0x0, [⟨31, 0, .rw, .any, "S"⟩]⟩,
  ⟨"AXS_AX_HOME_OFFSET", 0x9103C, 0x80, 48, .rw, 0x00000000, 0x0, [⟨31, 0, .rw, .any, "O"⟩]⟩,
  ⟨"AXS_AX_INPOS", 0x91040, 0x80, 48, .rw, 0x0004000A, 0x0, [⟨31, 16, .rw, .num 1 1000, "INPOS_T"⟩, ⟨15, 0, .rw, .any, "INPOS"⟩]⟩,
  ⟨"AXS_AX_GEAR_RAMP", 0x91044, 0x80, 48, .rw, 0x00000000, 0x0, [⟨31, 0, .rw, .any, "L"⟩]⟩]
/-- Registers of the block at 0x90000, part 2. -/
def regsBlock18_2 : List RegDesc := [
  ⟨"AXS_AX_SP_SCALE", 0x91048, 0x80, 48, .rw, 0x00010001, 0x0, [⟨31, 0, .rw, .any, "SCALE"⟩]⟩,
  ⟨"AXS_AX_STEP_RATIO", 0x9104C, 0x80, 48, .rw, 0x00010001, 0x0, [⟨31, 16, .rw, .num 1 65535, "NUM"⟩, ⟨15, 0, .rw, .num 1 65535, "DEN"⟩]⟩,
  ⟨"AXS_AX_STATUS", 0x91060, 0x80, 48, .ro, 0x00000000, 0x0, []⟩,
  ⟨"AXS_AX_POS", 0x91064, 0x80, 48, .ro, 0x00000000, 0x0, []⟩,
  ⟨"AXS_AX_SETPOINT", 0x91068, 0x80, 48, .ro, 0x00000000, 0x0, []⟩,
  ⟨"AXS_AX_TURN", 0x9106C, 0x80, 48, .ro, 0x00000000, 0x0, []⟩,
  ⟨"AXS_AX_LATCH", 0x91070, 0x80, 48, .ro, 0x00000000, 0x0, []⟩,
  ⟨"AXS_AX_WIRE", 0x91074, 0x80, 48, .mixed, 0x00000000, 0x0, [⟨6, 6, .w1c, .any, "OUT_FAULT"⟩, ⟨5, 5, .w1c, .any, "SSI_ERR"⟩, ⟨4, 4, .w1c, .any, "QUAD_ERR"⟩, ⟨3, 3, .w1c, .any, "Z_OPEN"⟩, ⟨2, 2, .w1c, .any, "B_OPEN"⟩, ⟨1, 1, .w1c, .any, "A_OPEN"⟩]⟩,
  ⟨"AXS_AX_CHAT_COUNT", 0x91078, 0x80, 48, .rc, 0x00000000, 0x0, [⟨31, 0, .rc, .any, ""⟩]⟩,
  ⟨"AXS_AX_QERR_COUNT", 0x9107C, 0x80, 48, .rc, 0x00000000, 0x0, [⟨31, 0, .rc, .any, ""⟩]⟩]
/-- Registers of the block at 0xA0000, part 0. -/
def regsBlock20_0 : List RegDesc := [
  ⟨"CTL_STATUS", 0xA0000, 0x4, 1, .ro, 0x00000000, 0x0, []⟩,
  ⟨"CTL_WRAP_LO", 0xA0004, 0x4, 1, .w1c, 0x00000000, 0x0, [⟨31, 0, .w1c, .any, "FLAGS"⟩]⟩,
  ⟨"CTL_WRAP_HI", 0xA0008, 0x4, 1, .w1c, 0x00000000, 0x0, [⟨15, 0, .w1c, .any, "FLAGS"⟩]⟩,
  ⟨"CTL_OVR_LO", 0xA000C, 0x4, 1, .w1c, 0x00000000, 0x0, [⟨31, 0, .w1c, .any, "FLAGS"⟩]⟩,
  ⟨"CTL_OVR_HI", 0xA0010, 0x4, 1, .w1c, 0x00000000, 0x0, [⟨15, 0, .w1c, .any, "FLAGS"⟩]⟩,
  ⟨"CTL_LOAD_PEAK", 0xA0014, 0x4, 1, .rc, 0x00000000, 0x0, [⟨7, 0, .rc, .any, "PEAK"⟩]⟩,
  ⟨"CTL_AX_CFG", 0xA1000, 0x80, 48, .rw, 0x00000030, 0x0, [⟨8, 8, .w1s, .any, "APPLY"⟩, ⟨5, 5, .rw, .any, "FE_REACT"⟩, ⟨4, 4, .rw, .any, "BOOST_EN"⟩, ⟨3, 3, .rw, .any, "OUT_INV"⟩, ⟨1, 0, .rw, .any, "BQ_EN"⟩]⟩,
  ⟨"CTL_AX_KP", 0xA1004, 0x80, 48, .rw, 0x00000000, 0x0, [⟨31, 0, .rw, .fp 0x00000000 0x4E6E6B28, "KP"⟩]⟩,
  ⟨"CTL_AX_KI", 0xA1008, 0x80, 48, .rw, 0x00000000, 0x0, [⟨31, 0, .rw, .fp 0x00000000 0x4E6E6B28, "KI"⟩]⟩,
  ⟨"CTL_AX_KD", 0xA100C, 0x80, 48, .rw, 0x00000000, 0x0, [⟨31, 0, .rw, .fp 0x00000000 0x4E6E6B28, "KD"⟩]⟩,
  ⟨"CTL_AX_KVFF", 0xA1010, 0x80, 48, .rw, 0x00000000, 0x0, [⟨31, 0, .rw, .fp 0x00000000 0x4E6E6B28, "KVFF"⟩]⟩,
  ⟨"CTL_AX_KAFF", 0xA1014, 0x80, 48, .rw, 0x00000000, 0x0, [⟨31, 0, .rw, .fp 0x00000000 0x4E6E6B28, "KAFF"⟩]⟩,
  ⟨"CTL_AX_OUT_MAX", 0xA1018, 0x80, 48, .rw, 0x000003E8, 0x0, [⟨15, 0, .rw, .num 1 65535, "OUT_MAX"⟩]⟩,
  ⟨"CTL_AX_BQ0_B0", 0xA101C, 0x80, 48, .rw, 0x3F800000, 0x0, [⟨31, 0, .rw, .fp 0xC1800000 0x41800000, "B0"⟩]⟩,
  ⟨"CTL_AX_BQ0_B1", 0xA1020, 0x80, 48, .rw, 0x00000000, 0x0, [⟨31, 0, .rw, .fp 0xC1800000 0x41800000, "B1"⟩]⟩,
  ⟨"CTL_AX_BQ0_B2", 0xA1024, 0x80, 48, .rw, 0x00000000, 0x0, [⟨31, 0, .rw, .fp 0xC1800000 0x41800000, "B2"⟩]⟩]
/-- Registers of the block at 0xA0000, part 1. -/
def regsBlock20_1 : List RegDesc := [
  ⟨"CTL_AX_BQ0_A1", 0xA1028, 0x80, 48, .rw, 0x00000000, 0x0, [⟨31, 0, .rw, .fp 0xBFFFDF3B 0x3FFFDF3B, "A1"⟩]⟩,
  ⟨"CTL_AX_BQ0_A2", 0xA102C, 0x80, 48, .rw, 0x00000000, 0x0, [⟨31, 0, .rw, .fp 0xBF7FBE77 0x3F7FBE77, "A2"⟩]⟩,
  ⟨"CTL_AX_BQ1_B0", 0xA1030, 0x80, 48, .rw, 0x3F800000, 0x0, [⟨31, 0, .rw, .fp 0xC1800000 0x41800000, "B0"⟩]⟩,
  ⟨"CTL_AX_BQ1_B1", 0xA1034, 0x80, 48, .rw, 0x00000000, 0x0, [⟨31, 0, .rw, .fp 0xC1800000 0x41800000, "B1"⟩]⟩,
  ⟨"CTL_AX_BQ1_B2", 0xA1038, 0x80, 48, .rw, 0x00000000, 0x0, [⟨31, 0, .rw, .fp 0xC1800000 0x41800000, "B2"⟩]⟩,
  ⟨"CTL_AX_BQ1_A1", 0xA103C, 0x80, 48, .rw, 0x00000000, 0x0, [⟨31, 0, .rw, .fp 0xBFFFDF3B 0x3FFFDF3B, "A1"⟩]⟩,
  ⟨"CTL_AX_BQ1_A2", 0xA1040, 0x80, 48, .rw, 0x00000000, 0x0, [⟨31, 0, .rw, .fp 0xBF7FBE77 0x3F7FBE77, "A2"⟩]⟩,
  ⟨"CTL_AX_FE_LIM", 0xA1044, 0x80, 48, .rw, 0x000003E8, 0x0, [⟨31, 0, .rw, .num 1 2147483647, "FE_LIM"⟩]⟩,
  ⟨"CTL_AX_TIMERS", 0xA1048, 0x80, 48, .rw, 0x00640032, 0x0, [⟨31, 16, .rw, .num 1 10000, "FE_T"⟩, ⟨15, 0, .rw, .num 1 10000, "STALL_T"⟩]⟩,
  ⟨"CTL_AX_CUR_CFG", 0xA104C, 0x80, 48, .rw, 0x0BB805DC, 0x0, [⟨31, 16, .rw, .num 0 10000, "I_RUN"⟩, ⟨15, 0, .rw, .num 0 10000, "I_HOLD"⟩]⟩,
  ⟨"CTL_AX_BOOST_CFG", 0xA1050, 0x80, 48, .rw, 0x17700A02, 0x0, [⟨31, 16, .rw, .num 0 10000, "I_MAX"⟩, ⟨15, 8, .rw, .num 1 255, "UP"⟩, ⟨7, 0, .rw, .num 1 255, "DN"⟩]⟩,
  ⟨"CTL_AX_BOOST_E", 0xA1054, 0x80, 48, .rw, 0x00000064, 0x0, [⟨31, 0, .rw, .num 0 2147483647, "BOOST_E"⟩]⟩,
  ⟨"CTL_AX_SP_CFG", 0xA1058, 0x80, 48, .rw, 0x00000002, 0x0, [⟨31, 16, .rw, .int (-1000) (1000), "OFFSET"⟩, ⟨15, 8, .rw, .any, "DEADBAND"⟩, ⟨7, 4, .rw, .enum 8 8, "FILT"⟩, ⟨3, 0, .rw, .any, "PGLITCH"⟩]⟩,
  ⟨"CTL_AX_HOLD_DLY", 0xA105C, 0x80, 48, .rw, 0x000000C8, 0x0, [⟨15, 0, .rw, .num 0 10000, "HOLD_DLY"⟩]⟩,
  ⟨"CTL_AX_STATUS", 0xA1060, 0x80, 48, .ro, 0x00000000, 0x0, []⟩,
  ⟨"CTL_AX_FE", 0xA1064, 0x80, 48, .ro, 0x00000000, 0x0, []⟩]
/-- Registers of the block at 0xA0000, part 2. -/
def regsBlock20_2 : List RegDesc := [
  ⟨"CTL_AX_IREF", 0xA1068, 0x80, 48, .ro, 0x00000000, 0x0, []⟩,
  ⟨"CTL_AX_INTEG_LO", 0xA106C, 0x80, 48, .ro, 0x00000000, 0x0, []⟩,
  ⟨"CTL_AX_INTEG_HI", 0xA1070, 0x80, 48, .ro, 0x00000000, 0x0, []⟩,
  ⟨"CTL_AX_WRAP_COUNT", 0xA1074, 0x80, 48, .rc, 0x00000000, 0x0, [⟨31, 0, .rc, .any, ""⟩]⟩,
  ⟨"CTL_AX_OVR_COUNT", 0xA1078, 0x80, 48, .rc, 0x00000000, 0x0, [⟨31, 0, .rc, .any, ""⟩]⟩,
  ⟨"CTL_AX_SP_IN", 0xA107C, 0x80, 48, .ro, 0x00000000, 0x0, []⟩]
/-- Registers of the block at 0xB0000, part 0. -/
def regsBlock22_0 : List RegDesc := [
  ⟨"INV_STATUS", 0xB0000, 0x4, 1, .ro, 0x00000000, 0x0, []⟩,
  ⟨"INV_TIME_SEC_LO", 0xB0004, 0x4, 1, .ro, 0x00000000, 0x0, []⟩,
  ⟨"INV_TIME_SEC_HI", 0xB0008, 0x4, 1, .ro, 0x00000000, 0x0, []⟩,
  ⟨"INV_TIME_NS", 0xB000C, 0x4, 1, .ro, 0x00000000, 0x0, []⟩,
  ⟨"INV_TIME_FRAC", 0xB0010, 0x4, 1, .ro, 0x00000000, 0x0, []⟩,
  ⟨"INV_INC_LO", 0xB0014, 0x4, 1, .rw, 0x00000000, 0x0, [⟨31, 0, .rw, .any, "INC"⟩]⟩,
  ⟨"INV_INC_HI", 0xB0018, 0x4, 1, .rw, 0x00000002, 0x0, [⟨1, 0, .rw, .any, "INC"⟩]⟩,
  ⟨"INV_UTC_OFF_LO", 0xB001C, 0x4, 1, .rw, 0x00000000, 0x0, [⟨31, 0, .rw, .any, "U"⟩]⟩,
  ⟨"INV_UTC_OFF_HI", 0xB0020, 0x4, 1, .rw, 0x00000000, 0x0, [⟨31, 0, .rw, .any, "U"⟩]⟩,
  ⟨"INV_REF_CFG", 0xB0024, 0x4, 1, .rw, 0x03000001, 0x0, [⟨31, 24, .rw, .num 1 60, "REF_LOSS"⟩, ⟨8, 8, .rw, .any, "HOST_PORT"⟩, ⟨2, 2, .rw, .any, "HOST_EN"⟩, ⟨1, 1, .rw, .any, "PPS_EN"⟩, ⟨0, 0, .rw, .any, "GNSS_EN"⟩]⟩,
  ⟨"INV_PPS_IN_DLY", 0xB0028, 0x4, 1, .rw, 0x00000000, 0x0, [⟨31, 0, .rw, .int (0) (1000000), "DLY"⟩]⟩,
  ⟨"INV_PPS_CFG", 0xB002C, 0x4, 1, .rw, 0x80640000, 0x0, [⟨31, 31, .rw, .any, "OUT_EN"⟩, ⟨30, 30, .rw, .any, "OUT_POL"⟩, ⟨29, 29, .rw, .any, "IN_POL"⟩, ⟨23, 16, .rw, .num 1 200, "OUT_WIDTH"⟩, ⟨15, 0, .rw, .num 0 50000, "OUT_COMP"⟩]⟩,
  ⟨"INV_TQ_CFG", 0xB0030, 0x4, 1, .rw, 0x00000064, 0x0, [⟨15, 0, .rw, .num 1 65535, "OFF_MAX"⟩]⟩,
  ⟨"INV_HOLD_CFG", 0xB0034, 0x4, 1, .rw, 0x00640064, 0x0, [⟨31, 16, .rw, .num 1 10000, "K"⟩, ⟨15, 0, .rw, .num 1 65535, "BUDGET"⟩]⟩,
  ⟨"INV_OFFSET_LO", 0xB0038, 0x4, 1, .ro, 0x00000000, 0x0, []⟩,
  ⟨"INV_OFFSET_HI", 0xB003C, 0x4, 1, .ro, 0x00000000, 0x0, []⟩]
/-- Registers of the block at 0xB0000, part 1. -/
def regsBlock22_1 : List RegDesc := [
  ⟨"INV_PPS_IN_OFF", 0xB0040, 0x4, 1, .ro, 0x00000000, 0x0, []⟩,
  ⟨"INV_HOST_OFF", 0xB0044, 0x4, 1, .rw, 0x00000000, 0x0, [⟨31, 0, .rw, .int (-2000000000) (2000000000), "OFF"⟩]⟩,
  ⟨"INV_HOLD_ERR", 0xB0048, 0x4, 1, .ro, 0x00000000, 0x0, []⟩,
  ⟨"INV_EVQ_CFG", 0xB004C, 0x4, 1, .rw, 0x00000109, 0x0, [⟨8, 8, .rw, .any, "EN"⟩, ⟨5, 0, .rw, .num 1 63, "QUEUE"⟩]⟩,
  ⟨"INV_CMP_NOW", 0xB0050, 0x4, 1, .ro, 0x00000000, 0x0, []⟩,
  ⟨"INV_CMP_LATE_COUNT", 0xB0054, 0x4, 1, .rc, 0x00000000, 0x0, [⟨31, 0, .rc, .any, ""⟩]⟩,
  ⟨"INV_LAN_DROP_COUNT", 0xB0058, 0x4, 1, .rc, 0x00000000, 0x0, [⟨31, 0, .rc, .any, ""⟩]⟩,
  ⟨"INV_UTC_LO", 0xB005C, 0x4, 1, .ro, 0x00000000, 0x0, []⟩,
  ⟨"INV_LAN_CFG", 0xB0060, 0x20, 2, .mixed, 0x08320000, 0x0, [⟨31, 31, .rw, .any, "EN"⟩, ⟨30, 30, .w1s, .any, "RECAL"⟩, ⟨29, 24, .rw, .num 1 60, "INTERVAL"⟩, ⟨23, 16, .rw, .num 2 255, "STEP"⟩, ⟨15, 8, .rw, .any, "DOMAIN"⟩, ⟨0, 0, .rw, .any, "MECH"⟩]⟩,
  ⟨"INV_LAN_PARENT_LO", 0xB0064, 0x20, 2, .rw, 0x00000000, 0x0, [⟨31, 0, .rw, .any, "ID"⟩]⟩,
  ⟨"INV_LAN_PARENT_HI", 0xB0068, 0x20, 2, .rw, 0x00000000, 0x0, [⟨31, 0, .rw, .any, "ID"⟩]⟩,
  ⟨"INV_LAN_PPORT", 0xB006C, 0x20, 2, .rw, 0x00000000, 0x0, [⟨15, 0, .rw, .any, "PORT"⟩]⟩,
  ⟨"INV_LAN_MPD", 0xB0070, 0x20, 2, .ro, 0x00000000, 0x0, []⟩,
  ⟨"INV_UTC_HI", 0xB00A0, 0x4, 1, .ro, 0x00000000, 0x0, []⟩,
  ⟨"INV_CMP_CFG", 0xB0100, 0x10, 32, .mixed, 0x00000000, 0x0, [⟨31, 31, .w1s, .any, "ARM"⟩, ⟨8, 8, .rw, .any, "OWNER"⟩, ⟨1, 0, .rw, .enum 2 2, "MODE"⟩]⟩,
  ⟨"INV_CMP_TIME", 0xB0104, 0x10, 32, .rw, 0x00000000, 0x0, [⟨31, 0, .rw, .any, "TIME"⟩]⟩]
/-- Registers of the block at 0xB0000, part 2. -/
def regsBlock22_2 : List RegDesc := [
  ⟨"INV_CMP_PERIOD", 0xB0108, 0x10, 32, .rw, 0x0007A120, 0x0, [⟨31, 0, .rw, .num 500 2147483647, "PERIOD"⟩]⟩,
  ⟨"INV_CMP_STATUS", 0xB010C, 0x10, 32, .ro, 0x00000000, 0x0, []⟩]
/-- Registers of the block at 0xC0000, part 0. -/
def regsBlock24_0 : List RegDesc := [
  ⟨"QUE_STATUS", 0xC0000, 0x4, 1, .ro, 0x00000000, 0x0, []⟩,
  ⟨"QUE_RD_CTL", 0xC0004, 0x4, 1, .wo, 0x00000000, 0x0, [⟨5, 0, .wo, .any, "QUEUE"⟩]⟩,
  ⟨"QUE_RD_HDR", 0xC0008, 0x4, 1, .ro, 0x00000000, 0x0, []⟩,
  ⟨"QUE_RD_SEQ", 0xC000C, 0x4, 1, .ro, 0x00000000, 0x0, []⟩,
  ⟨"QUE_PTR_ERR_COUNT", 0xC0010, 0x4, 1, .rc, 0x00000000, 0x0, [⟨31, 0, .rc, .any, ""⟩]⟩,
  ⟨"QUE_VOID_COUNT", 0xC0014, 0x4, 1, .rc, 0x00000000, 0x0, [⟨31, 0, .rc, .any, ""⟩]⟩,
  ⟨"QUE_Q_CFG", 0xC0100, 0x10, 64, .rw, 0x80000004, 0x40000, [⟨31, 31, .rw, .any, "EN"⟩, ⟨23, 16, .rw, .any, "BASE"⟩, ⟨6, 0, .rw, .num 1 64, "SIZE"⟩]⟩,
  ⟨"QUE_Q_STATUS", 0xC0104, 0x10, 64, .ro, 0x00000000, 0x0, []⟩,
  ⟨"QUE_Q_LOST_COUNT", 0xC0108, 0x10, 64, .rc, 0x00000000, 0x0, [⟨31, 0, .rc, .any, ""⟩]⟩,
  ⟨"QUE_Q_SEQ", 0xC010C, 0x10, 64, .ro, 0x00000000, 0x0, []⟩,
  ⟨"QUE_RD_BUF", 0xC1000, 0x4, 1024, .ro, 0x00000000, 0x0, []⟩]
/-- Registers of the block at 0xC8000, part 0. -/
def regsBlock25_0 : List RegDesc := [
  ⟨"MEM_STATUS", 0xC8000, 0x4, 1, .ro, 0x00000000, 0x0, []⟩,
  ⟨"MEM_CONFLICT_COUNT", 0xC8004, 0x4, 1, .rc, 0x00000000, 0x0, [⟨31, 0, .rc, .any, ""⟩]⟩,
  ⟨"MEM_VIOL_COUNT", 0xC8008, 0x4, 1, .rc, 0x00000000, 0x0, [⟨31, 0, .rc, .any, ""⟩]⟩,
  ⟨"MEM_ECC_CORR_COUNT", 0xC800C, 0x4, 1, .rc, 0x00000000, 0x0, [⟨31, 0, .rc, .any, ""⟩]⟩,
  ⟨"MEM_ECC_UNCORR_COUNT", 0xC8010, 0x4, 1, .rc, 0x00000000, 0x0, [⟨31, 0, .rc, .any, ""⟩]⟩,
  ⟨"MEM_FABRIC_RETRY_COUNT", 0xC8014, 0x4, 1, .rc, 0x00000000, 0x0, [⟨31, 0, .rc, .any, ""⟩]⟩,
  ⟨"MEM_FABRIC_FAIL_COUNT", 0xC8018, 0x4, 1, .rc, 0x00000000, 0x0, [⟨31, 0, .rc, .any, ""⟩]⟩,
  ⟨"MEM_MRAM_REREAD_COUNT", 0xC801C, 0x4, 1, .rc, 0x00000000, 0x0, [⟨31, 0, .rc, .any, ""⟩]⟩,
  ⟨"MEM_MRAM_BAD_COUNT", 0xC8020, 0x4, 1, .rc, 0x00000000, 0x0, [⟨31, 0, .rc, .any, ""⟩]⟩,
  ⟨"MEM_LAST_ERR", 0xC8024, 0x4, 1, .ro, 0x00000000, 0x0, []⟩,
  ⟨"MEM_BANK_STATUS", 0xC8040, 0x4, 16, .ro, 0x00000000, 0x0, []⟩,
  ⟨"MEM_RGN_LO", 0xC8100, 0x8, 48, .rw, 0x00000000, 0x0, [⟨12, 0, .rw, .num 0 6143, "BASE"⟩]⟩,
  ⟨"MEM_RGN_HI", 0xC8104, 0x8, 48, .rw, 0x00000000, 0x0, [⟨31, 31, .rw, .any, "R"⟩, ⟨30, 30, .rw, .any, "W"⟩, ⟨12, 0, .rw, .num 0 6143, "LAST"⟩]⟩]
/-- Registers of the block at 0xD0000, part 0. -/
def regsBlock26_0 : List RegDesc := [
  ⟨"KEY_STATUS", 0xD0000, 0x4, 1, .ro, 0x00000010, 0x0, []⟩,
  ⟨"KEY_LC", 0xD0004, 0x4, 1, .ro, 0x00000000, 0x0, []⟩,
  ⟨"KEY_STORE_STATUS", 0xD0008, 0x4, 1, .ro, 0x00000000, 0x0, []⟩,
  ⟨"KEY_STORE_GEN", 0xD000C, 0x4, 1, .ro, 0x00000000, 0x0, []⟩,
  ⟨"KEY_STORE_MASK", 0xD0010, 0x4, 1, .ro, 0x00000000, 0x0, []⟩,
  ⟨"KEY_CACHE_USED", 0xD0014, 0x4, 1, .ro, 0x00000000, 0x0, []⟩,
  ⟨"KEY_OP_COUNT", 0xD0018, 0x4, 1, .rc, 0x00000000, 0x0, [⟨31, 0, .rc, .any, ""⟩]⟩,
  ⟨"KEY_ATTR_COUNT", 0xD001C, 0x4, 1, .rc, 0x00000000, 0x0, [⟨31, 0, .rc, .any, ""⟩]⟩,
  ⟨"KEY_AUTH_FAIL_COUNT", 0xD0020, 0x4, 1, .rc, 0x00000000, 0x0, [⟨31, 0, .rc, .any, ""⟩]⟩]
/-- Registers of the block at 0xD8000, part 0. -/
def regsBlock27_0 : List RegDesc := [
  ⟨"TMP_STATUS", 0xD8000, 0x4, 1, .ro, 0x00000000, 0x0, []⟩,
  ⟨"TMP_CFG", 0xD8004, 0x4, 1, .rw, 0x64000021, 0x0, [⟨31, 24, .rw, .num 20 255, "AIR_HOLD"⟩, ⟨13, 8, .rw, .any, "ERASE"⟩, ⟨5, 0, .rw, .any, "EN"⟩]⟩,
  ⟨"TMP_EXT_CFG", 0xD8008, 0x4, 1, .rw, 0x00002222, 0x0, [⟨19, 16, .rw, .any, "POL"⟩, ⟨15, 12, .rw, .num 1 15, "FILT3"⟩, ⟨11, 8, .rw, .num 1 15, "FILT2"⟩, ⟨7, 4, .rw, .num 1 15, "FILT1"⟩, ⟨3, 0, .rw, .num 1 15, "FILT0"⟩]⟩,
  ⟨"TMP_FIRST", 0xD800C, 0x4, 1, .ro, 0x00000007, 0x0, []⟩,
  ⟨"TMP_COUNT", 0xD8010, 0x4, 1, .ro, 0x00000000, 0x0, []⟩]
/-- Registers of the block at 0xE0000, part 0. -/
def regsBlock28_0 : List RegDesc := [
  ⟨"EVR_STATUS", 0xE0000, 0x4, 1, .ro, 0x00000000, 0x0, []⟩,
  ⟨"EVR_NEXT_LO", 0xE0004, 0x4, 1, .ro, 0x00000000, 0x0, []⟩,
  ⟨"EVR_NEXT_HI", 0xE0008, 0x4, 1, .ro, 0x00000000, 0x0, []⟩,
  ⟨"EVR_OLDEST_LO", 0xE000C, 0x4, 1, .ro, 0x00000000, 0x0, []⟩,
  ⟨"EVR_OLDEST_HI", 0xE0010, 0x4, 1, .ro, 0x00000000, 0x0, []⟩,
  ⟨"EVR_PERM_COUNT", 0xE0014, 0x4, 1, .ro, 0x00000000, 0x0, []⟩,
  ⟨"EVR_STAGED", 0xE0018, 0x4, 1, .ro, 0x00000000, 0x0, []⟩,
  ⟨"EVR_DROP_COUNT", 0xE001C, 0x4, 1, .rc, 0x00000000, 0x0, [⟨31, 0, .rc, .any, ""⟩]⟩,
  ⟨"EVR_BAD_COUNT", 0xE0020, 0x4, 1, .rc, 0x00000000, 0x0, [⟨31, 0, .rc, .any, ""⟩]⟩,
  ⟨"EVR_AUTH_FAIL_COUNT", 0xE0024, 0x4, 1, .rc, 0x00000000, 0x0, [⟨31, 0, .rc, .any, ""⟩]⟩]
/-- Registers of the block at 0xF0000, part 0. -/
def regsBlock30_0 : List RegDesc := [
  ⟨"MON_STATUS", 0xF0000, 0x4, 1, .ro, 0x00000000, 0x0, []⟩,
  ⟨"MON_VCORE", 0xF0004, 0x4, 1, .ro, 0x00000000, 0x0, []⟩,
  ⟨"MON_VIO", 0xF0008, 0x4, 1, .ro, 0x00000000, 0x0, []⟩,
  ⟨"MON_VANA", 0xF000C, 0x4, 1, .ro, 0x00000000, 0x0, []⟩,
  ⟨"MON_VFIELD", 0xF0010, 0x4, 2, .ro, 0x00000000, 0x0, []⟩,
  ⟨"MON_FGND", 0xF0018, 0x4, 2, .ro, 0x00000000, 0x0, []⟩,
  ⟨"MON_IFIELD", 0xF0020, 0x4, 2, .ro, 0x00000000, 0x0, []⟩,
  ⟨"MON_TEMP_DIG", 0xF0028, 0x4, 1, .ro, 0x00000000, 0x0, []⟩,
  ⟨"MON_TEMP_RF", 0xF002C, 0x4, 1, .ro, 0x00000000, 0x0, []⟩,
  ⟨"MON_TEMP_FIO", 0xF0030, 0x4, 2, .ro, 0x00000000, 0x0, []⟩,
  ⟨"MON_TEMP_PEAK", 0xF0038, 0x4, 1, .rc, 0x00000000, 0x0, [⟨31, 16, .rc, .any, "LOW"⟩, ⟨15, 0, .rc, .any, "HIGH"⟩]⟩,
  ⟨"MON_TEMP_WARN", 0xF003C, 0x4, 1, .rw, 0x0000041A, 0x0, [⟨15, 0, .rw, .int (0) (1250), "WARN"⟩]⟩,
  ⟨"MON_SURVEY", 0xF0040, 0x4, 1, .ro, 0x00000000, 0x0, []⟩,
  ⟨"MON_SURVEY_SEQ", 0xF0044, 0x4, 1, .ro, 0x00000000, 0x0, []⟩]

/-- The registers of the half block that holds a BAR0 offset (R513: 16 blocks of 64 KiB, two of them
shared by two units). -/
def regsAt (off : Nat) : List RegDesc :=
  match off / 0x8000 with
  | 0 => regsBlock00_0
  | 2 => regsBlock02_0 ++ regsBlock02_1
  | 4 => regsBlock04_0
  | 6 => regsBlock06_0
  | 8 => regsBlock08_0 ++ regsBlock08_1
  | 10 => regsBlock10_0 ++ regsBlock10_1
  | 12 => regsBlock12_0
  | 14 => regsBlock14_0 ++ regsBlock14_1
  | 16 => regsBlock16_0 ++ regsBlock16_1
  | 18 => regsBlock18_0 ++ regsBlock18_1 ++ regsBlock18_2
  | 20 => regsBlock20_0 ++ regsBlock20_1 ++ regsBlock20_2
  | 22 => regsBlock22_0 ++ regsBlock22_1 ++ regsBlock22_2
  | 24 => regsBlock24_0
  | 25 => regsBlock25_0
  | 26 => regsBlock26_0
  | 27 => regsBlock27_0
  | 28 => regsBlock28_0
  | 30 => regsBlock30_0
  | _ => []

/-- The register an offset names, with its index, if its block defines one there (R514). -/
def RegDesc.hit (d : RegDesc) (off : Nat) : Option Nat :=
  if d.base ≤ off ∧ (off - d.base) % d.stride = 0 ∧ (off - d.base) / d.stride < d.count
  then some ((off - d.base) / d.stride) else none

/-- The first register of a list that an offset names. -/
def findReg (ds : List RegDesc) (off : Nat) : Option (RegDesc × Nat) :=
  match ds with
  | [] => none
  | d :: rest =>
    match d.hit off with
    | some i => some (d, i)
    | none => findReg rest off

/-- The register at a BAR0 offset. -/
def regDescAt (off : Nat) : Option (RegDesc × Nat) := findReg (regsAt off) off

/-- The start-up layout of the MEM regions (R443), as (first page, last page, read, write) of master
`m`, region `r`: region 0 is the part the master alone writes, region 1 its share of the fabric
buffers, regions 2 and 3 what it may only read or writes elsewhere.  DESIGN CHOICE (log 12): the spec
gives the parts of the banks by name; where it does not split a bank by page the split is the model's. -/
def rgnLayout (m r : Nat) : Nat × Nat × Bool × Bool :=
  match m, r with
  | 0, 0 => (0, 767, true, true)
  | 1, 0 => (2112, 2303, true, true)
  | 1, 2 => (1920, 2111, true, false)
  | 2, 0 => (3456, 3839, true, true)
  | 2, 2 => (2304, 2687, true, true)
  | 2, 3 => (4032, 4223, true, true)
  | 3, 0 => (3840, 4031, true, true)
  | 3, 2 => (4032, 4223, true, false)
  | 4, 0 => (4992, 5119, true, true)
  | 5, 0 => (768, 1919, true, true)
  | 5, 2 => (3456, 3839, true, false)
  | 6, 0 => (2688, 3455, true, true)
  | 6, 2 => (2304, 2687, true, false)
  | 7, 0 => (4608, 4991, true, true)
  | 8, 0 => (4224, 4287, true, true)
  | 9, 0 => (4288, 4607, true, true)
  | 9, 2 => (0, 2303, true, false)
  | 9, 3 => (1920, 2111, true, true)
  | 10, 0 => (5248, 5375, true, true)
  | 10, 2 => (4992, 5247, true, false)
  | 11, 0 => (0, 6143, true, true)
  | 4, 2 => (5120, 5247, true, true)
  | _, 1 => (5376 + 64 * m, 5376 + 64 * m + 63, true, true)
  | _, _ => (0, 0, false, false)

/-- The reset value of the register at an offset (R523); 0 where none is defined (R514). -/
def regReset (off : Nat) : Word :=
  match regDescAt off with
  | none => 0
  | some (d, i) =>
    if d.base = 0xC8100 then word (rgnLayout (i / 4) (i % 4)).1
    else if d.base = 0xC8104 then
      word ((rgnLayout (i / 4) (i % 4)).2.1 + b2n (rgnLayout (i / 4) (i % 4)).2.2.1 * 2 ^ 31
        + b2n (rgnLayout (i / 4) (i % 4)).2.2.2 * 2 ^ 30)
    else word (d.reset + d.step * i)

end Sys2Proof.Machine
end

