-- ==== Sys2Proof/Machine/State.lean ====
section
/-! DEFINITION. Sys2Proof/Machine/State.lean: the state of the block as plain data, island by island,
the reasons a step may stop, and the state after reset. -/

namespace Sys2Proof.Machine

open Sys2Proof

/-! ## What the device sends -/

/-- One completion entry, bytes 0-31 without the PHASE bit (R146): TAG, STATUS, FLAGS [6:0], DETAIL,
EPOCH, FT64 time-stamp and bytes 24-31. -/
structure Entry where
  tag : Nat
  status : Nat
  flags : Nat
  detail : Nat
  epoch : Nat
  time : Nat
  tail : Nat
  deriving DecidableEq, Repr

/-- What names an operation to the ring engine: its submission ring, its tag, its HOST_COOKIE, its opcode class
and the function-level resets before its fetch (R129, R141, R146).  An operation whose tag cannot be used has a number
from 0x10000 on in its place: the TAG field of its completion is 0xFFFF. -/
structure OpId where
  ring : Nat
  tag : Nat
  cookie : Nat
  cls : Nat
  flrs : Nat := 0
  deriving DecidableEq, Repr

/-- What the device has sent to the outside, in `Blk.out`, newest first. -/
inductive Out where
  /-- A write of host memory (R152). -/
  | hostWrite (addr : Nat) (data : Bytes)
  /-- A completion entry written to entry `idx` of completion ring `cq` with PHASE (R146, R150). -/
  | entry (cq idx : Nat) (phase : Bool) (e : Entry)
  /-- A completion handed to the ring engine (R14); `entry` follows when it is written. -/
  | completion (id : OpId) (e : Entry)
  /-- The MSI-X message of a vector (R157). -/
  | msix (vector : Nat)
  /-- A read of the slot at an index of a submission ring (R138). -/
  | slotRead (ring idx : Nat)
  /-- A HeadLink frame to a head: its type, counter and payload in clear, and the Ethernet frame (R315-R318). -/
  | head (port typ cnt : Nat) (body frame : Bytes)
  /-- A frame on a LAN port (R417, R334). -/
  | lan (port : Nat) (frame : Bytes)
  /-- A PPS_OUT pulse at a fleet second (R414). -/
  | pps (second width : Nat) (activeHigh : Bool) (early : Nat)
  /-- Steps of an axis (R342): count, direction, first and period of emission (`stepTime`). -/
  | steps (axis : Nat) (up : Bool) (count start dirSetup period : Nat)
  deriving DecidableEq, Repr

/-! ## Host interface (HST) -/

/-- The ring states of R131. -/
inductive RingState where
  | off | run | drain | error
  deriving DecidableEq, Repr

/-- One of the 128 rings (R130, R131, R168).  `head` is the fetch index of an SQ and the host HEAD of
a CQ; `tail` the host TAIL of an SQ and the device TAIL of a CQ; `partialNeed` the NSLOT of a descriptor
that waits for the rest of its slots, else 0; `refetched` while the descriptor at the fetch index is fetched once more
after its first fetch failed (R140); `sinceMsg` entries written since the last message; `merged` the entries of batches
whose marker found no room. -/
structure Ring where
  state : RingState := .off
  head : Nat := 0
  tail : Nat := 0
  phase : Bool := false
  armed : Bool := false
  partialNeed : Nat := 0
  refetched : Bool := false
  held : List Entry := []
  heldSince : Nat := 0
  sinceMsg : Nat := 0
  merged : Nat := 0
  deriving DecidableEq, Repr

/-- One operation in flight (R141): a completion that waits for the superframe batch (R154) or for
its predecessors in planes mode (R162) is kept in `done`. -/
structure Op where
  id : OpId
  fence : Bool
  done : Option Entry
  deriving DecidableEq, Repr

/-- The pending axis coalesced entry of R155. -/
structure Coal where
  mask : Nat
  epoch : Nat
  time : Nat
  merged : Bool
  deriving DecidableEq, Repr

/-- The HST island: rings, operations in flight in fetch order, the completion order of the batch,
the fetcher's place in its round, the MSI-X table and pending bits, the mode in force, the function-level resets so far
and the descriptors so far whose tag could not be used.  Of the two blocks of persistent
settings (R524) `storedPlanes`, `persistGen` and `persistValid` are the newer one's MODE, GEN and validity, `persistActive`
its number, and `persistOlder` the MODE of the other where it is valid. -/
structure Hst where
  planes : Bool := false
  storedPlanes : Bool := false
  persistActive : Nat := 0
  persistGen : Nat := 0
  persistLost : Bool := false
  persistValid : Bool := true
  persistOlder : Option Bool := none
  rings : Tab Ring := []
  ops : List Op := []
  batch : List OpId := []
  fetchRing : Nat := 0
  fetchCount : Nat := 0
  coal : Option Coal := none
  fenced : List Desc := []
  msixTab : Tab Word := []
  msixPend : Tab Bool := []
  flrs : Nat := 0
  badTags : Nat := 0
  deriving DecidableEq, Repr

/-! ## Queues and memory (QUE, MEM) -/

/-- One item of an internal queue (R430-R432): open items hold a reservation, committed ones data.
`words` counts the header word; `written` is how many payload words of an open item are written. -/
structure Item where
  isOpen : Bool
  words : Nat
  typ : Nat
  flags : Nat
  seq : Nat
  data : Bytes
  written : Nat
  deriving DecidableEq, Repr

/-- A reservation that waits for open items of other producers (R432). -/
structure Waiting where
  typ : Nat
  flags : Nat
  words : Nat
  data : Bytes
  deriving DecidableEq, Repr

/-- A space of the data area in use by an entry not yet freed (R156). -/
structure Area where
  entryNo : Nat
  off : Nat
  len : Nat
  deriving DecidableEq, Repr

/-- A queue's binding to a completion ring and a data area of 2^log2 bytes (R440, R156, R158). -/
structure Binding where
  cq : Nat
  log2 : Nat
  addr : Nat
  off : Nat := 0
  delivered : Nat := 0
  areas : List Area := []
  deriving DecidableEq, Repr

/-- One of the 64 internal queues.  Each of the three pointers (read, commit, reservation) is kept
twice, the second copy inverted (R436). -/
structure Queue where
  items : List Item := []
  waiting : List Waiting := []
  nextSeq : Nat := 0
  tooSmall : Bool := false
  rd : BitVec 16 := 0
  rdInv : BitVec 16 := 0xFFFF
  cp : BitVec 16 := 0
  cpInv : BitVec 16 := 0xFFFF
  rs : BitVec 16 := 0
  rsInv : BitVec 16 := 0xFFFF
  bound : Option Binding := none
  deriving DecidableEq, Repr

/-- One SRAM bank (R442, R447): rotation and the lane of the last corrected error. -/
structure Bank where
  rot : Nat := 0
  laneValid : Bool := false
  lane : Nat := 0
  deriving DecidableEq, Repr

/-- The MEM island: queues, the popped item's window, banks, the scrub position, last error and the
per-master record limiter (R429-R451). -/
structure Mem where
  queues : Tab Queue := []
  popHdr : Word := 0
  popSeq : Nat := 0
  popData : Bytes := []
  ptrErr : Bool := false
  banks : Tab Bank := []
  clearDone : Bool := false
  lastErr : Word := 0
  violAt : Tab Nat := []
  scrubBank : Nat := 0
  scrubWord : Nat := 0
  deriving DecidableEq, Repr

/-! ## Event recorder (EVR) -/

/-- One record without its CRC (R479). -/
structure Rec where
  rseq : Nat
  code : Nat
  flags : Nat
  pcc : Nat
  optime : Nat
  ft : Nat
  epoch : Nat
  args : Bytes
  deriving DecidableEq, Repr

/-- An EVR_READ walk in progress (R482). -/
structure EvrRead where
  id : OpId
  area : Nat
  fromR : Nat
  count : Nat
  addr : Nat
  n : Nat
  deriving DecidableEq, Repr

/-- A recorder clear in progress (R484): `committed` once the CLEARED record is written. -/
structure EvrClear where
  id : OpId
  n : Nat
  oldestBefore : Nat
  committed : Bool
  deriving DecidableEq, Repr

/-- The event recorder: MRAM areas, staging, boot and latched records, reads and
clear in progress; `permLost` are the positions of the permanent area whose MRAM block is lost (R451); `bad` counts
records that fail their CRC, until the scan. -/
structure Evr where
  scanDone : Bool := false
  next : Nat := 0
  cleared : Nat := 0
  staging : List Rec := []
  dropped : Nat := 0
  boot : List Rec := []
  bootDropped : Nat := 0
  latched : List Rec := []
  perm : List Rec := []
  permLost : List Nat := []
  circ : Tab Rec := []
  reads : List EvrRead := []
  clear : Option EvrClear := none
  bad : Nat := 0
  deriving DecidableEq, Repr

/-! ## Fleet time (INV) -/

/-- The time states of R411. -/
inductive TimeState where
  | unset | tracking | offset | holdover | free
  deriving DecidableEq, Repr

/-- A compare unit's state (R428). -/
inductive CmpState where
  | idle | armed | running
  deriving DecidableEq, Repr

/-- One of the 32 compare units (R420-R422): its target (in counts of 2 ns of fleet time, read modulo 2^32), whether it already lay in the past when loaded
or a step passed it, whether it repeats, what armed it (epoch and action index; 0 if host-armed) and its
firings since. -/
structure CmpUnit where
  state : CmpState := .idle
  target : Int := 0
  lateLoad : Bool := false
  lateLast : Bool := false
  hostArmed : Bool := false
  periodic : Bool := false
  epoch : Nat := 0
  idx : Nat := 0
  fires : Nat := 0
  deriving DecidableEq, Repr

/-- The last Sync of a PTP exchange (R418): sequenceId, t1 once known, t2, and the corrections; times in 2^-16 ns. -/
structure PtpSync where
  seq : Nat
  t1 : Option Int
  t2 : Int
  corr : Int
  deriving DecidableEq, Repr

/-- A Delay_Req or Pdelay_Req sent (R418): sequenceId, sourcePortIdentity, and when. -/
structure PtpReq where
  seq : Nat
  port : Nat
  sent : Int
  deriving DecidableEq, Repr

/-- A Pdelay_Resp received (R418): t2, t4 and its correction. -/
structure PtpResp where
  t2 : Int
  t4 : Int
  corr : Int
  deriving DecidableEq, Repr

/-- One LAN port (R417-R419): link, sum (ps) and number of the exchanges of the running interval, the last
mean, RECAL (1 from its write, 2 from the next interval's start), and the messages of the exchange in progress. -/
structure LanPort where
  up : Bool := false
  sum : Int := 0
  num : Nat := 0
  mpd : Int := 0
  mpdValid : Bool := false
  suspect : Bool := false
  recal : Nat := 0
  sync : Option PtpSync := none
  req : Option PtpReq := none
  pdReq : Option PtpReq := none
  pdResp : Option PtpResp := none
  deriving DecidableEq, Repr

/-- An accepted TIME_STEP that waits for its instant `tj` (R408, R409). -/
structure StepPend where
  id : OpId
  delta : Nat
  tj : Nat
  deriving DecidableEq, Repr

/-- The INV island.  `ft` is fleet time in 2^-32 ns; `jumped` what steps and restarts have added
to it, in ns, so that durations are measured on elapsed time.  `storedSec` are the seconds last stored, in the block
`secAt` of two, and `olderSec` those of the other where it is valid (R406). -/
structure Inv where
  ft : Nat := 0
  jumped : Int := 0
  rcClock : Bool := false
  rcErr : Int := 0
  storedSec : Nat := 0
  secAt : Nat := 0
  olderSec : Option Nat := some 0
  state : TimeState := .unset
  stepped : Bool := false
  step : Option StepPend := none
  sel : Nat := 0
  gnssOk : Bool := false
  gnssOff : Int := 0
  ppsOff : Int := 0
  ppsLast : Option Nat := none
  ppsGood : Nat := 0
  ppsOk : Bool := false
  hostAt : Option Nat := none
  lastOff : Int := 0
  holdAt : Nat := 0
  holdOff : Int := 0
  ppsSecond : Nat := 0
  lan : Tab LanPort := []
  lanQueue : Nat := 0
  cmp : Tab CmpUnit := []
  deriving DecidableEq, Repr

/-! ## The fleet model (MAP, DVT) -/

/-- A node record (R52). -/
structure MapNode where
  x : Int
  y : Int
  z : Int
  flags : Nat
  deriving DecidableEq, Repr

/-- A segment record (R53); kind 0 undirected, 1 directed, 2 swing-only. -/
structure Seg where
  src : Nat
  dst : Nat
  length : Nat
  width : Nat
  vmax : Int
  kind : Nat
  flags : Nat
  deriving DecidableEq, Repr

/-- A zone record with its pool entries (R54). -/
structure Zone where
  segs : List Nat
  swing : Bool
  deriving DecidableEq, Repr

/-- A swing record (R55). -/
structure Swing where
  axis : Nat
  hold : Bool
  zone : Nat
  posMin : Int
  posMax : Int
  deriving DecidableEq, Repr

/-- A validated map (R51-R55). -/
structure SiteMap where
  id : Nat
  orient : Nat
  origin : List Nat
  nodes : List MapNode
  segs : List Seg
  zones : List Zone
  swings : List Swing
  conflicts : List (Nat × Nat)
  deriving DecidableEq, Repr

/-- One Mortise entry (R31, R33, R65).  `under` is the task handle the reservation belongs
to (R78).  The flag WAITERS is set exactly while a wait's edge names the segment (R97), so it is not kept twice. -/
structure MEntry where
  holder : Nat := 0
  frozen : Bool := false
  since : Nat := 0
  under : Nat := 0xFFFFFFFF
  deriving DecidableEq, Repr

/-- The member states of R34. -/
inductive MState where
  | absent | associating | active | sleeping | unheard | stopped | evicted
  deriving DecidableEq, Repr

/-- One entry of the member table (R34, R65); `used` counts the quota units used in this period (R107). -/
structure Member where
  state : MState := .absent
  short : Nat := 0xFFFE
  used : Nat := 0
  posFlags : Nat := 0
  task : Nat := 0xFFFFFFFF
  x : Int := 0
  y : Int := 0
  heading : Nat := 0
  speed : Int := 0
  posTime : Nat := 0
  located : Bool := false
  deriving DecidableEq, Repr

/-- The task states of R37. -/
inductive TState where
  | free | assigned | running | done | cancelled
  deriving DecidableEq, Repr

/-- One entry of the task ledger (R36, R37, R65). -/
structure Task where
  gen : Nat := 0
  state : TState := .free
  assignee : Nat := 0
  priority : Nat := 0
  dest : Nat := 0xFFFF
  stateEpoch : Nat := 1
  deriving DecidableEq, Repr

/-- The coherent state of DVT (R39): it changes only at commit instants. -/
structure Coherent where
  mortise : List MEntry := []
  members : Tab Member := []
  tasks : Tab Task := []
  axisTask : Tab Nat := []
  deriving DecidableEq, Repr

/-- The destinations of effects (R40). -/
inductive Dest where
  | axs | air | inv | mem
  deriving DecidableEq, Repr

/-- One segment of a route (R77, R85): its index, its speed limit, and the nodes it is walked between. -/
structure Leg where
  seg : Nat
  vmax : Int
  src : Nat
  dst : Nat
  deriving DecidableEq, Repr

/-- One committed effect not yet applied or cancelled (R43-R46, R65).  `ops` are the operand bytes
4-15 of its action, and for GROUP_MOVE those of the CONT action after them; `route` the segments of a
ROUTE_SEND with their speed limits and the nodes they run between (R85); `late` marks one whose T a step
passed (R409), `acked` an AIR effect acknowledged before T (R296). -/
structure Effect where
  epoch : Nat
  t : Nat
  dest : Dest
  act : Nat
  obj : Nat
  idx : Nat
  tag : Nat
  ring : Nat
  ops : Bytes
  route : List Leg
  late : Bool
  acked : Bool
  deriving DecidableEq, Repr

/-- A host transaction that committed when a freeze had already reached DVT (R112): its completion waits for the stop epoch,
which says which of its effects are cut. -/
structure Late where
  id : OpId
  clamp : Nat
  epoch : Nat
  time : Nat
  deriving DecidableEq, Repr

/-- A snapshot in progress (R50): its header, whose SEQ is filled when it is written, and its sections
with their offsets, as taken; SNAPSHOT_WRITTEN writes them out. -/
structure Snap where
  id : OpId
  addr : Nat
  epoch : Nat
  total : Nat
  header : Bytes
  secs : List (Nat × Bytes)
  deriving DecidableEq, Repr

/-- What a snapshot is taken of (R49): coherent state, pending effects, segments with WAITERS, commit
instant (2^-32 ns of fleet time), and MAP_GEN and MAP_ID of the map that was in service. -/
structure SnapView where
  coh : Coherent
  effects : List Effect
  waiters : List Nat
  commitAt : Nat
  gen : Nat
  mapId : Nat
  deriving DecidableEq, Repr

/-- A snapshot that waits for its AT_EPOCH (R63).  `copy` holds the state after that epoch once a later
commit would change it (R50). -/
structure SnapWait where
  d : Desc
  atEpoch : Nat
  since : Nat
  copy : Option SnapView
  deriving DecidableEq, Repr

/-- A map load in progress (R58). -/
structure MapLoad where
  id : OpId
  addr : Nat
  size : Nat
  deriving DecidableEq, Repr

/-- The fleet model: maps, coherent state, epoch and its commit instant (2^-32 ns of fleet time), pending effects,
watermarks, snapshots. -/
structure Fleet where
  map : Option SiteMap := none
  shadow : Option SiteMap := none
  loads : List MapLoad := []
  gen : Nat := 0
  epoch : Nat := 0
  commitAt : Nat := 0
  coh : Coherent := {}
  effects : List Effect := []
  snaps : List Snap := []
  snapWaits : List SnapWait := []
  snapQueue : List Desc := []
  snapSeq : Nat := 0
  deriving DecidableEq, Repr

/-- Where a transaction comes from (R110): a host ring, a member over the air, the device, Clamp. -/
inductive Source where
  | host (id : OpId)
  | air (mix reqId : Nat)
  | device (mix : Nat)
  | clamp
  deriving DecidableEq, Repr

/-- One edge of the wait-for graph (R97). -/
structure Edge where
  requester : Nat
  awaited : Nat
  seg : Nat
  deriving DecidableEq, Repr

/-- A transaction as Dovetail judges it: its source, flags, effect-time selection and operand, AFTER
epoch, actions of 16 bytes each with their byte offsets, and the DETAIL of a malformed header or of a
non-zero unused position (R93, R552). -/
structure Txn where
  src : Source
  flags : Nat
  ets : Nat
  treq : Nat
  after : Nat
  acts : List Bytes
  offs : List Nat
  headBad : Option Nat
  tailBad : Option Nat
  nact : Nat := acts.length
  deriving DecidableEq, Repr

/-- A waiting transaction (R97, R100, R105): a conflict wait with its edges, or `onEpoch` an AFTER_EPOCH
wait; `since` is elapsed time, `sinceFt` the FT64 at which it first entered (R102). -/
structure Wait where
  txn : Txn
  since : Nat
  sinceFt : Nat
  onEpoch : Bool
  edges : List Edge
  deriving DecidableEq, Repr

/-- What AXS last reported of an axis (R81-R83). -/
structure AxReport where
  pos : Int := 0
  stop : Int := 0
  fault : Bool := false
  deriving DecidableEq, Repr

/-- A member-state change deferred during a stop (R114, R188) with the unfreeze and sleep schedule
deferred with it, and a task-done report. -/
structure Deferral where
  change : Option MState := none
  unfreeze : Bool := false
  evict : Bool := false
  taskDone : Option Nat := none
  deriving DecidableEq, Repr

/-- The Dovetail engine beside the coherent state: freeze, wait pool, held fences, admission places,
deferred transactions and axis reports.  `late` are the completions that wait for a stop epoch (R112).  `quotaSf` is the
superframe in which the quota period began, `quotaNew` that a power-up or a release commit has come since, `quotaTick` that a
superframe has begun since (R107).  `airTurn` and `turnN` are the side served last and its judgements in a row, `devRun` the
device's own in a row (R116). -/
structure Dvt where
  frozen : Bool := false
  late : List Late := []
  quotaNew : Bool := true
  quotaTick : Bool := false
  airTurn : Bool := false
  turnN : Nat := 0
  devRun : Nat := 0
  waits : List Wait := []
  admission : Tab Txn := []
  lastMix : Nat := 127
  deferred : Tab Deferral := []
  quotaSf : Nat := 0
  reports : Tab AxReport := []
  unfinished : List Effect := []
  freed : List Nat := []
  deriving DecidableEq, Repr

/-! ## Clamp (CLP) -/

/-- The group states of R204. -/
inductive GState where
  | on | ramp | off | offFault
  deriving DecidableEq, Repr

/-- One Clamp channel (R169, R170): stop asserted, sources active and latched. -/
structure Chan where
  stop : Bool := true
  active : Nat := 0
  latch : Nat := 0x800
  deriving DecidableEq, Repr

/-- One E-stop loop (R177-R179): its circuits, and whether its source is active. -/
structure Loop where
  closedA : Bool := false
  closedB : Bool := false
  active : Bool := false
  discAt : Nat := 0
  goodA : Nat := 0
  goodB : Nat := 0
  pulseA : Option Nat := none
  pulseB : Option Nat := none
  deriving DecidableEq, Repr

/-- A RESUME in progress (R198). -/
structure Resume where
  id : OpId
  mask : Nat
  mode : Nat
  resumed : Nat
  lastEpoch : Nat
  since : Nat
  deriving DecidableEq, Repr

/-- A contactor monitor (R185): feedback open, instant of the last change of the expected state. -/
structure Cmon where
  isOpen : Bool := false
  changed : Nat := 0
  deriving DecidableEq, Repr

/-- Clamp: both channels, stop and release epochs, faults, groups, outputs and their read-back, loops,
heartbeat, monitors, resumes in progress. -/
structure Clp where
  a : Chan := {}
  b : Chan := {}
  s : Nat := 0
  sr : Nat := 0
  stopAt : Nat := 0
  allCat1 : Bool := false
  releaseAt : Nat := 0
  faultCode : Nat := 0
  faultArg : Nat := 0
  faultCount : Nat := 0
  cf12 : Bool := false
  vfBad : Tab Nat := []
  cf14 : Bool := false
  cf15 : Bool := false
  latchedFault : Bool := false
  groups : Tab GState := []
  rampSince : Tab Nat := []
  stoA : Nat := 0
  stoB : Nat := 0
  cf05 : Nat := 0
  lastMix : Nat := 0xFF
  suppress : Bool := false
  loops : Tab Loop := []
  hbSeq : Option Nat := none
  hbAt : Nat := 0
  cmon : Tab Cmon := []
  resumes : List Resume := []
  deriving DecidableEq, Repr

/-! ## Axes (AXS, CTL) -/

/-- A piece of a profile: its duration in 2^-16 ns and, at its start, the velocity, acceleration and jerk
in 2^-16 units/s, /s², /s³ (R356). -/
structure Ramp where
  dur : Nat
  v : Int
  a : Int
  j : Int
  deriving DecidableEq, Repr

/-- A profile: its start in elapsed 2^-16 ns, its start position and its end in 2^-16 units. -/
structure Curve where
  t0 : Nat := 0
  p0 : Int := 0
  segs : List Ramp := []
  target : Int := 0
  deriving DecidableEq, Repr

/-- A target-mode motion (R356, R357): the profile under way and, while it only brings the axis to rest,
the target and speed of the move that follows. -/
structure Mv where
  c : Curve
  after : Option (Int × Int)
  deriving DecidableEq, Repr

/-- A table motion (R362): `approach` until the start knot is reached; `t0` is the elapsed instant (ns)
of the pass's start knot, `applied` that of the apply sample, `ended` once the last pass is over. -/
structure TablePlan where
  table : Nat
  entry : Nat
  passes : Nat
  endless : Bool
  approach : Option Mv
  t0 : Nat
  applied : Nat
  ended : Bool
  deriving DecidableEq, Repr

/-- A ratio NUM / DEN (R364). -/
structure Ratio where
  num : Int
  den : Nat
  deriving DecidableEq, Repr

/-- A geared motion (R364-R366): reference set-point `pa`, master travel `x` since it counted in
direction `d`, ratios before and after the blend over `l` counts, constant offset, whether the engagement
ramp and the blend have ended, the effects named, and the ceiling of a Stop-1 ramp (speed at the request,
its instant). -/
structure GearPlan where
  pa : Int
  x : Int
  d : Int
  r0 : Ratio
  r1 : Ratio
  l : Nat
  offset : Int
  engaged : Bool
  blended : Bool
  cap : Option (Nat × Nat)
  deriving DecidableEq, Repr

/-- A following motion (R367): the set-point and pulse count at engagement, the offset lost, and the
ceiling of a Stop-1 ramp. -/
structure FollowPlan where
  pe : Int
  count0 : Int
  offset : Int
  cap : Option (Nat × Nat)
  deriving DecidableEq, Repr

/-- The phases of homing (R372): fast or first search, deceleration after the first edge, slow return to
the leaving edge, slow run to Z, moving away from a limit, slow search, deceleration after the limit latch,
coming to rest, and the move to 0. -/
inductive HomePhase where
  | search | decel | leave | toZ | away | slow | limDecel | rest | final
  deriving DecidableEq, Repr

/-- A homing motion: method, phase, profile, set-point at the search's start and, once latched, the
latched position in the present coordinates (R373). -/
structure HomePlan where
  method : Nat
  phase : HomePhase
  c : Curve
  start : Int
  latched : Option Int
  deriving DecidableEq, Repr

/-- What an axis is doing. `stopping` ends at rest (AXIS_STOP, a disengagement, a fault's deceleration, a
Stop-1 ramp), with the soft limit it ends at for R348. -/
inductive Plan where
  | rest
  | move (m : Mv)
  | table (p : TablePlan)
  | gear (p : GearPlan)
  | follow (p : FollowPlan)
  | home (p : HomePlan)
  | group (g : Nat)
  | stopping (c : Curve) (soft : Bool)
  deriving DecidableEq, Repr

/-- An armed engagement or ratio change (R364, R365): ratio, arm position, direction, master travel left to
it (with a modulus), whether it lay behind when armed, and its effect. -/
structure Arm where
  r : Ratio
  pos : Int
  d : Int
  left : Option Int
  late : Bool
  eff : Nat × Nat
  deriving DecidableEq, Repr

/-- What waits for the axis's next sample (R345, R383): a qualified edge of LIMP (0), LIMN (1) or
HOME (2) with its latched position, a Z edge, a fault. -/
inductive AxEdge where
  | input (which : Nat) (active : Bool) (at' : Nat)
  | z (pos : Int)
  | fault (code : Nat)
  deriving DecidableEq, Repr

/-- The motion side of an axis: plan, set-point (2^-16 units), velocity and acceleration, the effects it
runs, the armed change, TURN and LATCH, the flags of AXS_AXn_STATUS, samples in position, whether it
rests at the TARGET of its last motion, and the standstill test. -/
structure AxMot where
  plan : Plan := .rest
  sp : Int := 0
  v : Int := 0
  a : Int := 0
  effs : List (Nat × Nat) := []
  arm : Option Arm := none
  turn : Int := 0
  latch : Int := 0
  homed : Bool := false
  inPos : Bool := false
  inPosN : Nat := 0
  goal : Bool := false
  delayed : Bool := false
  armLate : Bool := false
  phaseLost : Bool := false
  zSeen : Bool := false
  movedAt : Option Nat := none
  restBefore : Bool := true
  still : Bool := true
  deriving DecidableEq, Repr

/-- The inputs of an axis: measured position, encoder counter, its value at the last sample (gearing reads
the master's), SSI value, set-point input (raw in 1/16 mV, filtered in 2^-16 mV, pulses), qualified inputs,
their transition instants, what waits for the next sample, open pairs, a switched-off output, and the elapsed instants of
the last samples with the positions measured at them, oldest first (R345). -/
structure AxIo where
  pos : Int := 0
  enc : Nat := 0
  master : Int := 0
  ssi : Option Nat := none
  ssiBad : Bool := false
  uin : Int := 0
  uf : Int := 0
  pulses : Int := 0
  spRange : Bool := false
  spSince : Option Nat := none
  limp : Bool := false
  limn : Bool := false
  home : Bool := false
  edges : List (Nat × Nat) := []
  inbox : List AxEdge := []
  openMask : Nat := 0
  outOff : Bool := false
  hist : List (Nat × Int) := []
  deriving DecidableEq, Repr

/-- The loop engine's state of an axis (R386-R398): following error (2^-16 units), integrator, biquad
values, boost (1/32 mV), parameters in use, the instant from which APPLY copies, timers, outputs latched,
steps commanded and emitted. -/
structure AxLoop where
  e : Int := 0
  i : Int := 0
  bq : List Word := []
  boost : Nat := 0
  use : Tab Word := []
  applyAt : Option Nat := none
  saturated : Bool := false
  ceil : Bool := false
  on : Bool := false
  ena : Bool := false
  reset : Bool := false
  feSince : Option Nat := none
  feDone : Bool := false
  stallSince : Option Nat := none
  stallDone : Bool := false
  ovr : Bool := false
  out : Word := 0
  iref : Nat := 0
  emitted : Int := 0
  nOut : Int := 0
  dir : Bool := true
  deriving DecidableEq, Repr

/-- One axis: fault code with its reaction's severity and the sample in which it arose, and the last sample
instant (fleet ns). -/
structure Axis where
  fault : Nat := 0
  severity : Nat := 0
  faultAt : Option Nat := none
  sampled : Option Nat := none
  mot : AxMot := {}
  io : AxIo := {}
  loop : AxLoop := {}
  deriving DecidableEq, Repr

/-- A member of a moving group: its axis, start position and travel in 2^-16 units (R369). -/
structure GMem where
  axis : Nat
  a : Int
  d : Int
  deriving DecidableEq, Repr

/-- A moving interpolation group (R369, R370): the path runs from 0 to 2^32 path units; `u`, `v`, `a` are its
state at the last sample in 2^-16; `slowing` while it comes to rest on the path, `turning`
the epoch of the retarget that brings it to rest; `next` the GROUP_MOVE to
start then. -/
structure GMove where
  members : List GMem := []
  c : Curve := {}
  u : Int := 0
  v : Int := 0
  a : Int := 0
  slowing : Bool := false
  turning : Option Nat := none
  next : Option Effect := none
  deriving DecidableEq, Repr

/-- A knot of a segment table (R358); `dt` in µs. -/
structure Knot where
  pos : Int
  vel : Int
  dt : Nat
  deriving DecidableEq, Repr

/-- A segment table (R359, R360): VALID, the loads in progress with their sizes (LOADING while there is one); first knot in the pool; extremes
rounded outwards. -/
structure SegTable where
  valid : Bool := false
  loading : List (OpId × Nat) := []
  first : Nat := 0
  cyclic : Bool := false
  knots : List Knot := []
  posMin : Int := 0
  posMax : Int := 0
  vPeak : Nat := 0
  deriving DecidableEq, Repr

/-- The AXS island: axes, moving groups, tables, groups in a Stop-1 ramp are Clamp's; `completed` collects the
axes that complete in the sample under way; `ovrAt` the last overrun. -/
structure Axs where
  axes : Tab Axis := []
  groups : Tab GMove := []
  tables : Tab SegTable := []
  completed : Nat := 0
  ovrAt : Option Nat := none
  deriving DecidableEq, Repr

/-! ## Air (AIR) -/

/-- One downlink element pending for a member (R277, R290, R303): its ETYPE and body, the AIR_SEND it
belongs to, the AIR effect (epoch and action index) it carries and whether it is the effect's last
fragment, the frames it has been sent in, and whether it is in the frame now unacknowledged. -/
structure Elem where
  etype : Nat
  body : Bytes
  op : Option OpId := none
  eff : Option (Nat × Nat) := none
  last : Bool := true
  tries : Nat := 0
  sent : Bool := false
  deriving DecidableEq, Repr

/-- The arrival of a frame at a head (R257, R330): its RMARKER in fleet 2^-16 ns, antenna delay not removed, FO and
first-path quality. -/
structure Mark where
  head : Nat
  at' : Int
  fo : Int
  fpq : Nat
  deriving DecidableEq, Repr

/-- The air link of one member (R278, R286, R298-R304).  `handshake` is set from ACCEPTED until the first
frame under the new K_LINK; `keepUplinks` while an EVICTED member keeps its uplinks; `want` and
`interval` the sleep interval asked for and in force, ms; `offer` the interval, first superframe and slot of a sleepy
SCHED not yet acknowledged, `sleepy` the sleepy schedule in force; `good` the polls in a row near their prediction after a resync; `grid` and
`decade` the observation period and the ten superframes last given an UPLINK; `lastMore` MORE of the last DOWN frame;
`intUs` the INTERVAL_US last sent; `heard` the heads that received each of the last 10 frames of it, newest first (R294,
R333); `marks` the qualified arrivals of the last frame at each head (R257, R283); `stopRoute` the last route applied before
S (R296); `upLast` T_REPLY in radio ticks and the RMARKER (fleet ns) of the last frame, `upReply` those of the one before it (R247, R308); `stopReason` REASON of the last STOP_REQ (R277); `clkOff` CLK_OFF of the last acknowledgement (R281); `txSlot` the
superframe and slot and `txHead` the head of the last DOWN frame. -/
structure Link where
  eui : Nat := 0
  chan9 : Bool := false
  cap : Nat := 0
  antDelay : Int := 0
  osc : Nat := 0
  kLink : Bytes := []
  kMsts : Bytes := []
  rx : Option Nat := none
  tx : Nat := 0
  seq : Nat := 0
  head : Nat := 0
  e : Int := 0
  miss : Nat := 0
  more : Bool := false
  handshake : Bool := false
  reassoc : Bool := false
  acceptedAt : Nat := 0
  elems : List Elem := []
  reqId : Option Nat := none
  reply : Option Bytes := none
  want : Nat := 0
  interval : Nat := 0
  sleepy : Bool := false
  offer : Option (Nat × Nat × Nat) := none
  resync : Bool := false
  good : Nat := 0
  pollSfn : Nat := 0
  pollSlot : Nat := 0
  stayAwake : Bool := false
  mics : List Nat := []
  micCount : Nat := 0
  lastRoute : Nat := 0
  keyAcked : Option Nat := none
  keepUplinks : Bool := false
  heard : List (List Nat) := []
  marks : List Mark := []
  txid : Nat := 0
  txAt : Option Nat := none
  grid : Nat := 0
  decade : Nat := 0
  lastMore : Bool := false
  intUs : Nat := 0
  stopRoute : Nat := 0
  stopReason : Nat := 0
  upLast : Nat × Nat := (0, 0)
  upReply : Nat × Nat := (0, 0)
  clkOff : Int := 0
  txSlot : Option (Nat × Nat) := none
  txHead : Nat := 0
  deriving DecidableEq, Repr

/-- A partner that waits for a MIX (R289). -/
structure Waiter where
  eui : Nat
  heard : Nat
  deriving DecidableEq, Repr

/-- A MIX kept for a waiting partner (R289). -/
structure Kept where
  mix : Nat
  eui : Nat
  since : Nat
  deriving DecidableEq, Repr

/-- The owner of a slot, or nobody, and what the slot is for (R280). -/
structure Owner where
  owner : Nat := 0xFFFF
  kind : Nat := 0
  head : Nat := 0
  hprf : Bool := false
  deriving DecidableEq, Repr

/-- One slot-map entry (R280), with the second owner that REUSE lists for the slot (R294). -/
structure Slot extends Owner where
  second : Option Owner := none
  deriving DecidableEq, Repr

/-- One solution queued for a position batch, and its fleet instant (R292). -/
structure PosEntry where
  mix : Nat
  sol : Bytes
  at' : Nat
  deriving DecidableEq, Repr

/-- A broadcast waiting for a BCAST slot (R285, R290): ASSOC_RSP to an EUI under its request's counter,
or an RTCM element. -/
structure Bcast where
  chan9 : Bool
  rsp : Bool
  eui : Nat
  cnt : Nat
  body : Bytes
  deriving DecidableEq, Repr

/-- The subordinate coordinator (R307): aligned to the primary, copies missed in a row and received in
a row, when ORPHAN began, the last counter and SFN. -/
structure Sub where
  locked : Bool := false
  missed : Nat := 0
  good : Nat := 0
  orphan : Bool := false
  since : Nat := 0
  rx : Option Nat := none
  lastSfn : Option Nat := none
  deriving DecidableEq, Repr

/-- The AIR island.  `relEpoch` is the epoch of the last release (R279), `enr` the last association
counter accepted of each EUI, `maps` the slot map of each channel (slots 2-19); `next` the slot maps already made for the coming
superframe; `rr` and `rrUp` the last MIX served, of each channel, with DOWN slots at each urgency and with further UPLINK
slots; `posNeed` the POS_DL slots of each channel carried, and whether at HPRF (R290); `rspSeq` SEQ towards partners without
a short address; `kp` and `kbcn` the keys K_P and K_BCN,P held by period (R458). -/
structure Air where
  links : Tab Link := []
  sfn : Nat := 0
  sfStart : Nat := 0
  relEpoch : Nat := 0
  admitted : List Nat := []
  waiters : List Waiter := []
  kept : List Kept := []
  enr : Tab Nat := []
  bcastCnt : Nat := 0
  bcastSeq : Nat := 0
  rspSeq : Nat := 0
  maps : Tab (List Slot) := []
  rr : Tab Nat := []
  posQueue : List PosEntry := []
  bcasts : List Bcast := []
  rxQueue : Nat := 0
  large5 : Bool := false
  large9 : Bool := false
  sub : Sub := {}
  bcopyCnt : Nat := 0
  rrUp : Tab Nat := []
  posNeed : Tab (List Bool) := []
  next : Option (Nat × Tab (List Slot)) := none
  kp : Tab Bytes := []
  kbcn : Tab Bytes := []
  deriving DecidableEq, Repr

/-! ## Heads (HDL) -/

/-- The head states of R321. -/
inductive HState where
  | absent | calibrating | up | suspect | noAir | lost
  deriving DecidableEq, Repr

/-- One exchange of R322 and R323 in 2^-16 ns and head ticks. -/
structure Exch where
  t1 : Int
  t2 : Int
  t3 : Int
  t4 : Int
  deriving DecidableEq, Repr

/-- A head's mapping (R323): fleet time in 2^-16 ns of head tick `x` is
`y0 + (x - x0) * num / den`. -/
structure Line where
  x0 : Int := 0
  y0 : Int := 0
  num : Int := 655360000
  den : Int := 638976
  deriving DecidableEq, Repr

/-- One of the 8 heads.  `t1`, `t1Prev` and `t4Prev` are the heartbeat's time-stamps, `pend` the
exchange whose T3 is still to come, `fitSet` the last accepted exchanges with their F, `ds` the D of the
running interval, `mPrev` the last mean, `need` the exchanges still wanted before the head may serve,
`mac` the Ethernet address it joined from, `lastHb` the instant of its last accepted HB_UP, `winSent` the stop
positions it reported SENT, with bit 4 once it was asked. -/
structure Head where
  state : HState := .absent
  eui : Nat := 0
  cap : Nat := 0
  antDelay : Nat := 0
  kHs : Bytes := []
  mac : Bytes := []
  rx : Option Nat := none
  tx : Nat := 0
  linkUp : Bool := false
  hflags : Nat := 0
  hseq : Nat := 0
  t1 : Option Int := none
  t1Prev : Option Int := none
  t4Prev : Option Int := none
  pend : Option Exch := none
  fitSet : List (Int × Int) := []
  ds : List Int := []
  outliers : Nat := 0
  mPrev : Option Int := none
  asym : Int := 0
  line : Line := {}
  frozen : Bool := false
  lastX : Option Exch := none
  delay : Int := 0
  delayUp : Int := 0
  need : Nat := 64
  suspectAt : Nat := 0
  recal : Bool := false
  tooFar : Bool := false
  capMissing : Bool := false
  winMiss : Nat := 0
  winSent : Nat := 0
  recorded : List Nat := []
  lastHb : Nat := 0
  answered : Bool := false
  deriving DecidableEq, Repr

/-- The HDL island: heads, the last join counter accepted of each EUI, transmit identifiers, the window
whose reports are awaited. -/
structure Hdl where
  heads : Tab Head := []
  joins : Tab Nat := []
  txid : Nat := 0
  window : Option Nat := none
  winMask : Nat := 0
  deriving DecidableEq, Repr

/-! ## GNSS (GNS) -/

/-- A tracking channel (R217-R221): state code, satellite, C/N0 (0.01 dB-Hz), elevation, lock count, half cycle,
bit or secondary-code synchronisation, a slip to show at the next epoch, for how many updates the lock metric and C/N0
have been low, the accumulated phase last measured and CP (R224), the whole cycles that align CP to PR in RTCM (R263), the
coherent integration time in use in ms and the loops' bandwidths in use as in GNS_TRK_CFG[31:8] (R219), and the satellite
tracked last (R225). -/
structure GChan where
  st : Nat := 0
  sys : Nat := 0
  svid : Nat := 0
  cn0 : Nat := 0
  elev : Nat := 0xFF
  lock : Nat := 0
  half : Bool := false
  sync : Bool := false
  slip : Bool := false
  low : Nat := 0
  weak : Nat := 0
  inTrack : Bool := false
  phase : Int := 0
  cp : Int := 0
  align : Int := 0
  coh : Nat := 0
  loops : Nat := 0
  last : Nat × Nat := (0, 0)
  deriving DecidableEq, Repr

/-- A notch (R208): engaged, its line (as the monitor numbers it), the line's frequency (Hz from F_L1), level above the
floor (0.5 dB) and depth, spectra for which the line has been quiet. -/
structure Notch where
  on : Bool := false
  line : Nat := 0
  freq : Int := 0
  level : Nat := 0
  depth : Nat := 0
  quiet : Nat := 0
  deriving DecidableEq, Repr

/-- A line without a notch: in how many consecutive spectra it stood DETECT above the floor, and in how many it
exceeded the weakest notched line by 3 dB (R208). -/
structure NLine where
  line : Nat
  count : Nat
  beats : Nat
  deriving DecidableEq, Repr

/-- A snapshot (R227-R231): its sender (a member or a host operation), id, header, fragments held, arrival of
fragment 0 and of the last, the place in the queue, whether it is in processing, and whether its
member has left meanwhile; `t0` the fleet instant of fragment 0, `set` the orbit set at its start (R233), `void` whether the
clock was lost while it was in processing (R10, R232). -/
structure GSnap where
  mix : Nat
  host : Option OpId
  snapId : Nat
  header : Bytes
  count : Nat
  frags : Tab Bytes
  at' : Nat
  t0 : Nat
  doneAt : Option Nat
  running : Bool
  orphan : Bool
  set : Nat := 0
  recs : List Bytes := []
  void : Bool := false
  deriving DecidableEq, Repr

/-- The GNS island (R205-R238).  `antN` counts samples in the condition now seen; `antShown` is the last state
other than RETRY, `antTot` counts samples since the state was entered; `clkOff` is the timing solution in 0.01 ns, `bias` each
system's bias referred to GPS in ns (R212), `self` the position estimated while none is loaded (R213); `nextSat` the place in
the search without an orbit set (R217); `lastStart` the grid instant of the last snapshot start (R231). -/
structure Gns where
  ant : Nat := 0
  antCond : Nat := 0
  antN : Nat := 0
  antTot : Nat := 0
  antShown : Nat := 0
  antAt : Nat := 0
  iMeas : Nat := 0
  gain : Nat := 0
  pIn : Int := 0
  j : Nat := 0
  jPeak : Nat := 0
  jam : Bool := false
  jamLow : Nat := 0
  notches : Tab Notch := []
  lines : List NLine := []
  chans : Tab GChan := []
  timeValid : Bool := false
  fewSince : Option Nat := none
  clkOff : Int := 0
  clkDrift : Int := 0
  seq : Nat := 0
  snaps : List GSnap := []
  busyRow : Tab Nat := []
  nextSat : Nat := 0
  bias : List (Nat × Rat) := []
  self : Option Config.V3 := none
  lastStart : Option Nat := none
  deriving DecidableEq, Repr

/-! ## Positioning (POS) -/

/-- One observation payload being collected or ready (R245, R248): its fragments, receipt of fragment 0
(elapsed, fleet), and of the frame whose acknowledgement its range records measured T_REPLY in radio ticks and the RMARKER in
fleet ns (R247, R308). -/
structure Payload where
  seq : Nat
  count : Nat
  frags : Tab Bytes
  at' : Nat
  t0 : Nat
  reply : Nat × Nat := (0, 0)
  deriving DecidableEq, Repr

/-- The registers that an epoch is solved with, as they stood at its admission (R266). -/
structure PosCfg where
  obs : Nat := 0
  ar : Nat := 0
  fix : Nat := 0
  integ : Nat := 0
  out : Nat := 0
  mcfg : Nat := 0
  deriving DecidableEq, Repr

/-- A member epoch waiting for, or in, the solver (R261): member, reference epoch T_m and DT_RX (ns), last symbol, the
payload's bytes (none of an epoch without one), T_REPLY, the arrivals of its frame, its registers, and in the
solver whether its search was abandoned; `refused` by step 5 of R262. -/
structure Epoch where
  mix : Nat
  tm : Nat
  dt : Int
  t0 : Nat
  data : Bytes := []
  reply : Nat × Nat := (0, 0)
  marks : List Mark := []
  cfg : PosCfg := {}
  aborted : Bool := false
  refused : Bool := false
  deriving DecidableEq, Repr

/-- A state of a member's filter (R249): a coordinate of the position or velocity in ECEF, the UWB range bias, or a
satellite's ambiguity. -/
inductive Coord where
  | pos (i : Nat) | vel (i : Nat) | bias | amb (sys svid : Nat)
  deriving DecidableEq, Repr

/-- The estimates of a filter (R249): its states, their values, their covariance. -/
structure Est where
  keys : List Coord
  x : List Rat
  p : Config.Mat
  deriving DecidableEq, Repr

/-- A satellite's last record (R246): code in m, unwrapped phase in cycles, Doppler in Hz. -/
structure Track where
  sys : Nat
  svid : Nat
  code : Rat
  phase : Rat
  dop : Rat
  deriving DecidableEq, Repr

/-- A member's filter (R249-R255): its estimates and the fleet instant (ns) they stand at, its mode, whether it is FIXED, the
integers held and those of the last search by SYS and SVID, each relative to one satellite of its system, searches that
agreed, residual failures in a row, instants (elapsed ns) of the fix, the last update, the last update with double
differences and the last search, the satellites of that search, each satellite's last record with the fleet instant (ns) of those records, heading, last OBS_SEQ
accepted, payload under way, the last snapshot result (instant, farm frame in 0.1 mm, H_UNC), and the last position. -/
structure Filter where
  on : Bool := false
  est : Option Est := none
  time : Int := 0
  mode : Nat := 0
  fixed : Bool := false
  held : List ((Nat × Nat) × Int) := []
  cand : List ((Nat × Nat) × Int) := []
  agree : Nat := 0
  bad : Nat := 0
  fixAt : Nat := 0
  updAt : Option Nat := none
  gnssAt : Nat := 0
  searchAt : Nat := 0
  searchSet : List (Nat × Nat) := []
  tracks : List Track := []
  trackAt : Int := 0
  heading : Nat := 0
  ratio : Nat := 0
  lastSeq : Option Nat := none
  asm : Option Payload := none
  hpl : Nat := 0
  snap : Option (Nat × Config.V3 × Nat) := none
  last : Option Config.V3 := none
  deriving DecidableEq, Repr

/-- A head-table record (R256). -/
structure PHead where
  x : Int := 0
  y : Int := 0
  z : Int := 0
  delay : Int := 0
  en : Bool := false
  deriving DecidableEq, Repr

/-- An orbit set (R241): SET_ID and its records of 200 bytes. -/
structure OrbitSet where
  id : Nat
  recs : List Bytes
  deriving DecidableEq, Repr

/-- One record of a reference epoch as the solver uses it (R223): code in m, phase in cycles, Doppler in Hz, C/N0 in dB-Hz, what
is valid, and LOCK. -/
structure RefSat where
  sys : Nat
  svid : Nat
  code : Rat
  phase : Rat
  dop : Rat
  cn0 : Rat
  half : Bool
  codeOk : Bool
  phaseOk : Bool
  dopOk : Bool
  lock : Nat
  slip : Bool
  align : Int
  deriving DecidableEq, Repr

/-- A reference epoch kept for the member epochs (R243, R244): its instant in 50 ms, ANT_FAULT or N = 0, JAM_ALARM, its
records. -/
structure RefEpoch where
  n : Nat
  bad : Bool
  jam : Bool
  sats : List RefSat
  deriving DecidableEq, Repr

/-- The POS island (R239-R267).  `refNext`, `orbitNext` and `headsNext` take effect at the next reference epoch or
superframe; `orbitPrev` is the set before the last switch, with that instant in fleet and elapsed ns (R243), `headsOld` the
head table before the last one and `headsAt` the fleet instant of the change (R256); `resid` holds the last 100 residuals
(mm) of each head, newest first; `relax` the seconds for which a step could have been relaxed; `refs` the last reference
epochs, newest first. -/
structure Pos where
  ref : Option Bytes := none
  refNext : Option Bytes := none
  refInit : Bool := false
  orbit : Option OrbitSet := none
  orbitPrev : Option (OrbitSet × Nat × Nat) := none
  orbitNext : List (OpId × OrbitSet × Nat) := []
  heads : Option (List PHead) := none
  headsOld : Option (List PHead) := none
  headsAt : Nat := 0
  headsNext : List (OpId × List PHead) := []
  suspect : Nat := 0
  resid : Tab (List Int) := []
  filters : Tab Filter := []
  ready : List Epoch := []
  solving : List Epoch := []
  degrade : Nat := 0
  demand : Nat := 0
  served : Nat := 0
  counting : Nat := 0
  relax : Nat := 0
  lastServed : Nat := 127
  refs : List RefEpoch := []
  rtcmN : Nat := 0
  rtcmSeq : Nat := 0
  deriving DecidableEq, Repr

/-! ## Keys, life cycle, tamper (KEY, TMP) -/

/-- A cache entry (R454, R457); `entry` the store entry it was loaded from. -/
structure CacheEntry where
  gen : Nat := 0
  used : Bool := false
  attr : Nat := 0
  long : Bool := false
  key : Bytes := []
  depth : Nat := 0
  parent : Option Nat := none
  entry : Option Nat := none
  deriving DecidableEq, Repr

/-- A store entry (R459). -/
structure StoreEntry where
  attr : Nat
  long : Bool
  tag : Nat
  key : Bytes
  deriving DecidableEq, Repr

/-- A store slot (R459, R461): entries, GEN, STATE and LC_COUNT of its header; `torn` while its blocks do not
match its header; `commit` whether a commit record carries its SLOT, GEN and IMAGE_CRC; `blank` all 0. -/
structure StoreSlot where
  entries : Tab StoreEntry := []
  gen : Nat := 0
  lcState : Nat := 0
  lcCount : Nat := 0
  torn : Bool := false
  commit : Bool := false
  blank : Bool := true
  deriving DecidableEq, Repr

/-- A store change being written (R460): its operation, the new image, the entry whose loaded copies are
zeroised, the DETAIL it completes with other than GEN. -/
structure StoreUpd where
  id : OpId
  image : Tab StoreEntry
  drop : Option Nat
  detail : Option Nat
  deriving DecidableEq, Repr

/-- A key operation in progress (R464): its descriptor and the host data it reads. -/
structure KeyRun where
  d : Desc
  data : Bytes
  aux : Bytes
  deriving DecidableEq, Repr

/-- The KEY island and the tamper latch (R454-R474).  `site` is K_SITE as entries 0-31 of the cache hold it and
its descendants; challenges by PURPOSE with their instant; phase codes of TMP_FIRST. -/
structure Key where
  isSealed : Bool := true
  lockout : Bool := false
  lost : Bool := false
  repaired : Bool := false
  aValid : Bool := false
  bValid : Bool := false
  active : Nat := 0
  slotA : StoreSlot := {}
  slotB : StoreSlot := {}
  store : Tab StoreEntry := []
  storeGen : Nat := 0
  site : Option Bytes := none
  cache : Tab CacheEntry := []
  update : Option StoreUpd := none
  running : List KeyRun := []
  chall : Tab (Bytes × Nat) := []
  latch : Nat := 0
  live : Nat := 0
  first : Nat := 7
  phase : Nat := 0
  count : Nat := 0
  holdAt : Option Nat := none
  tampered : Bool := false
  readyOnce : Bool := false
  deriving DecidableEq, Repr

/-! ## Power, boot, survey, monitoring (SYS, MON) -/

/-- An entry record (R492): target state, FT_ENTRY (FT64) and OPTIME_ENTRY (ms). -/
structure PEntry where
  target : Nat
  ft : Nat
  optime : Nat
  deriving DecidableEq, Repr

/-- A stored survey result (R509). -/
structure SurveyRec where
  seq : Nat
  data : Bytes
  deriving DecidableEq, Repr

/-- A survey under way (R502): its operation (none at power-up), items asked for and run, REF_HEAD, start;
`fieldCut` once a release ended FIELD, `cut` once a tamper ended all. -/
structure Survey where
  op : Option OpId
  items : Nat
  done : Nat
  refHead : Nat
  addr : Nat
  optime : Nat
  ft : Nat
  fieldCut : Bool
  cut : Bool
  deriving DecidableEq, Repr

/-- Boot, power state, READY, survey (R489-R512).  `optime` is operating time in ms less elapsed time; `entering`
a state change between its acceptance and t_e, with WAKE_S; `asleepAt` the operating time at t_e; `wanted` a wake
deferred to t_e + 20 s, by its source; `down` a supply below its brown-out level; `keysDue` KEY elements owed to
members since a wake from sleep; `peakFresh` that MON_TEMP_PEAK starts anew. -/
structure Pwr where
  stage : Nat := 0
  pstate : Nat := 1
  ready : Bool := false
  pcc : Nat := 0
  optime : Nat := 0
  reason : Nat := 0
  source : Nat := 0
  prev : Nat := 0
  entry : Option PEntry := none
  entering : Option (Nat × Nat) := none
  asleepAt : Nat := 0
  wakeS : Nat := 0
  wanted : Option Nat := none
  saved : Tab Word := []
  optWake : Nat := 0
  down : Bool := false
  keysDue : Bool := false
  peakFresh : Bool := true
  ftStart : Nat := 0
  causeAtService : Nat := 0
  bootAt : Nat := 0
  bootMs : Nat := 0
  unlocked : Nat := 0
  noRefclk : Bool := false
  linkUp : Bool := false
  perstN : Bool := false
  survey : Option Survey := none
  surveys : Tab SurveyRec := []
  surveySeq : Nat := 0
  surveyAlt : Nat := 0
  deriving DecidableEq, Repr


/-! ## The whole block -/

/-- Everything the block holds but its fuses and its queue of commands.  `uid` is SYS_UID (R4); `regs` the set-up
registers and counters written or changed since reset; `latch` the holding copies of latched pairs and
`heldLo` the LO halves held (R516); `out` what was sent, newest first; `lastRead` the value of the last
register read with an effect; `fresh` counts the free values used (the model's own, log 3). -/
structure Blk where
  uid : BitVec 64 := 0
  regs : Tab Word := []
  latch : Tab Word := []
  heldLo : Tab Word := []
  out : List Out := []
  lastRead : Word := 0
  fresh : Nat := 0
  hst : Hst := {}
  mem : Mem := {}
  evr : Evr := {}
  inv : Inv := {}
  fleet : Fleet := {}
  dvt : Dvt := {}
  clp : Clp := {}
  axs : Axs := {}
  air : Air := {}
  hdl : Hdl := {}
  gns : Gns := {}
  pos : Pos := {}
  key : Key := {}
  pwr : Pwr := {}
  deriving DecidableEq, Repr

/-- The life-cycle states of R466. -/
inductive LifeCycle where
  | manuf | field | rma | scrapped
  deriving DecidableEq, Repr

/-- What no reset and no command but a life-cycle change alters: the life-cycle fuses (R466, R467). -/
structure Ident where
  lc : LifeCycle
  lcCount : Nat
  deriving DecidableEq, Repr

/-- The state of the block: its working state, its fuses, and the commands that wait,
first in first out. -/
structure State where
  blk : Blk
  ident : Ident
  pending : List Instr
  deriving DecidableEq, Repr

/-- The faults a step may end in: none.  No rule of the spec gives a command an outcome after which
the block stops: a single fault is an effect on Clamp (R202), safe. -/
inductive Fault where
  deriving DecidableEq, Repr

/-- The reasons a step may be refused. -/
inductive Refusal where
  /-- Raised by `exec` alone, for a command whose meaning is not written yet; safe. -/
  | notModelled (mnemonic : String)
  deriving DecidableEq, Repr

/-! ## The state after reset (R172, R495, R496, R523) -/

/-- The record of the POWER_UP stop source, written by each channel's start into the boot records (R172, R481). -/
def bootRecord (pcc optime : Nat) : Rec :=
  { rseq := 0, code := 0x0201, flags := 0, pcc := pcc, optime := optime, ft := 0, epoch := 0, args := [11, 0xFF, 0] }

/-- The working state right after the first power-up of a module as delivered: stage RESET, power state RUN, every
register at its reset value, a site stop asserted by POWER_UP. -/
def Blk.reset : Blk :=
  let pcc := (Config.deliveredPcc.toNat + 1) % 2 ^ 24
  let optime := Config.deliveredOptime.toNat
  { uid := Config.sysUid, evr := { boot := [bootRecord pcc optime] }, pwr := { pcc := pcc, optime := optime } }

/-- The state right after reset: life cycle FIELD with one transition made, as delivered (R551), and no command
waiting. -/
def State.reset : State := { blk := Blk.reset, ident := { lc := .field, lcCount := 1 }, pending := [] }

end Sys2Proof.Machine
end

