-- ==== Sys2Proof/Machine/Ops.lean ====
section
/-! DEFINITION. Sys2Proof/Machine/Ops.lean: the named operations that every command is written with:
registers and counters, fleet time, records, queue items, completions and report items. -/

namespace Sys2Proof.Machine

open Sys2Proof

/-! ## Registers (R515-R517) -/

/-- The value a register's store holds; its reset value where it was never written (R523). -/
def Blk.reg (b : Blk) (off : Nat) : Word := Tab.val b.regs off (regReset off)

/-- The block with a register's store replaced. -/
def Blk.setReg (b : Blk) (off : Nat) (w : Word) : Blk := { b with regs := Tab.put b.regs off w }

/-- Bits `hi` to `lo` of a register. -/
def Blk.fld (b : Blk) (off hi lo : Nat) : Nat := fieldOf (b.reg off) hi lo

/-- Bit `i` of a register. -/
def Blk.flag (b : Blk) (off i : Nat) : Bool := b.fld off i i == 1

/-- A signed field of a register. -/
def Blk.sfld (b : Blk) (off hi lo : Nat) : Int := toSigned (hi - lo + 1) (b.fld off hi lo)

/-- A counter register raised by `n`, saturating at 0xFFFF_FFFF (R525). -/
def Blk.bump (b : Blk) (off : Nat) (n : Nat := 1) : Blk :=
  b.setReg off (word (min ((b.reg off).toNat + n) 0xFFFFFFFF))

/-- A register with bit `i` set. -/
def Blk.setFlag (b : Blk) (off i : Nat) : Blk := b.setReg off (word (setBit (b.reg off).toNat i))

/-- A register with bit `i` cleared. -/
def Blk.clrFlag (b : Blk) (off i : Nat) : Blk := b.setReg off (word (clearBit (b.reg off).toNat i))

/-- Something sent to the outside. -/
def Blk.emit (b : Blk) (o : Out) : Blk := { b with out := o :: b.out }

/-- One free value (log 3): the value at the counter, and the block with the counter advanced. -/
def Blk.free (b : Blk) : Nat × Blk := (Config.freeValue b.fresh, { b with fresh := b.fresh + 1 })

/-! ## One island changed -/

/-- The HST part changed. -/
def Blk.modHst (b : Blk) (f : Hst → Hst) : Blk := { b with hst := f b.hst }
/-- The MEM part changed. -/
def Blk.modMem (b : Blk) (f : Mem → Mem) : Blk := { b with mem := f b.mem }
/-- The recorder part changed. -/
def Blk.modEvr (b : Blk) (f : Evr → Evr) : Blk := { b with evr := f b.evr }
/-- The INV part changed. -/
def Blk.modInv (b : Blk) (f : Inv → Inv) : Blk := { b with inv := f b.inv }
/-- The fleet-model part changed. -/
def Blk.modFleet (b : Blk) (f : Fleet → Fleet) : Blk := { b with fleet := f b.fleet }
/-- The DVT part changed. -/
def Blk.modDvt (b : Blk) (f : Dvt → Dvt) : Blk := { b with dvt := f b.dvt }
/-- The Clamp part changed. -/
def Blk.modClp (b : Blk) (f : Clp → Clp) : Blk := { b with clp := f b.clp }
/-- The AXS part changed. -/
def Blk.modAxs (b : Blk) (f : Axs → Axs) : Blk := { b with axs := f b.axs }
/-- The AIR part changed. -/
def Blk.modAir (b : Blk) (f : Air → Air) : Blk := { b with air := f b.air }
/-- The HDL part changed. -/
def Blk.modHdl (b : Blk) (f : Hdl → Hdl) : Blk := { b with hdl := f b.hdl }
/-- The GNS part changed. -/
def Blk.modGns (b : Blk) (f : Gns → Gns) : Blk := { b with gns := f b.gns }
/-- The POS part changed. -/
def Blk.modPos (b : Blk) (f : Pos → Pos) : Blk := { b with pos := f b.pos }
/-- The KEY part changed. -/
def Blk.modKey (b : Blk) (f : Key → Key) : Blk := { b with key := f b.key }
/-- The power part changed. -/
def Blk.modPwr (b : Blk) (f : Pwr → Pwr) : Blk := { b with pwr := f b.pwr }

/-! ## Fleet time (R403-R405) -/

/-- Fleet time in whole nanoseconds. -/
def Blk.now (b : Blk) : Nat := b.inv.ft / 2 ^ 32

/-- The block at fleet instant `t` ns; fleet time never goes back (log 5: the instant of a
timed command is an operand). -/
def Blk.moveTo (b : Blk) (t : Nat) : Blk :=
  if b.inv.ft < 2 ^ 32 * t then { b with inv := { b.inv with ft := 2 ^ 32 * t } } else b

/-- Elapsed time in ns: fleet time less the steps of R409. -/
def Blk.elapsed (b : Blk) : Nat := ((b.now : Int) - b.inv.jumped).toNat

/-- Operating time in ms (R479, R489): it runs in every state. -/
def Blk.optime (b : Blk) : Nat := (b.pwr.optime + b.elapsed / 1000000) % 2 ^ 48

/-- FT64 of a fleet instant in ns (R403). -/
def ft64 (ns : Nat) : Nat := ns / 1000000000 % 2 ^ 34 * 2 ^ 30 + ns % 1000000000

/-- The fleet instant in ns that an FT64 value stands for near the present one (R404). -/
def ofFt64 (now v : Nat) : Nat :=
  let secs := v / 2 ^ 30 % 2 ^ 34
  let cur := now / 1000000000
  let d := sdiff 34 secs cur
  ((((cur : Int) + d).toNat) * 1000000000 + v % 2 ^ 30)

/-- The 12 bytes of FT96 of a fleet time in 2^-32 ns (R403). -/
def ft96Bytes (ft : Nat) : Bytes :=
  leBytes 2 (ft % 2 ^ 32 / 2 ^ 16) ++ leBytes 4 (ft / 2 ^ 32 % 1000000000)
    ++ leBytes 6 (ft / 2 ^ 32 / 1000000000)

/-- The present FT64. -/
def Blk.nowFt64 (b : Blk) : Nat := ft64 b.now

/-- Compare-unit time of a fleet instant in ns (R403). -/
def cmpTime (ns : Nat) : Nat := ns / 2 % 2 ^ 32

/-- Radio-tick time of a fleet instant in ns (R403): 63.8976 ticks per ns. -/
def radioTick (ns : Nat) : Nat := ns * 638976 / 10000 % 2 ^ 40

/-- The window counter of R190. -/
def Blk.wc (b : Blk) : Nat := b.now / 1000000 % 2 ^ 48

/-- The key period P of R190. -/
def Blk.keyPeriod (b : Blk) : Nat := b.wc / 2 ^ 16

/-! ## Names of values -/

/-- The common STATUS values of R148. -/
def St.done : Nat := 0x00
/-- R148. -/
def St.conflict : Nat := 0x01
/-- R148. -/
def St.guard : Nat := 0x02
/-- R148. -/
def St.deadlock : Nat := 0x03
/-- R148. -/
def St.stopped : Nat := 0x04
/-- R148. -/
def St.quota : Nat := 0x05
/-- R148. -/
def St.malformed : Nat := 0x06
/-- R148. -/
def St.doneClamped : Nat := 0x07
/-- R148. -/
def St.busy : Nat := 0x08
/-- R148. -/
def St.timeout : Nat := 0x09
/-- R148. -/
def St.tamper : Nat := 0x0A
/-- R148. -/
def St.keyAttr : Nat := 0x0B
/-- R148. -/
def St.notReady : Nat := 0x0C
/-- R148. -/
def St.flushed : Nat := 0x0D
/-- R148. -/
def St.lost : Nat := 0x0E
/-- R148. -/
def St.crcFail : Nat := 0x0F
/-- R148. -/
def St.denied : Nat := 0x10
/-- R148. -/
def St.void : Nat := 0x12

/-- The reasons of ABORT_MALFORMED (R94), as DETAIL with position `a` and byte offset `off` (R93). -/
def malformed (reason a off : Nat) : Nat := reason * 2 ^ 24 + a % 256 * 2 ^ 16 + off % 2 ^ 16

/-- STATE code of a member (R34). -/
def MState.code : MState → Nat
  | .absent => 0 | .associating => 1 | .active => 2 | .sleeping => 3 | .unheard => 4
  | .stopped => 5 | .evicted => 6

/-- The member state of a code (R34). -/
def MState.ofCode : Nat → Option MState
  | 0 => some .absent | 1 => some .associating | 2 => some .active | 3 => some .sleeping
  | 4 => some .unheard | 5 => some .stopped | 6 => some .evicted | _ => none

/-- STATE code of a task (R37). -/
def TState.code : TState → Nat
  | .free => 0 | .assigned => 1 | .running => 2 | .done => 3 | .cancelled => 4

/-- DEST code of an effect (R65). -/
def Dest.code : Dest → Nat
  | .axs => 0 | .air => 1 | .inv => 2 | .mem => 3

/-- STATE code of fleet time (R411). -/
def TimeState.code : TimeState → Nat
  | .unset => 0 | .tracking => 1 | .offset => 2 | .holdover => 3 | .free => 4

/-- STATE code of a ring (R131). -/
def RingState.code : RingState → Nat
  | .off => 0 | .run => 1 | .drain => 2 | .error => 3

/-- GRPg code of a group (R204). -/
def GState.code : GState → Nat
  | .on => 0 | .ramp => 1 | .off => 2 | .offFault => 3

/-- ISLAND of a CLOCK_LOSS record: the row of R7 from 0 (R481). -/
def Island.code : Island → Nat
  | .hst => 0 | .dvt => 1 | .pos => 2 | .gns => 3 | .air => 4 | .hdl => 5 | .axs => 6 | .inv => 7
  | .clpA => 8 | .clpB => 9 | .key => 10 | .mem => 11 | .aon => 12

/-! ## Tables of the state with their defaults -/

/-- Member `m` (R34). -/
def Coherent.member (c : Coherent) (m : Nat) : Member := Tab.val c.members m {}
/-- Task entry `i` (R36). -/
def Coherent.task (c : Coherent) (i : Nat) : Task := Tab.val c.tasks i {}
/-- Member `m` of the member table. -/
def Blk.member (b : Blk) (m : Nat) : Member := b.fleet.coh.member m
/-- Ring `n`. -/
def Blk.ring (b : Blk) (n : Nat) : Ring := Tab.val b.hst.rings n {}
/-- The block with ring `n` replaced. -/
def Blk.setRing (b : Blk) (n : Nat) (r : Ring) : Blk :=
  { b with hst := { b.hst with rings := Tab.put b.hst.rings n r } }
/-- Queue `n`. -/
def Blk.queue (b : Blk) (n : Nat) : Queue := Tab.val b.mem.queues n {}
/-- The block with queue `n` replaced. -/
def Blk.setQueue (b : Blk) (n : Nat) (q : Queue) : Blk :=
  { b with mem := { b.mem with queues := Tab.put b.mem.queues n q } }
/-- Group `g`; every pair is off from reset (R172). -/
def Blk.group (b : Blk) (g : Nat) : GState := Tab.val b.clp.groups g .off
/-- Axis `n`. -/
def Blk.axis (b : Blk) (n : Nat) : Axis := Tab.val b.axs.axes n {}
/-- The block with axis `n` replaced. -/
def Blk.setAxis (b : Blk) (n : Nat) (x : Axis) : Blk :=
  { b with axs := { b.axs with axes := Tab.put b.axs.axes n x } }
/-- Air link of member `m`. -/
def Blk.link (b : Blk) (m : Nat) : Link := Tab.val b.air.links m {}
/-- The block with the air link of member `m` replaced. -/
def Blk.setLink (b : Blk) (m : Nat) (l : Link) : Blk :=
  { b with air := { b.air with links := Tab.put b.air.links m l } }

/-- A site stop is asserted: either channel asserts it (R169). -/
def Blk.stopped (b : Blk) : Bool := b.clp.a.stop || b.clp.b.stop

/-- A map is in service. -/
def Blk.inService (b : Blk) : Bool := b.fleet.map.isSome

/-- The boot stage from which register writes and descriptors are served (R497, R526). -/
def Blk.inSvc (b : Blk) : Bool := b.pwr.stage == 7

/-! ## Event records (R475-R481) -/

/-- FT_VALID of a record of now: the time state is not UNSET and RC_CLOCK is 0 (R479). -/
def Blk.ftValid (b : Blk) : Bool := b.inv.state != .unset && !b.inv.rcClock

/-- The record of an event of now, not yet numbered (R479). -/
def Blk.mkRec (b : Blk) (code : Nat) (args : Bytes) : Rec :=
  { rseq := 0, code := code, flags := if b.ftValid then 2 else 0, pcc := b.pwr.pcc,
    optime := b.optime, ft := if b.ftValid then b.nowFt64 else 0, epoch := b.fleet.epoch,
    args := args }

/-- A record accepted into staging with the next RSEQ, or dropped and counted while staging is full
(R476, R477). -/
def Blk.accept (b : Blk) (r : Rec) : Blk :=
  if 256 ≤ b.evr.staging.length then
    { b with evr := { b.evr with dropped := b.evr.dropped + 1 } }.bump Reg.EVR_DROP_COUNT
  else
    { b with evr := { b.evr with
        staging := b.evr.staging ++ [{ r with rseq := b.evr.next }], next := b.evr.next + 1 } }

/-- An event record (R481): before the scan has ended it is held as a boot record with FT_VALID 0, at
most 64 of them (R478); afterwards it is accepted. -/
def Blk.record (b : Blk) (code : Nat) (args : Bytes) : Blk :=
  if b.evr.scanDone then b.accept (b.mkRec code args)
  else if b.evr.boot.length < 64 then
    { b with evr := { b.evr with
        boot := b.evr.boot ++ [{ b.mkRec code args with flags := 0, ft := 0 }] } }
  else { b with evr := { b.evr with bootDropped := b.evr.bootDropped + 1 } }

/-! ## Memory errors (R444-R451) -/

/-- MEM_LAST_ERR of an error: its kind, the master, and where (R453). -/
def errWord (kind master bank addr : Nat) : Word :=
  word (kind % 16 * 2 ^ 28 + master % 16 * 2 ^ 24 + bank % 16 * 2 ^ 20 + addr % 2 ^ 20)

/-- A memory error noted (R444, R446, R449, R451): MEM_LAST_ERR and its record. -/
def Blk.memError (b : Blk) (kind master bank addr : Nat) : Blk :=
  let w := errWord kind master bank addr
  (b.modMem (fun m => { m with lastErr := w })).record 0x0902 (leBytes 4 w.toNat)

/-! ## Queue items (R429-R438) -/

/-- Payload bytes reserved at open (R431). -/
def reservedBytes (typ : Nat) : Nat :=
  match typ with
  | 0x01 => 32 | 0x02 => 24 | 0x20 => 32 | 0x30 => 24 | 0x41 => 2080 | 0x42 => 64 | 0x43 => 48
  | 0x44 => 64 | 0x45 => 4088 | 0x46 => 627 | 0x50 => 24 | 0x60 => 32 | 0x61 => 1538 | 0x62 => 32
  | _ => 0

/-- Whether the producer of a type restarts after FLUSHED (R431). -/
def restartsAfterFlush (typ : Nat) : Bool :=
  match typ with
  | 0x41 => false | 0x42 => false | 0x44 => false | 0x45 => false | 0x61 => false | _ => true

/-- Words of an item with `n` payload bytes, its header word included (R430). -/
def itemWords (n : Nat) : Nat := 1 + ceilDiv n 8

/-- Words occupied by a queue's items, reservations included. -/
def usedWords (items : List Item) : Nat := (items.map (fun i => i.words)).sum

/-- The items with the oldest committed one removed, and its words if it stood first. -/
def dropOldest : List Item → Option (List Item × Nat)
  | [] => none
  | i :: rest =>
    if i.isOpen then (dropOldest rest).map (fun p => (i :: p.1, 0)) else some (rest, i.words)

/-- The oldest committed items discarded, whole and one by one, until `need` more words fit in `cap`
(R432): the items kept, how many were discarded, and the words the read pointer passes. -/
def makeRoom : Nat → List Item → Nat → Nat → List Item × Nat × Nat
  | 0, items, _, _ => (items, 0, 0)
  | n + 1, items, need, cap =>
    if usedWords items + need ≤ cap then (items, 0, 0)
    else match dropOldest items with
      | none => (items, 0, 0)
      | some (rest, w) =>
        let r := makeRoom n rest need cap
        (r.1, r.2.1 + 1, r.2.2 + w)

/-- A pointer moved on by `n` words in a queue of `cap` words; the wrap bit toggles at the end (R436). -/
def ptrAdd (p : BitVec 16) (n cap : Nat) : BitVec 16 :=
  let off := p.toNat % 2 ^ 15 + n
  if off < cap then BitVec.ofNat 16 (p.toNat / 2 ^ 15 * 2 ^ 15 + off)
  else BitVec.ofNat 16 ((1 - p.toNat / 2 ^ 15) * 2 ^ 15 + (off - cap))

/-- A queue's read pointer moved on, both copies. -/
def Queue.moveRd (q : Queue) (n cap : Nat) : Queue :=
  { q with rd := ptrAdd q.rd n cap, rdInv := ~~~ ptrAdd q.rd n cap }

/-- A pointer and its inverted copy disagree (R436). -/
def Queue.ptrBad (q : Queue) : Bool :=
  q.rdInv != ~~~ q.rd || q.cpInv != ~~~ q.cp || q.rsInv != ~~~ q.rs

/-- A queue with other items behind the read pointer: the commit pointer stands at the first open item, the reservation
pointer behind the last item, both copies (R433, R436). -/
def Queue.packed (q : Queue) (items : List Item) (cap : Nat) : Queue :=
  let c := ptrAdd q.rd (usedWords (items.takeWhile (fun i => !i.isOpen))) cap
  let r := ptrAdd q.rd (usedWords items) cap
  { q with items := items, cp := c, cpInv := ~~~ c, rs := r, rsInv := ~~~ r }

/-- An item as its producer shows it at an edge (R432): open with its whole reservation and `written` payload words, or
committed with what it holds.  A VOID item has no producer. -/
def Item.edge (opens : List OpenItem) (i : Item) : Item :=
  match opens.find? (fun o => o.seq == i.seq && i.typ != 0xFF) with
  | some o => { i with isOpen := true, words := itemWords (reservedBytes i.typ), written := min o.written (ceilDiv i.data.length 8) }
  | none => if i.isOpen then { i with isOpen := false, words := itemWords i.data.length, written := 0 } else i

/-- The items of a queue that stand open. -/
def Queue.opens (q : Queue) : List OpenItem :=
  (q.items.filter (fun i => i.isOpen)).map (fun i => ⟨i.seq, i.written⟩)

/-- A queue at an edge at which the producers of `opens` have not yet committed.  Items whose reservations would not fit
together were never open together, so such a report changes nothing. -/
def Queue.atEdge (q : Queue) (opens : List OpenItem) (cap : Nat) : Queue :=
  let items := q.items.map (Item.edge opens)
  if q.ptrBad || cap < usedWords items || items == q.items then q else q.packed items cap

/-- Words of queue `n`'s region (R429). -/
def Blk.queueCap (b : Blk) (n : Nat) : Nat := b.fld (Reg.QUE_Q_CFG n) 6 0 * 128

/-- Queue `n`, one of the 64 of R429, is enabled. -/
def Blk.queueOn (b : Blk) (n : Nat) : Bool := decide (n < 64) && b.flag (Reg.QUE_Q_CFG n) 31

/-- A committed item appended with the queue's next SEQ (R430, R432). -/
def Queue.append (q : Queue) (typ flags : Nat) (data : Bytes) (cap : Nat) : Queue :=
  { q with nextSeq := (q.nextSeq + 1) % 2 ^ 32 }.packed
    (q.items ++ ([⟨false, itemWords data.length, typ, flags, q.nextSeq, data, 0⟩] : List Item)) cap

/-- The payload of a QUE_ERROR item (R438). -/
def queErrorPayload (n cause lost : Nat) (q : Queue) (t : Nat) : Bytes :=
  leBytes 1 n ++ leBytes 1 cause ++ leBytes 2 (min lost 0xFFFF)
    ++ leBytes 4 (q.cp.toNat + q.cpInv.toNat * 2 ^ 16)
    ++ leBytes 4 (q.rd.toNat + q.rdInv.toNat * 2 ^ 16) ++ zeros 4 ++ leBytes 8 t

/-- An item reserved, written and committed in queue `n` (R432), its reservation `need` words: too
large it is lost; else committed items make room; else it waits behind open items. -/
def Blk.reserve (b : Blk) (n typ flags : Nat) (data : Bytes) : Blk :=
  let q := b.queue n
  let cap := b.queueCap n
  let need := itemWords (reservedBytes typ)
  if need > cap then
    (b.setQueue n { q with tooSmall := true }).bump (Reg.QUE_Q_LOST_COUNT n)
  else if q.waiting ≠ [] then
    b.setQueue n { q with waiting := q.waiting ++ ([⟨typ, flags, need, data⟩] : List Waiting) }
  else
    let r := makeRoom q.items.length q.items need cap
    let q' := { q with items := r.1 }.moveRd r.2.2 cap
    let b' := if r.2.1 = 0 then b else b.bump (Reg.QUE_Q_LOST_COUNT n) r.2.1
    if usedWords r.1 + need ≤ cap then b'.setQueue n (q'.append typ flags data cap)
    else b'.setQueue n { q' with waiting := [⟨typ, flags, need, data⟩] }

/-- What a flush leaves of the items (R435): committed items go; an open item with payload written
becomes VOID; an open item without is released. -/
def flushItems : List Item → List Item
  | [] => []
  | i :: rest =>
    if i.isOpen && 0 < i.written then
      ⟨false, 1 + i.written, 0xFF, 0, i.seq, zeros (min (8 * i.written) i.data.length), 0⟩ :: flushItems rest
    else flushItems rest

/-- The committed items of a queue. -/
def committed (items : List Item) : List Item := items.filter (fun i => !i.isOpen)

/-- A flush of queue `n` at one MEM edge (R435): committed items count as lost, open items become VOID
or are released, and their producers restart into new slots or drop (R431). -/
def Blk.flushQueue (b : Blk) (n : Nat) : Blk :=
  let q := b.queue n
  let open' := q.items.filter (fun i => i.isOpen)
  let lost := (committed q.items).length
  let kept := flushItems q.items
  let lead := usedWords (q.items.takeWhile (fun i => !(i.isOpen && 0 < i.written)))
  let b1 := b.setQueue n (if kept = [] then { q with items := [], rd := q.rs, rdInv := q.rsInv, cp := q.rs, cpInv := q.rsInv }
    else (q.moveRd lead (b.queueCap n)).packed kept (b.queueCap n))
  let b2 := if lost = 0 then b1 else b1.bump (Reg.QUE_Q_LOST_COUNT n) lost
  open'.foldl (fun b i =>
    if restartsAfterFlush i.typ then b.reserve n i.typ (setBit i.flags 1) i.data
    else b.bump Reg.QUE_VOID_COUNT) b2

/-- A queue reset (R437): it is flushed, its pointers go to its start, and the reset is counted, recorded and reported in
queue 0. -/
def Blk.resetQueue (b : Blk) (n : Nat) : Blk :=
  let q := b.queue n
  let lost := (committed q.items).length
  let b1 := b.flushQueue n
  let b2 := b1.setQueue n { b1.queue n with rd := 0, rdInv := 0xFFFF, cp := 0, cpInv := 0xFFFF,
                                            rs := 0, rsInv := 0xFFFF }
  let b3 := ({ b2 with mem := { b2.mem with ptrErr := true } }.bump Reg.QUE_PTR_ERR_COUNT).record
    0x0901 (leBytes 1 n)
  if b3.queueOn 0 then b3.reserve 0 0x02 0 (queErrorPayload n 1 lost q b3.nowFt64) else b3

/-- The pointer check of R436 and R437: on a mismatch the queue is reset. -/
def Blk.checkQueue (b : Blk) (n : Nat) : Blk := if (b.queue n).ptrBad then b.resetQueue n else b

/-- Queue `n` at an edge at which its producers hold `opens` open. -/
def Blk.queueEdge (b : Blk) (n : Nat) (opens : List OpenItem) : Blk :=
  b.setQueue n ((b.queue n).atEdge opens (b.queueCap n))

/-- An item of a type produced for queue `n`: nothing while the queue is disabled; when it is first
refused as TOO_SMALL, a QUE_ERROR item with CAUSE 2 follows in queue 0 (R432, R438). -/
def Blk.produce (b : Blk) (n typ : Nat) (data : Bytes) (flags : Nat := 0) : Blk :=
  if b.queueOn n then
    let b1 := b.checkQueue n
    let was := (b1.queue n).tooSmall
    let b2 := b1.reserve n typ flags data
    if (b2.queue n).tooSmall && !was && b2.queueOn 0 then
      (b2.checkQueue 0).reserve 0 0x02 0 (queErrorPayload n 2 1 (b2.queue n) b2.nowFt64)
    else b2
  else b

/-! ## Report items (R521, R522) -/

/-- A configuration-report item for bits `msb` to `lsb` of the register at `off`: counted whether or
not queue 0 takes it. -/
def Blk.report (b : Blk) (off msb lsb cause flags requested applied : Nat) : Blk :=
  let b1 := (b.bump Reg.SYS_CLAMP_COUNT).setReg Reg.SYS_LAST_CLAMP (word off)
  b1.produce 0 0x01 (leBytes 4 off ++ leBytes 1 msb ++ leBytes 1 lsb ++ leBytes 1 cause
    ++ leBytes 1 flags ++ leBytes 8 requested ++ leBytes 8 applied
    ++ leBytes 8 (if b.inv.state = .unset then 0 else b.nowFt64))

/-! ## Completion rings (R146-R162) -/

/-- Entries of ring `n`: 2^LOG2SIZE (R130). -/
def Blk.ringSize (b : Blk) (n : Nat) : Nat := 2 ^ b.fld (Reg.HST_RCFG n) 8 4

/-- The completion ring of submission ring `n` (R130, R161). -/
def Blk.cqOf (b : Blk) (n : Nat) : Nat :=
  if b.hst.planes && n < 6 then n / 2 * 2 + 1 else b.fld (Reg.HST_RSCHED n) 14 8

/-- Ring `n` is a completion ring (R161: fixed for rings 0-5 in planes mode). -/
def Blk.isCq (b : Blk) (n : Nat) : Bool :=
  if b.hst.planes && n < 6 then n % 2 == 1 else b.flag (Reg.HST_RCFG n) 1

/-- U of a completion ring: entries written and not freed, and those held (R153). -/
def Blk.cqU (b : Blk) (cq : Nat) : Nat :=
  ((b.ring cq).tail + b.ringSize cq - (b.ring cq).head) % b.ringSize cq + (b.ring cq).held.length

/-- F of a completion ring: operations in flight of the rings that name it (R153). -/
def Blk.cqF (b : Blk) (cq : Nat) : Nat :=
  (b.hst.ops.filter (fun o => b.cqOf o.id.ring == cq)).length

/-- Room for a descriptor or a queue item: U + F + 1 ≤ S − 64 (R153). -/
def Blk.cqRoom (b : Blk) (cq : Nat) : Bool := b.cqU cq + b.cqF cq + 1 + 64 ≤ b.ringSize cq

/-- Room for a coalesced, marker or ring-error entry: U ≤ S − 2 (R153). -/
def Blk.cqRoom2 (b : Blk) (cq : Nat) : Bool := b.cqU cq + 2 ≤ b.ringSize cq

/-- The MSI-X message of a vector, or its pending bit while the vector is masked (R157). -/
def Blk.sendMsix (b : Blk) (v : Nat) : Blk :=
  if (Tab.val b.hst.msixTab (4 * v + 3) 1).getLsbD 0 then
    { b with hst := { b.hst with msixPend := Tab.put b.hst.msixPend v true } }
  else b.emit (.msix v)

/-- One entry written to the next index of a completion ring with its phase (R150, R152). -/
def Blk.writeEntry (b : Blk) (cq : Nat) (e : Entry) : Blk :=
  let r := b.ring cq
  let t := (r.tail + 1) % b.ringSize cq
  (b.emit (.entry cq r.tail r.phase e)).setRing cq
    { r with tail := t, phase := if t = 0 then !r.phase else r.phase, sinceMsg := r.sinceMsg + 1 }

/-- After a write, the message of an ARMED ring (R157). -/
def Blk.announce (b : Blk) (cq : Nat) : Blk :=
  let r := b.ring cq
  if r.armed then
    (b.setRing cq { r with armed := false, sinceMsg := 0 }).sendMsix (b.fld (Reg.HST_RIRQ cq) 6 0)
  else b

/-- Every held entry of a completion ring written, in order, then the message (R157). -/
def Blk.flushHeld (b : Blk) (cq : Nat) : Blk :=
  let es := (b.ring cq).held
  if es = [] then b
  else (es.foldl (fun b e => b.writeEntry cq e) (b.setRing cq { b.ring cq with held := [] })).announce cq

/-- An entry produced for a completion ring in RUN: held under moderation, or written with every held
entry when the held count is reached, nothing is held (TIMER 0), or `force` (R157). -/
def Blk.cqProduce (b : Blk) (cq : Nat) (e : Entry) (force : Bool) : Blk :=
  let r := b.ring cq
  if r.state = .run then
    let b1 := b.setRing cq { r with held := r.held ++ [e],
                                    heldSince := if r.held = [] then b.elapsed else r.heldSince }
    if force || b.fld (Reg.HST_RIRQ cq) 25 16 == 0 || b.fld (Reg.HST_RIRQ cq) 15 8 ≤ r.held.length + 1
    then b1.flushHeld cq else b1
  else b

/-- A ring-error entry of ring `n` in its completion ring, or in itself for a CQ (R137, R142, R147);
without room under R153 it is not written. -/
def Blk.ringError (b : Blk) (n status detail : Nat) : Blk :=
  let cq := if b.isCq n then n else b.cqOf n
  if b.cqRoom2 cq then
    b.cqProduce cq ⟨0xC0F0, status, n, detail, b.fleet.epoch, b.nowFt64, 0⟩ true
  else b

/-- The completion of an operation is held for the superframe batch (R154): it is of class 0x03 or 0x04 and, in planes
mode, of the data plane (R162). -/
def batched (planes : Bool) (id : OpId) : Bool :=
  (id.cls == 0x03 || id.cls == 0x04) && (!planes || id.ring == 2)

/-- The entry of a completed operation delivered to its completion ring. -/
def Blk.deliver (b : Blk) (id : OpId) (e : Entry) : Blk :=
  b.cqProduce (b.cqOf id.ring) e (e.status == St.crcFail)

/-- In planes mode, the completions of ring `n` delivered in fetch order, as far as every predecessor
is complete (R162); a batched one waits for the superframe's end unless `flush`.  The count is of the
entries delivered. -/
def Blk.drainPlane (b : Blk) (n : Nat) (flush : Bool) : List Op → List Op × List (OpId × Entry)
  | [] => ([], [])
  | o :: rest =>
    if o.id.ring = n then
      match o.done with
      | some e =>
        if batched true o.id && !flush then (o :: rest, [])
        else
          let r := Blk.drainPlane b n flush rest
          (r.1, (o.id, e) :: r.2)
      | none => (o :: rest, [])
    else
      let r := Blk.drainPlane b n flush rest
      (o :: r.1, r.2)

/-- The deliverable completions of a plane delivered. -/
def Blk.runPlane (b : Blk) (n : Nat) (flush : Bool) : Blk :=
  let r := Blk.drainPlane b n flush b.hst.ops
  r.2.foldl (fun b p => b.deliver p.1 p.2) { b with hst := { b.hst with ops := r.1 } }

/-- The same operation: ring and tag agree, and no function-level reset lies between (R129, R141). -/
def sameOp (a b : OpId) : Bool := a.ring == b.ring && a.tag == b.tag && a.flrs == b.flrs

/-- The operation is in flight. -/
def Blk.inFlight (b : Blk) (id : OpId) : Bool := b.hst.ops.any (fun o => sameOp o.id id)

/-- An operation completes (R147): the completion is handed to the ring engine, which writes it if the
operation is in flight: held for the batch (R154), or for its predecessors in planes mode (R162), or
delivered. -/
def Blk.completeAt (b : Blk) (id : OpId) (status detail epoch time : Nat) : Blk :=
  let e : Entry := ⟨min id.tag 0xFFFF, status, id.ring, detail % 2 ^ 32, epoch, time, id.cookie⟩
  let b1 := b.emit (.completion id e)
  if b1.inFlight id then
    if b1.hst.planes then
      Blk.runPlane { b1 with hst := { b1.hst with
        ops := b1.hst.ops.map (fun o => if sameOp o.id id then { o with done := some e } else o) } }
        id.ring false
    else if batched false id then
      { b1 with hst := { b1.hst with
        ops := b1.hst.ops.map (fun o => if sameOp o.id id then { o with done := some e } else o)
        batch := b1.hst.batch ++ [id] } }
    else
      Blk.deliver { b1 with hst := { b1.hst with ops := b1.hst.ops.filter (fun o => !sameOp o.id id) } }
        id e
  else b1

/-- An operation completes now with the current epoch (R147). -/
def Blk.complete (b : Blk) (id : OpId) (status detail : Nat) : Blk :=
  b.completeAt id status detail b.fleet.epoch b.nowFt64

/-- An operation completes DONE with DETAIL. -/
def Blk.done (b : Blk) (id : OpId) (detail : Nat := 0) : Blk := b.complete id St.done detail

/-- An operation completes ABORT_MALFORMED with a reason of R94 at a byte offset of its header. -/
def Blk.bad (b : Blk) (id : OpId) (reason off : Nat) : Blk :=
  b.complete id St.malformed (malformed reason 0xFF off)

end Sys2Proof.Machine
end

