-- ==== Sys2Proof/Machine/Frame.lean ====
section
/-! DEFINITION. Sys2Proof/Machine/Frame.lean: the frames on the links: HeadLink frames in Ethernet (R314-R318)
and the PSDUs of the air protocol (R275-R278), built and opened byte by byte. -/

namespace Sys2Proof.Machine

open Sys2Proof

/-! ## Derivation (R455) -/

/-- An ASCII text as bytes. -/
def ascii (s : String) : Bytes := s.toList.map (fun c => BitVec.ofNat 8 c.toNat)

/-- Derive(K, L, C, n) of R455, with PRF CMAC-AES-256. -/
def derive (k : Bytes) (label : String) (ctx : Bytes) (bits : Nat) : Bytes :=
  let z := ascii label ++ zeros 1 ++ ctx ++ beBytes 4 bits
  if bits = 256 then Config.cmac k (beBytes 4 1 ++ z) ++ Config.cmac k (beBytes 4 2 ++ z)
  else Config.cmac k (beBytes 4 1 ++ z)

/-- Bits [255:128] of a 256-bit key: its first 16 bytes (R319, R456). -/
def upperHalf (k : Bytes) : Bytes := slice k 0 16

/-! ## Ethernet (R314, R315) -/

/-- The MAC address of port `p` (R314). -/
def macOf (uid p : Nat) : Nat := 0x02 * 2 ^ 40 + uid % 2 ^ 32 * 2 ^ 8 + p

/-- An Ethernet II frame from port `p` with HDL_CFG's EtherType and tag (R315). -/
def Blk.ethernet (b : Blk) (p : Nat) (dst payload : Bytes) : Bytes :=
  dst ++ beBytes 6 (macOf b.uid.toNat p)
    ++ (if b.flag Reg.HDL_CFG 15 then
          beBytes 2 0x8100 ++ beBytes 2 (b.fld Reg.HDL_CFG 14 12 * 2 ^ 13 + b.fld Reg.HDL_CFG 11 0)
        else [])
    ++ beBytes 2 (b.fld Reg.HDL_CFG 31 16) ++ payload

/-- The payload of a received Ethernet frame with HDL_CFG's EtherType, tagged or not (R315). -/
def Blk.ethPayload (b : Blk) (frame : Bytes) : Option Bytes :=
  let et := b.fld Reg.HDL_CFG 31 16
  if be frame 12 2 = 0x8100 then (if be frame 16 2 = et then some (frame.drop 18) else none)
  else if be frame 12 2 = et then some (frame.drop 14) else none

/-! ## HeadLink frames (R316, R317) -/

/-- Bytes 0x00-0x0B of a HeadLink frame. -/
def hlHeader (typ head flags len cnt : Nat) : Bytes :=
  leBytes 1 1 ++ leBytes 1 typ ++ leBytes 1 head ++ leBytes 1 flags ++ leBytes 2 len ++ zeros 2 ++ leBytes 4 cnt

/-- The nonce of R317: EUI, DIR, CNT. -/
def hlNonce (eui dir cnt : Nat) : Bytes := leBytes 8 eui ++ leBytes 1 dir ++ leBytes 4 cnt

/-- A HeadLink frame with SEC = 1, from VER to HCRC (R316, R317). -/
def hlFrame (key : Bytes) (eui dir typ head cnt : Nat) (enc : Bool) (payload : Bytes) : Bytes :=
  let hdr := hlHeader typ head (1 + 2 * b2n enc) payload.length cnt
  let sealed' := if enc then Config.ccmSeal key (hlNonce eui dir cnt) hdr payload 8
    else payload ++ Config.ccmSeal key (hlNonce eui dir cnt) (hdr ++ payload) [] 8
  let all := hdr ++ sealed'
  all ++ leBytes 4 (crc32c all).toNat

/-- A HeadLink frame as received, before its checks: TYPE, HEAD, FLAGS, CNT, header and what follows it. -/
structure HlRx where
  typ : Nat
  head : Nat
  flags : Nat
  cnt : Nat
  hdr : Bytes
  rest : Bytes
  deriving DecidableEq, Repr

/-- The HCRC check and the fields of a frame (R316, R317): none where VER or HCRC fails. -/
def hlParse (f : Bytes) : Option HlRx :=
  let len := le f 4 2
  let n := 12 + len + (if bitOf (byteAt f 3) 0 then 8 else 0)
  if byteAt f 0 = 1 ∧ len ≤ 1440 ∧ n + 4 ≤ f.length ∧ (crc32c (slice f 0 n)).toNat = le f n 4 then
    some ⟨byteAt f 1, byteAt f 2, byteAt f 3, le f 8 4, slice f 0 12, slice f 12 (n - 12)⟩
  else none

/-- The payload of a frame with SEC = 1 whose MIC verifies (R317). -/
def hlOpen (key : Bytes) (eui dir : Nat) (x : HlRx) : Option Bytes :=
  let nonce := hlNonce eui dir x.cnt
  if !bitOf x.flags 0 then none
  else if bitOf x.flags 1 then Config.ccmOpen key nonce x.hdr x.rest 8
  else
    let n := x.rest.length - 8
    (Config.ccmOpen key nonce (x.hdr ++ slice x.rest 0 n) (x.rest.drop n) 8).map (fun _ => slice x.rest 0 n)

/-! ## PSDUs (R275-R278) -/

/-- One byte of the CRC-16 of IEEE 802.15.4, reflected (R268). -/
def fcsByte (c : BitVec 16) (x : Byte) : BitVec 16 :=
  (List.range 8).foldl (fun a _ => if a.getLsbD 0 then (a >>> 1) ^^^ 0x8408#16 else a >>> 1) (c ^^^ x.setWidth 16)

/-- The FCS of a PSDU (R268, R275). -/
def fcs (bs : Bytes) : Nat := (bs.foldl fcsByte 0#16).toNat

/-- Header bytes 0x00-0x0B of a PSDU (R275). -/
def psduHeader (fc seq site dst src fcnt : Nat) : Bytes :=
  leBytes 1 fc ++ leBytes 1 seq ++ leBytes 2 site ++ leBytes 2 dst ++ leBytes 2 src ++ leBytes 4 fcnt

/-- The nonce of R278; `level` 6 encrypts, 2 authenticates. -/
def airNonce (site src dst x fcnt level : Nat) : Bytes :=
  leBytes 2 site ++ leBytes 2 src ++ leBytes 2 dst ++ leBytes 2 x ++ leBytes 4 fcnt ++ leBytes 1 level

/-- A PSDU with its FCS. -/
def withFcs (bs : Bytes) : Bytes := bs ++ leBytes 2 (fcs bs)

/-- A secured PSDU (R275, R278): type, ACK_REQ and MORE in `fc`, SEC set. -/
def psduSeal (key : Bytes) (fc seq site dst src fcnt x : Nat) (enc : Bool) (payload : Bytes) : Bytes :=
  let hdr := psduHeader (fc + 16) seq site dst src fcnt
  let nonce := airNonce site src dst x fcnt (if enc then 6 else 2)
  withFcs (hdr ++ (if enc then Config.ccmSeal key nonce hdr payload 8
    else payload ++ Config.ccmSeal key nonce (hdr ++ payload) [] 8))

/-- A PSDU as received. -/
structure Psdu where
  typ : Nat
  ackReq : Bool
  more : Bool
  isSec : Bool
  seq : Nat
  site : Nat
  dst : Nat
  src : Nat
  fcnt : Nat
  hdr : Bytes
  body : Bytes
  deriving DecidableEq, Repr

/-- The fields of a received PSDU, its FCS dropped: the head forwards only frames whose FCS passes (R330). -/
def psduParse (p : Bytes) : Psdu :=
  ⟨byteAt p 0 % 16, bitOf (byteAt p 0) 5, bitOf (byteAt p 0) 6, bitOf (byteAt p 0) 4, byteAt p 1, le p 2 2, le p 4 2,
    le p 6 2, le p 8 4, slice p 0 12, slice p 12 (p.length - 14)⟩

/-- The payload of a secured PSDU whose MIC verifies (R278). -/
def psduOpen (key : Bytes) (x : Nat) (enc : Bool) (p : Psdu) : Option Bytes :=
  let nonce := airNonce p.site p.src p.dst x p.fcnt (if enc then 6 else 2)
  if !p.isSec then none
  else if enc then Config.ccmOpen key nonce p.hdr p.body 8
  else
    let n := p.body.length - 8
    (Config.ccmOpen key nonce (p.hdr ++ slice p.body 0 n) (p.body.drop n) 8).map (fun _ => slice p.body 0 n)

/-- The elements of a payload (R277), as (ETYPE, body); none where they do not fill it exactly. -/
def elements : Nat → Bytes → Option (List (Nat × Bytes))
  | _, [] => some []
  | 0, _ :: _ => none
  | n + 1, p =>
    let len := le p 1 2
    if p.length < 3 + len then none
    else (elements n (p.drop (3 + len))).map (fun r => (byteAt p 0, slice p 3 len) :: r)

/-- One element in a payload (R277). -/
def elemBytes (etype : Nat) (body : Bytes) : Bytes := leBytes 1 etype ++ leBytes 2 body.length ++ body

end Sys2Proof.Machine
end

