-- ==== Sys2Proof/Machine/Operands.lean ====
section
/-! DEFINITION. Sys2Proof/Machine/Operands.lean: the fields of descriptors (R71, R72, R143) and the
start of an operation: in-flight bookkeeping and FENCE (R104, R141, R143). -/

namespace Sys2Proof.Machine

open Sys2Proof

/-! ## Descriptor fields (R71) -/

/-- OPCODE, bytes 0-1. -/
def Desc.opcode (d : Desc) : Nat := le d.bytes 0 2
/-- The opcode class, the high byte of OPCODE. -/
def Desc.cls (d : Desc) : Nat := d.opcode / 256
/-- FLAGS, byte 2. -/
def Desc.flags (d : Desc) : Nat := byteAt d.bytes 2
/-- FENCE, bit 1 of FLAGS for every class (R143). -/
def Desc.fence (d : Desc) : Bool := bitOf d.flags 1
/-- NSLOT, byte 3. -/
def Desc.nslot (d : Desc) : Nat := byteAt d.bytes 3
/-- The TAG field, bytes 4-5. -/
def Desc.tagField (d : Desc) : Nat := le d.bytes 4 2
/-- NACT, byte 7. -/
def Desc.nact (d : Desc) : Nat := byteAt d.bytes 7
/-- An operand of `n` bytes at byte offset `off` of the descriptor. -/
def Desc.op (d : Desc) (off n : Nat) : Nat := le d.bytes off n
/-- What names the operation of a descriptor. -/
def Desc.id (d : Desc) : OpId := ⟨d.ring.val, d.tagField % 1024, le d.bytes 0x10 8, d.cls, d.flrs⟩

/-- A FLAGS bit that the opcode leaves undefined is set: bits 7-3 of a TXN (R71), every bit but FENCE of another
opcode (R143). -/
def Desc.flagsBad (d : Desc) : Bool :=
  if d.opcode = 0x0101 then d.flags / 8 != 0 else clearBit d.flags 1 != 0

/-- The check of the header of a class other than 0x01: FLAGS other than FENCE are 0 (R143) and NACT
is 0 (R57); the reason of R94 and the byte offset of the first failure, in header order (R552). -/
def Desc.headerFault (d : Desc) : Option (Nat × Nat) :=
  if clearBit d.flags 1 ≠ 0 then some (0x04, 2)
  else if d.nact ≠ 0 then some (0x03, 7)
  else none

/-- Action positions of a descriptor of `n` slots, with or without CRC (R72). -/
def actionCapacity (n : Nat) (crc : Bool) : Nat :=
  if n = 0 then 0 else if crc then max 1 (4 * (n - 1)) else 2 + 4 * (n - 1)

/-- The smallest NSLOT that holds `nact` actions (R72); 0 where none up to 5 does. -/
def slotsFor (nact : Nat) (crc : Bool) : Nat :=
  if nact ≤ actionCapacity 1 crc then 1
  else if nact ≤ actionCapacity 2 crc then 2
  else if nact ≤ actionCapacity 3 crc then 3
  else if nact ≤ actionCapacity 4 crc then 4
  else if nact ≤ actionCapacity 5 crc then 5
  else 0

/-- The NSLOT that R72 requires of a descriptor: of a TXN the smallest that holds its actions, else 1.
R72 gives no number for a TXN whose NACT is outside 1-16: any of 1 to 5 passes, and stage 1 of R88 reports its NACT (log 20). -/
def Desc.nslotOk (d : Desc) (crc : Bool) : Bool :=
  if d.opcode = 0x0101 then
    if 1 ≤ d.nact ∧ d.nact ≤ 16 then d.nslot == slotsFor d.nact crc else decide (1 ≤ d.nslot ∧ d.nslot ≤ 5)
  else d.nslot == 1

/-! ## Eligibility (R144, R145) -/

/-- Slots of an SQ published and not fetched. -/
def Blk.published (b : Blk) (n : Nat) : Nat :=
  ((b.ring n).tail + b.ringSize n - (b.ring n).head) % b.ringSize n

/-- An SQ is eligible for a fetch (R144); none while a SNAPSHOT waits in its ring (R50). -/
def Blk.eligible (b : Blk) (n : Nat) : Bool :=
  let r := b.ring n
  b.pwr.entering.isNone && r.state == .run && !b.isCq n && 0 < b.published n && r.partialNeed == 0
    && decide ((b.hst.ops.filter (fun o => o.id.ring == n)).length < b.fld (Reg.HST_RSCHED n) 26 16)
    && decide (b.hst.ops.length < 1024) && b.cqRoom (b.cqOf n)
    && !b.hst.fenced.any (fun d => d.ring.val == n && d.fence)
    && !b.fleet.snapQueue.any (fun d => d.ring.val == n)

/-- The fetcher's visit ends where the ring it serves is no longer eligible (R145). -/
def Blk.endVisit (b : Blk) (eligible : Bool) : Blk :=
  if eligible then b else { b with hst := { b.hst with fetchCount := 16 } }

/-- That test after what can end a ring's eligibility: a descriptor taken or held, an entry more in a completion ring, a
ring that stops. -/
def Blk.recheck (b : Blk) : Blk := b.endVisit (b.eligible b.hst.fetchRing)

/-! ## What planes mode leaves (R163) -/

/-- Axes that may be named. -/
def Blk.nAxes (b : Blk) : Nat := if b.hst.planes then 16 else 48
/-- Members that may be named. -/
def Blk.nMix (b : Blk) : Nat := if b.hst.planes then 24 else 128

/-! ## Operations in flight (R141, R143) -/

/-- The operation counted in flight at the end of the fetch order, if it is not yet, its ring
serves and no function-level reset has come since its fetch (R129, R141). -/
def Blk.enter (b : Blk) (id : OpId) (fence : Bool) : Blk :=
  if b.inFlight id || id.flrs != b.hst.flrs then b
  else if (b.ring id.ring).state = .run then
    { b with hst := { b.hst with ops := b.hst.ops ++ [⟨id, fence, none⟩] } }
  else b

/-- The operations of the same ring fetched before an operation. -/
def earlierOps : List Op → OpId → List Op
  | [], _ => []
  | o :: rest, id =>
    if sameOp o.id id then []
    else if o.id.ring = id.ring then o :: earlierOps rest id else earlierOps rest id

/-- A descriptor must wait (R103, R104, R143): it carries FENCE and an earlier descriptor of its ring has
not completed, or it is a transaction and an earlier transaction of its ring carries FENCE and has not, or is itself
still held; or a SNAPSHOT before it waits in their ring (R50). -/
def Blk.fenceBlocked (b : Blk) (d : Desc) : Bool :=
  let es := earlierOps b.hst.ops d.id
  (d.fence && !es.isEmpty) || b.fleet.snapQueue.any (fun x => es.any (fun o => sameOp x.id o.id)) || (d.opcode == 0x0101 && es.any (fun o => o.id.cls == 0x01 &&
    (o.fence || b.hst.fenced.any (fun x => x.opcode == 0x0101 && sameOp x.id o.id))))

/-- A descriptor held for a FENCE, in fetch order. -/
def Blk.hold (b : Blk) (d : Desc) : Blk :=
  if b.hst.fenced.contains d then b else Blk.recheck { b with hst := { b.hst with fenced := b.hst.fenced ++ [d] } }

/-- A descriptor's operation starts: it is in flight, and unless a FENCE holds it back its meaning
runs. -/
def Blk.startRaw (b : Blk) (d : Desc) (f : Blk → Blk) : Blk :=
  let b1 := b.enter d.id d.fence
  if b1.fenceBlocked d then b1.hold d
  else f { b1 with hst := { b1.hst with fenced := b1.hst.fenced.filter (fun x => x ≠ d) } }

/-- A descriptor of a class other than 0x01 starts: its header is checked before its meaning runs. -/
def Blk.start (b : Blk) (d : Desc) (f : Blk → Blk) : Blk :=
  b.startRaw d (fun b2 =>
    match d.headerFault with
    | some (reason, off) => b2.bad d.id reason off
    | none => f b2)

end Sys2Proof.Machine
end

