-- ==== Sys2Proof/Machine/Judge.lean ====
section
/-! DEFINITION. Sys2Proof/Machine/Judge.lean: the judgement of one transaction by Dovetail, stage by
stage, over a working copy of the coherent state (R70-R95, R552). -/

namespace Sys2Proof.Machine

open Sys2Proof

/-- "No task" (R36). -/
def noTask : Nat := 0xFFFFFFFF

/-! ## Reading a transaction (R71-R74, R277, R298) -/

/-- Byte offsets of the action positions of a host descriptor (R71, R72). -/
def hostOffsets (crc : Bool) (n : Nat) : List Nat :=
  (List.range n).map (fun i =>
    if i = 0 then 0x20
    else if crc then 0x40 + 16 * (i - 1)
    else if i = 1 then 0x30 else 0x40 + 16 * (i - 2))

/-- The DETAIL of the first malformed header field of a TXN descriptor, in offset order (R552). -/
def txnHeaderBad (d : Desc) : Option Nat :=
  let bs := d.bytes
  if bitsOf d.flags 7 3 ≠ 0 then some (malformed 0x04 0xFF 2)
  else if d.tagField ≥ 1024 then some (malformed 0x05 0xFF 4)
  else if 3 < byteAt bs 6 then some (malformed 0x06 0xFF 6)
  else if d.nact = 0 ∨ 16 < d.nact then some (malformed 0x03 0xFF 7)
  else if !bitOf d.flags 2 && le bs 0x18 8 != 0 then some (malformed 0x04 0xFF 0x18)
  else none

/-- The byte positions of a descriptor that carry no action and must be 0 (R72). -/
def unusedBytes (d : Desc) (crc : Bool) : List Nat :=
  let offs := hostOffsets crc d.nact
  let used := offs.flatMap (fun o => (List.range 16).map (fun k => o + k))
  let total := 64 * d.nslot
  ((List.range (total - 0x20)).map (fun k => 0x20 + k)).filter
    (fun o => !used.contains o && !(crc && decide (total - 4 ≤ o)))

/-- The transaction of a host descriptor (R71). -/
def txnOfDesc (d : Desc) (crc : Bool) : Txn :=
  let offs := hostOffsets crc d.nact
  { src := .host d.id, flags := d.flags, ets := byteAt d.bytes 6, treq := le d.bytes 8 8,
    after := le d.bytes 0x18 8, acts := offs.map (fun o => slice d.bytes o 16), offs := offs,
    headBad := txnHeaderBad d
    tailBad := ((unusedBytes d crc).find? (fun o => byteAt d.bytes o != 0)).map (malformed 0x04 0xFF) }

/-- The transaction of a member's TXN element body: REQ_ID, FLAGS, NACT, 0, actions (R277, R298). -/
def txnOfElement (mix : Nat) (body : Bytes) : Txn :=
  let nact := byteAt body 2
  let offs := (List.range (min nact 16)).map (fun i => 4 + 16 * i)
  { src := .air mix (byteAt body 0), flags := byteAt body 1, ets := 0, treq := 0, after := 0,
    acts := offs.map (fun o => slice body o 16), offs := offs
    headBad :=
      if byteAt body 1 / 2 ≠ 0 then some (malformed 0x04 0xFF 1)
      else if nact = 0 ∨ 16 < nact then some (malformed 0x03 0xFF 2)
      else if byteAt body 3 ≠ 0 then some (malformed 0x04 0xFF 3)
      else if body.length ≠ 4 + 16 * nact then some (malformed 0x03 0xFF 2)
      else none
    tailBad := none, nact := nact }

/-- A transaction of the device's own (R109). -/
def deviceTxn (mix : Nat) (acts : List Bytes) : Txn :=
  { src := .device mix, flags := 0, ets := 0, treq := 0, after := 0, acts := acts,
    offs := acts.map (fun _ => 0), headBad := none, tailBad := none }

/-- The 16 bytes of an action: code, object and operand bytes. -/
def mkAct (code obj : Nat) (ops : Bytes) : Bytes :=
  slice (leBytes 1 code ++ [0] ++ leBytes 2 obj ++ ops) 0 16

/-- The code of an action. -/
def actCode (a : Bytes) : Nat := byteAt a 0
/-- CONT of an action (R74). -/
def actCont (a : Bytes) : Bool := bitOf (byteAt a 1) 0
/-- The object index of an action. -/
def actObj (a : Bytes) : Nat := le a 2 2

/-! ## Limits that planes mode and the set-up give (R163, R338, R368) -/

/-- A holder that a reservation may name (R31, R76, R163). -/
def Blk.holderOk (b : Blk) (h : Nat) : Bool :=
  (decide (1 ≤ h) && decide (h ≤ b.nMix)) || (decide (0x81 ≤ h) && decide (h ≤ 0x80 + b.nAxes)) || h == 0xF0
/-- A holder byte that Mortise can store (R31). -/
def Blk.storable (b : Blk) (h : Nat) : Bool := b.holderOk h || h == 0 || h == 0xFF
/-- MODE of an axis is not OFF (R338). -/
def Blk.axisOn (b : Blk) (n : Nat) : Bool := b.fld (Reg.AXS_AX_CFG n) 3 0 != 0
/-- A position lies within an axis's soft limits (R339). -/
def Blk.inSoft (b : Blk) (n : Nat) (p : Int) : Bool :=
  decide (b.sfld (Reg.AXS_AX_SOFT_MIN n) 31 0 ≤ p) && decide (p ≤ b.sfld (Reg.AXS_AX_SOFT_MAX n) 31 0)
/-- The axes of an interpolation group, ascending (R368). -/
def Blk.groupAxes (b : Blk) (g : Nat) : List Nat :=
  (List.range 48).filter (fun n =>
    if n < 32 then b.flag (Reg.AXS_GRP_MASK_LO g) n else b.flag (Reg.AXS_GRP_MASK_HI g) (n - 32))
/-- Segment table `t`. -/
def Blk.table (b : Blk) (t : Nat) : SegTable := Tab.val b.axs.tables t {}

/-! ## Stage 1: the checks of one action in byte order (R75, R352, R552) -/

/-- One check: whether it holds, the reason of R94 where it does not, and the offset in the action. -/
abbrev Check := Bool × Nat × Nat

/-- Bytes `lo` to `hi - 1` of an action must be 0. -/
def zeroChecks (a : Bytes) (lo hi : Nat) : List Check :=
  (List.range (hi - lo)).map (fun k => (byteAt a (lo + k) == 0, 0x04, lo + k))

/-- An index below the count of the map in service; no count binds while there is no map. -/
def below (m : Option SiteMap) (n : Nat) (count : SiteMap → Nat) : Bool :=
  match m with
  | none => true
  | some m => decide (n < count m)

/-- A node operand: an index of the map, or 0xFFFF for none. -/
def nodeOk (m : Option SiteMap) (n : Nat) : Bool := n == 0xFFFF || below m n (fun m => m.nodes.length)

/-- The segments a GROUP_MOVE's targets: offset and axis of each member, first action then CONT. -/
def groupTargets (axes : List Nat) (cont : Bool) : List (Nat × Nat) :=
  let part := if cont then axes.drop 3 else axes.take 3
  part.zipIdx.map (fun p => (4 + 4 * p.2, p.1))

/-- The checks of the targets a GROUP_MOVE action carries (R352). -/
def Blk.targetChecks (b : Blk) (a : Bytes) (axes : List Nat) (cont : Bool) : List Check :=
  let ts := groupTargets axes cont
  ts.map (fun p => (b.inSoft p.2 (sle a p.1 4), 0x0B, p.1))
    ++ (List.range (3 - ts.length)).map (fun k =>
        (le a (4 + 4 * (ts.length + k)) 4 == 0, 0x04, 4 + 4 * (ts.length + k)))

/-- CONT stands where R74 and R77 let it: on a ROUTE_RESERVE or GROUP_MOVE directly after one of the
same kind (with the same HOLDER; after a GROUP_MOVE without CONT). -/
def contOk (a : Bytes) (prev : Option Bytes) : Bool :=
  if actCont a then
    match prev with
    | none => false
    | some p =>
      (actCode a == 0x05 && actCode p == 0x05 && byteAt a 4 == byteAt p 4)
        || (actCode a == 0x36 && actCode p == 0x36 && !actCont p)
  else true

/-- The group a GROUP_MOVE action, or the action its CONT follows, names. -/
def groupOf (a : Bytes) (prev : Option Bytes) : Nat :=
  if actCont a then match prev with | some p => actObj p | none => 0 else actObj a

/-- A GROUP_MOVE is followed by CONT exactly when its group has more than 3 members (R352). -/
def Blk.groupContOk (b : Blk) (a : Bytes) (prev next : Option Bytes) : Bool :=
  let big := decide (groupOf a prev < 8) && decide (3 < (b.groupAxes (groupOf a prev)).length)
  let cont := match next with | some n => actCode n == 0x36 && actCont n | none => false
  if actCont a then big else !big || cont

/-- The checks of an action's object and operands, by its code (R75).  A run of segments that passes the last one is reported at
COUNT, and a ROUTE_SEND without a route at the action's code, before its VMAX: two choices of the model (log 96). -/
def Blk.operandChecks (b : Blk) (a : Bytes) (prev : Option Bytes) (routed : Nat → Bool) :
    List Check :=
  let m := b.fleet.map
  let o := actObj a
  let holder : Check := (b.holderOk (byteAt a 4), 0x0A, 4)
  let axis : List Check := [(decide (o < b.nAxes), 0x09, 2)]
  let axisOn : List Check := axis ++ [(b.axisOn o, 0x09, 2)]
  let mix : List Check := [(decide (o < b.nMix), 0x09, 2)]
  let handle : List Check := [(decide (o < 4096), 0x09, 2), (le a 4 4 % 4096 == o, 0x0B, 4)]
  match actCode a with
  | 0x01 | 0x02 =>
    [(below m o (fun m => m.segs.length), 0x09, 2), holder] ++ zeroChecks a 5 6
      ++ [(decide (1 ≤ le a 6 2 ∧ le a 6 2 ≤ 64), 0x0B, 6),
          (below m (o + le a 6 2 - 1) (fun m => m.segs.length), 0x09, 6)] ++ zeroChecks a 8 16
  | 0x03 | 0x04 =>
    [(below m o (fun m => m.zones.length), 0x09, 2), holder] ++ zeroChecks a 5 16
  | 0x05 =>
    [(if actCont a then o == 0xFFFF else below m o (fun m => m.nodes.length), 0x09, 2), holder,
      (decide (1 ≤ byteAt a 5 ∧ byteAt a 5 ≤ 5), 0x0B, 5)]
      ++ (List.range 5).flatMap (fun k =>
        let s := le a (6 + 2 * k) 2
        if k < byteAt a 5 then
          [(below m s (fun m => m.segs.length), 0x09, 6 + 2 * k),
            (match m with
              | some m => (match m.segs[s]? with | some g => g.kind != 2 | none => true)
              | none => true, 0x0C, 6 + 2 * k)]
        else [(s == 0, 0x04, 6 + 2 * k)])
  | 0x07 => mix ++ zeroChecks a 4 16
  | 0x20 =>
    handle ++ [(decide (1 ≤ byteAt a 8) && b.holderOk (byteAt a 8) && byteAt a 8 != 0xF0, 0x0A, 8),
      (nodeOk m (le a 10 2), 0x09, 10)] ++ zeroChecks a 12 16
  | 0x21 | 0x22 | 0x23 => handle ++ zeroChecks a 8 16
  | 0x30 => axisOn ++ [(b.inSoft o (sle a 4 4), 0x0B, 4)] ++ zeroChecks a 12 16
  | 0x31 =>
    let t := b.table (le a 4 2)
    axisOn ++ [(decide (le a 4 2 < 256) && t.valid, 0x09, 4),
      (b.inSoft o t.posMin && b.inSoft o t.posMax
        && decide (t.vPeak ≤ (b.reg (Reg.AXS_AX_VMAX o)).toNat), 0x0B, 4),
      (decide (le a 6 2 + 1 < t.knots.length)
        && (match t.knots[le a 6 2]? with | some k => k.vel == 0 | none => false), 0x0B, 6),
      (t.cyclic || le a 8 2 == 0, 0x0B, 8)] ++ zeroChecks a 10 16
  | 0x32 =>
    axisOn ++ [(b.flag (Reg.AXS_MASTER_CFG (b.fld (Reg.AXS_AX_CFG o) 12 12)) 31, 0x0B, 2),
      (decide (1 ≤ le a 6 2), 0x0B, 6)] ++ zeroChecks a 12 16
  | 0x33 =>
    axisOn ++ [(decide (1 ≤ byteAt a 4 ∧ byteAt a 4 ≤ 8)
      && (byteAt a 4 != 8 || b.fld (Reg.AXS_AX_IO_CFG o) 15 14 == 3), 0x0B, 4)] ++ zeroChecks a 5 16
  | 0x34 =>
    axisOn ++ [(decide (byteAt a 4 ≤ 1) && b.fld (Reg.AXS_AX_CFG o) 5 4 != 0, 0x0B, 4)]
      ++ zeroChecks a 5 16
  | 0x35 => axis ++ zeroChecks a 4 16
  | 0x36 =>
    let axes := b.groupAxes (groupOf a prev)
    [(if actCont a then o == 0xFFFF else decide (o < 8), 0x09, 2), (!axes.isEmpty, 0x0B, 2),
      (axes.all (fun n => decide (n < b.nAxes) && b.axisOn n), 0x09, 2)] ++ b.targetChecks a axes (actCont a)
  | 0x3E =>
    [(decide (o < 32) && !b.flag (Reg.INV_CMP_CFG o) 8, 0x09, 2), (decide (byteAt a 4 ≤ 2), 0x0B, 4)]
      ++ zeroChecks a 5 16
  | 0x3F => [(decide (1 ≤ o ∧ o ≤ 63), 0x09, 2)] ++ zeroChecks a 8 16
  | 0x40 =>
    mix ++ [(routed (o + 1), 0x0C, 0), (decide (1 ≤ sle a 4 2), 0x0B, 4), (nodeOk m (le a 6 2), 0x09, 6)]
      ++ zeroChecks a 12 16
  | 0x41 => mix ++ [(nodeOk m (le a 4 2), 0x09, 4)] ++ zeroChecks a 6 16
  | 0x42 => mix
  | 0x43 | 0x44 => mix ++ zeroChecks a 4 16
  | 0x4E => mix ++ zeroChecks a 5 16
  | 0x50 =>
    [(below m o (fun m => m.segs.length), 0x09, 2), (b.storable (byteAt a 4), 0x0A, 4),
      (decide (byteAt a 5 < 4), 0x04, 5)] ++ zeroChecks a 6 8 ++ zeroChecks a 12 16
  | 0x51 => mix ++ zeroChecks a 5 16
  | 0x52 => [(decide (o < 4096), 0x09, 2)] ++ zeroChecks a 9 16
  | 0x53 => axis ++ zeroChecks a 4 16
  | 0x54 => [(o == 0, 0x04, 2)] ++ zeroChecks a 8 16
  | _ => [(false, 0x08, 0)]

/-- The first failing check of one action: code, flags and CONT, then object and operands (R552). -/
def Blk.actionBad (b : Blk) (dev : Bool) (a : Bytes) (prev next : Option Bytes) (routed : Nat → Bool) :
    Option (Nat × Nat) :=
  let codeOk := [0x01, 0x02, 0x03, 0x04, 0x05, 0x07, 0x20, 0x21, 0x22, 0x23, 0x30, 0x31, 0x32, 0x33,
    0x34, 0x35, 0x36, 0x3E, 0x3F, 0x40, 0x41, 0x42, 0x43, 0x44, 0x50, 0x51, 0x52, 0x53, 0x54].contains
      (actCode a) || (actCode a == 0x4E && dev)
  let checks : List Check :=
    [(codeOk, 0x08, 0), (decide (byteAt a 1 < 2), 0x04, 1), (contOk a prev, 0x08, 1),
      (actCode a != 0x36 || b.groupContOk a prev next, 0x08, 1)] ++ b.operandChecks a prev routed
  (checks.find? (fun c => !c.1)).map (fun c => c.2)

/-- A ROUTE_RESERVE of the transaction builds a route for a holder (R85). -/
def routedFor (acts : List Bytes) (h : Nat) : Bool :=
  acts.any (fun a => actCode a == 0x05 && byteAt a 4 == h)

/-- Stage 1 over the actions in order, then the unused positions: the DETAIL of the first failure. -/
def Blk.stage1 (b : Blk) (t : Txn) : Option Nat :=
  match t.headBad with
  | some d => some d
  | none =>
    let dev := match t.src with | .device _ => true | _ => false
    let bad := (List.range t.acts.length).findSome? (fun i =>
      let prev := if i = 0 then none else t.acts[i - 1]?
      (b.actionBad dev (t.acts.getD i []) prev t.acts[i + 1]? (routedFor t.acts)).map
        (fun p => malformed p.1 i (t.offs.getD i 0 + p.2)))
    match bad with
    | some d => some d
    | none => t.tailBad

/-! ## Stages 3 and 4 (R41, R42, R106) -/

/-- Stage 3, air-originated only: the DETAIL of the first denied flag or action (R106, R93); while ORPHAN every reserve
action is denied (R307). -/
def Blk.stage3 (b : Blk) (t : Txn) : Option Nat :=
  match t.src with
  | .air mix _ =>
    if bitOf t.flags 0 && !b.flag Reg.DVT_AIR_QUOTA 16 then some (0xFF * 2 ^ 24)
    else
      ((List.range t.acts.length).find? (fun i =>
        let a := t.acts.getD i []
        !(match actCode a with
          | 0x01 | 0x03 | 0x05 => byteAt a 4 == mix + 1 && !b.air.sub.orphan
          | 0x02 | 0x04 => byteAt a 4 == mix + 1
          | 0x22 => le a 4 4 == (b.member mix).task
          | 0x50 | 0x51 | 0x52 | 0x53 | 0x54 => true
          | _ => false))).map (fun i => i * 2 ^ 24)
  | _ => none

/-- The effect time T that a selection gives at commit instant `c` (R41), before the tolerance. -/
def effectTime (t : Txn) (c : Nat) : Nat :=
  match t.ets with
  | 0 => c
  | 1 => ofFt64 c t.treq
  | 2 => c + t.treq
  | _ => ceilTo (c + t.treq) 10000000

/-- The effect time lies more than PAST_TOL before now (R42, R100). -/
def Blk.effectPast (b : Blk) (t : Txn) : Bool :=
  decide (effectTime t b.now + b.fld Reg.MAP_EFFECT_CFG 15 0 * 1000 < b.now)

/-- Stage 4: the effect time, or none when it lies outside the tolerance and the horizon (R42). -/
def Blk.stage4 (b : Blk) (t : Txn) : Option Nat :=
  let c := b.now
  let e := effectTime t c
  if b.effectPast t then none
  else if c + b.fld Reg.MAP_EFFECT_CFG 31 16 * 1000000 < e then none
  else some (max c e)

/-! ## The working copy (R89) -/

/-- The working copy of a judgement: coherent state, the epoch it would commit as, the effects and
their time, the conflicts met with their actions, the segments newly taken, the held segments so taken with the holder that
was found on them, the routes built, where the last route ended, the actions clamped, and the axes that the transaction
acts on or whose ground it released. -/
structure Work where
  coh : Coherent
  epoch : Nat
  t : Nat
  effs : List Effect := []
  edges : List (Nat × Edge) := []
  taken : List Nat := []
  ghosts : List (Nat × Nat) := []
  routes : List (Nat × List Nat) := []
  lastNode : Nat := 0
  clamp : Nat := 0
  axes : List Nat := []
  deriving DecidableEq, Repr

/-- A judgement that fails answers its STATUS and DETAIL. -/
abbrev Judged := Except (Nat × Nat) Work

/-- The Mortise entry of a segment. -/
def Coherent.seg (c : Coherent) (s : Nat) : MEntry := c.mortise.getD s {}

/-- The Mortise entry of a segment replaced. -/
def Coherent.setSeg (c : Coherent) (s : Nat) (e : MEntry) : Coherent :=
  { c with mortise := c.mortise.set s e }

/-- A member replaced. -/
def Coherent.setMember (c : Coherent) (m : Nat) (x : Member) : Coherent :=
  { c with members := Tab.put c.members m x }

/-- A task entry replaced. -/
def Coherent.setTask (c : Coherent) (i : Nat) (x : Task) : Coherent :=
  { c with tasks := Tab.put c.tasks i x }

/-- The present task of a holder (R78, R80). -/
def Coherent.taskOf (c : Coherent) (h : Nat) : Nat :=
  if 1 ≤ h ∧ h ≤ 0x80 then (c.member (h - 1)).task
  else if 0x81 ≤ h ∧ h ≤ 0xB0 then Tab.val c.axisTask (h - 0x81) noTask else noTask

/-- The present task of a holder set. -/
def Coherent.setTaskOf (c : Coherent) (h task : Nat) : Coherent :=
  if 1 ≤ h ∧ h ≤ 0x80 then c.setMember (h - 1) { c.member (h - 1) with task := task }
  else if 0x81 ≤ h ∧ h ≤ 0xB0 then { c with axisTask := Tab.put c.axisTask (h - 0x81) task } else c

/-- Segments a holder holds (R32). -/
def Coherent.heldCount (c : Coherent) (h : Nat) : Nat := (c.mortise.filter (fun e => e.holder == h)).length

/-- The segments that a segment conflicts with, itself first (R28). -/
def SiteMap.conflictsOf (m : SiteMap) (s : Nat) : List Nat :=
  s :: m.conflicts.filterMap (fun p =>
    if p.1 = s then some p.2 else if p.2 = s then some p.1 else none)

/-- The conflicting segments on which another holder is found (R28); a stop blocks itself only. -/
def found (m : SiteMap) (c : Coherent) (h s : Nat) : List Nat :=
  (m.conflictsOf s).filter (fun k =>
    let x := (c.seg k).holder
    x != 0 && x != h && (x != 0xFF || k == s))

/-- A segment taken for a holder; one it already holds keeps its SINCE (R76, R78). -/
def Work.take (w : Work) (h s : Nat) : Work :=
  let e := w.coh.seg s
  if e.holder = h then w
  else { w with coh := w.coh.setSeg s ⟨h, false, w.epoch, w.coh.taskOf h⟩, taken := s :: w.taken }

/-- The holder that stands on a segment: where this transaction has taken it as if its conflict were none (R90), the one
found on it before. -/
def Work.standing (w : Work) (s : Nat) : Nat :=
  match w.ghosts.find? (fun p => p.1 == s) with
  | some p => p.2
  | none => (w.coh.seg s).holder

/-- The edges of a reservation of segment `s` for holder `h` by action `i`: one for each held segment that conflicts with it and
that another holder stands on (R97); none for a segment that this transaction has reserved for `h` already. -/
def Work.edgesOf (w : Work) (m : SiteMap) (i h s : Nat) : List (Nat × Edge) :=
  if (w.coh.seg s).holder = h ∧ s ∈ w.taken then []
  else (m.conflictsOf s).filterMap (fun k =>
    let x := w.standing k
    if x != 0 && x != h && x != 0xFF then some (i, ⟨h, x, k⟩) else none)

/-- A segment taken as if its conflict were none: the holder found on it is kept (R90, R97). -/
def Work.takeOver (w : Work) (h s : Nat) : Work :=
  let x := (w.coh.seg s).holder
  { w.take h s with ghosts := if x ≠ 0 ∧ x ≠ h then (s, x) :: w.ghosts else w.ghosts }

/-- One segment reserved for holder `h` by action `i` (R76, R89, R90, R97). -/
def reserveSeg (m : SiteMap) (wait : Bool) (i off h : Nat) (w : Work) (s : Nat) : Judged :=
  match found m w.coh h s with
  | [] => .ok { w.take h s with edges := w.edges ++ w.edgesOf m i h s }
  | c :: cs =>
    if (c :: cs).any (fun k => w.taken.contains k) then .error (St.malformed, malformed 0x0D i off)
    else if wait && h != 0xF0 && (w.coh.seg c).holder != 0xFF then
      .ok { w.takeOver h s with edges := w.edges ++ w.edgesOf m i h s }
    else .error (St.conflict, i * 2 ^ 24 + (w.coh.seg c).holder * 2 ^ 16 + s)

/-- Segments reserved in order. -/
def reserveSegs (m : SiteMap) (wait : Bool) (i off h : Nat) : List Nat → Work → Judged
  | [], w => .ok w
  | s :: rest, w =>
    match reserveSeg m wait i off h w s with
    | .ok w' => reserveSegs m wait i off h rest w'
    | .error e => .error e

/-- A segment freed. -/
def Work.freeSeg (w : Work) (s : Nat) : Work :=
  { w with coh := w.coh.setSeg s {}, taken := w.taken.filter (fun k => k != s)
           ghosts := w.ghosts.filter (fun p => p.1 != s) }

/-- The segments of a list freed that the named holder holds and that are not FROZEN (R76). -/
def Work.releaseSegs (w : Work) (h : Nat) (ss : List Nat) : Work :=
  ss.foldl (fun w s => if (w.coh.seg s).holder = h ∧ (w.coh.seg s).frozen = false then w.freeSeg s else w) w

/-- Every segment freed for which `p` holds. -/
def Work.freeAll (w : Work) (p : MEntry → Bool) : Work :=
  { w with coh := { w.coh with mortise := w.coh.mortise.map (fun e => if p e then {} else e) } }

/-- The member state that an action requires (R84); none where any serves. -/
def Blk.needState (_ : Blk) (c : Coherent) (i h : Nat) (ok : List MState) : Option (Nat × Nat) :=
  let st := (c.member h).state
  if ok.contains st then none else some (0x22, i * 2 ^ 24 + h * 2 ^ 16 + st.code)

/-- A member holder's state allows a reservation (R84); axis and host holders always do. -/
def Blk.reserveState (b : Blk) (c : Coherent) (i h : Nat) : Option (Nat × Nat) :=
  if 1 ≤ h ∧ h ≤ 0x80 then b.needState c i (h - 1) [.active, .sleeping, .stopped] else none

/-- A route walked from a node: the node it ends at, or the position and segment that break it (R77). -/
def walkRoute (m : SiteMap) : Nat → List (Nat × Nat) → Except (Nat × Nat) Nat
  | node, [] => .ok node
  | node, (k, s) :: rest =>
    match m.segs[s]? with
    | none => .error (k, s)
    | some g =>
      if g.src = node then walkRoute m g.dst rest
      else if g.dst = node ∧ g.kind = 0 then walkRoute m g.src rest
      else .error (k, s)

/-! ## Swing areas (R81, R82) -/

/-- The end positions that an effect gives axis `n`, if it concerns it (R81). -/
def Blk.effectEnds (b : Blk) (n : Nat) (e : Effect) : Option (List Int) :=
  let soft := [b.sfld (Reg.AXS_AX_SOFT_MIN n) 31 0, b.sfld (Reg.AXS_AX_SOFT_MAX n) 31 0]
  if e.act = 0x36 then
    match (b.groupAxes e.obj).zipIdx.find? (fun p => p.1 == n) with
    | none => none
    | some p => some [sle e.ops (if p.2 < 3 then 4 * p.2 else 12 + 4 * (p.2 - 3)) 4]
  else if e.dest = .axs ∧ e.obj = n then
    match e.act with
    | 0x30 => some [sle e.ops 0 4]
    | 0x31 => some [(b.table (le e.ops 0 2)).posMin, (b.table (le e.ops 0 2)).posMax]
    | 0x32 => some soft
    | 0x33 => some soft
    | 0x34 => some soft
    | _ => some []
  else none

/-- What AXS last reported of axis `n`. -/
def Blk.axReport (b : Blk) (n : Nat) : AxReport := Tab.val b.dvt.reports n {}

/-- The unfinished effects that concern axis `n`, with those a transaction would add. -/
def Blk.axisEffects (b : Blk) (w : List Effect) (n : Nat) : List (List Int) :=
  (b.dvt.unfinished ++ w).filterMap (b.effectEnds n)

/-- The number of unfinished committed effects of an axis (R86). -/
def Blk.axisBusy (b : Blk) (n : Nat) : Nat := (b.axisEffects [] n).length

/-- The swept envelope of axis `n` (R81). -/
def Blk.envelope (b : Blk) (w : List Effect) (n : Nat) : Int × Int :=
  let r := b.axReport n
  ((b.axisEffects w n).flatten ++ [r.stop]).foldl (fun p x => (min p.1 x, max p.2 x)) (r.pos, r.pos)

/-- Axis `n` is in motion (R82). -/
def Blk.inMotion (b : Blk) (w : List Effect) (n : Nat) : Bool :=
  !(b.axisEffects w n).isEmpty || (b.axReport n).stop != (b.axReport n).pos

/-- A swing record demands its zone of its axis (R82). -/
def Blk.demands (b : Blk) (w : List Effect) (r : Swing) : Bool :=
  if b.inMotion w r.axis then
    decide (r.posMin ≤ (b.envelope w r.axis).2) && decide ((b.envelope w r.axis).1 ≤ r.posMax)
  else r.hold && decide (r.posMin ≤ (b.axReport r.axis).pos) && decide ((b.axReport r.axis).pos ≤ r.posMax)

/-- Every segment of a zone is held by a holder. -/
def zoneHeld (m : SiteMap) (c : Coherent) (z h : Nat) : Bool :=
  match m.zones[z]? with
  | none => true
  | some zn => zn.segs.all (fun s => (c.seg s).holder == h)

/-- The zone that axis `n` must hold and does not (R82). -/
def Blk.swingFail (b : Blk) (m : SiteMap) (w : Work) (n : Nat) : Option Nat :=
  (m.swings.find? (fun r => r.axis == n && b.demands w.effs r && !zoneHeld m w.coh r.zone (0x81 + n))).map
    (fun r => r.zone)

/-- DVT_SWING_UNHELD for axis `n` found at action position `a` (R95). -/
def Blk.swingCheck (b : Blk) (m : SiteMap) (a n : Nat) (w : Work) : Judged :=
  match b.swingFail m w n with
  | some z => .error (0x20, a * 2 ^ 24 + n * 2 ^ 16 + z)
  | none => .ok w

/-- A release by a holder (R76, R82). -/
def Blk.doRelease (b : Blk) (m : SiteMap) (i h : Nat) (ss : List Nat) (w : Work) : Judged :=
  let w' := w.releaseSegs h ss
  if 0x81 ≤ h ∧ h ≤ 0xB0 ∧ w'.coh ≠ w.coh then
    b.swingCheck m i (h - 0x81) { w' with axes := (h - 0x81) :: w'.axes }
  else .ok w'

/-! ## Tasks (R36, R37, R80) -/

/-- The generation after another (R36). -/
def nextGen (g : Nat) : Nat := if g = 0xFFFFF then 1 else g + 1

/-- A handle names an entry's present generation (R36). -/
def Coherent.current (c : Coherent) (handle : Nat) : Bool :=
  let t := c.task (handle % 4096)
  t.gen != 0 && handle / 4096 == t.gen

/-- A task ended: its state, its reservations freed, its assignee free (R37, R80). -/
def Work.endTask (w : Work) (idx : Nat) (st : TState) : Work :=
  let t := w.coh.task idx
  let handle := t.gen * 4096 + idx
  let rel := (List.range 48).filter (fun n =>
    w.coh.mortise.any (fun e => e.under == handle && e.holder == 0x81 + n))
  let w1 := w.freeAll (fun e => e.under == handle && e.holder != 0)
  let c1 := w1.coh.setTask idx { t with state := st, stateEpoch := w.epoch }
  { w1 with coh := if c1.taskOf t.assignee = handle then c1.setTaskOf t.assignee noTask else c1,
            axes := rel ++ w1.axes }

/-- TASK_START, TASK_DONE and TASK_CANCEL: the handle first, then the state (R80). -/
def taskStep (i : Nat) (a : Bytes) (ok : List TState) (f : Work → Work) (w : Work) : Judged :=
  let t := w.coh.task (actObj a)
  if !w.coh.current (le a 4 4) then .error (0x23, i * 2 ^ 24 + t.gen)
  else if !ok.contains t.state then .error (0x24, i * 2 ^ 24 + t.state.code)
  else .ok (f w)

/-! ## Members (R79, R84, R85, R33) -/

/-- MEMBER_EVICT's change: every holding released, its task cancelled, EVICTED (R85). -/
def Work.evict (w : Work) (mix : Nat) : Work :=
  let t := (w.coh.member mix).task
  let w1 := if t != noTask && w.coh.current t then w.endTask (t % 4096) .cancelled else w
  let w2 := w1.freeAll (fun e => e.holder == mix + 1)
  { w2 with coh := w2.coh.setMember mix { w2.coh.member mix with state := .evicted, task := noTask } }

/-- A member's state set; FROZEN marks its holdings exactly while it is UNHEARD (R33, R109). -/
def Work.setState (w : Work) (mix : Nat) (st : MState) : Work :=
  let c := w.coh.setMember mix (if st = .absent then {} else { w.coh.member mix with state := st })
  { w with coh := { c with mortise := c.mortise.map (fun e =>
      if e.holder = mix + 1 then { e with frozen := (st == .unheard) } else e) } }

/-! ## Stage 5: one action (R75-R87) -/

/-- An effect of action `i` of a transaction. -/
def mkEffect (t : Txn) (w : Work) (i : Nat) (dest : Dest) (a : Bytes) (more : Bytes)
    (route : List Leg) : Effect :=
  { epoch := w.epoch, t := w.t, dest := dest, act := actCode a, obj := actObj a, idx := i,
    tag := match t.src with | .host id => id.tag | _ => 0xFFFF
    ring := match t.src with | .host id => id.ring | _ => 0xFF
    ops := a.drop 4 ++ more, route := route, late := false, acked := false }

/-- An effect added. -/
def Work.add (w : Work) (e : Effect) : Work := { w with effs := w.effs ++ [e] }

/-- The legs of a walk from a node over segments (R77, R85). -/
def legsFrom (m : SiteMap) : Nat → List Nat → List Leg
  | _, [] => []
  | node, s :: rest =>
    match m.segs[s]? with
    | none => []
    | some g =>
      let dest := if g.src = node then g.dst else g.src
      ⟨s, g.vmax, node, dest⟩ :: legsFrom m dest rest

/-- The segments of a ROUTE_RESERVE action. -/
def routeSegs (a : Bytes) : List Nat := (List.range (byteAt a 5)).map (fun k => le a (6 + 2 * k) 2)

/-- The route built for a holder in action order (R85): a CONT goes on from the node before it. -/
def routeFor (m : SiteMap) (h : Nat) : List Bytes → Nat → List Leg
  | [], _ => []
  | a :: rest, node =>
    if actCode a = 0x05 ∧ byteAt a 4 = h then
      let ls := legsFrom m (if actCont a then node else actObj a) (routeSegs a)
      ls ++ routeFor m h rest (match ls.getLast? with | some l => l.dst | none => node)
    else routeFor m h rest node

/-- An axis action's fault test (R83), then its effect. -/
def Blk.axisAct (b : Blk) (t : Txn) (w : Work) (i : Nat) (a : Bytes) : Judged :=
  let n := actObj a
  if actCode a ≠ 0x35 ∧ (b.axReport n).fault then .error (0x27, i * 2 ^ 24 + n * 2 ^ 16)
  else
    let vmax := (b.reg (Reg.AXS_AX_VMAX n)).toNat
    if actCode a = 0x30 ∧ vmax < le a 8 4 then
      .ok ({ w with clamp := w.clamp + 2 ^ i, axes := n :: w.axes }.add
        (mkEffect t w i .axs (slice a 0 8 ++ leBytes 4 vmax ++ zeros 4) [] []))
    else .ok ({ w with axes := n :: w.axes }.add (mkEffect t w i .axs a [] []))

/-- A GROUP_MOVE: a fault of any member refuses it; with its CONT it is one effect (R75, R83). -/
def Blk.groupAct (b : Blk) (t : Txn) (w : Work) (i : Nat) (a : Bytes) : Judged :=
  let axes := b.groupAxes (actObj a)
  match axes.find? (fun n => (b.axReport n).fault) with
  | some n => .error (0x27, i * 2 ^ 24 + n * 2 ^ 16)
  | none =>
    let more := match t.acts[i + 1]? with
      | some c => if actCode c = 0x36 ∧ actCont c then c.drop 4 else []
      | none => []
    .ok ({ w with axes := axes ++ w.axes }.add (mkEffect t w i .axs a more []))

/-- A guard's failure: ABORT_GUARD with the value observed (R86, R93). -/
def guardFail (i v : Nat) : Judged := .error (St.guard, i * 2 ^ 24 + v % 2 ^ 24)

/-- A member action under its required states (R84). -/
def Blk.withState (b : Blk) (i : Nat) (a : Bytes) (ok : List MState) (w : Work) (f : Work → Judged) : Judged :=
  match b.needState w.coh i (actObj a) ok with
  | some e => .error e
  | none => f w

/-- The short address of a member (R288). -/
def Blk.short (b : Blk) (mix : Nat) : Nat := b.fld Reg.AIR_ADDR_CFG 15 0 + mix

/-- MEMBER_STATE's change: a member that begins to associate takes its short address (R65, R288). -/
def Blk.memberState (b : Blk) (mix : Nat) (st : MState) (w : Work) : Work :=
  let w1 := w.setState mix st
  if st = .associating then
    { w1 with coh := w1.coh.setMember mix { w1.coh.member mix with short := b.short mix } }
  else w1

/-- One action judged against the working copy (stage 5).  Choices of the model: TASK_CREATE gives entry 0xFFF at generation
0xFFFFF the handle 0xFFFF_FFFF as any other, though that value means no task (log 97); GUARD_TASK whose HANDLE names another
entry than its object fails, since R80's test at stage 1 is taken to be of task actions (log 98). -/
def Blk.doAction (b : Blk) (m : SiteMap) (t : Txn) (i off : Nat) (a : Bytes) (w : Work) : Judged :=
  let wait := bitOf t.flags 0
  let h := byteAt a 4
  let o := actObj a
  let reserve (ss : List Nat) (w : Work) : Judged :=
    match b.reserveState w.coh i h with
    | some e => .error e
    | none => reserveSegs m wait i off h ss w
  match actCode a with
  | 0x01 => reserve ((List.range (le a 6 2)).map (fun k => o + k)) w
  | 0x02 => b.doRelease m i h ((List.range (le a 6 2)).map (fun k => o + k)) w
  | 0x03 => reserve ((m.zones[o]?.map (fun z => z.segs)).getD []) w
  | 0x04 => b.doRelease m i h ((m.zones[o]?.map (fun z => z.segs)).getD []) w
  | 0x05 =>
    let segs := routeSegs a
    match b.reserveState w.coh i h with
    | some e => .error e
    | none =>
      match walkRoute m (if actCont a then w.lastNode else o) (segs.zipIdx.map (fun p => (p.2, p.1))) with
      | .error (k, s) => .error (0x26, i * 2 ^ 24 + k * 2 ^ 16 + s)
      | .ok node => reserveSegs m wait i off h segs { w with lastNode := node }
  | 0x07 =>
    b.withState i a [.unheard] w (fun w => .ok (w.freeAll (fun e => e.holder == o + 1 && e.frozen)))
  | 0x20 =>
    let tk := w.coh.task o
    let asg := byteAt a 8
    if le a 4 4 / 4096 ≠ nextGen tk.gen then .error (0x23, i * 2 ^ 24 + tk.gen)
    else if tk.state = .assigned ∨ tk.state = .running then .error (0x24, i * 2 ^ 24 + tk.state.code)
    else match b.reserveState w.coh i asg with
      | some e => .error e
      | none =>
        if w.coh.taskOf asg ≠ noTask then
          .error (0x25, i * 2 ^ 24 + asg * 2 ^ 16 + w.coh.taskOf asg % 4096)
        else
          let tk' : Task := ⟨nextGen tk.gen, .assigned, asg, byteAt a 9, le a 10 2, w.epoch⟩
          .ok { w with coh := (w.coh.setTask o tk').setTaskOf asg (le a 4 4) }
  | 0x21 =>
    taskStep i a [.assigned] (fun w =>
      { w with coh := w.coh.setTask o { w.coh.task o with state := .running, stateEpoch := w.epoch } }) w
  | 0x22 => taskStep i a [.running] (fun w => w.endTask o .done) w
  | 0x23 => taskStep i a [.assigned, .running] (fun w => w.endTask o .cancelled) w
  | 0x30 | 0x31 | 0x32 | 0x33 | 0x34 | 0x35 => b.axisAct t w i a
  | 0x36 => if actCont a then .ok w else b.groupAct t w i a
  | 0x3E => .ok (w.add (mkEffect t w i .inv a [] []))
  | 0x3F => .ok (w.add (mkEffect t w i .mem a [] []))
  | 0x40 =>
    b.withState i a [.active, .sleeping] w (fun w =>
      let top := b.fld Reg.DVT_VMAX_CFG 14 0
      let route := routeFor m (o + 1) t.acts 0
      if top < le a 4 2 then
        .ok ({ w with clamp := w.clamp + 2 ^ i }.add
          (mkEffect t w i .air (slice a 0 4 ++ leBytes 2 top ++ a.drop 6) [] route))
      else .ok (w.add (mkEffect t w i .air a [] route)))
  | 0x41 | 0x42 =>
    b.withState i a [.active, .sleeping] w (fun w => .ok (w.add (mkEffect t w i .air a [] [])))
  | 0x43 =>
    b.withState i a [.associating, .active, .sleeping, .unheard, .stopped] w (fun w =>
      .ok ((w.evict o).add (mkEffect t w i .air a [] [])))
  | 0x44 => b.withState i a [.evicted] w (fun w => .ok (w.setState o .absent))
  | 0x4E => .ok (match MState.ofCode (byteAt a 4) with | some st => b.memberState o st w | none => w)
  | 0x50 =>
    let e := w.coh.seg o
    let eq := e.holder == h
    if eq == bitOf (byteAt a 5) 0 then guardFail i e.holder
    else if bitOf (byteAt a 5) 1 && e.since % 2 ^ 32 != le a 8 4 then
      guardFail i (if eq then e.since else e.holder)
    else .ok w
  | 0x51 =>
    let st := (w.coh.member o).state.code
    if bitOf (byteAt a 4) st then .ok w else guardFail i st
  | 0x52 =>
    let tk := w.coh.task o
    if !(w.coh.current (le a 4 4) && le a 4 4 % 4096 == o) then guardFail i (2 ^ 23 + tk.gen)
    else if bitOf (byteAt a 8) tk.state.code then .ok w else guardFail i tk.state.code
  | 0x53 => if b.axisBusy o = 0 then .ok w else guardFail i (b.axisBusy o)
  | 0x54 => if m.id = le a 4 4 then .ok w else guardFail i m.id
  | _ => .ok w

/-- The actions judged in order (stage 5).  A conflict inside the transaction (SELF_CONFLICT) is reported at the action's object,
2 behind its first byte: a choice of the model (log 96). -/
def Blk.doActions (b : Blk) (m : SiteMap) (t : Txn) : List (Nat × Bytes) → Work → Judged
  | [], w => .ok w
  | (i, a) :: rest, w =>
    match b.doAction m t i (t.offs.getD i 0 + 2) a w with
    | .ok w' => Blk.doActions b m t rest w'
    | .error e => .error e

/-! ## Stages 6 to 10 -/

/-- Stage 6: the first member that would hold more than 64 segments (R32). -/
def Blk.stage6 (w : Work) : Judged :=
  match (List.range 128).find? (fun k => 64 < w.coh.heldCount (k + 1)) with
  | some k => .error (0x21, k * 2 ^ 16 + w.coh.heldCount (k + 1))
  | none => .ok w

/-- Stage 7: the axes the transaction acts on, and the axis holders whose ground it released (R82, log 99). -/
def Blk.stage7 (b : Blk) (m : SiteMap) (w : Work) : Judged :=
  match (List.range 48).findSome? (fun n =>
      if w.axes.contains n then (b.swingFail m w n).map (fun z => (n, z)) else none) with
  | some (n, z) => .error (0x20, 0xFF * 2 ^ 24 + n * 2 ^ 16 + z)
  | none => .ok w

/-- Stage 8: the pending effects fit (R45). -/
def Blk.stage8 (b : Blk) (w : Work) : Judged :=
  if 4096 < b.fleet.effects.length + w.effs.length then .error (St.busy, 1 * 2 ^ 24) else .ok w

/-- The edges of the wait-for graph (R97). -/
def Blk.edges (b : Blk) : List Edge := b.dvt.waits.flatMap (fun w => w.edges)

/-- The holders reached from a set along edges, in at most `n` rounds. -/
def reach (es : List Edge) : Nat → List Nat → List Nat
  | 0, hs => hs
  | n + 1, hs =>
    reach es n (hs ++ (es.filter (fun e => hs.contains e.requester && !hs.contains e.awaited)).map
      (fun e => e.awaited))

/-- Stage 10's deadlock test (R98): the first edge whose awaited holder reaches a requester of the
transaction through the existing edges. -/
def Blk.deadlock (b : Blk) (w : Work) : Option (Nat × Edge) :=
  let reqs := w.edges.map (fun (p : Nat × Edge) => p.2.requester)
  w.edges.find? (fun (p : Nat × Edge) => (reach b.edges 177 [p.2.awaited]).any (fun h => reqs.contains h))

/-- The outcome of a judgement. -/
inductive Verdict where
  | commit (w : Work)
  | abort (status detail : Nat)
  | wait (edges : List Edge)
  deriving DecidableEq, Repr

/-- Whether a transaction without a map is one of member changes only (R111). -/
def memberOnly (t : Txn) : Bool :=
  match t.src with
  | .device _ => t.acts.all (fun a => actCode a == 0x4E || actCode a == 0x43)
  | .host _ => t.acts.all (fun a => actCode a == 0x43 || actCode a == 0x44 || actCode a == 0x51)
  | _ => false

/-- An empty map, against which a member-only transaction is judged while none is in service (R111). -/
def noMap : SiteMap := ⟨0, 0, [], [], [], [], [], []⟩

/-- The source is the device. -/
def Txn.isDevice (t : Txn) : Bool := match t.src with | .device _ => true | _ => false

/-- Stages 5 to 10 (R88). -/
def Blk.judgeRest (b : Blk) (t : Txn) (m : SiteMap) (epoch te : Nat) : Verdict :=
  let w0 : Work := { coh := b.fleet.coh, epoch := epoch, t := te }
  let r := do
    let w ← b.doActions m t (t.acts.zipIdx.map Prod.swap) w0
    let w ← Blk.stage6 w
    let w ← b.stage7 m w
    b.stage8 w
  match r with
  | .error (st, dt) => .abort st dt
  | .ok w =>
    if b.dvt.frozen && !t.isDevice then .abort St.stopped (b.clp.s % 2 ^ 32)
    else if w.edges = [] then .commit w
    else match b.deadlock w with
      | some (i, e) => .abort St.deadlock (i * 2 ^ 24 + e.awaited * 2 ^ 16 + e.seg)
      | none => .wait (w.edges.map Prod.snd)

/-- The judgement of a transaction (R88); `again` marks one judged again, whose effect time in the past
is a TIMEOUT, cause 2 (R100).  An effect time outside R42 is reported at T_REQ, byte 8 of the header, with A = 0xFF: a choice
of the model (log 96). -/
def Blk.judge (b : Blk) (t : Txn) (again : Bool) : Verdict :=
  match b.stage1 t with
  | some d => .abort St.malformed d
  | none =>
    let m? := match b.fleet.map with
      | some m => some (m, b.fleet.epoch + 1)
      | none => if memberOnly t then some (noMap, 0) else none
    match m? with
    | none => .abort St.notReady 0
    | some (m, epoch) =>
      match b.stage3 t with
      | some d => .abort St.denied d
      | none =>
        match b.stage4 t with
        | none => if again && b.effectPast t then .abort St.timeout (2 * 2 ^ 24) else .abort St.malformed (malformed 0x07 0xFF 8)
        | some te => b.judgeRest t m epoch te

end Sys2Proof.Machine
end

