-- ==== Sys2Proof/Machine/AirOps.lean ====
section
/-! DEFINITION. Sys2Proof/Machine/AirOps.lean: what every chapter does to a member's downlink and to the
heads: elements queued and withdrawn, AIR effects applied or dropped, HeadLink frames sent. -/

namespace Sys2Proof.Machine

open Sys2Proof

/-! ## Heads -/

/-- Head `h`. -/
def Blk.head (b : Blk) (h : Nat) : Head := Tab.val b.hdl.heads h {}

/-- The block with head `h` replaced. -/
def Blk.setHead (b : Blk) (h : Nat) (x : Head) : Blk :=
  { b with hdl := { b.hdl with heads := Tab.put b.hdl.heads h x } }

/-- A head is joined: its state is other than ABSENT and LOST (R321). -/
def Head.joined (x : Head) : Bool := x.state != .absent && x.state != .lost

/-- A head has air service: UP or SUSPECT, and AIR_HEAD_CFGh.EN is 1 (R321). -/
def Blk.headAir (b : Blk) (h : Nat) : Bool :=
  ((b.head h).state == .up || (b.head h).state == .suspect) && b.flag (Reg.AIR_HEAD_CFG h) 15

/-- The heads of a channel with air service, ascending. -/
def Blk.chanHeads (b : Blk) (chan9 : Bool) : List Nat :=
  (List.range 8).filter (fun h => b.headAir h && b.flag (Reg.AIR_HEAD_CFG h) 8 == chan9)

/-- A HeadLink frame sent to head `h` with its next counter under K_HS; KEYS and MEMBERS are encrypted (R317). -/
def Blk.headSend (b : Blk) (h typ : Nat) (body : Bytes) : Blk :=
  let x := b.head h
  let enc := typ == 0x0A || typ == 0x0B
  (b.setHead h { x with tx := x.tx + 1 }).emit
    (.head h typ x.tx body (b.ethernet h x.mac (hlFrame x.kHs x.eui 0 typ h x.tx enc body)))

/-- A HeadLink frame sent to every head that satisfies `p`. -/
def Blk.headsSend (b : Blk) (p : Nat → Bool) (typ : Nat) (body : Bytes) : Blk :=
  (List.range 8).foldl (fun b h => if p h then b.headSend h typ body else b) b

/-- A MEMBERS entry (R331). -/
def Blk.membersEntry (b : Blk) (mix : Nat) : Bytes :=
  let l := b.link mix
  leBytes 2 (b.fld Reg.AIR_ADDR_CFG 15 0 + mix)
    ++ leBytes 1 (b2n (l.eui != 0) + 2 * b2n ((b.member mix).state == .sleeping)) ++ [0]
    ++ slice l.kMsts 0 16

/-- The MEMBERS entry of one member to every joined head, when its keys or SLEEPING change (R331). -/
def Blk.sendMember (b : Blk) (mix : Nat) : Blk :=
  b.headsSend (fun h => (b.head h).joined) 0x0B (b.membersEntry mix)

/-! ## Elements pending for a member (R277, R290) -/

/-- A head permits HPRF: AIR_CFG.HPRF_EN and AIR_HEAD_CFGh.HPRF are 1, and it reports the capability (R270). -/
def Blk.headHprf (b : Blk) (h : Nat) : Bool :=
  b.flag Reg.AIR_CFG 2 && b.flag (Reg.AIR_HEAD_CFG h) 9 && bitOf (b.head h).cap 2

/-- A member is served at HPRF (R270): declared, and permitted by its head. -/
def Blk.hprf (b : Blk) (mix : Nat) : Bool := bitOf (b.link mix).cap 0 && b.headHprf (b.link mix).head

/-- An element queued for a member. -/
def Blk.pushElem (b : Blk) (mix : Nat) (e : Elem) : Blk :=
  let l := b.link mix
  b.setLink mix { l with elems := l.elems ++ [e] }

/-- The elements of a member that satisfy `p` withdrawn. -/
def Blk.dropElems (b : Blk) (mix : Nat) (p : Elem → Bool) : Blk :=
  let l := b.link mix
  b.setLink mix { l with elems := l.elems.filter (fun e => !p e) }

/-- A STATE element body (R277). -/
def stateBody (st : MState) (epoch rel : Nat) : Bytes :=
  leBytes 1 st.code ++ zeros 3 ++ leBytes 4 epoch ++ leBytes 4 rel

/-- A REPLY element, kept as the member's last one where it answers the member's last REQ_ID (R298). -/
def Blk.airReply (b : Blk) (mix req status detail epoch : Nat) : Blk :=
  let body := leBytes 1 req ++ leBytes 1 status ++ zeros 2 ++ leBytes 4 detail ++ leBytes 8 epoch
  let l := b.link mix
  b.setLink mix { l with
    reply := if l.reqId = some req then some body else l.reply, elems := l.elems ++ [{ etype := 0x88, body := body }] }

/-! ## AIR effects (R296, R297) -/

/-- A list cut into pieces of `k` elements. -/
def chunks {α : Type} (k : Nat) : Nat → List α → List (List α)
  | 0, _ => []
  | n + 1, xs => if xs.length ≤ k then [xs] else xs.take k :: chunks k n (xs.drop k)

/-- The farm-frame X and Y of a node, 4 bytes each. -/
def Blk.nodeXY (b : Blk) (n : Nat) : Bytes :=
  match b.fleet.map with
  | none => zeros 8
  | some m => match m.nodes[n]? with
    | none => zeros 8
    | some x => sleBytes 4 x.x ++ sleBytes 4 x.y

/-- The ROUTE element bodies of a route effect (R297). -/
def Blk.routeBodies (b : Blk) (e : Effect) : List Bytes :=
  let parts := chunks (if b.hprf e.obj then 48 else 8) e.route.length e.route
  parts.zipIdx.map (fun p =>
    leBytes 4 (le e.ops 4 4) ++ leBytes 4 e.epoch ++ leBytes 8 (ft64 e.t) ++ leBytes 2 (le e.ops 2 2)
      ++ leBytes 1 (p.2 * 16 + (parts.length - 1)) ++ leBytes 1 p.1.length
      ++ (match p.1 with | [] => zeros 8 | l :: _ => b.nodeXY l.src)
      ++ p.1.flatMap (fun l =>
        leBytes 2 l.seg ++ sleBytes 2 (min l.vmax (sle e.ops 0 2)) ++ b.nodeXY l.dst))

/-- The elements that carry an AIR effect (R296, R297). -/
def Blk.effectElems (b : Blk) (e : Effect) : List Elem :=
  let one (ty : Nat) (body : Bytes) : List Elem := [{ etype := ty, body := body, eff := some (e.epoch, e.idx) }]
  let head := leBytes 4 e.epoch ++ leBytes 8 (ft64 e.t)
  match e.act with
  | 0x40 =>
    let bs := b.routeBodies e
    bs.zipIdx.map (fun p => { etype := 0x81, body := p.1, eff := some (e.epoch, e.idx),
                              last := p.2 + 1 == bs.length })
  | 0x41 => one 0x82 (head ++ leBytes 2 (le e.ops 0 2) ++ zeros 2)
  | 0x42 => one 0x83 (head ++ slice e.ops 0 12)
  | _ => one 0x84 (leBytes 4 e.epoch)

/-- An effect taken out of the pending ones, applied; a late one is counted (R43). -/
def Blk.applied (b : Blk) (e : Effect) (late : Bool) : Blk :=
  let b1 := { b with fleet := { b.fleet with effects := b.fleet.effects.erase e } }
  if late || e.late then b1.bump Reg.MAP_LATE_COUNT else b1

/-! ## Compare units (R420) -/

/-- Compare unit `n`. -/
def Blk.cmp (b : Blk) (n : Nat) : CmpUnit := Tab.val b.inv.cmp n {}

/-- The block with compare unit `n` replaced. -/
def Blk.setCmp (b : Blk) (n : Nat) (x : CmpUnit) : Blk :=
  { b with inv := { b.inv with cmp := Tab.put b.inv.cmp n x } }

/-- A unit loaded by a COMPARE_ARM effect with the target ⌈T / 2⌉ (R420). -/
def Blk.loadUnit (b : Blk) (e : Effect) : Blk :=
  let target := (e.t + 1) / 2
  b.setCmp e.obj { state := .armed, target := target, lateLoad := decide (target < b.now / 2)
                   periodic := byteAt e.ops 0 == 2, epoch := e.epoch, idx := e.idx }

/-- The first pending COMPARE_ARM of unit `n` (R44). -/
def Blk.cmpEffect (b : Blk) (n : Nat) : Option Effect :=
  b.fleet.effects.find? (fun e => e.dest == .inv && e.obj == n)

/-- The targets loaded of the first pending COMPARE_ARM of each IDLE unit that arms it and lies less than
2^30 counts ahead (R420). -/
def Blk.loadTargets (b : Blk) : Blk :=
  (List.range 32).foldl (fun b n =>
    match b.cmpEffect n with
    | none => b
    | some e =>
      if (b.cmp n).state = .idle ∧ byteAt e.ops 0 ≠ 0 ∧ e.t < b.now + 2 ^ 31 then b.loadUnit e else b) b

/-! ## AIR effects applied -/

/-- An AIR effect applied: a route becomes the last one of its member (R296); after EVICT the member
gets no further slots, and nothing is kept of one that is ABSENT. -/
def Blk.airApplied (b : Blk) (e : Effect) : Blk :=
  let b1 := b.applied e false
  let l := b1.link e.obj
  if e.act = 0x40 then b1.setLink e.obj { l with lastRoute := le e.ops 4 4 }
  else if e.act = 0x43 then
    if (b1.member e.obj).state = .absent then (b1.setLink e.obj {}).sendMember e.obj
    else b1.setLink e.obj { l with keepUplinks := false, elems := l.elems.filter (fun x => x.etype != 0x84) }
  else b1

/-- The first AIR effect that is acknowledged, due, and preceded by none for its member (R44, R296). -/
def Blk.airDue (b : Blk) : Option Effect :=
  let rec go : List Effect → List Nat → Option Effect
    | [], _ => none
    | e :: rest, seen =>
      if e.dest = .air then
        if e.acked && decide (e.t ≤ b.now) && !seen.contains e.obj then some e
        else go rest (e.obj :: seen)
      else go rest seen
  go b.fleet.effects []

/-- Every AIR effect applied that is acknowledged and due, in order. -/
def Blk.settleAir (b : Blk) : Blk :=
  let rec go : Nat → Blk → Blk
    | 0, b => b
    | n + 1, b => match b.airDue with
      | none => b
      | some e => go n (b.airApplied e)
  go b.fleet.effects.length b

/-- The elements of the AIR effects just committed queued to their members (R296). -/
def Blk.pushEffects (b : Blk) (es : List Effect) : Blk :=
  es.foldl (fun b e =>
    if e.dest = .air then (b.effectElems e).foldl (fun b x => b.pushElem e.obj x) b else b) b

/-- A compare unit loaded by a cancelled effect and not yet fired becomes IDLE (R420). -/
def Blk.unload (b : Blk) (e : Effect) : Blk :=
  let x := b.cmp e.obj
  if x.state = .armed ∧ x.hostArmed = false ∧ x.epoch = e.epoch ∧ x.idx = e.idx then
    b.setCmp e.obj { x with state := .idle }
  else b

/-- Pending effects that satisfy `p` cancelled, their elements withdrawn and their compare units unloaded
(R48, R296, R420). -/
def Blk.cancelEffects (b : Blk) (p : Effect → Bool) : Blk :=
  let gone := b.fleet.effects.filter p
  let b1 := { b with
    fleet := { b.fleet with effects := b.fleet.effects.filter (fun e => !p e) }
    dvt := { b.dvt with unfinished := b.dvt.unfinished.filter (fun e => !gone.contains e) } }
  gone.foldl (fun b e =>
    if e.dest = .air then b.dropElems e.obj (fun x => x.eff == some (e.epoch, e.idx))
    else if e.dest = .inv then b.unload e else b) b1

/-! ## Changes of member state -/

/-- A member in this state may be sent effects and data (R296, R309). -/
def MState.served (s : MState) : Bool := s == .active || s == .sleeping || s == .stopped

/-- A member leaves the served states (R296, R309): its AIR effects other than EVICT are cancelled and
counted, and its AIR_SENDs complete AIR_MEMBER_STATE. -/
def Blk.memberLeft (b : Blk) (mix : Nat) (st : MState) : Blk :=
  let p (e : Effect) : Bool := e.dest == .air && e.obj == mix && e.act != 0x43
  let n := (b.fleet.effects.filter p).length
  let b1 := b.cancelEffects p
  let b2 := if n = 0 then b1 else b1.bump Reg.AIR_EFFECT_DROP_COUNT n
  let ops := (b2.link mix).elems.filterMap (fun x => x.op)
  ops.foldl (fun b id => b.complete id 0x21 st.code) (b2.dropElems mix (fun x => x.op.isSome))

/-- A freed MIX is kept for the first waiting partner (R289). -/
def Blk.keepFor (b : Blk) (mix : Nat) : Blk :=
  let kept := b.air.kept.map (fun k => k.eui)
  match b.air.waiters.find? (fun w => !kept.contains w.eui) with
  | none => b
  | some w => { b with air := { b.air with kept := b.air.kept ++ [⟨mix, w.eui, b.elapsed⟩] } }

/-- A member's filter cleared when it becomes EVICTED or ABSENT, or ACTIVE from ASSOCIATING (R249); of one that leaves
the table the snapshots go on for the host alone (R232). -/
def Blk.memberServices (b : Blk) (mix : Nat) (old new : MState) : Blk :=
  let gone := new == .evicted || new == .absent
  let b1 := if gone || (old == .associating && new == .active) then
      b.modPos (fun p => { p with filters := Tab.del p.filters mix }) else b
  if gone then b1.modGns (fun g => { g with snaps := g.snaps.map (fun (s : GSnap) =>
    if s.mix = mix ∧ s.host.isNone then { s with orphan := true } else s) }) else b1

/-- What a change of a member's state does outside DVT. -/
def Blk.memberChanged (b0 : Blk) (mix : Nat) (old new : MState) : Blk :=
  let b := b0.memberServices mix old new
  let b1 := if old.served && !new.served then b.memberLeft mix new else b
  let l := b1.link mix
  let evict := l.elems.filter (fun x => x.etype == 0x84)
  let b2 :=
    if new = .evicted then b1.setLink mix { l with keepUplinks := old.served || old == .associating, elems := evict }
    else if new = .unheard then
      b1.setLink mix { l with sleepy := false, offer := none, stayAwake := false, reassoc := l.reassoc && l.handshake }
    else if new = .absent then
      (b1.setLink mix (if evict = [] then {} else { l with elems := evict })).keepFor mix
    else b1
  if (old == .sleeping) != (new == .sleeping) || new == .absent then b2.sendMember mix else b2

/-- The changes of every member between two states of the member table. -/
def Blk.membersChanged (b : Blk) (old : Coherent) : Blk :=
  (List.range 128).foldl (fun b mix =>
    let o := (old.member mix).state
    let n := (b.member mix).state
    if o = n then b else b.memberChanged mix o n) b

end Sys2Proof.Machine
end

