-- ==== Sys2Proof/Machine/Lift.lean ====
section
/-! DEFINITION. Sys2Proof/Machine/Lift.lean: how a meaning over the block's working state becomes a
meaning over the whole state, and the cause word of READY (R500), which the life cycle enters. -/

namespace Sys2Proof.Machine

open Sys2Proof

/-- Islands other than AON are powered and out of reset (R489, R539): in RUN and NIGHT, no logic supply below its
brown-out level.  Otherwise nothing but AON acts. -/
def Blk.powered (b : Blk) : Bool := (b.pwr.pstate == 1 || b.pwr.pstate == 2) && !b.pwr.down

/-- A meaning that changes the working state alone, of an island that AON's supply does not keep alive. -/
def onBlk (f : Blk → Blk) (s : State) : Host.Outcome State Fault Refusal :=
  .next (if s.blk.powered then { s with blk := f s.blk } else s)

/-- An island's clock runs (R7, R10, R407): its PLL is locked, and REFCLK present.  INV goes on on the RC oscillator; HST
answers reads of READY_CAUSE and INV_STATUS without REFCLK (log 108). -/
def Blk.clocked (b : Blk) (i : Island) : Bool :=
  !i.hasPll || i == .inv || (!bitOf b.pwr.unlocked i.code && (i == .hst || !b.pwr.noRefclk))

/-- An island works: powered, and clocked. -/
def Blk.runs (b : Blk) (i : Island) : Bool := b.powered && b.clocked i

/-- A meaning of one island that changes the working state alone; without its PLL the island does and reports nothing
(R10, R202). -/
def onIsland (i : Island) (f : Blk → Blk) (s : State) : Host.Outcome State Fault Refusal :=
  .next (if s.blk.runs i then { s with blk := f s.blk } else s)

/-- A meaning of one island that reads the fuses. -/
def onIslandI (i : Island) (f : Ident → Blk → Blk) (s : State) : Host.Outcome State Fault Refusal :=
  .next (if s.blk.runs i then { s with blk := f s.ident s.blk } else s)

/-- A meaning that changes the working state and reads the fuses. -/
def onBlkI (f : Ident → Blk → Blk) (s : State) : Host.Outcome State Fault Refusal :=
  .next (if s.blk.powered then { s with blk := f s.ident s.blk } else s)

/-! ## READY (R500) -/

/-- The READY cause word (R500). -/
def Blk.readyCause (b : Blk) (i : Ident) : Nat :=
  b2n (b.pwr.stage != 7) + 2 * b2n b.key.isSealed + 4 * b2n b.key.lockout
    + 8 * b2n (!b.key.store.any (fun p => p.1 == 0)) + 16 * b2n (i.lc == .scrapped)
    + 32 * b2n (b.inv.rcClock || b.pwr.noRefclk || b.pwr.unlocked != 0)
    + 64 * b2n (b.fld Reg.MON_STATUS 3 1 != 0 || b.clp.cf12) + 128 * b2n b.clp.cf15

/-- READY brought in line with its cause word; a change writes the READY record (R481, R500). -/
def Blk.syncReady (b : Blk) (i : Ident) : Blk :=
  let w := b.readyCause i
  let on := w == 0
  if on == b.pwr.ready then b
  else
    let b1 := (b.modPwr (fun p => { p with ready := on })).modKey
      (fun k => { k with readyOnce := k.readyOnce || on })
    b1.record 0x0005 (leBytes 1 (b2n on) ++ leBytes 4 w)

/-- A meaning that may change READY. -/
def onReady (f : Blk → Blk) (s : State) : Host.Outcome State Fault Refusal :=
  .next (if s.blk.powered then { s with blk := (f s.blk).syncReady s.ident } else s)

/-- A meaning that may change READY and reads the fuses. -/
def onReadyI (f : Ident → Blk → Blk) (s : State) : Host.Outcome State Fault Refusal :=
  .next (if s.blk.powered then { s with blk := (f s.ident s.blk).syncReady s.ident } else s)

/-- A meaning of the AON island, which acts in every power state (R489). -/
def onAon (f : Blk → Blk) (s : State) : Host.Outcome State Fault Refusal :=
  .next { s with blk := (f s.blk).syncReady s.ident }

/-- A meaning of the AON island that reads the fuses. -/
def onAonI (f : Ident → Blk → Blk) (s : State) : Host.Outcome State Fault Refusal :=
  .next { s with blk := (f s.ident s.blk).syncReady s.ident }

/-! ## Operand checks of descriptors (R94, R552) -/

/-- The checks of a descriptor's operands, each with its reason and byte offset, in offset order: the first that
fails completes it ABORT_MALFORMED. -/
def Blk.checked (b : Blk) (d : Desc) (cs : List (Bool × Nat × Nat)) (f : Blk → Blk) : Blk :=
  match cs.find? (fun c => !c.1) with
  | some c => b.bad d.id c.2.1 c.2.2
  | none => f b

/-- Bytes between operands are 0 (reason FIELD_ZERO). -/
def Desc.gap (d : Desc) (off n : Nat) : Bool × Nat × Nat := (allZero d.bytes off n, 0x04, off)

/-- An operand of `n` bytes at `off` satisfies `p` (reason OPERAND). -/
def Desc.chk (d : Desc) (off n : Nat) (p : Nat → Bool) : Bool × Nat × Nat := (p (d.op off n), 0x0B, off)

/-- An index operand of one byte at `off` is below `n` (reason INDEX). -/
def Desc.idx (d : Desc) (off n : Nat) : Bool × Nat × Nat := (decide (d.op off 1 < n), 0x09, off)

/-- An operand at `off` is aligned to `k` bytes. -/
def Desc.aligned (d : Desc) (off k : Nat) : Bool × Nat × Nat := d.chk off 8 (fun a => a % k == 0)

end Sys2Proof.Machine
end

