-- ==== Sys2Proof/Machine/Dovetail.lean ====
section
/-! DEFINITION. Sys2Proof/Machine/Dovetail.lean: commits, waits, ordering, member requests and the
device's own transactions (R88-R118), and their commands. -/

namespace Sys2Proof.Machine

open Sys2Proof

/-! ## Outcomes (R91, R107, R110, R298) -/

/-- The report item of R110, in the layout of a completion entry. -/
def Blk.dvtItem (b : Blk) (source mix : Nat) (t : Txn) (status detail epoch : Nat) : Blk :=
  if b.flag Reg.DVT_EVQ_CFG 8 then
    b.produce (b.fld Reg.DVT_EVQ_CFG 5 0) 0x20
      (leBytes 2 0xFFFF ++ leBytes 1 status ++ zeros 1 ++ leBytes 4 detail ++ leBytes 8 epoch
        ++ leBytes 8 b.nowFt64 ++ leBytes 1 source ++ leBytes 1 mix
        ++ leBytes 1 (match t.acts with | [] => 0 | a :: _ => actCode a)
        ++ leBytes 1 t.nact ++ zeros 4)
  else b

/-- QUOTA_LEFT of a member (R65, R107). -/
def Blk.quotaLeft (b : Blk) (mix : Nat) : Nat := b.fld Reg.DVT_AIR_QUOTA 7 0 - (b.member mix).used

/-- One quota unit used by a member (R107). -/
def Blk.useQuota (b : Blk) (mix : Nat) : Blk :=
  let m := b.member mix
  { b with fleet := { b.fleet with coh := b.fleet.coh.setMember mix { m with used := m.used + 1 } } }

/-- The statuses that use no quota unit (R107). -/
def freeOfQuota (status : Nat) : Bool := status == St.stopped || status == St.busy || status == St.quota

/-- An aborted or committed transaction is answered: a host transaction by its completion, a member's
by its REPLY, and the report item of R110 where one is due. -/
def Blk.answer (b : Blk) (t : Txn) (status detail epoch : Nat) (commit : Bool) : Blk :=
  match t.src with
  | .host id => b.completeAt id status detail epoch b.nowFt64
  | .air mix req =>
    let b1 := b.airReply mix req status detail epoch
    if commit || b.flag Reg.DVT_EVQ_CFG 9 then b1.dvtItem 1 mix t status detail epoch else b1
  | .device mix => b.dvtItem 2 mix t status detail epoch
  | .clamp => b.dvtItem 3 0xFF t status detail epoch

/-- A transaction aborts: counted and answered with the epoch current (R91, R119). -/
def Blk.abort (b : Blk) (t : Txn) (status detail : Nat) : Blk :=
  let b1 := b.bump Reg.DVT_ABORT_COUNT
  let b2 := if status = St.deadlock then b1.bump Reg.DVT_DEADLOCK_COUNT else b1
  b2.answer t status detail b2.fleet.epoch false

/-! ## Commit (R39, R50, R91, R92) -/

/-- The segments with WAITERS set: those that label an edge (R97). -/
def Blk.waiterSegs (b : Blk) : List Nat := (b.edges.map (fun e => e.seg)).eraseDups

/-- The present state as a snapshot sees it (R49). -/
def Blk.view (b : Blk) : SnapView := 
  ⟨b.fleet.coh, b.fleet.effects, b.waiterSegs, b.fleet.commitAt, b.fleet.gen,
    match b.fleet.map with | some m => m.id | none => 0⟩

/-- A waiting snapshot of the epoch that a commit leaves behind takes its copy of it. -/
def SnapWait.keep (v : SnapView) (epoch : Nat) (w : SnapWait) : SnapWait :=
  if w.atEpoch = epoch ∧ w.copy = none then { w with copy := some v } else w

/-- The waiting snapshots of the epoch that a commit leaves behind take their copy of it (R49, R50). -/
def Blk.copySnaps (b : Blk) : Blk :=
  { b with fleet := { b.fleet with
    snapWaits := b.fleet.snapWaits.map (SnapWait.keep b.view b.fleet.epoch) } }

/-- The segments with WAITERS that a new coherent state frees (R97, R99).  One that a commit hands from a holder straight to
another is not freed, and the waits on it keep their edges: a choice of the model (log 100). -/
def Blk.freedBy (b : Blk) (c : Coherent) : List Nat :=
  b.waiterSegs.filter (fun s => (b.fleet.coh.seg s).holder != 0 && (c.seg s).holder == 0)

/-- The effect's destination is AXS. -/
def Effect.isAxs (e : Effect) : Bool := e.dest == .axs

/-- A new coherent state put in force as an epoch, with its effects; member changes follow. -/
def Blk.install (b : Blk) (c : Coherent) (epoch : Nat) (es : List Effect) : Blk :=
  let b1 := b.copySnaps
  let b2 := { b1 with
    fleet := { b1.fleet with coh := c, epoch := epoch, effects := b1.fleet.effects ++ es,
                             commitAt := if epoch = 0 then b1.fleet.commitAt else b1.inv.ft }
    dvt := { b1.dvt with unfinished := b1.dvt.unfinished ++ es.filter Effect.isAxs
                         freed := b1.dvt.freed ++ b1.freedBy c } }
  ((b2.membersChanged b1.fleet.coh).pushEffects es).loadTargets

/-- The status of a commit (R92). -/
def commitStatus (clamp : Nat) : Nat := if clamp = 0 then St.done else St.doneClamped

/-- A transaction commits (R91): the working copy becomes the state of its epoch, its effects are
handed over, and it is answered DONE or DONE_CLAMPED (R92). -/
def Blk.commit (b : Blk) (t : Txn) (w : Work) : Blk :=
  ((b.install w.coh w.epoch w.effs).bump Reg.DVT_COMMIT_COUNT).answer t
    (commitStatus w.clamp) (w.clamp * 2 ^ 16) w.epoch true

/-- A host transaction whose judgement ended before a freeze reached DVT commits after that instant: its completion waits
for the stop epoch (R112, log 101). -/
def Blk.commitLate (b : Blk) (id : OpId) (w : Work) : Blk :=
  ((b.install w.coh w.epoch w.effs).bump Reg.DVT_COMMIT_COUNT).modDvt
    (fun v => { v with late := v.late ++ [⟨id, w.clamp, w.epoch, b.nowFt64⟩] })

/-- CUT_MASK of a commit: the actions of its epoch whose effects a stop has cancelled (R48, R92). -/
def cutMask (gone : List Effect) (epoch : Nat) : Nat :=
  maskOf 16 (fun i => gone.any (fun e => e.epoch == epoch && e.idx == i))

/-- The completions that waited for the stop epoch written, with the cancellations of it (R112). -/
def Blk.endLate (b : Blk) (gone : List Effect) : Blk :=
  b.dvt.late.foldl
    (fun b l => b.completeAt l.id (commitStatus l.clamp) (l.clamp * 2 ^ 16 + cutMask gone l.epoch) l.epoch l.time)
    (b.modDvt (fun v => { v with late := [] }))

/-! ## Waiting (R97-R100, R105) -/

/-- A wait taken out of the pool. -/
def Blk.dropWait (b : Blk) (src : Source) : Blk :=
  { b with dvt := { b.dvt with waits := b.dvt.waits.filter (fun w => w.txn.src ≠ src) } }

/-- A transaction enters the wait pool, or completes BUSY_RETRY cause 2 when it is full (R100). -/
def Blk.enterWait (b : Blk) (t : Txn) (onEpoch : Bool) (edges : List Edge) : Blk :=
  if 256 ≤ b.dvt.waits.length then b.abort t St.busy (2 * 2 ^ 24)
  else { b with dvt := { b.dvt with
    waits := b.dvt.waits ++ [⟨t, b.elapsed, b.nowFt64, onEpoch, edges⟩] } }

/-- A new transaction judged: it commits, waits or aborts (R88). -/
def Blk.runTxn (b : Blk) (t : Txn) : Blk :=
  match b.judge t false with
  | .commit w => b.commit t w
  | .abort st dt => b.abort t st dt
  | .wait es => b.enterWait t false es

/-- The DETAIL of a TIMEOUT of a conflict wait: cause, awaited holder and segment, those of its first edge (R93, log 96). -/
def waitDetail (cause : Nat) (w : Wait) : Nat :=
  match w.edges with
  | [] => cause * 2 ^ 24
  | e :: _ => cause * 2 ^ 24 + e.awaited * 2 ^ 16 + e.seg

/-- A waiting transaction judged again (R99): it keeps its place in the pool while it waits. -/
def Blk.runAgain (b : Blk) (w : Wait) : Blk :=
  match b.judge w.txn true with
  | .commit k => (b.dropWait w.txn.src).commit w.txn k
  | .abort st dt =>
    (b.dropWait w.txn.src).abort w.txn st (if st = St.timeout then waitDetail 2 w else dt)
  | .wait es =>
    { b with dvt := { b.dvt with waits := b.dvt.waits.map (fun x =>
        if x.txn.src = w.txn.src then { x with edges := es } else x) } }

/-- One round of R99: the transactions that wait on a freed segment, in order of entry. -/
def Blk.rejudgeRound (b : Blk) : Blk :=
  let freed := b.dvt.freed
  let ws := b.dvt.waits.filter (fun w => !w.onEpoch && w.edges.any (fun e => freed.contains e.seg))
  ws.foldl (fun b w => if b.dvt.waits.any (fun x => x.txn.src = w.txn.src) then b.runAgain w else b)
    { b with dvt := { b.dvt with freed := [] } }

/-- The judgements again that commits have triggered, until none is left (R99). -/
def Blk.rejudge (b : Blk) : Blk :=
  let rec go : Nat → Blk → Blk
    | 0, b => b
    | n + 1, b => if b.dvt.freed = [] then b else go n b.rejudgeRound
  go (b.dvt.waits.length + 1) b

/-- POS_MODE of a member (R267). -/
def Blk.posMode (b : Blk) (mix : Nat) : Nat := b.fld (Reg.POS_MCFG mix) 5 4

/-- A MEMBER_STATE action. -/
def stateAct (mix : Nat) (st : MState) : Bytes := mkAct 0x4E mix (leBytes 1 st.code)

/-- A member holds FROZEN segments. -/
def Blk.holdsFrozen (b : Blk) (mix : Nat) : Bool := b.fleet.coh.mortise.any (fun e => e.holder == mix + 1 && e.frozen)

/-- Members in MODE 1 or 3 that have completed a reassociation and hold no frozen segment any more become ACTIVE,
each in a commit of its own (R287). -/
def Blk.settleReassoc (b : Blk) : Blk :=
  (List.range 128).foldl (fun b mix =>
    let l := b.link mix
    if !b.stopped && l.reassoc && !l.handshake && (b.member mix).state == .unheard && b.posMode mix % 2 == 1 && !b.holdsFrozen mix then
      ((b.setLink mix { l with reassoc := false }).runTxn (deviceTxn mix [stateAct mix .active])).rejudge
    else b) b

/-! ## Requests from members (R106-R108, R117) -/

/-- A member's request judged (R107): one quota unit is used, unless the status is free. -/
def Blk.airRun (b : Blk) (mix : Nat) (t : Txn) : Blk :=
  match b.judge t false with
  | .commit w => (b.commit t w).useQuota mix
  | .abort st dt => (if freeOfQuota st then b else b.useQuota mix).abort t st dt
  | .wait es =>
    (if 256 ≤ b.dvt.waits.length then b else b.useQuota mix).enterWait t false es

/-- Superframes since the quota period began. -/
def Blk.quotaAge (b : Blk) : Nat := (b.air.sfn + 2 ^ 32 - b.dvt.quotaSf) % 2 ^ 32

/-- Superframes to the next quota period (R107): after a power-up or a release commit the next boundary begins one. -/
def Blk.toQuota (b : Blk) : Nat :=
  let p := b.fld Reg.DVT_AIR_QUOTA 15 8
  if b.dvt.quotaNew then 1 else p - b.quotaAge % p

/-- A member's request taken from its admission place: ABORT_STOPPED during a stop, ABORT_QUOTA with no
unit left, else judged (R107, R113). -/
def Blk.airTxn (b : Blk) (mix : Nat) (t : Txn) : Blk :=
  if b.stopped then b.abort t St.stopped (b.clp.s % 2 ^ 32)
  else if b.quotaLeft mix = 0 then b.abort t St.quota (b.toQuota * 2 ^ 16 + mix)
  else (b.airRun mix t).rejudge

/-- A member's request arrives (R108): refused BUSY_RETRY, cause 3, while its admission place is occupied
or it has a transaction waiting. -/
def Blk.admitTxn (b : Blk) (mix : Nat) (t : Txn) : Blk :=
  let waiting := b.dvt.waits.any (fun w => match w.txn.src with | .air m _ => m == mix | _ => false)
  if waiting || b.dvt.admission.any (fun p => p.1 == mix) then b.abort t St.busy (3 * 2 ^ 24)
  else { b with dvt := { b.dvt with admission := Tab.put b.dvt.admission mix t } }

/-- The admission place served next: the first MIX after the last one served, cyclically (R117). -/
def Blk.nextAdmitted (b : Blk) : Option (Nat × Txn) :=
  match b.dvt.admission.find? (fun p => b.dvt.lastMix < p.1) with
  | some p => some p
  | none => b.dvt.admission.head?

/-- What R116 puts ahead of a new host or air transaction: AIR effects now due, judgements again, reassociations now settled. -/
def Blk.ahead (b : Blk) : Blk := b.settleAir.rejudge.settleReassoc

/-! ## Arbitration (R105, R116, R117) -/

/-- The first transaction held for an AFTER that the epoch has reached, in the order in which they were held (R105). -/
def Blk.released (b : Blk) : Option Wait := b.dvt.waits.find? (fun w => w.onEpoch && decide (w.txn.after ≤ b.fleet.epoch))

/-- With both sides ready, the next turn is the air side's: the host side has had its HOST_WEIGHT judgements, or the air side
not yet its AIR_WEIGHT (R116). -/
def Blk.airNext (b : Blk) : Bool :=
  if b.dvt.airTurn then decide (b.dvt.turnN < b.fld Reg.DVT_ARB_CFG 11 8)
  else decide (b.fld Reg.DVT_ARB_CFG 3 0 ≤ b.dvt.turnN)

/-- A judgement of one side counted; it ends the device's run (R116). -/
def Blk.noteTurn (b : Blk) (air : Bool) : Blk :=
  b.modDvt (fun v => { v with airTurn := air, turnN := if v.airTurn = air then v.turnN + 1 else 1, devRun := 0 })

/-- A transaction whose AFTER is reached judged: it leaves its place in the pool, and a conflict wait that it enters begins
anew (R102, R105, log 102). -/
def Blk.runReleased (b : Blk) (w : Wait) : Blk := (((b.dropWait w.txn.src).noteTurn false).runTxn w.txn).rejudge

/-- The request of the admission place served next judged (R117). -/
def Blk.runAdmitted (b : Blk) (p : Nat × Txn) : Blk :=
  ((b.modDvt (fun v => { v with admission := Tab.del v.admission p.1, lastMix := p.1 })).noteTurn true).airTxn p.1 p.2

/-- One judgement of what waits on the chip, by the turns of R116: of a released transaction or of a member's request, as long
as a released one is left or, with `host`, the air side's turn comes before the host transaction that is ready. -/
def Blk.takeTurn (b : Blk) (host : Bool) : Option Blk :=
  match b.released, b.nextAdmitted with
  | some w, some p => some (if b.airNext then b.runAdmitted p else b.runReleased w)
  | some w, none => some (b.runReleased w)
  | none, some p => if host && b.airNext then some (b.runAdmitted p) else none
  | none, none => none

/-- Those judgements, one after another. -/
def Blk.takeTurns (b : Blk) (host : Bool) : Blk :=
  let rec go : Nat → Blk → Blk
    | 0, b => b
    | n + 1, b => match b.takeTurn host with
      | none => b
      | some b' => go n b'
  go (b.dvt.waits.length + b.dvt.admission.length) b

/-- A new transaction of a host ring judged; `freeze`: a freeze reaches DVT after the judgement and before the commit (R112). -/
def Blk.runHost (b : Blk) (t : Txn) (freeze : Bool) : Blk :=
  match t.src, freeze, b.judge t false with
  | .host id, true, .commit w => b.commitLate id w
  | _, _, _ => b.runTxn t

/-- A host transaction reaches Dovetail: aborted during a stop (R113), held for its AFTER epoch (R105), or judged when its turn
comes.  While no map is in service there is no epoch to wait for, and AFTER_EPOCH has no effect: a choice of the model
(log 103). -/
def Blk.hostTxn (b : Blk) (t : Txn) (freeze : Bool) : Blk :=
  if b.stopped then b.abort t St.stopped (b.clp.s % 2 ^ 32)
  else if bitOf t.flags 2 && decide (b.fleet.epoch < t.after) && b.inService then b.enterWait t true []
  else ((((b.takeTurns true).noteTurn false).runHost t freeze).rejudge).settleReassoc

/-- TXN (R70, R88, R104, R105, R112, R113). -/
def execTxn (d : Desc) (freeze : Bool) : State → Host.Outcome State Fault Refusal :=
  onIsland .dvt (fun b => b.startRaw d (fun b =>
    b.ahead.hostTxn (txnOfDesc d (b.flag (Reg.HST_RCFG d.ring.val) 2)) freeze))

/-- WAIT_CANCEL (R101). -/
def Blk.waitCancel (d : Desc) (b : Blk) : Blk :=
  let ring := d.op 0x18 1
  let tag := d.op 0x1A 2
  if 128 ≤ ring then b.bad d.id 0x09 0x18
  else if d.op 0x19 1 ≠ 0 then b.bad d.id 0x04 0x19
  else if 1024 ≤ tag then b.bad d.id 0x0B 0x1A
  else
    let hit := b.dvt.waits.find? (fun w => match w.txn.src with
      | .host id => id.ring == ring && id.tag == tag
      | _ => false)
    match hit with
    | none => b.done d.id 1
    | some w => ((b.dropWait w.txn.src).abort w.txn 0x28 d.id.tag).done d.id 0

/-- WAIT_CANCEL (R101). -/
def execWaitCancel (d : Desc) : State → Host.Outcome State Fault Refusal :=
  onIsland .dvt (fun b => b.start d (Blk.waitCancel d))

/-- One entry of WAITS_READ (R102). -/
def waitEntry (w : Wait) (e : Edge) : Bytes :=
  (match w.txn.src with
    | .host id => leBytes 1 id.ring ++ zeros 1 ++ leBytes 2 id.tag
    | _ => leBytes 1 0xFF ++ leBytes 1 1 ++ leBytes 2 0xFFFF)
    ++ leBytes 1 e.requester ++ leBytes 1 e.awaited ++ leBytes 2 e.seg ++ leBytes 8 w.sinceFt

/-- WAITS_READ (R102). -/
def Blk.waitsRead (d : Desc) (b : Blk) : Blk :=
  let addr := d.op 0x18 8
  let n := b.edges.length
  if addr % 64 ≠ 0 then b.bad d.id 0x0B 0x18
  else if d.op 0x20 4 < 16 + 16 * n then b.complete d.id 0x29 (16 + 16 * n)
  else
    (b.emit (.hostWrite addr (leBytes 8 b.fleet.epoch ++ leBytes 2 n ++ zeros 6
      ++ b.dvt.waits.flatMap (fun w => w.edges.flatMap (waitEntry w))))).done d.id n

/-- WAITS_READ (R102). -/
def execWaitsRead (d : Desc) : State → Host.Outcome State Fault Refusal :=
  onIsland .dvt (fun b => b.start d (Blk.waitsRead d))

/-- WAIT_REJUDGE (R99). -/
def execWaitRejudge : State → Host.Outcome State Fault Refusal := onIsland .dvt (fun b => b.rejudge.settleReassoc)

/-- AFTER_EPOCH_RELEASE (R105). -/
def execAfterEpochRelease : State → Host.Outcome State Fault Refusal := onIsland .dvt (fun b => (b.ahead.takeTurns false).settleReassoc)

/-- The waits that satisfy `p` end TIMEOUT with a cause. -/
def Blk.timeoutWaits (b : Blk) (p : Wait → Bool) (cause : Nat) : Blk :=
  (b.dvt.waits.filter p).foldl
    (fun b w => (b.dropWait w.txn.src).abort w.txn St.timeout (waitDetail cause w)) b

/-- WAIT_LIMIT_EXPIRY at instant `t` (R100): conflict waits longer than WAIT_LIMIT end, cause 1; a limit
of 0 is none. -/
def Blk.waitLimit (b0 : Blk) (t : Nat) : Blk :=
  let b := b0.moveTo t
  let lim := b.fld Reg.DVT_WAIT_CFG 15 0
  if lim = 0 then b
  else b.timeoutWaits (fun w => !w.onEpoch && decide (w.since + lim * 1000000 < b.elapsed)) 1

/-- WAIT_LIMIT_EXPIRY (R100). -/
def execWaitLimitExpiry (t : Nat) : State → Host.Outcome State Fault Refusal := onIsland .dvt (fun b => b.waitLimit t)

/-- AFTER_LIMIT_EXPIRY at instant `t` (R105): cause 3. -/
def Blk.afterLimit (b0 : Blk) (t : Nat) : Blk :=
  let b := b0.moveTo t
  let lim := b.fld Reg.DVT_WAIT_CFG 31 16
  b.timeoutWaits (fun w => w.onEpoch && decide (w.since + lim * 1000000 ≤ b.elapsed)
    && decide (b.fleet.epoch < w.txn.after)) 3

/-- AFTER_LIMIT_EXPIRY (R105). -/
def execAfterLimitExpiry (t : Nat) : State → Host.Outcome State Fault Refusal :=
  onIsland .dvt (fun b => b.afterLimit t)

/-! ## The air side (R106, R107) -/

/-- AIR_TXN_JUDGE (R106, R107, R116, R117): host transactions whose AFTER is reached take their turns before it. -/
def Blk.airJudge (b : Blk) : Blk :=
  let rec go : Nat → Blk → Blk
    | 0, b => b
    | n + 1, b => match b.nextAdmitted, b.released with
      | none, _ => b
      | some p, none => b.runAdmitted p
      | some p, some w => if b.airNext then b.runAdmitted p else go n (b.runReleased w)
  go (b.dvt.waits.length + 1) b.ahead

/-- AIR_TXN_JUDGE (R106, R107). -/
def execAirTxnJudge : State → Host.Outcome State Fault Refusal := onIsland .dvt Blk.airJudge

/-- A quota period begins: at the first superframe boundary after power-up or a release commit, and PERIOD superframes after the
period before (R107). -/
def Blk.quotaDue (b : Blk) : Bool :=
  b.dvt.quotaTick && (b.dvt.quotaNew || b.quotaAge % b.fld Reg.DVT_AIR_QUOTA 15 8 == 0)

/-- QUOTA_PERIOD_START: every member's units are whole again (R107). -/
def Blk.quotaPeriod (b : Blk) : Blk :=
  if !b.quotaDue then b else { b with
    fleet := { b.fleet with coh := { b.fleet.coh with
      members := b.fleet.coh.members.map (fun p => (p.1, { p.2 with used := 0 })) } }
    dvt := { b.dvt with quotaSf := b.air.sfn, quotaNew := false, quotaTick := false } }

/-- QUOTA_PERIOD_START (R107). -/
def execQuotaPeriodStart : State → Host.Outcome State Fault Refusal := onIsland .dvt Blk.quotaPeriod

/-! ## The device's own transactions (R109, R111, R114, R115) -/

/-- The actions of a device-originated transaction by its cause (R109, R198). -/
def Blk.causeActs (b : Blk) (mix : Nat) : DevCause → List Bytes
  | .taskDone => let h := (b.member mix).task; [mkAct 0x22 (h % 4096) (leBytes 4 h)]
  | .associating => [stateAct mix .associating]
  | .associated => [stateAct mix .active]
  | .assocFailed => [stateAct mix .absent]
  | .sleep => [stateAct mix .sleeping]
  | .awake => [stateAct mix .active]
  | .unheard => [stateAct mix .unheard]
  | .reassociated =>
    if b.inService then [mkAct 0x07 mix [], stateAct mix .active] else [stateAct mix .active]
  | .security => [mkAct 0x43 mix []]
  | .resumed => [stateAct mix (if (b.link mix).sleepy then .sleeping else .active)]

/-- A device-originated transaction judged: only the report item shows its abort (R109). -/
def Blk.runDevice (b : Blk) (mix : Nat) (acts : List Bytes) : Blk := (b.runTxn (deviceTxn mix acts)).rejudge

/-- A member-state change that takes the place of what was kept (R114). -/
def Deferral.latest (d : Deferral) (st : MState) : Deferral := ⟨some st, false, false, d.taskDone⟩

/-- What is kept of a transaction deferred during a stop (R114, R188): the latest state change, a
member that completes an association or an unfreeze becoming STOPPED. -/
def deferCause (task : Nat) (d : Deferral) : DevCause → Deferral
  | .taskDone => { d with taskDone := some task }
  | .associating => d.latest .associating
  | .associated => d.latest .stopped
  | .assocFailed => d.latest .absent
  | .sleep => d.latest .sleeping
  | .awake => d.latest .active
  | .unheard => d.latest .unheard
  | .reassociated => { d.latest .stopped with unfreeze := true }
  | .security => ⟨none, false, true, d.taskDone⟩
  | .resumed => d.latest .active

/-- After DEV_BURST judgements of the device's own in a row a released transaction or a member's request that is ready has its
turn (R116). -/
def Blk.yield (b : Blk) : Blk :=
  match b.takeTurn false, b.nextAdmitted with
  | some b', _ => b'
  | none, some p => b.runAdmitted p
  | none, none => b

/-- A cause of R109 comes to Dovetail: judged, or deferred while a stop is asserted (R114). -/
def Blk.device (b : Blk) (mix : Nat) (c : DevCause) : Blk :=
  if b.stopped then
    { b with dvt := { b.dvt with
      deferred := Tab.upd b.dvt.deferred mix {} (fun d => deferCause (b.member mix).task d c) } }
  else
    let b1 := b.ahead
    let b2 := if b1.fld Reg.DVT_ARB_CFG 23 16 ≤ b1.dvt.devRun then b1.yield else b1
    (b2.modDvt (fun v => { v with devRun := v.devRun + 1 })).runDevice mix (b2.causeActs mix c)

/-- The state that a deferred change leaves: a member stopped by S stays STOPPED through a deferred
SLEEPING or ACTIVE (R188). -/
def deferredState (now st : MState) : MState :=
  if now = .stopped ∧ (st = .sleeping ∨ st = .active) then .stopped else st

/-- A task-done report judged, its outcome answered by REPLY where an element asked for it (R109, R298). -/
def Blk.taskDone (b : Blk) (mix task : Nat) (req : Option Nat) : Blk :=
  let t := deviceTxn mix [mkAct 0x22 (task % 4096) (leBytes 4 task)]
  let tell (b : Blk) (st dt : Nat) : Blk := match req with
    | none => b
    | some r => b.airReply mix r st dt b.fleet.epoch
  match b.judge t false with
  | .commit w => (tell (b.commit t w) St.done 0).rejudge
  | .abort st dt => tell (b.abort t st dt) st dt
  | .wait es => b.enterWait t false es

/-- The request of a member that has no answer yet. -/
def Link.openReq (l : Link) : Option Nat := if l.reply.isNone then l.reqId else none

/-- The deferred transactions of one member (R115): the task-done report before the state change. -/
def Blk.replayOne (b : Blk) (mix : Nat) (d : Deferral) : Blk :=
  let b1 := match d.taskDone with
    | none => b
    | some h => b.taskDone mix h (b.link mix).openReq
  if d.evict then b1.runDevice mix [mkAct 0x43 mix []]
  else match d.change with
    | none => b1
    | some st =>
      let act := stateAct mix (deferredState (b1.member mix).state st)
      b1.runDevice mix (if d.unfreeze && b1.inService then [mkAct 0x07 mix [], act] else [act])

/-- The deferred transactions judged after the release commit, in ascending MIX order (R115). -/
def Blk.replay (b : Blk) : Blk :=
  b.dvt.deferred.foldl (fun b p => b.replayOne p.1 p.2) { b with dvt := { b.dvt with deferred := [] } }

/-- DVT_DEFER_COUNT (R114, R126). -/
def Blk.deferCount (b : Blk) : Nat :=
  (b.dvt.deferred.map (fun p =>
    b2n p.2.taskDone.isSome + b2n (p.2.change.isSome || p.2.evict))).sum

/-- DEVICE_TXN (R109, R114). -/
def execDeviceTxn (mix : Mix) (cause : DevCause) : State → Host.Outcome State Fault Refusal :=
  onIsland .dvt (fun b => b.device mix.val cause)

end Sys2Proof.Machine
end

