-- ==== Sys2Proof/Machine/StopOps.lean ====
section
/-! DEFINITION. Sys2Proof/Machine/StopOps.lean: what Clamp's sources, the axes and the map share: source
activity, the INTERNAL source, the state of an STO pair (R173, R180-R184, R204). -/

namespace Sys2Proof.Machine

open Sys2Proof

/-- A channel with a source's activity set or cleared. -/
def Chan.setActive (c : Chan) (bit : Nat) (on : Bool) : Chan :=
  { c with active := if on then setBit c.active bit else clearBit c.active bit }

/-- A source's activity in both channels. -/
def Blk.srcActive (b : Blk) (bit : Nat) (on : Bool) : Blk :=
  { b with clp := { b.clp with a := b.clp.a.setActive bit on, b := b.clp.b.setActive bit on } }

/-- The INTERNAL source is active (R173): a fault whose reaction is a site stop is latched or persists. -/
def Clp.internal (c : Clp) : Bool := c.latchedFault || c.cf12 || c.cf14 || c.cf15

/-- INTERNAL's activity brought in line with the faults. -/
def Blk.syncInternal (b : Blk) : Blk := b.srcActive 9 b.clp.internal

/-- A group's pair is on: ON or RAMP (R183, R340). -/
def Blk.pairOn (b : Blk) (g : Nat) : Bool := b.group g == .on || b.group g == .ramp

/-- Contactor monitor `m`. -/
def Blk.cmonOf (b : Blk) (m : Nat) : Cmon := Tab.val b.clp.cmon m {}

/-- The state in which a monitor's feedback must be (R185): open while any group of its mask has its pair
on. -/
def Blk.cmonExpectOpen (b : Blk) (m : Nat) : Bool :=
  (List.range 12).any (fun g => b.flag (Reg.CLP_CMON_CFG m) g && b.pairOn g)

/-- The monitors whose expected state has changed note the instant, their feedback following (R185). -/
def Blk.noteCmon (b old : Blk) : Blk :=
  b.modClp (fun c => { c with cmon := (List.range 2).foldl (fun t m =>
    if b.cmonExpectOpen m == old.cmonExpectOpen m then t
    else Tab.upd t m {} (fun (_ : Cmon) => { isOpen := b.cmonExpectOpen m, changed := b.elapsed })) c.cmon })

/-- A write of CLP_CMON_CFG that changes EN or the expected state notes the instant (R185). -/
def Blk.noteCmonCfg (b old : Blk) : Blk :=
  b.modClp (fun c => { c with cmon := (List.range 2).foldl (fun t m =>
    if b.cmonExpectOpen m == old.cmonExpectOpen m && b.flag (Reg.CLP_CMON_CFG m) 15 == old.flag (Reg.CLP_CMON_CFG m) 15 then t
    else Tab.upd t m {} (fun (x : Cmon) => { x with changed := b.elapsed })) c.cmon })

/-- A group's state set, with the read-back of its two outputs (R204). -/
def Blk.setGroup (b : Blk) (g : Nat) (st : GState) : Blk :=
  let on := st == .on || st == .ramp
  let f (v : Nat) : Nat := if on then setBit v g else clearBit v g
  Blk.noteCmon (b.modClp (fun c => { c with groups := Tab.put c.groups g st, stoA := f c.stoA, stoB := f c.stoB }))
    b

end Sys2Proof.Machine
end

