-- ==== Sys2Proof/Machine/Map.lean ====
section
/-! DEFINITION. Sys2Proof/Machine/Map.lean: map images, the switch to a new map, and state snapshots
(R51-R65), and their commands. -/

namespace Sys2Proof.Machine

open Sys2Proof

/-! ## Map images (R51-R56) -/

/-- One test of an image: whether it holds, and the byte offset reported where it does not. -/
abbrev ImgTest := Bool × Nat

/-- The offset of the first failing test. -/
def firstBad (ts : List ImgTest) : Option Nat := (ts.find? (fun t => !t.1)).map (fun t => t.2)

/-- The sections of an image in header order: the header field of the offset, the record size and the
count of records. -/
def imgSections (img : Bytes) : List (Nat × Nat × Nat) :=
  [(0x48, 16, le img 0x1C 2), (0x4C, 16, le img 0x1E 2), (0x50, 8, le img 0x20 2),
    (0x54, 2, le img 0x28 4), (0x58, 16, le img 0x22 2), (0x5C, 4, le img 0x24 4)]

/-- Offset and length of a section. -/
def secSpan (img : Bytes) (s : Nat × Nat × Nat) : Nat × Nat := (le img s.1 4, s.2.1 * s.2.2)

/-- Two sections share a byte; an empty one shares none. -/
def overlap (a b : Nat × Nat) : Bool :=
  0 < a.2 && 0 < b.2 && decide (a.1 < b.1 + b.2) && decide (b.1 < a.1 + a.2)

/-- Step 8 of R56: the section offsets in header order, an overlap reported at the later one. -/
def offsetTests (img : Bytes) (size : Nat) : List ImgTest :=
  let ss := imgSections img
  (List.range 6).map (fun i =>
    let s := ss.getD i (0, 0, 0)
    let x := secSpan img s
    (x.1 % 8 == 0 && decide (x.1 + x.2 ≤ size)
      && !(ss.take i).any (fun t => overlap (secSpan img t) x), s.1))

/-- Steps 1 and 2 of R56. -/
def headTests (img : Bytes) (size : Nat) : List ImgTest :=
  [(le img 0 4 == 0x4D4C5354, 0), (le img 4 2 == 2, 4), (le img 6 2 == 0x80, 6), (le img 8 4 == size, 8)]

/-- CRC-32C of the whole image with the CRC field as 0 (R51). -/
def imgCrc (img : Bytes) : Nat := (crc32c (slice img 0 0xC ++ zeros 4 ++ img.drop 0x10)).toNat

/-- Steps 5 to 7 and 9 of R56. -/
def countTests (img : Bytes) (size : Nat) : List ImgTest :=
  [(le img 0x18 4 != 0, 0x18),
    (decide (1 ≤ le img 0x1C 2 ∧ le img 0x1C 2 ≤ 2048), 0x1C),
    (decide (1 ≤ le img 0x1E 2 ∧ le img 0x1E 2 ≤ 8192), 0x1E),
    (decide (le img 0x20 2 ≤ 512), 0x20), (decide (le img 0x22 2 ≤ 256), 0x22),
    (decide (le img 0x24 4 ≤ 16384), 0x24), (decide (le img 0x28 4 ≤ 65536), 0x28),
    (le img 0x2E 2 == 0, 0x2E)] ++ offsetTests img size
    ++ (List.range 32).map (fun k => (byteAt img (0x60 + k) == 0, 0x60 + k))

/-- The first failing test over the records of a section, in index order. -/
def firstRecBad (base size n : Nat) (tests : Nat → List ImgTest) : Option Nat :=
  (List.range n).findSome? (fun i => firstBad (tests (base + size * i)))

/-- The tests of a node record at `p` (R52). -/
def nodeTests (img : Bytes) (p : Nat) : List ImgTest :=
  [(decide (le img (p + 0xC) 2 < 8), p + 0xC), (le img (p + 0xE) 2 == 0, p + 0xE)]

/-- The tests of a segment record at `p` (R53). -/
def segTests (img : Bytes) (p : Nat) : List ImgTest :=
  let n := le img 0x1C 2
  [(decide (le img p 2 < n), p), (decide (le img (p + 2) 2 < n) && le img (p + 2) 2 != le img p 2, p + 2),
    (decide (1 ≤ le img (p + 4) 4), p + 4), (decide (1 ≤ sle img (p + 0xA) 2), p + 0xA),
    (decide (byteAt img (p + 0xC) ≤ 2), p + 0xC), (decide (byteAt img (p + 0xD) < 4), p + 0xD),
    (le img (p + 0xE) 2 == 0, p + 0xE)]

/-- The tests of a zone record at `p` (R54).  A run that passes POOL_LEN is reported at COUNT, and at FIRST where FIRST itself is
not below it: a choice of the model (log 105). -/
def zoneTests (img : Bytes) (p : Nat) : List ImgTest :=
  let n := le img 0x28 4
  let c := le img (p + 4) 2
  [(decide (le img p 4 < n), p), (decide (1 ≤ c ∧ c ≤ 256 ∧ le img p 4 + c ≤ n), p + 4),
    (decide (le img (p + 6) 2 < 2), p + 6)]

/-- First pool entry and count of every zone. -/
def zoneRanges (img : Bytes) : List (Nat × Nat) :=
  (List.range (le img 0x20 2)).map (fun z =>
    (le img (le img 0x50 4 + 8 * z) 4, le img (le img 0x50 4 + 8 * z + 4) 2))

/-- Pool entry `i`. -/
def poolEntry (img : Bytes) (i : Nat) : Nat := le img (le img 0x54 4 + 2 * i) 2

/-- The tests of pool entry `i`: a segment index, not met before in its zone (R54, R56). -/
def poolTest (img : Bytes) (i : Nat) : ImgTest :=
  let s := poolEntry img i
  (decide (s < le img 0x1E 2) && (zoneRanges img).all (fun z =>
      !(decide (z.1 ≤ i) && decide (i < z.1 + z.2)
        && (List.range (i - z.1)).any (fun k => poolEntry img (z.1 + k) == s))),
    le img 0x54 4 + 2 * i)

/-- The tests of a swing record at `p` (R55). -/
def swingTests (img : Bytes) (p : Nat) : List ImgTest :=
  [(decide (byteAt img p ≤ 47), p), (decide (byteAt img (p + 1) < 2), p + 1),
    (decide (le img (p + 2) 2 < le img 0x20 2), p + 2),
    (decide (sle img (p + 4) 4 ≤ sle img (p + 8) 4), p + 8), (le img (p + 0xC) 4 == 0, p + 0xC)]

/-- The tests of a conflict record at `p` (R55). -/
def conflictTests (img : Bytes) (p : Nat) : List ImgTest :=
  let n := le img 0x1E 2
  [(decide (le img p 2 < n), p), (decide (le img (p + 2) 2 < n) && le img (p + 2) 2 != le img p 2, p + 2)]

/-- Step 11 of R56: the SWING flag of zone `z`. -/
def swingFlagTest (img : Bytes) (z : Nat) : ImgTest :=
  let p := le img 0x50 4 + 8 * z + 6
  let named := (List.range (le img 0x22 2)).any (fun k => le img (le img 0x58 4 + 16 * k + 2) 2 == z)
  (bitOf (le img p 2) 0 == named, p)

/-- Steps 10 and 11 of R56: the offset of the first failing field. -/
def recordsBad (img : Bytes) : Option Nat :=
  (firstRecBad (le img 0x48 4) 16 (le img 0x1C 2) (nodeTests img)).orElse fun _ =>
  (firstRecBad (le img 0x4C 4) 16 (le img 0x1E 2) (segTests img)).orElse fun _ =>
  (firstRecBad (le img 0x50 4) 8 (le img 0x20 2) (zoneTests img)).orElse fun _ =>
  ((List.range (le img 0x28 4)).findSome? (fun i => firstBad [poolTest img i])).orElse fun _ =>
  (firstRecBad (le img 0x58 4) 16 (le img 0x22 2) (swingTests img)).orElse fun _ =>
  (firstRecBad (le img 0x5C 4) 4 (le img 0x24 4) (conflictTests img)).orElse fun _ =>
  (List.range (le img 0x20 2)).findSome? (fun z => firstBad [swingFlagTest img z])

/-- The map that a valid image holds (R51-R55). -/
def parseMap (img : Bytes) : SiteMap :=
  { id := le img 0x18 4, orient := le img 0x2C 2
    origin := [le img 0x30 8, le img 0x38 8, le img 0x40 8]
    nodes := (List.range (le img 0x1C 2)).map (fun i =>
      let p := le img 0x48 4 + 16 * i
      ⟨sle img p 4, sle img (p + 4) 4, sle img (p + 8) 4, le img (p + 0xC) 2⟩)
    segs := (List.range (le img 0x1E 2)).map (fun i =>
      let p := le img 0x4C 4 + 16 * i
      ⟨le img p 2, le img (p + 2) 2, le img (p + 4) 4, le img (p + 8) 2, sle img (p + 0xA) 2,
        byteAt img (p + 0xC), byteAt img (p + 0xD)⟩)
    zones := (List.range (le img 0x20 2)).map (fun i =>
      let p := le img 0x50 4 + 8 * i
      ⟨(List.range (le img (p + 4) 2)).map (fun k => poolEntry img (le img p 4 + k)), bitOf (le img (p + 6) 2) 0⟩)
    swings := (List.range (le img 0x22 2)).map (fun i =>
      let p := le img 0x58 4 + 16 * i
      ⟨byteAt img p, bitOf (byteAt img (p + 1)) 0, le img (p + 2) 2, sle img (p + 4) 4, sle img (p + 8) 4⟩)
    conflicts := (List.range (le img 0x24 4)).map (fun i =>
      let p := le img 0x5C 4 + 4 * i
      (le img p 2, le img (p + 2) 2)) }

/-- An image validated in the order of R56 against the operand IMAGE_SIZE and the module's UID: the map,
or status and DETAIL of the rejection (R62). -/
def validateImage (uid size : Nat) (img : Bytes) : Except (Nat × Nat) SiteMap :=
  match firstBad (headTests img size) with
  | some o => .error (0x20, o)
  | none =>
    if imgCrc img ≠ le img 0xC 4 then .error (0x20, 0xC)
    else if le img 0x10 8 ≠ 0 ∧ le img 0x10 8 ≠ uid then .error (0x21, uid % 2 ^ 32)
    else match firstBad (countTests img size) with
      | some o => .error (0x20, o)
      | none => match recordsBad img with
        | some o => .error (0x20, o)
        | none => .ok (parseMap img)

/-! ## Loading (R57, R58) -/

/-- MAP_LOAD: the size is tested before anything is read (R56, R57).  The spec names one load area and no status for a load
that comes while another is in progress: the model serves them in order (log 104). -/
def Blk.mapLoad (d : Desc) (b : Blk) : Blk :=
  let addr := d.op 0x18 8
  let size := d.op 0x20 4
  if addr % 8 ≠ 0 then b.bad d.id 0x0B 0x18
  else if size < 0x80 ∨ 0x60000 < size then b.complete d.id 0x20 8
  else { b with fleet := { b.fleet with loads := b.fleet.loads ++ [⟨d.id, addr, size⟩] } }

/-- MAP_LOAD (R56-R58). -/
def execMapLoad (d : Desc) : State → Host.Outcome State Fault Refusal :=
  onIsland .dvt (fun b => b.start d (Blk.mapLoad d))

/-- MAP_IMAGE_VALIDATED: the image of the oldest load has been read; a valid one replaces the shadow
(R56, R58). -/
def Blk.imageRead (image : Bytes) (b : Blk) : Blk :=
  match b.fleet.loads with
  | [] => b
  | l :: rest =>
    let b1 := { b with fleet := { b.fleet with loads := rest } }
    match validateImage b.uid.toNat l.size (slice image 0 l.size) with
    | .error (st, dt) => b1.complete l.id st dt
    | .ok m => Blk.done { b1 with fleet := { b1.fleet with shadow := some m } } l.id m.id

/-- MAP_IMAGE_VALIDATED (R51-R56, R58). -/
def execMapImageValidated (image : Bytes) : State → Host.Outcome State Fault Refusal :=
  onIsland .dvt (fun b => b.imageRead image)

/-- MAP_DISCARD (R58). -/
def execMapDiscard (d : Desc) : State → Host.Outcome State Fault Refusal :=
  onIsland .dvt (fun b => b.start d (fun b => Blk.done { b with fleet := { b.fleet with shadow := none } } d.id))

/-! ## The switch (R59, R61, R305) -/

/-- The failing conditions of a switch, as MAP_BUSY reports them (R59, R62); under CF14 only the shadow
counts (R61). -/
def Blk.switchBusy (b : Blk) : Nat :=
  let held := b.fleet.coh.mortise.any (fun e => decide (1 ≤ e.holder ∧ e.holder ≤ 0xB0))
  let tasks := b.fleet.coh.tasks.any (fun p => p.2.state == .assigned || p.2.state == .running)
  let edges := b.dvt.waits.any (fun w => !w.onEpoch)
  let old := b2n held + 2 * b2n tasks + 4 * b2n edges + 8 * b2n (!b.fleet.effects.isEmpty)
  (if b.clp.cf14 then 0 else old) + 16 * b2n b.fleet.shadow.isNone

/-- The task ledger after a switch: all FREE, generations kept, or 1 where the mask `bad` says that the
stored one failed its ECC check (R59, R61). -/
def switchTasks (ts : Tab Task) (bad : Nat) : Tab Task :=
  (List.range 4096).filterMap (fun i =>
    let g := if bitOf bad i then 1 else (Tab.val ts i {}).gen
    if g = 0 then none else some (i, { gen := g }))

/-- The member table after a switch: states kept, no task, entries in `bad` ABSENT (R59, R61). -/
def switchMembers (ms : Tab Member) (bad : Nat) : Tab Member :=
  ms.map (fun p => (p.1, if bitOf bad p.1 then {} else { p.2 with task := noTask }))

/-- The STATE element of R305 to every member that is not ABSENT. -/
def Blk.tellStates (b : Blk) (rel : Nat) : Blk :=
  (List.range 128).foldl (fun b mix =>
    let st := (b.member mix).state
    if st = .absent then b else b.pushElem mix { etype := 0x87, body := stateBody st 1 rel }) b

/-- The coherent state that a switch leaves (R59, R61). -/
def switchCoh (c : Coherent) (m : SiteMap) (stopped : Bool) (badTasks badMembers : Nat) : Coherent :=
  { mortise := List.replicate m.segs.length { holder := if stopped then 0xFF else 0, since := if stopped then 1 else 0 }
    members := switchMembers c.members badMembers
    tasks := switchTasks c.tasks badTasks
    axisTask := [] }

/-- What the ECC checks of a switch under CF14 find failing is a free value, one mask for the ledger and
one for the member table (R61). -/
def Blk.eccMasks (b : Blk) : Nat × Nat × Blk :=
  if b.clp.cf14 then
    let f := b.free
    let g := f.2.free
    (f.1, g.1, g.2)
  else (0, 0, b)

/-- A waiting snapshot's epoch has committed: its copy is taken, or the epoch is the current one. -/
def SnapWait.reached (epoch : Nat) (w : SnapWait) : Bool := w.copy.isSome || decide (w.atEpoch ≤ epoch)

/-- The switch commits (R59, R61): the shadow is in service, the epoch is 1, waits and the waiting snapshots whose epoch has
not committed end TIMEOUT cause 4 (R63), CF14 ends. -/
def Blk.switchMap (b' : Blk) (m : SiteMap) : Blk :=
  let b := if b'.inService then b'.copySnaps else b'
  let k := b.eccMasks
  let b0 := (k.2.2.cancelEffects (fun _ => true))
  let old := b0.fleet.coh
  let stop := b0.stopped
  let ws := b0.dvt.waits
  let sw := b0.fleet.snapWaits.filter (fun w => !w.reached b0.fleet.epoch)
  let b1 := { b0 with
    fleet := { b0.fleet with
      map := some m, shadow := none, gen := b0.fleet.gen + 1, epoch := 1, commitAt := b0.inv.ft
      snapWaits := b0.fleet.snapWaits.filter (SnapWait.reached b0.fleet.epoch)
      coh := switchCoh b0.fleet.coh m stop k.1 k.2.1 }
    dvt := { b0.dvt with waits := [], freed := [], unfinished := if b0.clp.cf14 then [] else b0.dvt.unfinished }
    clp := { b0.clp with cf14 := false, s := if stop then 1 else b0.clp.s }
    air := { b0.air with relEpoch := if stop then b0.air.relEpoch else 1 } }
  let b2 := ((b1.bump Reg.DVT_COMMIT_COUNT).syncInternal).membersChanged old
  let b3 := b2.record 0x0101 (leBytes 4 m.id ++ leBytes 4 b2.fleet.gen)
  let b4 := ws.foldl (fun b w => b.abort w.txn St.timeout (waitDetail 4 w)) b3
  let b5 := sw.foldl (fun b w => b.complete w.d.id St.timeout (4 * 2 ^ 24)) b4
  b5.tellStates (if stop then 0 else 1)

/-- MAP_SWITCH (R59, R61, R62). -/
def Blk.mapSwitch (d : Desc) (b0 : Blk) : Blk :=
  let b := b0.settleAir
  match b.fleet.shadow with
  | none => b.complete d.id 0x22 b.switchBusy
  | some m =>
    if m.id ≠ d.op 0x18 4 then b.complete d.id 0x23 m.id
    else if b.switchBusy ≠ 0 then b.complete d.id 0x22 b.switchBusy
    else (b.switchMap m).done d.id

/-- MAP_SWITCH (R59, R61). -/
def execMapSwitch (d : Desc) : State → Host.Outcome State Fault Refusal :=
  onIsland .dvt (fun b => b.start d (Blk.mapSwitch d))

/-! ## Snapshots (R49, R50, R63-R65) -/

/-- The MORTISE section (R65). -/
def mortiseBytes (v : SnapView) : Bytes :=
  v.coh.mortise.zipIdx.flatMap (fun p =>
    leBytes 1 p.1.holder ++ leBytes 1 (b2n (v.waiters.contains p.2) + 2 * b2n p.1.frozen) ++ zeros 2
      ++ leBytes 4 (if p.1.holder = 0 then 0 else p.1.since))

/-- The MEMBERS section (R65), with the quota of a period. -/
def memberBytes (quota : Nat) (v : SnapView) : Bytes :=
  (List.range 128).flatMap (fun mix =>
    let m := v.coh.member mix
    leBytes 1 mix ++ leBytes 1 m.state.code ++ leBytes 2 m.short ++ leBytes 1 (v.coh.heldCount (mix + 1))
      ++ leBytes 1 (quota - m.used) ++ leBytes 2 m.posFlags ++ leBytes 4 m.task ++ sleBytes 4 m.x
      ++ sleBytes 4 m.y ++ leBytes 2 m.heading ++ sleBytes 2 m.speed ++ leBytes 8 m.posTime)

/-- The TASKS section (R65). -/
def taskBytes (v : SnapView) : Bytes :=
  (List.range 4096).flatMap (fun i =>
    let t := v.coh.task i
    let h := t.gen * 4096 + i
    leBytes 4 h ++ leBytes 1 t.state.code ++ leBytes 1 t.assignee
      ++ leBytes 2 (v.coh.mortise.filter (fun e => e.under == h && e.holder != 0)).length
      ++ leBytes 2 t.dest ++ leBytes 1 t.priority ++ zeros 1 ++ leBytes 4 t.stateEpoch)

/-- The PENDING section (R65); effects are kept in epoch order, then action order. -/
def pendingBytes (v : SnapView) : Bytes :=
  v.effects.flatMap (fun e =>
    leBytes 8 e.epoch ++ leBytes 8 (ft64 e.t) ++ leBytes 1 e.dest.code ++ leBytes 1 e.act ++ leBytes 2 e.obj
      ++ leBytes 1 e.idx ++ zeros 3 ++ leBytes 2 e.tag ++ leBytes 1 e.ring ++ zeros 5)

/-- The applied watermark of a destination at epoch `epoch` (R46). -/
def watermark (es : List Effect) (epoch : Nat) (d : Dest) : Nat :=
  (es.filter (fun e => e.dest == d)).foldl (fun w e => min w (e.epoch - 1)) epoch

/-- The WATERMARKS section (R65). -/
def watermarkBytes (v : SnapView) (epoch : Nat) : Bytes :=
  [Dest.axs, .air, .inv, .mem].flatMap (fun d => leBytes 8 (watermark v.effects epoch d))

/-- Sections placed one after the other at multiples of 64, from an offset: their offsets (0 where not
selected), the ones written, and the end of the last. -/
def placeSecs : List (Option Bytes) → Nat → List Nat × List (Nat × Bytes) × Nat
  | [], o => ([], [], o)
  | none :: rest, o => let r := placeSecs rest o; (0 :: r.1, r.2.1, r.2.2)
  | some bs :: rest, o =>
    let a := ceilTo o 64
    let r := placeSecs rest (a + bs.length)
    (a :: r.1, (a, bs) :: r.2.1, r.2.2)

/-- A snapshot of a view taken at epoch `e` (R64, R65). -/
def Blk.takeSnap (b : Blk) (d : Desc) (v : SnapView) (e : Nat) : Snap :=
  let sel := d.op 0x24 2
  let pick (i : Nat) (bs : Unit → Bytes) : Option Bytes := if bitOf sel i then some (bs ()) else none
  let r := placeSecs [pick 0 (fun _ => mortiseBytes v),
    pick 1 (fun _ => memberBytes (b.fld Reg.DVT_AIR_QUOTA 7 0) v), pick 2 (fun _ => taskBytes v),
    pick 3 (fun _ => pendingBytes v), pick 4 (fun _ => watermarkBytes v e)] 64
  { id := d.id, addr := d.op 0x18 8, epoch := e, total := r.2.2, secs := r.2.1
    header := leBytes 4 0x53534C54 ++ zeros 4 ++ leBytes 8 e ++ leBytes 4 v.gen ++ leBytes 4 v.mapId
      ++ ft96Bytes v.commitAt ++ leBytes 2 sel
      ++ leBytes 2 (if bitOf sel 3 then v.effects.length else 0) ++ leBytes 4 r.2.2
      ++ r.1.flatMap (leBytes 4) }

/-- A snapshot begun, or MAP_SNAP_SMALL (R63). -/
def Blk.beginSnap (b : Blk) (d : Desc) (v : SnapView) (e : Nat) : Blk :=
  let s := b.takeSnap d v e
  if d.op 0x20 4 < s.total then b.complete d.id 0x24 s.total
  else { b with fleet := { b.fleet with snaps := b.fleet.snaps ++ [s] } }

/-- A snapshot may be in progress beside those that are (R50). -/
def Blk.snapRoom (b : Blk) : Bool := decide (b.fleet.snaps.length < 4)

/-- SNAPSHOT reaches judgement (R63). -/
def Blk.snapshot (d : Desc) (b0 : Blk) : Blk :=
  let b := b0.settleAir
  let ep := d.op 0x28 8
  if d.op 0x18 8 % 64 ≠ 0 then b.bad d.id 0x0B 0x18
  else if 32 ≤ d.op 0x24 2 then b.bad d.id 0x04 0x24
  else if d.op 0x26 2 ≠ 0 then b.bad d.id 0x04 0x26
  else if !b.inService then b.complete d.id St.notReady 0
  else if ep = 0 ∨ ep = b.fleet.epoch then
    if b.snapRoom then b.beginSnap d b.view b.fleet.epoch
    else { b with fleet := { b.fleet with snapQueue := b.fleet.snapQueue ++ [d] } }
  else if ep < b.fleet.epoch then b.complete d.id 0x25 (b.fleet.epoch % 2 ^ 32)
  else if 16 ≤ b.fleet.snapWaits.length then b.complete d.id St.busy (2 * 2 ^ 24)
  else { b with fleet := { b.fleet with snapWaits := b.fleet.snapWaits ++ [⟨d, ep, b.elapsed, none⟩] } }

/-- SNAPSHOT (R63). -/
def execSnapshot (d : Desc) : State → Host.Outcome State Fault Refusal :=
  onIsland .dvt (fun b => b.start d (Blk.snapshot d))

/-- SNAPSHOT_AT_EPOCH: the waiting snapshots whose epoch has committed are taken, as far as four may be
in progress (R50, R63). -/
def Blk.snapAtEpoch (b : Blk) : Blk :=
  b.fleet.snapWaits.foldl (fun b w =>
    if w.reached b.fleet.epoch && b.snapRoom then
      Blk.beginSnap { b with fleet := { b.fleet with snapWaits := b.fleet.snapWaits.erase w } } w.d
        (w.copy.getD b.view) w.atEpoch
    else b) b.settleAir

/-- SNAPSHOT_AT_EPOCH (R63). -/
def execSnapshotAtEpoch : State → Host.Outcome State Fault Refusal := onIsland .dvt Blk.snapAtEpoch

/-- SNAPSHOT_WAIT_TIMEOUT at instant `t` (R63). -/
def Blk.snapTimeout (b0 : Blk) (t : Nat) : Blk :=
  let b := b0.moveTo t
  let isOver (w : SnapWait) : Bool :=
    !w.reached b.fleet.epoch
      && decide (w.since + b.fld Reg.DVT_WAIT_CFG 31 16 * 1000000 ≤ b.elapsed)
  (b.fleet.snapWaits.filter isOver).foldl (fun b w => b.complete w.d.id St.timeout (3 * 2 ^ 24))
    { b with fleet := { b.fleet with snapWaits := b.fleet.snapWaits.filter (fun w => !isOver w) } }

/-- SNAPSHOT_WAIT_TIMEOUT (R63). -/
def execSnapshotWaitTimeout (t : Nat) : State → Host.Outcome State Fault Refusal :=
  onIsland .dvt (fun b => b.snapTimeout t)

/-- The snapshot descriptors that wait in their rings judged, as far as four snapshots may be in progress (R50). -/
def Blk.runQueued (b : Blk) : Blk :=
  let rec go : Nat → Blk → Blk
    | 0, b => b
    | n + 1, b =>
      match b.fleet.snapQueue with
      | [] => b
      | d :: ds => if b.snapRoom then go n (Blk.snapshot d { b with fleet := { b.fleet with snapQueue := ds } }) else b
  go b.fleet.snapQueue.length b

/-- SNAPSHOT_WRITTEN: the oldest snapshot in progress is written, its header last, and completes; the
descriptors that waited in their rings are judged (R50, R64). -/
def Blk.snapWritten (b : Blk) : Blk :=
  match b.fleet.snaps with
  | [] => b
  | s :: rest =>
    let seq := b.fleet.snapSeq + 1
    let b1 := { b with fleet := { b.fleet with snaps := rest, snapSeq := seq } }
    let b2 := s.secs.foldl (fun b p => b.emit (.hostWrite (s.addr + p.1) p.2)) b1
    ((b2.emit (.hostWrite s.addr (slice s.header 0 4 ++ leBytes 4 seq ++ s.header.drop 8))).completeAt
      s.id St.done s.total s.epoch b2.nowFt64).runQueued

/-- SNAPSHOT_WRITTEN (R64). -/
def execSnapshotWritten : State → Host.Outcome State Fault Refusal := onIsland .dvt Blk.snapWritten

end Sys2Proof.Machine
end

