-- ==== Sys2Proof/Machine/RegWrite.lean ====
section
/-! DEFINITION. Sys2Proof/Machine/RegWrite.lean: range checking and clamping of a written register,
field by field, with its report items (R519-R522). -/

namespace Sys2Proof.Machine

open Sys2Proof

/-- The order key of an FP32 value given by its raw bits. -/
def fpKey (v : Nat) : Int :=
  if bitOf v 31 then -((v % 2 ^ 31 : Nat) : Int) else ((v % 2 ^ 31 : Nat) : Int)

/-- FP32 NaN. -/
def fpNan (v : Nat) : Bool := bitsOf v 30 23 == 255 && bitsOf v 22 0 != 0

/-- FP32 infinity. -/
def fpInf (v : Nat) : Bool := bitsOf v 30 23 == 255 && bitsOf v 22 0 == 0

/-- The value a field takes and its CAUSE, 0 when it is taken as written (R519): `ok` says whether the
field's condition holds, `lo` and `hi` bounds that other fields narrow. -/
def checkRange (rng : FieldRange) (width present req : Nat) (ok : Bool) : Nat × Nat :=
  if !ok then (present, 3)
  else match rng with
    | .any => (req, 0)
    | .num lo hi => if req < lo then (lo, 1) else if hi < req then (hi, 1) else (req, 0)
    | .int lo hi =>
      let v := toSigned width req
      if v < lo then ((lo % 2 ^ width).toNat, 1)
      else if hi < v then ((hi % 2 ^ width).toNat, 1) else (req, 0)
    | .enum mx c => if mx < req then (c, 2) else (req, 0)
    | .oneOf vs c => if vs.contains req then (req, 0) else (c, 2)
    | .mask m => (req &&& m, if req &&& m = req then 0 else 1)
    | .fp lo hi =>
      if fpNan req then (0, 4)
      else if fpInf req then (if bitOf req 31 then lo else hi, 4)
      else if fpKey req < fpKey lo then (lo, 1)
      else if fpKey hi < fpKey req then (hi, 1) else (req, 0)

/-- REQUESTED and APPLIED of a report: sign-extended for a signed field (R521). -/
def reportForm (rng : FieldRange) (width v : Nat) : Nat :=
  match rng with
  | .int _ _ => ((toSigned width v) % 2 ^ 64).toNat
  | _ => v

/-- One field of a written register applied: the register's store takes the value, and a value that
differs from the one requested gives a report item (R519, R522); no write comes through JTAG (log 94). -/
def Blk.applyField (b : Blk) (off : Nat) (f : FieldDesc) (w : Word) (ok : Bool) : Blk :=
  let req := fieldOf w f.hi f.lo
  let present := b.fld off f.hi f.lo
  let r := checkRange f.rng (f.hi - f.lo + 1) present req ok
  let b1 := b.setReg off (setField (b.reg off) f.hi f.lo r.1)
  if r.1 = req then b1
  else b1.report off f.hi f.lo r.2 0 (reportForm f.rng (f.hi - f.lo + 1) req)
    (reportForm f.rng (f.hi - f.lo + 1) r.1)

/-- A field that its ring's role leaves without meaning (R168): the store takes the checked value, and no report item follows
(log 95). -/
def Blk.storeField (b : Blk) (off : Nat) (f : FieldDesc) (w : Word) : Blk :=
  b.setReg off (setField (b.reg off) f.hi f.lo
    (checkRange f.rng (f.hi - f.lo + 1) (b.fld off f.hi f.lo) (fieldOf w f.hi f.lo) true).1)

/-- The RW fields of a list applied in order, each under its condition (R519, R520). -/
def Blk.applyFields (b : Blk) (off : Nat) (w : Word) (cond : Blk → FieldDesc → Bool) :
    List FieldDesc → Blk
  | [] => b
  | f :: rest =>
    if f.acc = .rw then Blk.applyFields (b.applyField off f w (cond b f)) off w cond rest
    else Blk.applyFields b off w cond rest

/-- The W1C fields of a list: the bits written 1 are cleared (R517). -/
def Blk.clearW1c (b : Blk) (off : Nat) (w : Word) (fs : List FieldDesc) : Blk :=
  let m := fs.foldl (fun a f => if f.acc = .w1c then a ||| fieldOf w f.hi f.lo * 2 ^ f.lo else a) 0
  if m = 0 then b else b.setReg off (b.reg off &&& ~~~ word m)

end Sys2Proof.Machine
end

