-- ==== Sys2Proof/Machine/Fp32.lean ====
section
/-! DEFINITION. Sys2Proof/Machine/Fp32.lean: IEEE 754 binary32 on raw bits, every result rounded to
nearest, ties to even, as the loop engine computes (R386, R387). -/

namespace Sys2Proof.Machine

open Sys2Proof

/-- The sign bit. -/
def fpSign (w : Word) : Bool := bitOf w.toNat 31

/-- Zero of either sign. -/
def fpZero (w : Word) : Bool := w.toNat % 2 ^ 31 == 0

/-- A signed zero, infinity or magnitude: the bits `mag` with a sign. -/
def fpMk (neg : Bool) (mag : Nat) : Word := word (mag + if neg then 2 ^ 31 else 0)

/-- Quiet NaN. -/
def fpQNan : Word := 0x7FC00000#32

/-- The value of finite bits as numerator and denominator. -/
def fpRat (w : Word) : Int × Nat :=
  let e := bitsOf w.toNat 30 23
  let m := bitsOf w.toNat 22 0 + if e = 0 then 0 else 2 ^ 23
  let ex : Int := (max e 1 : Nat) - 150
  let n : Int := if 0 ≤ ex then (m : Int) * 2 ^ ex.toNat else m
  (if fpSign w then -n else n, if 0 ≤ ex then 1 else 2 ^ (-ex).toNat)

/-- `n / d · 2^-e` as a quotient rounded to nearest, ties to even. -/
def roundQuot (n d : Nat) (e : Int) : Nat :=
  let n' := if 0 ≤ e then n else n * 2 ^ (-e).toNat
  let d' := if 0 ≤ e then d * 2 ^ e.toNat else d
  let q := n' / d'
  let r := 2 * (n' % d')
  if d' < r ∨ (r = d' ∧ q % 2 = 1) then q + 1 else q

/-- The exponent `e` with `2^23 ≤ n / d · 2^-e < 2^24`, not below that of a subnormal. -/
def fpExp (n d : Nat) : Int :=
  let e : Int := (n.log2 : Int) - d.log2 - 23
  let small := if 0 ≤ e then n < 2 ^ 23 * (d * 2 ^ e.toNat) else n * 2 ^ (-e).toNat < 2 ^ 23 * d
  max (-149) (if small then e - 1 else e)

/-- The binary32 nearest to `n / d`. -/
def fpRound (n : Int) (d : Nat) : Word :=
  if n = 0 then 0
  else
    let e := fpExp n.natAbs d
    let q := roundQuot n.natAbs d e
    let mag := if q < 2 ^ 23 then q else (e + 150).toNat * 2 ^ 23 + (q - 2 ^ 23)
    fpMk (decide (n < 0)) (min mag 0x7F800000)

/-- Sum. -/
def fpAdd (a b : Word) : Word :=
  if fpNan a.toNat || fpNan b.toNat then fpQNan
  else if fpInf a.toNat then (if fpInf b.toNat && fpSign a != fpSign b then fpQNan else a)
  else if fpInf b.toNat then b
  else
    let x := fpRat a
    let y := fpRat b
    let n := x.1 * y.2 + y.1 * x.2
    if n = 0 then fpMk (fpSign a && fpSign b) 0 else fpRound n (x.2 * y.2)

/-- Product. -/
def fpMul (a b : Word) : Word :=
  let s := fpSign a != fpSign b
  if fpNan a.toNat || fpNan b.toNat then fpQNan
  else if fpInf a.toNat || fpInf b.toNat then
    (if fpZero a || fpZero b then fpQNan else fpMk s 0x7F800000)
  else
    let x := fpRat a
    let y := fpRat b
    if x.1 * y.1 = 0 then fpMk s 0 else fpRound (x.1 * y.1) (x.2 * y.2)

/-- Negation. -/
def fpNeg (a : Word) : Word := a ^^^ 0x80000000#32

/-- Difference. -/
def fpSub (a b : Word) : Word := fpAdd a (fpNeg b)

/-- `a ≤ b` on numbers; false with a NaN. -/
def fpLe (a b : Word) : Bool :=
  !fpNan a.toNat && !fpNan b.toNat && decide (fpKey a.toNat ≤ fpKey b.toNat)

/-- A value in units of 1/k, rounded down; 0 for a NaN, and the largest magnitude for an infinity. -/
def fpFloor (a : Word) (k : Nat) : Int :=
  if fpNan a.toNat then 0
  else
    let x := if fpInf a.toNat then fpRat (fpMk (fpSign a) 0x7F7FFFFF) else fpRat a
    x.1 * k / x.2

end Sys2Proof.Machine
end

