-- ==== Sys2Proof/Machine/AxisMath.lean ====
section
/-! DEFINITION. Sys2Proof/Machine/AxisMath.lean: motion profiles, segment tables and gear laws as numbers
(R356-R369). -/

namespace Sys2Proof.Machine

open Sys2Proof

/-! ## Profiles (R356, R357) -/

/-- 2^-16 ns in a second. -/
def secUnits : Nat := 65536 * 1000000000

/-- The integer square root, rounded down. -/
def isqrt (n : Nat) : Nat :=
  ((List.range (n.log2 / 2 + 1)).reverse).foldl
    (fun r k => if (r + 2 ^ k) * (r + 2 ^ k) ≤ n then r + 2 ^ k else r) 0

/-- A quotient rounded towards 0. -/
def quot (n : Int) (d : Nat) : Int := if 0 ≤ n then n / d else -((-n) / d)

/-- Distance covered by a piece after a time. -/
def Ramp.dist (r : Ramp) (t : Nat) : Int :=
  quot (6 * r.v * t * secUnits * secUnits + 3 * r.a * t * t * secUnits + r.j * t * t * t)
    (6 * secUnits * secUnits * secUnits)

/-- Distance covered by a whole piece, rounded away from 0. -/
def Ramp.reach (r : Ramp) : Int :=
  let t := r.dur
  let n := 6 * r.v * t * secUnits * secUnits + 3 * r.a * t * t * secUnits + r.j * t * t * t
  n.sign * ceilDiv n.natAbs (6 * secUnits * secUnits * secUnits)

/-- Velocity of a piece after a time. -/
def Ramp.vel (r : Ramp) (t : Nat) : Int :=
  r.v + quot (2 * r.a * t * secUnits + r.j * t * t) (2 * secUnits * secUnits)

/-- Acceleration of a piece after a time. -/
def Ramp.acc (r : Ramp) (t : Nat) : Int := r.a + quot (r.j * t) secUnits

/-- Distance covered by a list of pieces. -/
def segsDist (rs : List Ramp) : Int := (rs.map (fun r => r.dist r.dur)).sum

/-- Duration of a list of pieces. -/
def segsDur (rs : List Ramp) : Nat := (rs.map (fun r => r.dur)).sum

/-- The limits of a motion in 2^-16 units: speed, acceleration, deceleration, jerk (0 = none). -/
structure Lim where
  v : Int
  a : Int
  d : Int
  j : Int
  deriving DecidableEq, Repr

/-- The duration in 2^-16 ns of a change of `x` at rate `r`. -/
def rampDur (x r : Int) : Nat := if r ≤ 0 then 0 else (x.toNat * secUnits) / r.toNat

/-- The pieces that bring the velocity from `v0`, with acceleration `a0`, to `v1`, at acceleration at most
`acc` and jerk at most `j` (R356): in one step of acceleration with no jerk limit, else through a peak
acceleration. -/
def changeVel (v0 a0 v1 acc j : Int) : List Ramp :=
  if j = 0 then
    if v0 = v1 then []
    else [⟨rampDur (v1 - v0).natAbs acc, v0, if v0 < v1 then acc else -acc, 0⟩]
  else
    let vb := v0 + quot (a0 * a0.natAbs) (2 * j.toNat)
    let s : Int := if vb ≤ v1 then 1 else -1
    let x := s * (v1 - v0)
    let al := s * a0
    let free : Int := isqrt (j * x + quot (al * al) 2).toNat
    let top := max acc al
    let ap := max (min free top) al
    let hold := if top < free then rampDur (x - quot (2 * ap * ap - al * al) (2 * j.toNat)) ap else 0
    let r1 : Ramp := ⟨rampDur (ap - al) j, v0, a0, s * j⟩
    let r2 : Ramp := ⟨hold, r1.vel r1.dur, s * ap, 0⟩
    let r3 : Ramp := ⟨rampDur ap j, r2.vel r2.dur, s * ap, -(s * j)⟩
    [r1, r2, r3]

/-- The pieces that bring the axis to rest at a deceleration. -/
def stopSegs (v a d j : Int) : List Ramp := changeVel v a 0 d j

/-- The distance to the stopping point, signed (R356). -/
def stopDist (v a d j : Int) : Int := segsDist (stopSegs v a d j)

/-- The pieces that reach speed `vp` from `v0 ≥ 0` and go on to rest, without the part at `vp`. -/
def upDown (l : Lim) (v0 a0 vp : Int) : List Ramp × List Ramp :=
  (changeVel v0 a0 vp (if vp < v0 then l.d else l.a) l.j, stopSegs vp 0 l.d l.j)

/-- The distance that both take. -/
def upDownDist (l : Lim) (v0 a0 vp : Int) : Int :=
  let p := upDown l v0 a0 vp
  ((p.1 ++ p.2).map Ramp.reach).sum

/-- The highest speed of a forward profile over distance `x` (R356). -/
def peakVel (l : Lim) (v0 a0 x : Int) : Int :=
  let vb := if l.j = 0 then v0 else max v0 (v0 + quot (a0 * a0.natAbs) (2 * l.j.toNat))
  let lo := min l.v vb
  ((List.range (l.v.toNat.log2 + 1)).reverse).foldl
    (fun (v : Int) k => if v + 2 ^ k ≤ l.v ∧ upDownDist l v0 a0 (v + 2 ^ k) ≤ x then v + 2 ^ k else v) lo

/-- The pieces of a forward profile over distance `x` from `v0 ≥ 0`. -/
def forward (l : Lim) (v0 a0 x : Int) : List Ramp :=
  let vp := peakVel l v0 a0 x
  let p := upDown l v0 a0 vp
  p.1 ++ [⟨rampDur (x - upDownDist l v0 a0 vp) vp, vp, 0, 0⟩] ++ p.2

/-- Pieces seen from the other side. -/
def flip (s : Int) (rs : List Ramp) : List Ramp := rs.map (fun r => ⟨r.dur, s * r.v, s * r.a, s * r.j⟩)

/-- The direction of motion, or of a target from rest. -/
def dirOf (v x : Int) : Int := if v ≠ 0 then v.sign else if x < 0 then -1 else 1

/-- The profile that brings the axis to rest. -/
def stopCurve (t0 : Nat) (p v a d j : Int) : Curve :=
  let rs := stopSegs v a d j
  ⟨t0, p, if v = 0 then [] else rs, if v = 0 then p else p + segsDist rs⟩

/-- A target-mode motion from the present state (R357): planned directly when the target lies at or beyond
the stopping point or the axis is at rest, else to rest first. -/
def startMove (t0 : Nat) (p v a target : Int) (l : Lim) : Mv :=
  let s := dirOf v (target - p)
  let behind := v ≠ 0 ∧ s * (target - p) < segsDist (stopSegs (s * v) (s * a) l.d l.j)
  if behind then ⟨stopCurve t0 p v a l.d l.j, some (target, l.v)⟩
  else ⟨⟨t0, p, flip s (forward l (s * v) (if v = 0 then 0 else s * a) (s * (target - p))), target⟩, none⟩

/-- The instant at which a profile ends. -/
def Curve.end' (c : Curve) : Nat := c.t0 + segsDur c.segs

/-- Position, velocity and acceleration of pieces after a time, from a position. -/
def segsAt : List Ramp → Int → Nat → Option (Int × Int × Int)
  | [], _, _ => none
  | r :: rest, p, t =>
    if t < r.dur then some (p + r.dist t, r.vel t, r.acc t) else segsAt rest (p + r.dist r.dur) (t - r.dur)

/-- The state of a profile at an instant; at rest at its target once it has ended. -/
def Curve.at (c : Curve) (t : Nat) : Int × Int × Int :=
  match segsAt c.segs c.p0 (t - c.t0) with
  | some x => x
  | none => (c.target, 0, 0)

/-- A profile has ended. -/
def Curve.isOver (c : Curve) (t : Nat) : Bool := decide (c.end' ≤ t)

/-- A target-mode motion at an instant: where a deceleration has ended, the move that follows starts from
its end; the turn-around position then. -/
def Mv.at (m : Mv) (t : Nat) (l : Lim) : Mv × Option Int :=
  match m.after with
  | none => (m, none)
  | some (target, v) =>
    if m.c.isOver t then (startMove m.c.end' m.c.target 0 0 target { l with v := v }, some m.c.target)
    else (m, none)

/-- A motion at constant speed without end, reached at the limits given (R372). -/
def jogCurve (t0 : Nat) (p v a speed : Int) (l : Lim) : Curve :=
  let up := changeVel v a speed (if speed.natAbs < v.natAbs then l.d else l.a) l.j
  ⟨t0, p, up ++ [⟨2 ^ 90, speed, 0, 0⟩], p⟩

/-- A profile moved by a shift of the position scale. -/
def Curve.shift (c : Curve) (k : Int) : Curve := { c with p0 := c.p0 + k, target := c.target + k }

/-! ## Segment tables (R359, R361) -/

/-- Position in 2^-16 units of a cubic piece after `t` of its `d` ns (R361). -/
def hermitePos (k0 k1 : Knot) (d t : Int) : Int :=
  let x2 := t * t
  let x3 := t * t * t
  let num := (2 * x3 - 3 * x2 * d + d * d * d) * k0.pos * 1000000000
    + (x3 - 2 * x2 * d + t * d * d) * d * k0.vel
    + (3 * x2 * d - 2 * x3) * k1.pos * 1000000000 + (x3 - x2 * d) * d * k1.vel
  65536 * num / (d * d * d * 1000000000)

/-- Velocity in 2^-16 units/s of a cubic piece. -/
def hermiteVel (k0 k1 : Knot) (d t : Int) : Int :=
  let num := (6 * t * t - 6 * t * d) * (k0.pos - k1.pos) * 1000000000
    + (3 * t * t - 4 * t * d + d * d) * d * k0.vel + (3 * t * t - 2 * t * d) * d * k1.vel
  65536 * num / (d * d * d)

/-- Acceleration in 2^-16 units/s² of a cubic piece. -/
def hermiteAcc (k0 k1 : Knot) (d t : Int) : Int :=
  let num := (12 * t - 6 * d) * (k0.pos - k1.pos) * 1000000000
    + (6 * t - 4 * d) * d * k0.vel + (6 * t - 2 * d) * d * k1.vel
  65536 * 1000000000 * num / (d * d * d)

/-- The state of a table `t` ns after the first of these knots; none past the last. -/
def knotsAt : List Knot → Nat → Option (Int × Int × Int)
  | k0 :: k1 :: rest, t =>
    let d := k1.dt * 1000
    if t < d then some (hermitePos k0 k1 d t, hermiteVel k0 k1 d t, hermiteAcc k0 k1 d t)
    else knotsAt (k1 :: rest) (t - d)
  | _, _ => none

/-- The duration in ns from the first of these knots to the last. -/
def knotsDur (ks : List Knot) : Nat := ((ks.drop 1).map (fun k => k.dt * 1000)).sum

/-- The candidates for the extremes of a cubic piece, in ns: its ends and the roots of its derivative, to
2^-32 of its length (R359). -/
def extremeTimes (k0 k1 : Knot) : List (Int × Int) :=
  let s : Int := 2 ^ 32
  let d : Int := k1.dt * 1000
  let a := 6 * (k0.pos - k1.pos) * 1000000000 + 3 * d * (k0.vel + k1.vel)
  let b := -6 * (k0.pos - k1.pos) * 1000000000 - d * (4 * k0.vel + 2 * k1.vel)
  let c := d * k0.vel
  let disc := b * b - 4 * a * c
  let roots : List Int :=
    if a = 0 then (if b = 0 then [] else [(-c) * s / b])
    else if disc < 0 then []
    else [(-b + isqrt disc.toNat) * s / (2 * a), (-b - isqrt disc.toNat) * s / (2 * a)]
  [(0, 1), (d, 1)] ++ (roots.filter (fun (x : Int) => 0 < x && x < s)).map (fun x => (x * d, s))

/-- Position in units at a rational time `n / m` ns, as numerator and denominator. -/
def hermiteAt (k0 k1 : Knot) (n m : Int) : Int × Int :=
  let d : Int := k1.dt * 1000 * m
  ((2 * n * n * n - 3 * n * n * d + d * d * d) * k0.pos * 1000000000 * m
    + (n * n * n - 2 * n * n * d + n * d * d) * d * k0.vel
    + (3 * n * n * d - 2 * n * n * n) * k1.pos * 1000000000 * m + (n * n * n - n * n * d) * d * k1.vel,
   d * d * d * 1000000000 * m)

/-- The pieces of a knot list. -/
def pieces (ks : List Knot) : List (Knot × Knot) := ks.zip (ks.drop 1)

/-- The extremes of a table's position, rounded outwards (R359). -/
def tableExtremes (ks : List Knot) : Int × Int :=
  let vals := (pieces ks).flatMap (fun p => (extremeTimes p.1 p.2).map (fun t => hermiteAt p.1 p.2 t.1 t.2))
  let lows := vals.map (fun v => v.1 / v.2)
  let highs := vals.map (fun v => -((-v.1) / v.2))
  (lows.foldl min (lows.headD 0), highs.foldl max (highs.headD 0))

/-- The peak |velocity| of one piece in units/s, rounded up: at an end or at the vertex of the parabola. -/
def piecePeak (k0 k1 : Knot) : Nat :=
  let d : Int := k1.dt * 1000
  let a := 6 * (k0.pos - k1.pos) * 1000000000 + 3 * d * (k0.vel + k1.vel)
  let b := -6 * (k0.pos - k1.pos) * 1000000000 - d * (4 * k0.vel + 2 * k1.vel)
  let c := d * k0.vel
  let inside := a ≠ 0 ∧ 0 < -b * a.sign ∧ -b * a.sign < 2 * a.natAbs
  let vertex : Nat := if inside then ceilDiv (4 * a * c - b * b).natAbs (4 * a * d).natAbs else 0
  max vertex (max k0.vel.natAbs k1.vel.natAbs)

/-- The peak |velocity| of a table (R359). -/
def tablePeak (ks : List Knot) : Nat := ((pieces ks).map (fun p => piecePeak p.1 p.2)).foldl max 0

/-! ## Gearing (R364, R365) -/

/-- A ratio times a count, in 2^-16 units. -/
def Ratio.times (r : Ratio) (x : Int) : Int := if r.den = 0 then 0 else r.num * x * 65536 / r.den

/-- The slave travel in 2^-16 units over master travel `x` from the arm point, in its direction, through a
blend over `l` counts (R365). -/
def blendTravel (r0 r1 : Ratio) (l : Nat) (x : Int) : Int :=
  if x ≤ 0 then r0.times x
  else if l = 0 then r1.times x
  else
    let y := min x l
    let diff := (r1.num * r0.den - r0.num * r1.den) * y * y * 65536
    r0.times y + diff / (2 * l * r0.den * r1.den) + r1.times (x - y)

/-- The set-point of a geared axis, its offset included (R364, R365). -/
def GearPlan.law (p : GearPlan) : Int := p.pa + p.d * blendTravel p.r0 p.r1 p.l p.x + p.offset

end Sys2Proof.Machine
end

