-- ==== Sys2Proof/Machine/Host.lean ====
section
/-! DEFINITION. Sys2Proof/Machine/Host.lean: the host interface (R127-R168): doorbells, fetching,
completion moderation and batching, ring control, mode and MSI-X. -/

namespace Sys2Proof.Machine

open Sys2Proof

/-! ## Doorbells (R133-R137) -/

/-- A doorbell's index ignored under R137: flag, count, and a ring-error entry with DETAIL the
doorbell's low 32 bits. -/
def Blk.dbRange (b : Blk) (n v : Nat) : Blk :=
  ((((b.setFlag (Reg.HST_RSTATUS n) 4).bump Reg.HST_DB_ERR_COUNT)).ringError n 0x22 (v % 2 ^ 32)).recheck

/-- An SQ doorbell value: TAIL is taken unless R137 ignores it; a doorbell that covers a waiting
descriptor ends the partial wait (R138). -/
def Blk.sqDoorbell (b : Blk) (n v : Nat) : Blk :=
  let r := b.ring n
  let size := b.ringSize n
  let tail := v % 2 ^ 16
  if r.state = .off then b.bump Reg.HST_DB_ERR_COUNT
  else if tail < size ∧ (r.tail + size - r.head) % size ≤ (tail + size - r.head) % size then
    let d := (tail + size - r.head) % size
    b.setRing n { r with tail := tail, partialNeed := if r.partialNeed ≤ d then 0 else r.partialNeed }
  else b.dbRange n v

/-- The data areas freed by a HEAD doorbell of a completion ring (R156). -/
def freeAreas (bd : Binding) (cq old new size : Nat) : Binding :=
  if bd.cq = cq then
    { bd with areas := bd.areas.filter (fun a =>
        !decide ((a.entryNo + size - old) % size < (new + size - old) % size)) }
  else bd

/-- The bindings' data areas freed by a HEAD doorbell. -/
def Blk.freeBound (b : Blk) (cq old new size : Nat) : Blk :=
  { b with mem := { b.mem with queues := b.mem.queues.map (fun p =>
      (p.1, { p.2 with bound := p.2.bound.map (fun bd => freeAreas bd cq old new size) })) } }

/-- ARM written 1 (R157): the ring is armed, and a message goes at once for entries already written
since the last one and not consumed. -/
def Blk.arm (b : Blk) (cq : Nat) : Blk :=
  let r := b.ring cq
  let unread := (r.tail + b.ringSize cq - r.head) % b.ringSize cq
  let b1 := b.setRing cq { r with armed := true }
  if 0 < min r.sinceMsg unread then b1.announce cq else b1

/-- A CQ doorbell value: HEAD frees entries unless R137 ignores it; ARM re-arms in either case. -/
def Blk.cqDoorbell (b : Blk) (n v : Nat) : Blk :=
  let r := b.ring n
  let size := b.ringSize n
  let head := v % 2 ^ 16
  if r.state = .off then b.bump Reg.HST_DB_ERR_COUNT
  else
    let b1 :=
      if head < size ∧ (head + size - r.head) % size ≤ (r.tail + size - r.head) % size then
        (b.freeBound n r.head head size).setRing n { r with head := head }
      else b.dbRange n v
    if bitOf v 16 then b1.arm n else b1

/-- The value a doorbell write carries (R133): a low-half write counts the high half as 0; a write of
the high half alone is ignored. -/
def dbValue (value : BitVec 64) : DbHalf → Option Nat
  | .full => some value.toNat
  | .low => some (value.toNat % 2 ^ 32)
  | .high => none

/-- A doorbell write of ring `n`, taken by the ring's role. -/
def Blk.doorbell (b : Blk) (n : Nat) (value : BitVec 64) (half : DbHalf) (cq : Bool) : Blk :=
  match dbValue value half with
  | none => b
  | some v => if cq then b.cqDoorbell n v else b.sqDoorbell n v

/-- SQ_DOORBELL_WRITE (R134, R137). -/
def execSqDoorbellWrite (ring : Ring128) (value : BitVec 64) (half : DbHalf) :
    State → Host.Outcome State Fault Refusal :=
  onIsland .hst (fun b => b.doorbell ring.val value half (b.isCq ring.val))

/-- CQ_DOORBELL_WRITE (R135, R137). -/
def execCqDoorbellWrite (ring : Ring128) (value : BitVec 64) (half : DbHalf) :
    State → Host.Outcome State Fault Refusal :=
  onIsland .hst (fun b => b.doorbell ring.val value half (b.isCq ring.val))

/-! ## Fetching (R138-R145) -/

/-- The first eligible ring at or after `n`, and otherwise the lowest: rounds in ascending index
(R145). -/
def Blk.nextRing (b : Blk) (n : Nat) : Option Nat :=
  match (List.range 128).find? (fun k => n ≤ k && b.eligible k) with
  | some k => some k
  | none => (List.range 128).find? (fun k => b.eligible k)

/-- The ring the fetcher serves now, and how many descriptors it has then fetched from it in this
visit: the present ring while it stayed eligible and is below its WEIGHT, else the next (R145). -/
def Blk.pickRing (b : Blk) : Option (Nat × Nat) :=
  let n := b.hst.fetchRing
  if b.eligible n && decide (b.hst.fetchCount < b.fld (Reg.HST_RSCHED n) 3 0) then
    some (n, b.hst.fetchCount + 1)
  else (b.nextRing (n + 1)).map (fun k => (k, 1))

/-- Reads of the slots of ring `n` from `i` to `k` - 1 places behind the fetch index. -/
def Blk.readSlots (b : Blk) (n i k : Nat) : Blk :=
  (List.range k).foldl (fun b j =>
    if i ≤ j then b.emit (.slotRead n (((b.ring n).head + j) % b.ringSize n)) else b) b

/-- DESCRIPTOR_FETCH: the slot at the fetch index of the ring served is read; its NSLOT byte `nslot`
says how many more, which are read if all are published, else the ring waits (R138). -/
def Blk.fetch (b : Blk) (nslot : Nat) : Blk :=
  match b.pickRing with
  | none => b
  | some (n, k) =>
    let b1 := { b with hst := { b.hst with fetchRing := n, fetchCount := k } }
    let r := b1.ring n
    let b2 := b1.readSlots n 0 1
    if 1 ≤ nslot ∧ nslot ≤ 5 then
      if nslot ≤ b1.published n then b2.readSlots n 1 nslot
      else (b2.setRing n { r with partialNeed := nslot }).recheck
    else b2

/-- DESCRIPTOR_FETCH (R138, R144, R145). -/
def execDescriptorFetch (nslot : Nat) : State → Host.Outcome State Fault Refusal :=
  onIsland .hst (fun b => b.fetch nslot)

/-- The fetch index moved on by `k` slots and written back (R138). -/
def Blk.advance (b : Blk) (n k : Nat) : Blk :=
  let r := b.ring n
  let h := (r.head + k) % b.ringSize n
  let addr := (b.reg (Reg.HST_RWB_LO n)).toNat / 8 * 8 + (b.reg (Reg.HST_RWB_HI n)).toNat * 2 ^ 32
  let b1 := b.setRing n { r with head := h, partialNeed := 0, refetched := false }
  if addr = 0 then b1 else b1.emit (.hostWrite addr (leBytes 8 h))

/-- The plane that accepts an opcode (R161); 0xFF none. -/
def planeOf (opcode : Nat) : Nat :=
  match opcode / 256 with
  | 0x01 => 0 | 0x05 => 0 | 0x0B => 0
  | 0x02 => if opcode = 0x0210 then 1 else if opcode % 256 = 1 ∨ opcode % 256 = 2 ∨ opcode % 256 = 3
            then 2 else 0xFF
  | 0x03 => 1 | 0x04 => 1 | 0x07 => 1
  | 0x06 => 2 | 0x08 => 2 | 0x09 => 2 | 0x0C => 2
  | _ => 0xFF

/-- The opcodes that the classes define (R57, R70, R199, R235, R264, R309, R379, R424, R440, R464, R485, R511). -/
def knownOpcode (op : Nat) : Bool :=
  [0x0101, 0x0102, 0x0103, 0x0201, 0x0202, 0x0203, 0x0210, 0x0301, 0x0302, 0x0303, 0x0304, 0x0401, 0x0402, 0x0403,
    0x0410, 0x0411, 0x0412, 0x0413, 0x0414, 0x0501, 0x0502, 0x0503, 0x0504, 0x0505, 0x0601, 0x0610, 0x0611, 0x0701,
    0x0702, 0x0703, 0x0801, 0x0802, 0x0803, 0x0804, 0x0805, 0x0806, 0x0807, 0x0808, 0x0809, 0x080A, 0x080B, 0x080C,
    0x0901, 0x0902, 0x0B01, 0x0B02, 0x0B03, 0x0B04, 0x0C01, 0x0C02, 0x0C03, 0x0C04, 0x0C05].contains op

/-- The operation in flight of a descriptor whose tag cannot be used (R140, R141): a number of its own in the tag's place. -/
def Blk.tagless (b : Blk) (id : OpId) : OpId := { id with tag := 0x10000 + b.hst.badTags }

/-- That number used. -/
def Blk.useTagless (b : Blk) : Blk := b.modHst (fun h => { h with badTags := h.badTags + 1 })

/-- A descriptor dispatched: its operation is in flight, and it completes at once when its NSLOT, its plane, or one of
OPCODE, FLAGS and TAG, in this order (R139, R141, R161, R552), cannot be used; otherwise its class's command follows. -/
def Blk.dispatch (b : Blk) (d : Desc) (crc : Bool) : Blk :=
  let plane := planeOf d.opcode
  let badTag := d.tagField ≥ 1024 || b.inFlight d.id
  let id : OpId := if badTag then b.tagless d.id else d.id
  let b1 := (if badTag then b.useTagless else b).enter id d.fence
  if !d.nslotOk crc then b1.bad id 0x02 3
  else if b.hst.planes && plane != 0xFF && plane != d.ring.val / 2 then b1.complete id 0x23 plane
  else if !knownOpcode d.opcode then b1.bad id 0x01 0
  else if d.flagsBad then b1.bad id 0x04 2
  else if badTag then b1.bad id 0x05 4
  else b1

/-- The second fetch of a descriptor has failed its CRC or NSLOT check too (R140, R147). -/
def Blk.slotCrcFail (b : Blk) (n : Nat) : Blk :=
  let id := b.tagless ⟨n, 0, 0, 0, b.hst.flrs⟩
  let b1 := ((b.setFlag (Reg.HST_RSTATUS n) 3).useTagless.enter id false).complete id St.crcFail (b.ring n).head
  b1.setRing n { b1.ring n with state := .error, refetched := false }

/-- The slots of a descriptor checked (R138-R141).  With CRC a first failure of NSLOT or CRC is counted and the descriptor is
fetched once more; a second one writes CRC_FAIL and the ring is in ERROR. -/
def Blk.takeSlots (b : Blk) (ring : Ring128) (bytes : Bytes) : Blk :=
  let n := ring.val
  let d : Desc := ⟨ring, bytes, b.hst.flrs⟩
  let crc := b.flag (Reg.HST_RCFG n) 2
  let r := b.ring n
  let slots := d.nslot
  let badLen := slots = 0 ∨ 5 < slots
  let total := 64 * slots
  let badCrc := crc ∧ (badLen ∨ (crc32c (slice bytes 0 (total - 4))).toNat ≠ le bytes (total - 4) 4)
  if badCrc then
    if r.refetched then b.slotCrcFail n
    else ((b.bump Reg.HST_REFETCH_COUNT).setRing n { r with refetched := true }).readSlots n 0 1
  else if badLen then (b.advance n 1).dispatch d crc
  else (b.advance n slots).dispatch d crc

/-- SLOTS_ON_CHIP: the slots of a descriptor have arrived from ring `ring`.  `refetch`: a read of them had failed on the link,
so they were read, and counted, once more (R142, R165); of a descriptor fetched once more the slots behind the first
were read too (R140). -/
def Blk.slotsOnChip (b : Blk) (ring : Ring128) (bytes : Bytes) (refetch : Bool) : Blk :=
  let n := ring.val
  if (b.ring n).state ≠ .run ∨ b.isCq n then b
  else
    let k := min (byteAt bytes 3) 5
    let b1 := if (b.ring n).refetched then b.readSlots n 1 k else b
    let b2 := if refetch then (b1.bump Reg.HST_REFETCH_COUNT).readSlots n 0 (max 1 k) else b1
    let b3 := b2.takeSlots ring bytes
    b3.recheck

/-- SLOTS_ON_CHIP (R138-R141, R161). -/
def execSlotsOnChip (ring : Ring128) (bytes : Bytes) (refetch : Bool) :
    State → Host.Outcome State Fault Refusal :=
  onIsland .hst (fun b => b.slotsOnChip ring bytes refetch)

/-- HST_FETCH_ERR: a read of the slot `slot` places behind the fetch index has failed; the slots up to it were read once more,
and the second read has failed too (R142). -/
def Blk.fetchErr (b : Blk) (n slot : Nat) : Blk :=
  let r := b.ring n
  if r.state = .run && !b.isCq n then
    let b1 := ((b.bump Reg.HST_REFETCH_COUNT).readSlots n 0 (slot + 1)).setFlag (Reg.HST_RSTATUS n) 2
    let b2 := b1.ringError n 0x20 ((r.head + slot) % b.ringSize n)
    (b2.setRing n { b2.ring n with state := .error, partialNeed := 0, refetched := false }).recheck
  else b

/-- HST_FETCH_ERR (R142, R149). -/
def execHstFetchErr (ring : Ring128) (slot : Fin 5) : State → Host.Outcome State Fault Refusal :=
  onIsland .hst (fun b => b.fetchErr ring.val slot.val)

/-! ## Moderation, batches, coalesced entries and queue items (R153-R158) -/

/-- MODERATION_TIMER_EXPIRY at instant `t`: TIMER µs since the oldest held entry (R157). -/
def Blk.moderate (b : Blk) (t n : Nat) : Blk :=
  let b1 := b.moveTo t
  let timer := b1.fld (Reg.HST_RIRQ n) 25 16
  if timer ≠ 0 ∧ (b1.ring n).heldSince + timer * 1000 ≤ b1.elapsed then b1.flushHeld n else b1

/-- MODERATION_TIMER_EXPIRY (R157). -/
def execModerationTimerExpiry (t : Nat) (cq : Ring128) : State → Host.Outcome State Fault Refusal :=
  onIsland .hst (fun b => b.moderate t cq.val)

/-- The batch marker of a completion ring that received `n` entries (R154): merged into the next one
when it finds no room; it releases every held entry (R157). -/
def Blk.batchMarker (b : Blk) (cq n : Nat) : Blk :=
  let r := b.ring cq
  if n = 0 then b
  else if b.cqRoom2 cq then
    let m := r.merged
    ((b.setRing cq { r with merged := 0 }).cqProduce cq
      ⟨0xC001, St.done, b2n (m != 0), (n + m) % 2 ^ 16 * 2 ^ 16 + b.air.sfn % 2 ^ 16, b.fleet.epoch,
        ft64 b.air.sfStart, 0⟩ true).recheck
  else (b.setRing cq { r with merged := r.merged + n }).flushHeld cq

/-- One batched completion delivered and taken out of flight. -/
def Blk.deliverOp (b : Blk) (id : OpId) : Blk :=
  match b.hst.ops.find? (fun o => sameOp o.id id) with
  | none => b
  | some o =>
    let b1 := { b with hst := { b.hst with ops := b.hst.ops.filter (fun o => !sameOp o.id id) } }
    match o.done with
    | none => b1
    | some e => b1.deliver id e

/-- SUPERFRAME_BATCH_FLUSH: the held completions of classes 0x03 and 0x04 are written in completion
order (in planes mode in fetch order), each ring's marker after them (R154, R162). -/
def Blk.batchFlush (b : Blk) : Blk :=
  if b.hst.planes then
    let n := ((Blk.drainPlane b 2 true b.hst.ops).2.filter (fun p => batched true p.1)).length
    (b.runPlane 2 true).batchMarker 3 n
  else
    let ids := b.hst.batch.filter b.inFlight
    let b1 := ids.foldl Blk.deliverOp { b with hst := { b.hst with batch := [] } }
    (List.range 128).foldl
      (fun b' cq => b'.batchMarker cq (ids.filter (fun id => b.cqOf id.ring == cq)).length) b1

/-- SUPERFRAME_BATCH_FLUSH (R154). -/
def execSuperframeBatchFlush : State → Host.Outcome State Fault Refusal := onIsland .hst Blk.batchFlush

/-- The completion ring of axis coalesced entries, if it can take one: a CQ in RUN, in planes mode CQ 1
or 3 (R155, R161). -/
def Blk.coalRing (b : Blk) : Option Nat :=
  let cq := b.fld Reg.HST_COAL_CFG 6 0
  if b.isCq cq && (b.ring cq).state == .run && (!b.hst.planes || cq == 1 || cq == 3) then some cq
  else none

/-- An axis coalesced entry written (R155). -/
def Blk.writeCoal (b : Blk) (cq : Nat) (c : Coal) : Blk :=
  (b.cqProduce cq ⟨0xC000, St.done, b2n c.merged, c.mask % 2 ^ 32, c.epoch, ft64 c.time,
    c.mask / 2 ^ 32 % 2 ^ 16⟩ false).recheck

/-- The axis coalesced entry of a sample in which the axes of `mask` completed (R155): written, kept
pending and merged, or discarded and counted. -/
def Blk.coalesce (b : Blk) (mask epoch time : Nat) : Blk :=
  if b.flag Reg.HST_COAL_CFG 7 && mask != 0 then
    match b.coalRing with
    | none => b.bump Reg.HST_COAL_DROP_COUNT
    | some cq =>
      match b.hst.coal with
      | some c =>
        let c' : Coal := ⟨c.mask ||| mask, epoch, c.time, true⟩
        (b.modHst (fun h => { h with coal := some c' })).bump Reg.HST_COAL_DROP_COUNT
      | none =>
        let c : Coal := ⟨mask, epoch, time, false⟩
        if b.cqRoom2 cq then b.writeCoal cq c else { b with hst := { b.hst with coal := some c } }
  else b

/-- COALESCED_PENDING_WRITE: the pending entry is written once its ring has room (R155). -/
def Blk.coalPending (b : Blk) : Blk :=
  match b.hst.coal with
  | none => b
  | some c =>
    match b.coalRing with
    | none => { b with hst := { b.hst with coal := none } }.bump Reg.HST_COAL_DROP_COUNT
    | some cq =>
      if b.cqRoom2 cq then Blk.writeCoal { b with hst := { b.hst with coal := none } } cq c else b

/-- COALESCED_PENDING_WRITE (R155). -/
def execCoalescedPendingWrite : State → Host.Outcome State Fault Refusal := onIsland .hst Blk.coalPending

/-- Where an item of `len` bytes goes in a data area (R156): the next 8-byte offset, or 0 where it
would wrap; none while that space is in use. -/
def placeItem (bd : Binding) (len : Nat) : Option Nat :=
  let o := ceilTo bd.off 8
  let off := if o + len ≤ 2 ^ bd.log2 then o else 0
  if bd.areas.all (fun a => decide (off + len ≤ a.off ∨ a.off + a.len ≤ off) || len == 0) then some off
  else none

/-- QUEUE_ITEM_COPY: the oldest item of a bound queue leaves it whole, its data go to the data area and
its entry to the completion ring, once both have room (R156, R158). -/
def Blk.copyItem (b0 : Blk) (n : Nat) (opens : List OpenItem) : Blk :=
  let b := (b0.checkQueue n).queueEdge n opens
  let q := b.queue n
  match q.bound, q.items with
  | some bd, i :: rest =>
    let len := i.data.length
    let entryNo := ((b.ring bd.cq).tail + (b.ring bd.cq).held.length) % b.ringSize bd.cq
    let take (bd' : Binding) (b : Blk) : Blk :=
      b.setQueue n ({ q with items := rest, bound := some { bd' with delivered := bd.delivered + 1 } }.moveRd
        i.words (b.queueCap n))
    let put (status off : Nat) (b : Blk) : Blk :=
      (b.cqProduce bd.cq ⟨0x8000 + n, status, 0, len % 2 ^ 16 * 2 ^ 16 + i.typ * 256, b.fleet.epoch,
        b.nowFt64, off + bd.delivered % 2 ^ 32 * 2 ^ 32⟩ false).recheck
    if i.isOpen || (b.ring bd.cq).state != .run || !b.cqRoom bd.cq then b
    else if i.typ = 0xFF then put St.void 0xFFFFFFFF (take bd b)
    else if 2 ^ bd.log2 < len then put St.lost 0xFFFFFFFF (take bd b)
    else match placeItem bd len with
      | none => b
      | some off =>
        put St.done off ((take { bd with off := off + len, areas := bd.areas ++ [⟨entryNo, off, len⟩] }
          b).emit (.hostWrite (bd.addr + off) i.data))
  | _, _ => b

/-- QUEUE_ITEM_COPY (R156, R158). -/
def execQueueItemCopy (q : Queue64) (opens : List OpenItem) : State → Host.Outcome State Fault Refusal :=
  onIsland .hst (fun b => b.copyItem q.val opens)

/-! ## Reset, rings, mode (R129-R132, R160) -/

/-- In planes mode the ROLE of rings 0-5 and the CQ of rings 0, 2 and 4 hold the values of R161. -/
def Blk.fixPlanes (b : Blk) : Blk :=
  if b.hst.planes then
    [0, 2, 4].foldl (fun b n =>
      (((b.clrFlag (Reg.HST_RCFG n) 1).setFlag (Reg.HST_RCFG (n + 1)) 1).setReg (Reg.HST_RSCHED n)
        (setField (b.reg (Reg.HST_RSCHED n)) 14 8 (n + 1)))) b
  else b

/-- FUNCTION_LEVEL_RESET: rings, held completions, in-flight state and HST registers go; MODE takes its
stored value; nothing else changes (R129). -/
def Blk.flr (b : Blk) : Blk :=
  Blk.fixPlanes { b with
    regs := b.regs.filter (fun p => !decide (0x10000 ≤ p.1 ∧ p.1 < 0x20000))
    hst := { planes := b.hst.storedPlanes, storedPlanes := b.hst.storedPlanes,
             persistActive := b.hst.persistActive, persistGen := b.hst.persistGen,
             persistLost := b.hst.persistLost, persistValid := b.hst.persistValid,
             persistOlder := b.hst.persistOlder, fenced := b.hst.fenced, flrs := b.hst.flrs + 1,
             badTags := b.hst.badTags } }

/-- FUNCTION_LEVEL_RESET (R129). -/
def execFunctionLevelReset : State → Host.Outcome State Fault Refusal := onIsland .hst Blk.flr

/-- A completion ring named by an SQ that is not OFF, by a binding, or by HST_COAL_CFG (R132). -/
def Blk.cqNamed (b : Blk) (n : Nat) : Bool :=
  (List.range 128).any (fun k => k != n && !b.isCq k && (b.ring k).state != .off && b.cqOf k == n)
    || b.mem.queues.any (fun p => match p.2.bound with | some bd => bd.cq == n | none => false)
    || (b.flag Reg.HST_COAL_CFG 7 && b.fld Reg.HST_COAL_CFG 6 0 == n)

/-- Ring `n` may be enabled (R132, R161): it is OFF, a ring of planes mode, and an SQ's completion ring
is a CQ in RUN. -/
def Blk.mayEnable (b : Blk) (n : Nat) : Bool :=
  (b.ring n).state == .off && (!b.hst.planes || decide (n < 6))
    && (b.isCq n || (b.isCq (b.cqOf n) && (b.ring (b.cqOf n)).state == .run))

/-- ENABLE taken as 1: the indices are 0, a CQ's phase and ARMED are 1, the ring runs (R131). -/
def Blk.enableRing (b : Blk) (n : Nat) : Blk :=
  b.setRing n { state := .run, phase := b.isCq n, armed := b.isCq n }

/-- ENABLE taken as 0: a CQ goes OFF; an SQ drains, and is OFF at once with nothing in flight (R131). -/
def Blk.disableRing (b : Blk) (n : Nat) : Blk :=
  let r := b.ring n
  if b.isCq n then b.setRing n { r with state := .off, held := [] }
  else if b.hst.ops.any (fun o => o.id.ring == n) then
    (b.setRing n { r with state := .drain, partialNeed := 0, refetched := false }).recheck
  else (b.setRing n { r with state := .off, partialNeed := 0, refetched := false }).recheck

/-- The condition of a field of HST_RCFG other than ENABLE (R132, R161): the ring is OFF, and ROLE of
rings 0-5 is fixed in planes mode. -/
def Blk.rcfgCond (n : Nat) (b : Blk) (f : FieldDesc) : Bool :=
  (b.ring n).state == .off && !(b.hst.planes && decide (n < 6) && f.name == "ROLE")

/-- LOG2SIZE's range is that of the ROLE just applied (R168). -/
def log2Field (cq : Bool) : FieldDesc := ⟨8, 4, .rw, .num (if cq then 7 else 6) 16, "LOG2SIZE"⟩

/-- A write of HST_RCFG of ring `n` (R132, R168, R519): ROLE, LOG2SIZE, CRC on an SQ, then ENABLE. -/
def Blk.writeRcfg (b : Blk) (n : Nat) (w : Word) : Blk :=
  let off := Reg.HST_RCFG n
  let cond := Blk.rcfgCond n
  let b1 := b.applyFields off w cond [⟨1, 1, .rw, .any, "ROLE"⟩]
  let b2 := b1.applyFields off w cond [log2Field (b1.flag off 1)]
  let crc : FieldDesc := ⟨2, 2, .rw, .any, "CRC"⟩
  let b3 := if b2.flag off 1 then b2.storeField off crc w else b2.applyFields off w cond [crc]
  let was := b3.flag off 0
  let want := w.getLsbD 0
  let ok := if want then was || b3.mayEnable n else !(b3.isCq n && (b3.ring n).state == .run && b3.cqNamed n)
  let b4 := b3.applyField off ⟨0, 0, .rw, .any, "ENABLE"⟩ w ok
  if b4.flag off 0 == was then b4
  else if want then b4.enableRing n else b4.disableRing n

/-- RING_ENABLE: HST_RCFG written with ENABLE = 1 (R131, R132). -/
def execRingEnable (ring : Ring128) (w : Word) : State → Host.Outcome State Fault Refusal :=
  onIsland .hst (fun b => if b.inSvc then b.writeRcfg ring.val (w ||| 1) else b)

/-- RING_DISABLE: HST_RCFG written with ENABLE = 0 (R131, R132). -/
def execRingDisable (ring : Ring128) (w : Word) : State → Host.Outcome State Fault Refusal :=
  onIsland .hst (fun b => if b.inSvc then b.writeRcfg ring.val (w &&& ~~~ 1#32) else b)

/-- SQ_DRAIN_DONE: a draining SQ with nothing in flight goes to OFF (R131). -/
def Blk.drainDone (b : Blk) (n : Nat) : Blk :=
  let r := b.ring n
  if r.state = .drain && !b.hst.ops.any (fun o => o.id.ring == n) then b.setRing n { r with state := .off }
  else b

/-- SQ_DRAIN_DONE (R131). -/
def execSqDrainDone (ring : Ring128) : State → Host.Outcome State Fault Refusal :=
  onIsland .hst (fun b => b.drainDone ring.val)

/-- Every ring is OFF. -/
def Blk.allOff (b : Blk) : Bool := b.hst.rings.all (fun p => p.2.state == .off)

/-- PERSIST written 1: the present MODE goes to the persistent-settings block that is not active, with
GEN + 1, and that block becomes active (R160, R524). -/
def Blk.persist (b : Blk) : Blk :=
  { b with hst := { b.hst with storedPlanes := b.hst.planes, persistActive := 1 - b.hst.persistActive,
                               persistGen := b.hst.persistGen + 1, persistValid := true
                               persistOlder := if b.hst.persistValid then some b.hst.storedPlanes else none } }

/-- A write of HST_MODE (R160, R166): PERSIST first, then MODE, which is clamped to its present value
while any ring is not OFF (R519). -/
def Blk.writeMode (b : Blk) (w : Word) : Blk :=
  let b1 := if w.getLsbD 1 then b.persist else b
  let want := w.getLsbD 0
  if b1.allOff then Blk.fixPlanes { b1 with hst := { b1.hst with planes := want } }
  else if want == b1.hst.planes then b1
  else b1.report Reg.HST_MODE 0 0 3 0 (b2n want) (b2n b1.hst.planes)

/-- HST_MODE_WRITE (R21, R160). -/
def execHstModeWrite (w : Word) : State → Host.Outcome State Fault Refusal :=
  onIsland .hst (fun b => if b.inSvc then b.writeMode w else b)

/-- MODE_PERSIST (R160, R524). -/
def execModePersist : State → Host.Outcome State Fault Refusal :=
  onIsland .hst (fun b => if b.inSvc then b.persist else b)

/-- The PCI Express function (R127): the sizes of its two BARs, its largest payload and read request, its vectors, whether it
takes a function-level reset, and its power states beside each other; it sets neither relaxed ordering nor no-snoop. -/
structure PciFunction where
  generation : Nat := 3
  lanes : Nat := 4
  bar0 : Nat := 0x100000
  bar2 : Nat := 0x10000
  payload : List Nat := [128, 256]
  readRequest : List Nat := [128, 256, 512]
  vectors : Nat := 128
  errorReporting : Bool := true
  reset : Bool := true
  power : List String := ["D0", "D3hot"]
  serial : BitVec 64
  deriving DecidableEq, Repr

/-- The function as the host finds it: its device serial number is SYS_UID (R127). -/
def Blk.pciFunction (b : Blk) : PciFunction := { serial := b.uid }

/-- What a read of the doorbell of ring `n` returns (R134, R135). -/
def Blk.readDoorbell (b : Blk) (n : Nat) : Nat :=
  let r := b.ring n
  if b.isCq n then r.tail * 2 ^ 32 + r.head else r.head * 2 ^ 32 + r.tail

/-- What a read of the DW of BAR2 at `off` returns (R128): doorbells, MSI-X table, pending bits; 0 elsewhere. -/
def Blk.readBar2 (b : Blk) (off : Nat) : Word :=
  if off < 0x2000 ∧ off % 0x40 < 8 then word (b.readDoorbell (off / 0x40) / 2 ^ (off % 0x40 / 4 * 32))
  else if 0x8000 ≤ off ∧ off < 0x8800 then Tab.val b.hst.msixTab ((off - 0x8000) / 4) (if off % 16 / 4 = 3 then 1 else 0)
  else if 0xC000 ≤ off ∧ off < 0xC010 then
    word (maskOf 32 (fun v => Tab.val b.hst.msixPend ((off - 0xC000) / 4 * 32 + v) false))
  else 0

/-- What a write at offset `off` of BAR2 reaches (R128): a ring's doorbell, a DW of a vector's table entry, or nothing. -/
inductive Bar2 where
  | doorbell (ring : Nat) (high : Bool)
  | vector (v dw : Nat)
  | none
  deriving DecidableEq, Repr

/-- R128. -/
def bar2 (off : Nat) : Bar2 :=
  if off < 0x2000 ∧ off % 0x40 < 8 then .doorbell (off / 0x40) (decide (4 ≤ off % 0x40))
  else if 0x8000 ≤ off ∧ off < 0x8800 then .vector ((off - 0x8000) / 16) (off % 16 / 4)
  else .none

/-- MSIX_TABLE_ENTRY_WRITE: a dword of a vector's table entry; unmasking a pending vector sends its
message (R157). -/
def Blk.writeMsix (b : Blk) (v dw : Nat) (x : Word) : Blk :=
  let b1 := { b with hst := { b.hst with msixTab := Tab.put b.hst.msixTab (4 * v + dw) x } }
  if dw = 3 && !x.getLsbD 0 && Tab.val b.hst.msixPend v false then
    { b1 with hst := { b1.hst with msixPend := Tab.put b1.hst.msixPend v false } }.emit (.msix v)
  else b1

/-- MSIX_TABLE_ENTRY_WRITE (R128, R157). -/
def execMsixTableEntryWrite (vector : Mix) (dw : Fin 4) (value : Word) :
    State → Host.Outcome State Fault Refusal :=
  onIsland .hst (fun b => b.writeMsix vector.val dw.val value)

end Sys2Proof.Machine
end

