-- ==== Sys2Proof/Machine/Axis.lean ====
section
/-! DEFINITION. Sys2Proof/Machine/Axis.lean: the axes of Spline: modes, faults and their reactions, the
start and end of motions, homing, groups, and stops (R338-R377). -/

namespace Sys2Proof.Machine

open Sys2Proof

/-! ## Set-up of an axis -/

/-- MODE of axis `n`: 0 OFF; channels 16-47 stay OFF in planes mode (R338, R340). -/
def Blk.axMode (b : Blk) (n : Nat) : Nat :=
  if b.hst.planes && 16 ≤ n then 0 else b.fld (Reg.AXS_AX_CFG n) 3 0

/-- The axis has feedback: STEP_ENC or PWM_ENC. -/
def Blk.axFeedback (b : Blk) (n : Nat) : Bool := b.axMode n == 2 || b.axMode n == 3

/-- ENC of a channel (R343, R344): 1 QUAD, 2 QUAD_Z, 3 SSI. -/
def Blk.encKind (b : Blk) (n : Nat) : Nat := b.fld (Reg.AXS_AX_IO_CFG n) 15 14

/-- The sample period P in ns (R382). -/
def Blk.axPeriod (b : Blk) (n : Nat) : Nat := 31250 * 2 ^ b.fld (Reg.AXS_AX_CFG n) 18 16

/-- A register in units as a number of 2^-16 units. -/
def Blk.fix (b : Blk) (off : Nat) : Int := (b.reg off).toNat * 65536

/-- JERK in 2^-16 units/s³ (R339). -/
def Blk.axJerk (b : Blk) (n : Nat) : Int := b.fix (Reg.AXS_AX_JERK n) * 1000

/-- The limits of axis `n`. -/
def Blk.axLim (b : Blk) (n : Nat) : Lim :=
  ⟨b.fix (Reg.AXS_AX_VMAX n), b.fix (Reg.AXS_AX_ACC n), b.fix (Reg.AXS_AX_DEC n), b.axJerk n⟩

/-- A soft limit in 2^-16 units. -/
def Blk.softMin (b : Blk) (n : Nat) : Int := b.sfld (Reg.AXS_AX_SOFT_MIN n) 31 0 * 65536

/-- A soft limit in 2^-16 units. -/
def Blk.softMax (b : Blk) (n : Nat) : Int := b.sfld (Reg.AXS_AX_SOFT_MAX n) 31 0 * 65536

/-- INPOS in units (R381). -/
def Blk.inposLim (b : Blk) (n : Nat) : Nat := b.fld (Reg.AXS_AX_INPOS n) 15 0

/-- The motion side of axis `n` changed. -/
def Blk.modMot (b : Blk) (n : Nat) (f : AxMot → AxMot) : Blk :=
  b.setAxis n { b.axis n with mot := f (b.axis n).mot }

/-- The inputs of axis `n` changed. -/
def Blk.modIo (b : Blk) (n : Nat) (f : AxIo → AxIo) : Blk :=
  b.setAxis n { b.axis n with io := f (b.axis n).io }

/-- The loop state of axis `n` changed. -/
def Blk.modLoop (b : Blk) (n : Nat) (f : AxLoop → AxLoop) : Blk :=
  b.setAxis n { b.axis n with loop := f (b.axis n).loop }

/-- The motion side of axis `n`. -/
def Blk.mot (b : Blk) (n : Nat) : AxMot := (b.axis n).mot

/-- The elapsed instant of axis `n`'s last sample in 2^-16 ns; now if there was none. -/
def Blk.axTime (b : Blk) (n : Nat) : Nat :=
  match (b.axis n).sampled with
  | some s => ((s : Int) - b.inv.jumped).toNat * 65536
  | none => b.elapsed * 65536

/-- ENA of axis `n` is active (R340): `severity` 3 is a group-stop reaction. -/
def Blk.axEna (b : Blk) (n : Nat) : Bool :=
  b.axMode n != 0 && !((b.axis n).fault != 0 && (b.axis n).severity == 3) && b.pairOn (n / 4)

/-- A signed count on 32 bits (R339). -/
def wrap32 (x : Int) : Int := toSigned 32 (x % 2 ^ 32).toNat

/-- The measured position (R338, R345): the step count in STEP_OPEN. -/
def Blk.axPos (b : Blk) (n : Nat) : Int :=
  if b.axMode n = 1 then (b.mot n).sp / 65536 else (b.axis n).io.pos

/-- The commanded step position of set-point `sp` with correction `o`, both in 2^-16 units (R342). -/
def Blk.stepCmd (b : Blk) (n : Nat) (sp o : Int) : Int :=
  if b.axMode n = 2 then
    (sp + o) * b.fld (Reg.AXS_AX_STEP_RATIO n) 31 16 / ((max 1 (b.fld (Reg.AXS_AX_STEP_RATIO n) 15 0) : Nat) * 65536)
  else sp / 65536

/-! ## Items and effects (R354, R355, R378) -/

/-- An event item of an axis (R378). -/
def Blk.axsItem (b : Blk) (n event : Nat) (value : Int) (epoch : Nat) : Blk :=
  if b.flag Reg.AXS_EVQ_CFG 6 then
    b.produce (b.fld Reg.AXS_EVQ_CFG 5 0) 0x50
      (leBytes 1 n ++ leBytes 1 event ++ zeros 2 ++ sleBytes 4 value
        ++ leBytes 8 (ft64 ((b.axis n).sampled.getD b.now)) ++ leBytes 8 epoch)
  else b

/-- The epoch of the effect that an axis runs, 0 if none. -/
def Blk.axEpoch (b : Blk) (n : Nat) : Nat := ((b.mot n).effs.headD (0, 0)).1

/-- An AXS effect is finished for Dovetail (R354). -/
def Blk.finishEff (b : Blk) (e : Nat × Nat) : Blk :=
  b.modDvt (fun d => { d with
    unfinished := d.unfinished.filter (fun (x : Effect) => !(x.dest == .axs && (x.epoch, x.idx) == e)) })

/-- Every effect that an axis runs is finished. -/
def Blk.finishAll (b : Blk) (n : Nat) : Blk :=
  (b.mot n).effs.foldl Blk.finishEff (b.modMot n (fun m => { m with effs := [] }))

/-- The armed change of an axis is discarded, its effect finished (R365). -/
def Blk.disarm (b : Blk) (n : Nat) : Blk :=
  match (b.mot n).arm with
  | none => b
  | some a => (b.modMot n (fun m => { m with arm := none })).finishEff a.eff

/-- The axis completes in this sample (R355). -/
def Blk.markDone (b : Blk) (n : Nat) : Blk :=
  b.modAxs (fun x => { x with completed := setBit x.completed n })

/-- A motion that has a target to rest at (R355). -/
def Plan.aimed : Plan → Bool
  | .move _ => true
  | .group _ => true
  | .table _ => true
  | .home _ => true
  | _ => false

/-- A motion completes and ends at rest (R355). -/
def Blk.completeAxis (b : Blk) (n : Nat) : Blk :=
  ((b.markDone n).finishAll n).modMot n (fun m => { m with plan := .rest, goal := m.plan.aimed })

/-! ## Interpolation groups (R369, R370) -/

/-- The moving group `g`. -/
def Blk.gmove (b : Blk) (g : Nat) : GMove := Tab.val b.axs.groups g {}

/-- The moving group `g` replaced. -/
def Blk.setGMove (b : Blk) (g : Nat) (x : GMove) : Blk :=
  b.modAxs (fun a => { a with groups := Tab.put a.groups g x })

/-- Group `g` moves no more. -/
def Blk.delGMove (b : Blk) (g : Nat) : Blk :=
  b.modAxs (fun a => { a with groups := Tab.del a.groups g })

/-- The least rate of the path that respects a rate of every moving member (R369): `f` in 2^-16 units. -/
def pathRate (ms : List GMem) (f : Nat → Int) : Int :=
  let rs := (ms.filter (fun m => m.d ≠ 0)).map (fun m => f m.axis * 2 ^ 48 / m.d.natAbs)
  rs.foldl min (rs.headD 0)

/-- A group brought to rest along its path, at the deceleration `dec` of its members (R350, R370, R376);
`turn` the epoch of the retarget that does so (R370). -/
def Blk.slowGroup (b : Blk) (g : Nat) (dec : Nat → Int) (jerk : Bool) (turn : Option Nat) : Blk :=
  let x := b.gmove g
  let t := match x.members with | m :: _ => b.axTime m.axis | [] => b.elapsed * 65536
  let j := if jerk && x.members.all (fun m => b.axJerk m.axis ≠ 0) then pathRate x.members b.axJerk else 0
  b.setGMove g { x with slowing := true, turning := if turn.isSome then x.turning <|> turn else none, c := stopCurve t x.u x.v x.a (pathRate x.members dec) j }

/-- An axis leaves a moving group: the others come to rest along the path, computed without it; the group's
motion completes nothing. -/
def Blk.leaveGroup (b : Blk) (g n : Nat) (dec : Nat → Int) (jerk : Bool) (turn : Option Nat) : Blk :=
  let x := b.gmove g
  let b0 := match x.next with
    | some e => b.finishEff (e.epoch, e.idx)
    | none => b
  let b1 := x.members.foldl (fun b m => b.finishAll m.axis) b0
  let ms := x.members.filter (fun m => m.axis != n)
  if ms = [] then b1.delGMove g
  else (b1.setGMove g { x with members := ms, next := none }).slowGroup g dec jerk turn

/-- LIM_DEC of an axis in 2^-16 units/s². -/
def Blk.limDec (b : Blk) (n : Nat) : Int := b.fix (Reg.AXS_AX_LIM_DEC n)

/-- The group whose GROUP_MOVE waits for axis `n` to come to rest. -/
def Blk.waitingGroup (b : Blk) (n : Nat) : Option Nat :=
  (List.range 8).find? (fun g => (b.gmove g).next.isSome && (b.groupAxes g).contains n)

/-- The GROUP_MOVE that waits for axis `n` is given up, finished. -/
def Blk.dropWaiting (b : Blk) (n : Nat) : Blk :=
  match b.waitingGroup n with
  | none => b
  | some g =>
    let b1 := (b.groupAxes g).foldl Blk.finishAll b
    if (b1.gmove g).members = [] then b1.delGMove g else b1.setGMove g { b1.gmove g with next := none }

/-- The motion of an axis ends, completing nothing: its effects are finished, an armed change is discarded,
and the other members of its group come to rest at the given deceleration. -/
def Blk.endMotion (b : Blk) (n : Nat) (dec : Nat → Int) (jerk : Bool := true) (turn : Option Nat := none) : Blk :=
  let b0 := b.dropWaiting n
  let b1 := match (b0.mot n).plan with
    | .group g => b0.leaveGroup g n dec jerk turn
    | _ => b0
  ((b1.disarm n).finishAll n).modMot n (fun m => { m with plan := .rest, goal := false, inPosN := 0 })

/-! ## Faults (R350, R397) -/

/-- The severity of a fault's reaction: 0 none, 1 deceleration, 2 stop in place, 3 group stop. -/
def Blk.faultSeverity (b : Blk) (n code : Nat) : Nat :=
  match code with
  | 0x05 => 3 | 0x06 => 3 | 0x07 => 3 | 0x08 => 3
  | 0x0B => 0 | 0x0C => 0
  | 0x10 => if b.flag (Reg.CTL_AX_CFG n) 5 then 3 else 2
  | 0x11 => 2 | 0x12 => 3
  | _ => 1

/-- The event item, with the epoch of the effect concerned, and the event record of a fault (R350, R378). -/
def Blk.noteFault (b : Blk) (n code epoch : Nat) : Blk :=
  (b.axsItem n 3 code epoch).record 0x0701 (leBytes 1 n ++ leBytes 1 code)

/-- The axis holds: no motion, and from the next sample the set-point is the measured position with the loop
state 0 (R375, R389, R397). -/
def Blk.holdAt (b : Blk) (n : Nat) : Blk :=
  (b.modMot n (fun m => { m with plan := .rest, v := 0, a := 0, movedAt := none, goal := false })).modLoop n
    (fun l => { l with reset := true })

/-- The axis decelerates to rest from its state at the last sample. -/
def Blk.decelAxis (b : Blk) (n : Nat) (dec j : Int) (soft : Bool) : Blk :=
  let m := b.mot n
  if m.v = 0 then b.modMot n (fun m => { m with plan := .rest, a := 0 })
  else b.modMot n (fun m => { m with plan := .stopping (stopCurve (b.axTime n) m.sp m.v m.a dec j) soft })

/-- Every other axis of a group that is not DISABLED enters GROUP_STOP (R350). -/
def Blk.groupFaults (b : Blk) (g n : Nat) : Blk :=
  (List.range 4).foldl (fun b k =>
    let i := 4 * g + k
    if i = n ∨ b.axMode i = 0 then b
    else
      let b1 := b.noteFault i 0x0C (b.axEpoch i)
      let b2 := b1.endMotion i b1.limDec
      let x := b2.axis i
      (if x.fault = 0 then b2.setAxis i { x with fault := 0x0C, severity := 0, faultAt := x.sampled } else b2).holdAt
        i) b

/-- A group stop (R184): its pair turns off, CLP_GRP_STATE shows OFF_FAULT, and its axes enter GROUP_STOP
but for axis `n`, which caused it (48 for none). -/
def Blk.groupStop (b : Blk) (g n : Nat) : Blk := (b.setGroup g .offFault).groupFaults g n

/-- The reaction of a fault (R350, R397). -/
def Blk.react (b : Blk) (n code severity : Nat) : Blk :=
  match severity with
  | 3 => (b.holdAt n).groupStop (n / 4) n
  | 2 => b.holdAt n
  | 1 => b.decelAxis n (if code = 0x0A then b.fix (Reg.AXS_AX_DEC n) else b.limDec n) (b.axJerk n) false
  | _ => if code = 0x0C then b.holdAt n else b

/-- A fault arises (R350): the axis enters FAULT, or, in FAULT already, takes the new code and reaction only
when it is more severe, or equally severe in the same sample with a lower code. -/
def Blk.faultAt (b : Blk) (n code epoch : Nat) : Blk :=
  if b.axMode n = 0 then b
  else
    let sev := b.faultSeverity n code
    let b1 := b.noteFault n code epoch
    let x := b.axis n
    if x.fault = 0 then
      let b2 := b1.endMotion n b1.limDec
      (b2.setAxis n { b2.axis n with fault := code, severity := sev, faultAt := x.sampled }).react n code sev
    else if x.severity < sev then
      (b1.setAxis n { b1.axis n with fault := code, severity := sev, faultAt := x.sampled }).react n code sev
    else if x.faultAt = x.sampled ∧ x.severity = sev ∧ code < x.fault then
      b1.setAxis n { b1.axis n with fault := code }
    else b1

/-- A fault of the motion that the axis runs. -/
def Blk.raiseFault (b : Blk) (n code : Nat) : Blk := b.faultAt n code (b.axEpoch n)

/-- A fault waits for the axis's next sample. -/
def Blk.postFault (b : Blk) (n code : Nat) : Blk :=
  b.modIo n (fun i => { i with inbox := i.inbox ++ [.fault code] })

/-- The master of axis `n` takes its counts from channel `ch`. -/
def Blk.masterFrom (b : Blk) (n ch : Nat) : Bool :=
  b.fld (Reg.AXS_MASTER_CFG (b.fld (Reg.AXS_AX_CFG n) 12 12)) 5 0 == ch

/-- The axis is geared. -/
def Plan.geared : Plan → Bool
  | .gear _ => true
  | _ => false

/-- A fault of channel `ch`'s encoder ends the gearing of every axis on that master (R363). -/
def Blk.masterFault (b : Blk) (ch : Nat) : Blk :=
  (List.range 48).foldl (fun b n =>
    if (b.mot n).plan.geared && b.masterFrom n ch then b.postFault n 0x0D else b) b

/-- An encoder fault of channel `n` (R343, R344, R350): its WIRE flag, the fault where the encoder serves
the axis, and MASTER on the axes geared to it. -/
def Blk.encFault (b : Blk) (n code bit : Nat) : Blk :=
  let b1 := (b.setFlag (Reg.AXS_AX_WIRE n) bit).masterFault n
  if b1.axFeedback n then b1.raiseFault n code else b1

/-! ## Stops (R375-R377) -/

/-- A category-0 stop of a group reaches AXS (R375). -/
def Blk.cutAxes (b : Blk) (g : Nat) : Blk :=
  (List.range 4).foldl (fun b k =>
    let n := 4 * g + k
    if b.axMode n = 0 then b
    else
      let b1 := (b.endMotion n (fun i => b.fix (Reg.AXS_AX_STOP_DEC i)) false).holdAt n
      if b1.axMode n = 1 then b1.modMot n (fun m => { m with homed := false }) else b1) b

/-- A geared or following axis in a Stop-1 ramp keeps its source below a falling ceiling (R376). -/
def Plan.capped (p : Plan) (v t : Nat) : Plan :=
  match p with
  | .gear g => .gear { g with cap := some (v, t) }
  | .follow f => .follow { f with cap := some (v, t) }
  | p => p

/-- One axis of a group in a category-1 ramp (R376): its motion's effects end. -/
def Blk.rampAxis (b : Blk) (n : Nat) : Blk :=
  let m := b.mot n
  match m.plan with
  | .rest => b.disarm n
  | .group _ => b.disarm n
  | .gear _ => ((b.disarm n).finishAll n).modMot n (fun m => { m with plan := m.plan.capped m.v.natAbs (b.axTime n) })
  | .follow _ => (b.finishAll n).modMot n (fun m => { m with plan := m.plan.capped m.v.natAbs (b.axTime n) })
  | _ =>
    let b1 := (b.disarm n).finishAll n
    b1.decelAxis n (b1.fix (Reg.AXS_AX_STOP_DEC n)) 0 false

/-- The category-1 ramp of the groups of `gs` (R376): every axis, then the interpolation groups with a
member among them. -/
def Blk.rampAxes (b : Blk) (gs : List Nat) : Blk :=
  let b1 := gs.foldl (fun b g => (List.range 4).foldl (fun b k => b.rampAxis (4 * g + k)) b) b
  (List.range 8).foldl (fun b g =>
    let x := b.gmove g
    if x.members.any (fun m => gs.contains (m.axis / 4)) then
      let b2 := match x.next with | some e => b.finishEff (e.epoch, e.idx) | none => b
      ((x.members.foldl (fun b m => b.finishAll m.axis) b2).setGMove g { x with next := none }).slowGroup g
        (fun i => b.fix (Reg.AXS_AX_STOP_DEC i)) false none
    else b) b1

/-- Group `g` at standstill (R376): DISABLED axes count as at standstill. -/
def Blk.standstill (b : Blk) (g : Nat) : Bool :=
  (List.range 4).all (fun k => b.axMode (4 * g + k) == 0 || (b.mot (4 * g + k)).still)

/-! ## Redefinition of position (R372, R379, R389) -/

/-- The emitted steps brought in line with the set-point, so that a redefinition emits none. -/
def Blk.rebase (b : Blk) (n : Nat) : Blk :=
  let c := b.stepCmd n (b.mot n).sp 0
  b.modLoop n (fun l => { l with emitted := c })

/-- A homing plan moved by a shift of the position scale. -/
def HomePlan.shift (h : HomePlan) (k : Int) : HomePlan :=
  { h with c := h.c.shift (k * 65536), start := h.start + k * 65536, latched := h.latched.map (· + k) }

/-- The position scale shifted by `k` units: set-point, measured position and homing profile. -/
def Blk.shiftPos (b : Blk) (n : Nat) (k : Int) : Blk :=
  Blk.rebase ((b.modMot n (fun m => { m with
    sp := m.sp + k * 65536
    plan := match m.plan with | .home h => .home (h.shift k) | p => p })).modIo n
      (fun i => { i with pos := wrap32 (i.pos + k), hist := i.hist.map (fun q => (q.1, wrap32 (q.2 + k))) })) n

/-- HOME_OFFSET (R381). -/
def Blk.homeOffset (b : Blk) (n : Nat) : Int := b.sfld (Reg.AXS_AX_HOME_OFFSET n) 31 0

/-- A latch in homing (R372): raw position `raw` becomes HOME_OFFSET; LATCH and its item. -/
def Blk.latchAt (b : Blk) (n : Nat) (raw : Int) : Blk :=
  let b1 := (b.axsItem n 2 raw (b.axEpoch n)).shiftPos n (b.homeOffset n - raw)
  b1.modMot n (fun m => { m with
    latch := raw
    plan := match m.plan with
      | .home h => .home { h with latched := some (b.homeOffset n) }
      | p => p })

/-! ## Homing (R371-R373) -/

/-- The search direction of a method (R371). -/
def homeDir (method : Nat) : Int := if method % 2 = 1 then 1 else -1

/-- The limit input that a method searches: LIMP (0) or LIMN (1). -/
def homeLimit (method : Nat) : Option Nat := if method = 3 then some 0 else if method = 4 then some 1 else none

/-- The homing of axis `n` goes on in a phase at a constant speed (2^-16 units/s). -/
def Blk.homeJog (b : Blk) (n : Nat) (h : HomePlan) (ph : HomePhase) (speed : Int) : Blk :=
  b.modMot n (fun m => { m with
    plan := .home { h with phase := ph, c := jogCurve (b.axTime n) m.sp m.v m.a speed (b.axLim n), start := m.sp } })

/-- The homing of axis `n` goes on in a phase of deceleration. -/
def Blk.homeStop (b : Blk) (n : Nat) (h : HomePlan) (ph : HomePhase) (dec : Int) : Blk :=
  b.modMot n (fun m => { m with
    plan := .home { h with phase := ph, c := stopCurve (b.axTime n) m.sp m.v m.a dec (b.axJerk n) } })

/-- The move to position 0 at VSLOW that ends methods 1-6 (R372). -/
def Blk.homeFinal (b : Blk) (n : Nat) (h : HomePlan) : Blk :=
  b.modMot n (fun m => { m with
    plan := .home { h with phase := .final
                           c := (startMove (b.axTime n) m.sp 0 0 0
                             { b.axLim n with v := b.fix (Reg.AXS_AX_HOME_VSLOW n) }).c } })

/-- Homing starts at the apply sample (R372); methods 7 and 8 complete at once. -/
def Blk.homeStart (b : Blk) (n method : Nat) : Blk :=
  let b1 := b.modMot n (fun m => { m with homed := false, zSeen := false })
  let dir := homeDir method
  let fast := dir * b1.fix (Reg.AXS_AX_HOME_VFAST n)
  let slow := dir * b1.fix (Reg.AXS_AX_HOME_VSLOW n)
  let h : HomePlan := ⟨method, .search, {}, 0, none⟩
  let io := (b1.axis n).io
  match method with
  | 7 => ((b1.latchAt n (b1.axPos n)).completeAxis n).modMot n (fun m => { m with homed := true })
  | 8 =>
    let raw : Int := (io.ssi.getD 0 : Nat)
    let b2 := (b1.axsItem n 2 raw (b1.axEpoch n)).shiftPos n (raw + b1.homeOffset n - b1.axPos n)
    (b2.completeAxis n).modMot n (fun m => { m with homed := true, latch := raw })
  | 5 => b1.homeJog n h .search slow
  | 6 => b1.homeJog n h .search slow
  | 3 => if io.limp then b1.homeJog n h .away (-slow) else b1.homeJog n h .search fast
  | 4 => if io.limn then b1.homeJog n h .away (-slow) else b1.homeJog n h .search fast
  | _ => if io.home then b1.homeJog n h .leave (-slow) else b1.homeJog n h .search fast

/-- After the last latch of methods 1-2, and of a Z edge, the axis comes to rest. -/
def Blk.homeRest (b : Blk) (n : Nat) : Blk :=
  match (b.mot n).plan with
  | .home h => b.homeStop n h .rest (b.fix (Reg.AXS_AX_DEC n))
  | _ => b

/-- A qualified edge during homing (R372, R373). -/
def Blk.homeEdge (b : Blk) (n : Nat) (h : HomePlan) (which : Nat) (active : Bool) (pos : Int) : Blk :=
  let slow := homeDir h.method * b.fix (Reg.AXS_AX_HOME_VSLOW n)
  let own := homeLimit h.method == some which
  let locked := match h.latched with
    | some l => decide ((b.axPos n - l).natAbs ≤ (b.reg (Reg.AXS_AX_HOME_LOCKOUT n)).toNat)
    | none => false
  if which = 2 then
    if h.method ≤ 2 ∧ h.phase = .search ∧ active then b.homeStop n h .decel (b.fix (Reg.AXS_AX_DEC n))
    else if h.method ≤ 2 ∧ h.phase = .leave ∧ !active then
      let b1 := b.latchAt n pos
      if b1.encKind n = 2 then
        b1.modMot n (fun m => { m with plan := match m.plan with
          | .home h => .home { h with phase := .toZ, start := m.sp }
          | p => p })
      else b1.homeRest n
    else b
  else if own && h.phase == .away then (if active then b else b.homeJog n h .slow slow)
  else if own && active && (h.phase == .search || h.phase == .slow) then
    let b1 := b.latchAt n pos
    match (b1.mot n).plan with
    | .home h1 => b1.homeStop n h1 .limDecel (b1.limDec n)
    | _ => b1
  else if active && !(own && locked) then b.raiseFault n 0x03
  else b

/-- A Z edge during homing. -/
def Blk.homeZ (b : Blk) (n : Nat) (h : HomePlan) (pos : Int) : Blk :=
  if h.phase = .toZ ∨ (5 ≤ h.method ∧ h.phase = .search) then (b.latchAt n pos).homeRest n else b

/-- A homing axis at its sample: the set-point, and the phase that follows where one has ended; a search
beyond HOME_SEARCH is HOME_NOT_FOUND (R372). -/
def Blk.homeAdvance (b : Blk) (n : Nat) (h : HomePlan) : Blk :=
  let t := b.axTime n
  let x := h.c.at t
  let b1 := b.modMot n (fun m => { m with sp := x.1, v := x.2.1, a := x.2.2 })
  let slow := homeDir h.method * b.fix (Reg.AXS_AX_HOME_VSLOW n)
  let lim := (b.reg (Reg.AXS_AX_HOME_SEARCH n)).toNat
  let searching := h.phase == .search || h.phase == .slow || h.phase == .toZ
  if searching && lim != 0 && decide (lim * 65536 ≤ (x.1 - h.start).natAbs) then b1.raiseFault n 0x0A
  else if !h.c.isOver t then b1
  else match h.phase with
    | .decel => b1.homeJog n h .leave (-slow)
    | .limDecel => if b1.encKind n = 2 then b1.homeJog n h .toZ (-slow) else b1.homeFinal n h
    | .rest => b1.homeFinal n h
    | _ => b1

end Sys2Proof.Machine
end

