-- ==== Sys2Proof/Machine/Motion.lean ====
section
/-! DEFINITION. Sys2Proof/Machine/Motion.lean: what an axis's motion does at a sample instant, and the
application of due axis effects (R347-R374). -/

namespace Sys2Proof.Machine

open Sys2Proof

/-! ## Gearing and following (R363-R367) -/

/-- The master position of a channel's counter under a modulus (R363). -/
def masterPos (m : Int) (mod : Nat) : Int := if mod = 0 then m else m % mod

/-- The channel of axis `n`'s master. -/
def Blk.masterOf (b : Blk) (n : Nat) : Nat := b.fld (Reg.AXS_AX_CFG n) 12 12

/-- The counter of master `m`, int32. -/
def Blk.masterCount (b : Blk) (m : Nat) : Int :=
  toSigned 32 (b.axis (b.fld (Reg.AXS_MASTER_CFG m) 5 0)).io.enc

/-- Velocity change limited for one sample (R366): acceleration when the magnitude grows, deceleration
when it falls. -/
def limitVel (v want up down : Int) : Int :=
  let step := if 0 ≤ v * want ∧ v.natAbs ≤ want.natAbs then up else down
  clampInt (v - step) (v + step) want

/-- The speed ceiling of a Stop-1 ramp at an instant in 2^-16 ns (R376). -/
def Blk.capAt (b : Blk) (n : Nat) (cap : Option (Nat × Nat)) : Option Int :=
  cap.map (fun c => max 0 ((c.1 : Int) - b.fix (Reg.AXS_AX_STOP_DEC n) * ((b.axTime n - c.2 : Nat) : Int) / secUnits))

/-- The velocity that a geared or following axis may take, wanted `want` (R366, R376). -/
def Blk.permitted (b : Blk) (n : Nat) (want : Int) (cap : Option (Nat × Nat)) : Int :=
  let p := b.axPeriod n
  let l := b.axLim n
  match b.capAt n cap with
  | some c => clampInt (-c) c want
  | none => limitVel (b.mot n).v (clampInt (-l.v) l.v want) (l.a * p / 1000000000) (l.d * p / 1000000000)

/-- The set-point moved in a sample at velocity `v`. -/
def Blk.travel (b : Blk) (n : Nat) (v : Int) : Int := v * b.axPeriod n / 1000000000

/-- PHASE_LOST with the accumulated offset (R366). -/
def Blk.losePhase (b : Blk) (n : Nat) (offset : Int) : Blk :=
  if (b.mot n).phaseLost then b
  else (b.axsItem n 7 (offset / 65536) (b.axEpoch n)).modMot n (fun m => { m with phaseLost := true })

/-- The set-point of a geared or following axis taken: its source's `want`, or what the limits permit; the
offset grows by the difference. -/
def Blk.sourced (b : Blk) (n : Nat) (want offset : Int) (cap : Option (Nat × Nat)) : Blk × Int :=
  let m := b.mot n
  let vw := (want - m.sp) * 1000000000 / b.axPeriod n
  let v := b.permitted n vw cap
  let raw := if v = vw then want else m.sp + b.travel n v
  let sp := clampInt (b.softMin n) (b.softMax n) raw
  let off := offset + (sp - want)
  let acc := (v - m.v) * 1000000000 / b.axPeriod n
  let b1 := b.modMot n (fun m => { m with sp := sp, v := v, a := acc })
  if sp = want then (b1, offset) else (b1.losePhase n off, off)

/-- A geared axis before its engagement has ended (R364): the ramp ends at the master's velocity, or at VMAX where that is
beyond it (R366). -/
def Blk.engage (b : Blk) (n : Nat) (p : GearPlan) (dm : Int) : Blk :=
  let vm := p.r1.times dm * 1000000000 / b.axPeriod n
  let v := b.permitted n vm p.cap
  let m := b.mot n
  let sp := clampInt (b.softMin n) (b.softMax n) (m.sp + b.travel n ((m.v + v) / 2))
  let b1 := b.modMot n (fun m => { m with sp := sp, v := v, a := (v - m.v) * 1000000000 / b.axPeriod n })
  let p1 := { p with x := p.x + dm }
  if v = clampInt (-(b.axLim n).v) (b.axLim n).v vm ∧ p.cap = none then
    let p2 := { p1 with engaged := true, offset := sp - { p1 with offset := 0 }.law }
    ((b1.axsItem n 5 (p2.offset / 65536) (b1.axEpoch n)).markDone n).modMot n
      (fun m => { m with plan := .gear p2 })
  else b1.modMot n (fun m => { m with plan := .gear p1 })

/-- A geared axis after engagement (R364, R365): the end of a blend completes. -/
def Blk.geared (b : Blk) (n : Nat) (p : GearPlan) (dm : Int) : Blk :=
  let p1 := { p with x := p.x + p.d * dm }
  let r := b.sourced n p1.law p1.offset p1.cap
  let isOver := !p1.blended && decide ((p1.l : Int) ≤ p1.x)
  let b1 := if isOver then r.1.markDone n else r.1
  b1.modMot n (fun m => { m with plan := .gear { p1 with offset := r.2, blended := p1.blended || isOver } })

/-- The axis at the end of its Stop-1 ceiling is at rest (R376, R377). -/
def Blk.capRest (b : Blk) (n : Nat) (cap : Option (Nat × Nat)) : Blk :=
  if b.capAt n cap = some 0 ∧ (b.mot n).v = 0 then b.modMot n (fun m => { m with plan := .rest, a := 0 }) else b

/-- A following axis at its sample (R367). -/
def Blk.following (b : Blk) (n : Nat) (p : FollowPlan) : Blk :=
  let io := (b.axis n).io
  let scale := b.reg (Reg.AXS_AX_SP_SCALE n)
  let m := b.mot n
  if b.fld (Reg.AXS_AX_CFG n) 5 4 = 1 then
    let vw := scale.toInt * io.uf / 10000
    let v := b.permitted n vw p.cap
    let sp := clampInt (b.softMin n) (b.softMax n) (m.sp + b.travel n v)
    let off := p.offset + b.travel n (v - vw)
    let b1 := b.modMot n (fun m => { m with
      sp := sp, v := v, a := (v - m.v) * 1000000000 / b.axPeriod n, plan := .follow { p with offset := off } })
    if v = vw then b1 else b1.losePhase n off
  else
    let num := fieldOf scale 31 16
    let den := fieldOf scale 15 0
    let k := io.pulses - p.count0
    let go : Int := if den = 0 then Config.spOverZero num k else num * k * 65536 / den
    let r := b.sourced n (p.pe + go + p.offset) p.offset p.cap
    r.1.modMot n (fun m => { m with plan := .follow { p with offset := r.2 } })

/-! ## Tables (R361, R362) -/

/-- A running table's plan at an instant: the passes over since are counted off. -/
def TablePlan.roll (p : TablePlan) (ks : List Knot) (now : Nat) : TablePlan :=
  let first := knotsDur (ks.drop p.entry)
  if now < p.t0 + first then p
  else if p.endless || p.passes != 0 then
    let whole := max 1 (knotsDur ks)
    let t1 := p.t0 + first
    let skip := if p.endless then (now - t1) / whole else min ((now - t1) / whole) (p.passes - 1)
    let p1 := { p with entry := 0, passes := p.passes - 1 - skip, t0 := t1 + skip * whole }
    { p1 with ended := !p1.endless && p1.passes == 0 && decide (p1.t0 + whole ≤ now) }
  else { p with ended := true }

/-- The table starts (R362): at once, or delayed by its approach. -/
def Blk.startTable (b : Blk) (n : Nat) (p : TablePlan) (delayed : Bool) : Blk :=
  let now := b.axTime n / 65536
  let b1 := if delayed then b.axsItem n 4 (((now - p.applied) / 1000 : Nat) : Int) (b.axEpoch n) else b
  b1.modMot n (fun m => { m with delayed := delayed, plan := .table { p with approach := none, t0 := now } })

/-- The set-point of a running table (R361): past the last knot it rests there. -/
def Blk.runTable (b : Blk) (n : Nat) (p : TablePlan) : Blk :=
  let ks := (b.table p.table).knots
  let now := b.axTime n / 65536
  let p1 := p.roll ks now
  let last := match ks.getLast? with | some k => k.pos * 65536 | none => (b.mot n).sp
  let x := if p1.ended then (last, 0, 0) else (knotsAt (ks.drop p1.entry) (now - p1.t0)).getD (last, 0, 0)
  b.modMot n (fun m => { m with sp := x.1, v := x.2.1, a := x.2.2, plan := .table p1 })

/-- A target-mode motion at the sample: set-point and the turn-around (R357). -/
def Blk.followMv (b : Blk) (n : Nat) (mv : Mv) : Blk × Mv :=
  let t := b.axTime n
  let r := mv.at t (b.axLim n)
  let x := r.1.c.at t
  let b1 := match r.2 with
    | some p => (b.axsItem n 1 (p / 65536) (b.axEpoch n)).modMot n (fun m => { m with turn := p / 65536 })
    | none => b
  (b1.modMot n (fun m => { m with sp := x.1, v := x.2.1, a := x.2.2 }), r.1)

/-- A table motion at the sample (R362). -/
def Blk.tableAdvance (b : Blk) (n : Nat) (p : TablePlan) : Blk :=
  match p.approach with
  | none => b.runTable n p
  | some mv =>
    let m := b.mot n
    if mv.after = none ∧ m.v = 0 ∧ m.sp = mv.c.target then (b.startTable n p true).runTable n
      { p with approach := none, t0 := b.axTime n / 65536 }
    else
      let r := b.followMv n mv
      r.1.modMot n (fun m => { m with plan := .table { p with approach := some r.2 } })

/-! ## An axis at its sample -/

/-- A motion that has come to rest (R355): AXIS_STOP and the end of following complete; at a soft limit the
axis enters SOFT_LIMIT (R348). -/
def Blk.cameToRest (b : Blk) (n : Nat) (soft : Bool) : Blk :=
  let b1 := b.modMot n (fun m => { m with plan := .rest })
  if soft then b1.raiseFault n 0x09
  else if (b.mot n).effs = [] || (b.waitingGroup n).isSome then b1 else b1.completeAxis n

/-- A member's set-point on its group's path (R369). -/
def Blk.onPath (b : Blk) (n g : Nat) : Blk :=
  let x := b.gmove g
  match x.members.find? (fun m => m.axis == n) with
  | none => b.modMot n (fun m => { m with plan := .rest, v := 0, a := 0 })
  | some gm => b.modMot n (fun m => { m with
      sp := gm.a + (gm.d * x.u + 2 ^ 47) / 2 ^ 48, v := gm.d * x.v / 2 ^ 48, a := gm.d * x.a / 2 ^ 48 })

/-- The set-point of axis `n` at its sample instant under the motion it had (R356-R372); `dm` its master's
travel. -/
def Blk.axAdvance (b : Blk) (n : Nat) (dm : Int) : Blk :=
  let t := b.axTime n
  match (b.mot n).plan with
  | .rest => b.modMot n (fun m => { m with v := 0, a := 0 })
  | .move mv =>
    let r := b.followMv n mv
    r.1.modMot n (fun m => { m with plan := .move r.2 })
  | .table p => b.tableAdvance n p
  | .gear p => (if p.engaged then b.geared n p dm else b.engage n p dm).capRest n p.cap
  | .follow p => (b.following n p).capRest n p.cap
  | .home h => b.homeAdvance n h
  | .group g => b.onPath n g
  | .stopping c soft =>
    let x := c.at t
    let b1 := b.modMot n (fun m => { m with sp := x.1, v := x.2.1, a := x.2.2 })
    if c.isOver t then b1.cameToRest n soft else b1

/-- R348: a geared, following or ramping set-point whose stopping point at LIM_DEC reaches a soft limit
decelerates to rest at it. -/
def Blk.softWatch (b : Blk) (n : Nat) : Blk :=
  let m := b.mot n
  let watched := match m.plan with
    | .gear _ => true
    | .follow _ => true
    | .stopping _ soft => !soft && b.group (n / 4) == .ramp
    | .group _ => b.group (n / 4) == .ramp
    | _ => false
  let lim := if 0 < m.v then b.softMax n else b.softMin n
  let stop := m.sp + m.v.sign * segsDist (stopSegs m.v.natAbs (m.v.sign * m.a) (b.limDec n) (b.axJerk n))
  let reaches := m.v ≠ 0 ∧ 0 ≤ m.v.sign * (stop - lim)
  if watched && decide reaches then
    let c := stopCurve (b.axTime n) m.sp m.v m.a (b.limDec n) (b.axJerk n)
    let b1 := match m.plan with
      | .group g => b.leaveGroup g n (fun i => b.fix (Reg.AXS_AX_STOP_DEC i)) false none
      | _ => b
    ((b1.disarm n).finishAll n).modMot n (fun m => { m with plan := .stopping { c with target := lim } true })
  else b

/-- A qualified limit or HOME edge at the sample (R347, R372). -/
def Blk.inputAt (b : Blk) (n which : Nat) (active : Bool) (pos : Int) : Blk :=
  let m := b.mot n
  match m.plan with
  | .home h => b.homeEdge n h which active pos
  | _ =>
    if active && which == 0 && decide (0 < m.v) then b.raiseFault n 0x01
    else if active && which == 1 && decide (m.v < 0) then b.raiseFault n 0x02
    else b

/-- The position at an elapsed instant, interpolated from the samples on either side (R345). -/
def Blk.posAt (b : Blk) (n e : Nat) : Int :=
  let h := (b.axis n).io.hist
  match h.reverse.find? (fun q => decide (q.1 ≤ e)), h.find? (fun q => decide (e < q.1)) with
  | some p, some q =>
    let d : Int := (q.1 : Int) - p.1
    wrap32 (p.2 + (2 * wrap32 (q.2 - p.2) * ((e : Int) - p.1) + d) / (2 * d))
  | some p, none => p.2
  | none, some q => q.2
  | none, none => b.axPos n

/-- What waited for the sample, in order. -/
def Blk.drainInbox (b : Blk) (n : Nat) : Blk :=
  let es := (b.axis n).io.inbox
  es.foldl (fun b e =>
    match e with
    | .input w act date => b.inputAt n w act (b.posAt n date)
    | .z pos => match (b.mot n).plan with
      | .home h => b.homeZ n h pos
      | _ => b
    | .fault c => b.raiseFault n c) (b.modIo n (fun i => { i with inbox := [] }))

/-! ## The armed change (R364, R365) -/

/-- An engagement of gearing now (R364): a later one clears PHASE_LOST. -/
def Blk.engageNow (b : Blk) (n : Nat) (r : Ratio) (eff : Nat × Nat) : Blk :=
  let b1 := b.endMotion n (fun i => b.fix (Reg.AXS_AX_DEC i)) true (some eff.1)
  b1.modMot n (fun m => { m with
    effs := [eff], phaseLost := false
    plan := .gear ⟨m.sp, 0, 1, r, r, 0, 0, false, true, none⟩ })

/-- The ratio in force at a master travel `x` from the arm point of a blend over `l` counts (R365). -/
def Ratio.blendAt (r0 r1 : Ratio) (l : Nat) (x : Int) : Ratio :=
  if l = 0 ∨ (l : Int) ≤ x then r1
  else if x ≤ 0 then r0
  else ⟨r0.num * r1.den * l + (r1.num * r0.den - r0.num * r1.den) * x, r0.den * r1.den * l⟩

/-- The ratio change at the arm point, which the master passed by `past` counts in this sample's travel
`dm`, not yet counted (R365): the ratio before it is the one in force there. -/
def Blk.changeRatio (b : Blk) (n : Nat) (p : GearPlan) (a : Arm) (past dm m : Int) : Blk :=
  let xa := p.x + p.d * (dm - a.d * past)
  let atArm := { p with x := xa }.law
  let q : GearPlan := { p with
    pa := atArm - p.offset, x := past - a.d * dm, d := a.d, r0 := p.r0.blendAt p.r1 p.l xa, r1 := a.r, blended := false
    l := (b.reg (Reg.AXS_AX_GEAR_RAMP n)).toNat }
  (b.axsItem n 6 m a.eff.1).modMot n (fun x => { x with
    plan := .gear q, arm := none, effs := x.effs ++ [a.eff], armLate := a.late })

/-- An armed change tried at the sample, its master having moved by `dm` to `m` (R364, R365); one that lay
behind the master when armed applies where it is found. -/
def Blk.tryArm (b : Blk) (n : Nat) (dm m : Int) : Blk :=
  match (b.mot n).arm with
  | none => b
  | some a =>
    let left := a.left.map (fun l => l - a.d * dm)
    let past : Int := match left with
      | some l => -l
      | none => a.d * (m - a.pos)
    if 0 ≤ past then
      match (b.mot n).plan with
      | .gear p => b.changeRatio n p a (if a.late then 0 else past) dm m
      | _ => ((b.modMot n (fun x => { x with arm := none })).engageNow n a.r a.eff).modMot n
          (fun x => { x with armLate := a.late })
    else b.modMot n (fun x => { x with arm := some { a with left := left } })

/-- An AXIS_GEAR arms an engagement or a ratio change (R364, R365); one already reached applies at once. -/
def Blk.armGear (b : Blk) (n : Nat) (r : Ratio) (pos : Int) (eff : Nat × Nat) (dm m : Int) : Blk :=
  let mod := (b.reg (Reg.AXS_MASTER_MOD (b.masterOf n))).toNat
  let d : Int := if dm ≠ 0 then dm.sign else if pos < m then -1 else 1
  let left : Option Int := if mod = 0 then none else some (((pos - m) * d) % mod)
  let late := decide (mod = 0) && decide (0 < d * (m - pos))
  ((b.disarm n).modMot n (fun x => { x with arm := some ⟨r, pos, d, left, late, eff⟩ })).tryArm n 0 m

/-! ## Due effects (R347, R351-R353, R367-R370, R374) -/

/-- The axes that an axis effect concerns. -/
def Blk.effectAxes (b : Blk) (e : Effect) : List Nat := if e.act = 0x36 then b.groupAxes e.obj else [e.obj]

/-- An effect not applied (R347, R351, R374): cancelled, counted in AXS_DROP_COUNT and finished. -/
def Blk.dropEffect (b : Blk) (e : Effect) : Blk :=
  ((b.modFleet (fun f => { f with effects := f.effects.erase e })).bump Reg.AXS_DROP_COUNT).finishEff (e.epoch, e.idx)

/-- An effect that has completed in the sample it applied in, without superseding anything. -/
def Blk.doneNow (b : Blk) (n : Nat) (e : Effect) : Blk := (b.markDone n).finishEff (e.epoch, e.idx)

/-- The direction in which a table starts from rest at the first of these knots (R361): that of its first piece that moves. -/
def tableDir : List Knot → Int
  | k0 :: k1 :: rest =>
    let s := 6 * (k1.pos - k0.pos) * 1000000 - 2 * k1.dt * k1.vel
    if s ≠ 0 then s.sign else if k1.pos ≠ k0.pos then (k1.pos - k0.pos).sign else tableDir (k1 :: rest)
  | _ => 0

/-- An axis is at rest within INPOS of a position: a table that starts there needs no approach (R362). -/
def Blk.atStart (b : Blk) (n : Nat) (start : Int) : Bool :=
  (b.mot n).v == 0 && decide ((b.axPos n - start).natAbs ≤ b.inposLim n)

/-- The direction in which an effect would start motion (R347): 0 where it starts none. -/
def Blk.startDir (b : Blk) (n : Nat) (e : Effect) : Int :=
  let sp := (b.mot n).sp
  match e.act with
  | 0x30 => (sle e.ops 0 4 * 65536 - sp).sign
  | 0x31 =>
    let ks := (b.table (le e.ops 0 2)).knots.drop (le e.ops 2 2)
    match ks with
    | k0 :: _ => if b.atStart n k0.pos then tableDir ks else (k0.pos * 65536 - sp).sign
    | [] => 0
  | 0x32 => if sle e.ops 4 4 = -2147483648 then (sle e.ops 0 2).sign * (b.axis n).io.master.sign else 0
  | 0x34 => if b.fld (Reg.AXS_AX_CFG n) 5 4 = 1 then ((b.reg (Reg.AXS_AX_SP_SCALE n)).toInt * (b.axis n).io.uf).sign else 0
  | 0x36 =>
    match (b.groupAxes e.obj).zipIdx.find? (fun p => p.1 == n) with
    | some p => (sle e.ops (4 * p.2) 4 * 65536 - sp).sign
    | none => 0
  | _ => 0

/-- Why axis `n` may not start an effect: a fault code (R347, R374). -/
def Blk.startFault (b : Blk) (n : Nat) (e : Effect) : Option Nat :=
  let io := (b.axis n).io
  let d := b.startDir n e
  if e.act ≠ 0x33 ∧ b.flag (Reg.AXS_AX_CFG n) 8 ∧ (b.mot n).homed = false then some 0x0B
  else if 0 < d && io.limp then some 0x01
  else if d < 0 && io.limn then some 0x02
  else none

/-- A single-axis motion starts: the one before is superseded (R353, R357, R370). -/
def Blk.takeOver (b : Blk) (n : Nat) (e : Effect) : Blk :=
  (b.endMotion n (fun i => b.fix (Reg.AXS_AX_DEC i)) true (some e.epoch)).modMot n
    (fun m => { m with effs := [(e.epoch, e.idx)] })

/-- AXIS_TABLE applies (R362). -/
def Blk.applyTable (b : Blk) (n : Nat) (e : Effect) : Blk :=
  let m := b.mot n
  let ks := (b.table (le e.ops 0 2)).knots
  let entry := le e.ops 2 2
  let start := match ks[entry]? with | some k => k.pos | none => 0
  let rep := le e.ops 4 2
  let t := b.axTime n
  let p : TablePlan := ⟨le e.ops 0 2, entry, if rep = 0xFFFF then 0 else rep, rep == 0xFFFF, none, 0, t / 65536, false⟩
  let b1 := b.takeOver n e
  if b.atStart n start then
    (b1.startTable n p false).runTable n { p with t0 := t / 65536 }
  else b1.modMot n (fun x => { x with plan := .table { p with
    approach := some (startMove t m.sp m.v m.a (start * 65536) (b.axLim n)) } })

/-- The line of a GROUP_MOVE started from rest at the members' set-points (R369): with no travel it ends
at the apply sample. -/
def Blk.startLine (b : Blk) (e : Effect) : Blk :=
  let axes := b.groupAxes e.obj
  let ms := axes.zipIdx.map (fun p => (⟨p.1, (b.mot p.1).sp, sle e.ops (4 * p.2) 4 * 65536 - (b.mot p.1).sp⟩ : GMem))
  let lim (f : Nat → Int) : Int := pathRate ms f
  let j := if ms.all (fun m => b.axJerk m.axis ≠ 0) then lim b.axJerk else 0
  let l : Lim := ⟨lim (fun n => (b.axLim n).v), lim (fun n => (b.axLim n).a), lim (fun n => (b.axLim n).d), j⟩
  let t := match axes with | n :: _ => b.axTime n | [] => b.elapsed * 65536
  let c : Curve := if ms.all (fun m => m.d = 0) then ⟨t, 2 ^ 48, [], 2 ^ 48⟩ else (startMove t 0 0 0 (2 ^ 48) l).c
  axes.foldl (fun b n => b.modMot n (fun m => { m with plan := .group e.obj, inPosN := 0 }))
    (b.setGMove e.obj { members := ms, c := c, u := c.p0 })

/-- The members of a group are at rest. -/
def Blk.groupRest (b : Blk) (e : Effect) : Bool := (b.groupAxes e.obj).all (fun n => (b.mot n).v == 0)

/-- GROUP_MOVE applies (R369, R370): a moving group first comes to rest along its path, members moving on
their own first come to rest. -/
def Blk.applyGroup (b : Blk) (e : Effect) : Blk :=
  let axes := b.groupAxes e.obj
  let x := b.gmove e.obj
  let ref := (e.epoch, e.idx)
  let dec (n : Nat) : Int := b.fix (Reg.AXS_AX_DEC n)
  let onLine := !x.members.isEmpty && decide (x.v ≠ 0)
  if onLine then
    let b0 := match x.next with | some o => b.finishEff (o.epoch, o.idx) | none => b
    let b1 := axes.foldl (fun b n => ((b.disarm n).finishAll n).modMot n (fun m => { m with effs := [ref] })) b0
    (b1.setGMove e.obj { x with next := some e }).slowGroup e.obj dec true (some e.epoch)
  else
    let b1 := axes.foldl (fun b n =>
      let b2 := b.endMotion n dec true (some e.epoch)
      (b2.decelAxis n (dec n) (b2.axJerk n) false).modMot n (fun m => { m with effs := [ref] })) (b.delGMove e.obj)
    if b1.groupRest e then b1.startLine e
    else b1.setGMove e.obj { next := some e }

/-- A single-axis effect applies to an axis that may take it. -/
def Blk.applyAxis (b : Blk) (n : Nat) (e : Effect) (dm m : Int) : Blk :=
  let x := b.mot n
  let t := b.axTime n
  let ref := (e.epoch, e.idx)
  let l := b.axLim n
  match e.act with
  | 0x30 =>
    let v := le e.ops 4 4
    let mv := startMove t x.sp x.v x.a (sle e.ops 0 4 * 65536) { l with v := if v = 0 then l.v else v * 65536 }
    (b.takeOver n e).modMot n (fun m => { m with plan := .move mv })
  | 0x31 => b.applyTable n e
  | 0x32 =>
    let r : Ratio := ⟨sle e.ops 0 2, le e.ops 2 2⟩
    if x.plan.geared = false ∧ sle e.ops 4 4 = -2147483648 then (b.disarm n).engageNow n r ref
    else if sle e.ops 4 4 = -2147483648 then b.armGear n r m ref dm m
    else b.armGear n r (sle e.ops 4 4) ref dm m
  | 0x33 => (b.takeOver n e).homeStart n (byteAt e.ops 0)
  | 0x34 =>
    if byteAt e.ops 0 = 1 then
      (b.takeOver n e).modMot n (fun m => { m with phaseLost := false, plan := .follow ⟨m.sp, (b.axis n).io.pulses, 0, none⟩ })
    else
      (b.takeOver n e).modMot n (fun m => { m with plan := .stopping (stopCurve t m.sp m.v m.a l.d l.j) false })
  | _ => (b.takeOver n e).modMot n (fun m => { m with plan := .stopping (stopCurve t m.sp m.v m.a l.d l.j) false })

/-- The axis follows its set-point input. -/
def Plan.followed : Plan → Bool
  | .follow _ => true
  | _ => false

/-- A due effect of a single axis (R351, R353, R367, R374). -/
def Blk.dueAxis (b : Blk) (n : Nat) (e : Effect) (dm m : Int) : Blk :=
  let x := b.axis n
  if x.fault ≠ 0 then (if e.act = 0x35 then (b.applied e false).doneNow n e else b.dropEffect e)
  else if e.act = 0x34 ∧ byteAt e.ops 0 = 0 ∧ x.mot.plan.followed = false then (b.applied e false).doneNow n e
  else if e.act = 0x35 then (b.applied e false).applyAxis n e dm m
  else match b.startFault n e with
    | some c => (b.dropEffect e).faultAt n c e.epoch
    | none => (b.applied e false).applyAxis n e dm m

/-- A due GROUP_MOVE: one member that may not take it leaves the whole not applied. -/
def Blk.dueGroup (b : Blk) (e : Effect) : Blk :=
  let axes := b.groupAxes e.obj
  if axes.any (fun n => (b.axis n).fault != 0) then b.dropEffect e
  else if axes.any (fun n => (b.startFault n e).isSome) then
    axes.foldl (fun b n => match b.startFault n e with | some c => b.faultAt n c e.epoch | none => b) (b.dropEffect e)
  else (b.applied e false).applyGroup e

/-- The due effects of the axes sampled now, in epoch and action order (R353); an effect waits for an
earlier one on the same axis (R44).  `dms` are the masters' travels of the sampled axes. -/
def Blk.applyDue (b : Blk) (s : Nat) (due : List Nat) (dms : Nat → Int) : Blk :=
  let rec go : List Effect → List Nat → Blk → Blk
    | [], _, b => b
    | e :: rest, blocked, b =>
      if e.dest = .axs then
        let axes := b.effectAxes e
        if axes.all (fun n => due.contains n && !blocked.contains n) && decide (e.t ≤ s) then
          if e.act = 0x36 then go rest blocked (b.dueGroup e)
          else
            let m := masterPos (b.masterCount (b.masterOf e.obj)) (b.reg (Reg.AXS_MASTER_MOD (b.masterOf e.obj))).toNat
            go rest blocked (b.dueAxis e.obj e (dms e.obj) m)
        else go rest (axes ++ blocked) b
      else go rest blocked b
  go b.fleet.effects [] b

end Sys2Proof.Machine
end

