-- ==== Sys2Proof/Machine/AxisLoop.lean ====
section
/-! DEFINITION. Sys2Proof/Machine/AxisLoop.lean: the loop engine, outputs, current reference and
supervisors (R340-R344, R383-R399), completion, and the sample of an axis as a whole. -/

namespace Sys2Proof.Machine

open Sys2Proof

/-! ## Inputs (R343, R344, R391) -/

/-- Gray code decoded. -/
def grayDecode (v : Nat) : Nat := (List.range 32).foldl (fun a k => a ^^^ (v / 2 ^ (k + 1))) v

/-- The SSI word of a sample (R344): a failed check is fault SSI; else the position follows the change. -/
def Blk.readSsi (b : Blk) (n : Nat) (w : Option Nat) : Blk :=
  let bits := b.fld (Reg.AXS_AX_IO_CFG n) 5 0
  match w with
  | none => (b.modIo n (fun i => { i with ssiBad := true })).encFault n 0x07 5
  | some raw =>
    let v := (if b.flag (Reg.AXS_AX_IO_CFG n) 11 then grayDecode (raw % 2 ^ bits) else raw) % 2 ^ bits
    b.modIo n (fun i => { i with
      ssi := some v, ssiBad := false
      pos := match i.ssi with | some o => wrap32 (i.pos + sdiff bits v o) | none => i.pos })

/-- The deadband of R391 on a value in 1/16 mV. -/
def deadband (u : Int) (band : Nat) : Int :=
  if u.natAbs ≤ band * 16 then 0 else u - u.sign * (band * 16 : Nat)

/-- The set-point input conditioned (R391): U_f in 2^-16 mV, SP_RANGE and the instant it rose. -/
def Blk.readSp (b : Blk) (n : Nat) (u : Int) : Blk :=
  let off := Reg.CTL_AX_SP_CFG n
  let u1 := (deadband (u - b.sfld off 31 16 * 16) (b.fld off 15 8)) * 4096
  let filt := b.fld off 7 4
  let range := decide (10500 * 16 < u.natAbs)
  let io := (b.axis n).io
  b.modIo n (fun i => { i with
    uin := u, uf := if filt = 0 then u1 else i.uf + (u1 - i.uf) / 2 ^ filt
    spRange := range
    spSince := if range && (b.mot n).plan.followed then (if io.spSince = none then some b.elapsed else io.spSince)
      else none })

/-- The pulses counted with SP_MODE 2: up less down, those shorter than PGLITCH × 50 ns rejected (R392). -/
def Blk.pulseSum (b : Blk) (n : Nat) (ps : List PulseRun) : Int :=
  if b.fld (Reg.AXS_AX_CFG n) 5 4 = 2 then
    ((ps.filter (fun p => decide (b.fld (Reg.CTL_AX_SP_CFG n) 3 0 * 50 ≤ p.width))).map
      (fun p => if p.up then (p.count : Int) else -p.count)).sum
  else 0

/-- The encoder counts and pulses of one input record. -/
def Blk.takeCounts (b : Blk) (x : AxisIn) : Blk :=
  let n := x.axis.val
  let k := if b.flag (Reg.AXS_AX_IO_CFG n) 10 then -x.counts else x.counts
  let quad := b.encKind n == 1 || b.encKind n == 2
  b.modIo n (fun i => { i with
    enc := if quad then ((i.enc + k) % 2 ^ 32).toNat else i.enc
    pos := if quad && b.axFeedback n then wrap32 (i.pos + k) else i.pos
    pulses := i.pulses + b.pulseSum n x.pulses, openMask := x.openMask })

/-! ## The loop law (R386-R389) -/

/-- A shadowed parameter in use: `rel` is its register's place in the axis's CTL block (R390). -/
def Blk.useParam (b : Blk) (n rel : Nat) : Word :=
  Tab.val (b.axis n).loop.use rel (regReset (Reg.CTL_AX_CFG n + rel))

/-- The places of the shadowed parameters (R390). -/
def shadowed : List Nat := (List.range 17).map (fun k => 4 * k)

/-- Biquad section enabled. -/
def bqOn (cfg : Word) (q : Nat) : Bool := cfg.getLsbD q

/-- The stored values of a section whose enable bit changes are set to 0 (R387). -/
def bqReset (old new : Word) (bq : List Word) : List Word :=
  (List.range 8).map (fun k => if bqOn old (k / 4) == bqOn new (k / 4) then bq.getD k 0 else 0)

/-- APPLY's copy at a sample instant (R390). -/
def Blk.applyShadow (b : Blk) (n : Nat) : Blk :=
  match (b.axis n).loop.applyAt with
  | none => b
  | some t =>
    if t ≤ b.elapsed then
      let base := Reg.CTL_AX_CFG n
      b.modLoop n (fun l => { l with
        use := shadowed.foldl (fun u k => Tab.put u k (b.reg (base + k))) l.use
        bq := bqReset (b.useParam n 0) (b.reg base) l.bq, applyAt := none })
    else b

/-- The loop state set to 0 and the set-point to the measured position (R389). -/
def Blk.resetLoop (b : Blk) (n : Nat) : Blk :=
  let p := b.axPos n
  Blk.rebase ((b.modMot n (fun m => { m with sp := p * 65536, v := 0, a := 0 })).modLoop n
    (fun l => { l with e := 0, i := 0, bq := [], boost := 0, reset := false })) n

/-- One biquad section (R387): its output and its four stored values x1, x2, y1, y2. -/
def biquad (c : Nat → Word) (st : List Word) (x : Word) : Word × List Word :=
  let x1 := st.getD 0 0
  let x2 := st.getD 1 0
  let y1 := st.getD 2 0
  let y2 := st.getD 3 0
  let y := fpSub (fpSub (fpAdd (fpAdd (fpMul (c 0) x) (fpMul (c 1) x1)) (fpMul (c 2) x2)) (fpMul (c 3) y1))
    (fpMul (c 4) y2)
  (y, [x, x1, y, y1])

/-- u_k of R386, its terms formed and added from the left. -/
def Blk.pidOut (b : Blk) (n : Nat) (e ePrev i : Int) : Word :=
  let p := b.axPeriod n
  let m := b.mot n
  let mul := fun k x => fpMul (b.useParam n k) x
  let t1 := mul 0x04 (fpRound e 65536)
  let t2 := fpMul (fpMul (mul 0x08 (fpRound p 1000000000)) (fpRound i 1)) (fpRound 1 256)
  let t3 := fpMul (mul 0x0C (fpRound (e - ePrev) 65536)) (fpRound 1000000000 p)
  let t4 := mul 0x10 (fpRound m.v 65536)
  let t5 := mul 0x14 (fpRound m.a 65536)
  fpAdd (fpAdd (fpAdd (fpAdd t1 t2) t3) t4) t5

/-- OUT_MAX_eff (R388). -/
def Blk.outMax (b : Blk) (n : Nat) : Word :=
  let m := fieldOf (b.useParam n 0x18) 15 0
  if b.axMode n = 3 then fpRound (min m 1000) 1000 else fpRound m 1

/-- The following error of R386 in 2^-16 units, its integer part modulo 2^32. -/
def followErr (sp pos : Int) : Int := toSigned 48 ((sp - pos * 65536) % 2 ^ 48).toNat

/-- The integrator's wrap (R399): its bit, its count, and a record if the bit was clear. -/
def Blk.integWrap (b : Blk) (n : Nat) : Blk :=
  let off := if n < 32 then Reg.CTL_WRAP_LO else Reg.CTL_WRAP_HI
  let was := b.flag off (n % 32)
  let b1 := (b.setFlag off (n % 32)).bump (Reg.CTL_AX_WRAP_COUNT n)
  if was then b1 else b1.record 0x0702 (leBytes 1 n)

/-- The loop law in the sample (R386-R388, R399). -/
def Blk.loopLaw (b : Blk) (n : Nat) : Blk :=
  let l := (b.axis n).loop
  let e := followErr (b.mot n).sp (b.axPos n)
  let sum := l.i + e / 256
  let i := toSigned 40 (sum % 2 ^ 40).toNat
  let cfg := b.useParam n 0
  let u := b.pidOut n e l.e i
  let s0 := biquad (fun k => b.useParam n (0x1C + 4 * k)) (l.bq.take 4) u
  let w0 := if bqOn cfg 0 then s0.1 else u
  let s1 := biquad (fun k => b.useParam n (0x30 + 4 * k)) ((l.bq.drop 4).take 4) w0
  let w := if bqOn cfg 1 then s1.1 else w0
  let lim := b.outMax n
  let sat := fpLe lim (fpMk false (w.toNat % 2 ^ 31))
  let o := if sat then fpMk (fpSign w) lim.toNat else w
  let bq := (if bqOn cfg 0 then s0.2 else [0, 0, 0, 0]) ++ (if bqOn cfg 1 then s1.2 else [0, 0, 0, 0])
  let b1 := b.modLoop n (fun l => { l with
    e := e, i := i, bq := bq, saturated := sat, on := true, out := if cfg.getLsbD 3 then fpNeg o else o })
  if i = sum then b1 else b1.integWrap n

/-! ## Current reference and boost (R393, R394) -/

/-- The base reference in mV (R393). -/
def Blk.iBase (b : Blk) (n : Nat) : Nat :=
  let dly := b.fld (Reg.CTL_AX_HOLD_DLY n) 15 0
  let run := match (b.mot n).movedAt with
    | some t => decide (b.elapsed ≤ t + dly * 1000000)
    | none => false
  b.fld (Reg.CTL_AX_CUR_CFG n) (if run then 31 else 15) (if run then 16 else 0)

/-- The boost after this sample in 1/32 mV (R393). -/
def Blk.boostNext (b : Blk) (n : Nat) : Nat :=
  let l := (b.axis n).loop
  let per := 2 ^ b.fld (Reg.AXS_AX_CFG n) 18 16
  let load := b.axMode n != 1 && (decide ((b.reg (Reg.CTL_AX_BOOST_E n)).toNat * 65536 < l.e.natAbs) || l.saturated)
  if load && b.flag (Reg.CTL_AX_CFG n) 4 then l.boost + b.fld (Reg.CTL_AX_BOOST_CFG n) 15 8 * per
  else l.boost - b.fld (Reg.CTL_AX_BOOST_CFG n) 7 0 * per

/-- The current reference of the sample (R393, R394): min(base + B, max(base, I_MAX)), 0 without ENA. -/
def Blk.current (b : Blk) (n : Nat) (ena : Bool) : Blk :=
  if ena then
    let base := b.iBase n
    let boost := if b.axMode n = 1 then 0 else b.boostNext n
    let top := b.fld (Reg.CTL_AX_BOOST_CFG n) 31 16
    let ceil := decide (top * 32 ≤ base * 32 + boost) || !b.flag (Reg.CTL_AX_CFG n) 4
    b.modLoop n (fun l => { l with boost := boost, ceil := ceil, iref := min (base + boost / 32) (max base top) })
  else b.modLoop n (fun l => { l with iref := 0 })

/-! ## Steps (R342) -/

/-- DIR_SU or STEP_W in ns. -/
def Blk.ioTime (b : Blk) (n hi lo : Nat) : Nat := b.fld (Reg.AXS_AX_IO_CFG n) hi lo * 25

/-- The instant, in 2^-1 ns after the fleet instant `s` of the sample and rounded to the 2.5 ns clock, of
step `i` of `count` with period `p` and DIR set-up `d` (R342). -/
def stepTime (p d count i : Nat) : Nat :=
  let num := 2 * (p + d) * count + (2 * i + 1) * (p - d)
  5 * ((2 * num + 5 * count) / (10 * count))

/-- The level of the DIR output for steps up or down: DIR_INV reverses it (R382). -/
def Blk.dirLevel (b : Blk) (n : Nat) (up : Bool) : Bool := up != b.flag (Reg.AXS_AX_IO_CFG n) 9

/-- The steps that one period can carry (R342). -/
def Blk.maxSteps (b : Blk) (n d : Nat) : Nat :=
  let p := b.axPeriod n - d
  min (p * 4 / 1000) (p / (2 * max 1 (b.ioTime n 31 24)))

/-- The steps of the sample (R342, R388): the rest of a change too fast for one period is emitted later. -/
def Blk.emitSteps (b : Blk) (n s : Nat) (ena : Bool) : Blk :=
  let l := (b.axis n).loop
  let o := if b.axMode n = 2 && l.on then fpFloor l.out 65536 else 0
  let cmd := b.stepCmd n (b.mot n).sp o
  if (b.axMode n = 1 ∨ b.axMode n = 2) ∧ ena = true then
    let diff := cmd - l.emitted
    let up := if diff = 0 then l.dir else decide (0 < diff)
    let d := if up = l.dir then 0 else b.ioTime n 23 16
    let cap : Int := b.maxSteps n d
    let k := clampInt (-cap) cap diff
    let b1 := b.modLoop n (fun l => { l with emitted := l.emitted + k, nOut := k, dir := up })
    if k = 0 then b1 else b1.emit (.steps n (b.dirLevel n up) k.natAbs (s + b.axPeriod n) d (b.axPeriod n))
  else b.modLoop n (fun l => { l with emitted := cmd, nOut := 0 })

/-! ## Supervisors and completion -/

/-- |e| exceeds FE_LIM (R395). -/
def Blk.feOver (b : Blk) (n : Nat) : Bool :=
  decide ((b.reg (Reg.CTL_AX_FE_LIM n)).toNat * 65536 < (b.axis n).loop.e.natAbs)

/-- A supervisor's start: kept while its condition holds in every sample, else none. -/
def since (now : Nat) (cond : Bool) (was : Option Nat) : Option Nat :=
  if cond then (match was with | some t => some t | none => some now) else none

/-- The supervisors' times in the sample (R395, R396). -/
def Blk.supervise (b : Blk) (n : Nat) : Blk :=
  let run := b.axFeedback n && (b.axis n).loop.on
  let isOver := run && b.feOver n
  b.modLoop n (fun l => { l with
    feSince := since b.elapsed isOver l.feSince, feDone := l.feDone && isOver
    stallSince := since b.elapsed (isOver && l.ceil) l.stallSince, stallDone := l.stallDone && isOver && l.ceil })

/-- The motion's set-point has reached its end (R355). -/
def Blk.atEnd (b : Blk) (n : Nat) : Bool :=
  let t := b.axTime n
  match (b.mot n).plan with
  | .rest => (b.mot n).goal
  | .move mv => mv.after.isNone && mv.c.isOver t
  | .table p => p.ended
  | .group g => !(b.gmove g).slowing && (b.gmove g).c.isOver t
  | .home h => h.phase == .final && h.c.isOver t
  | _ => false

/-- The INPOS count of the sample, and the completion of a motion of the axis alone (R355). -/
def Blk.inPosition (b : Blk) (n : Nat) : Blk :=
  let m := b.mot n
  let near := b.atEnd n && decide ((b.axPos n - m.sp / 65536).natAbs ≤ b.inposLim n)
  let k := if near then m.inPosN + 1 else 0
  let ok := decide (b.fld (Reg.AXS_AX_INPOS n) 31 16 ≤ k)
  let b1 := b.modMot n (fun m => { m with inPosN := k, inPos := ok })
  if ok then
    match m.plan with
    | .move _ => b1.completeAxis n
    | .table _ => b1.completeAxis n
    | .home _ => (b1.completeAxis n).modMot n (fun m => { m with homed := true })
    | _ => b1
  else b1

/-- Group `g` completes when every member is in position (R355). -/
def Blk.groupDone (b : Blk) (g : Nat) : Blk :=
  let x := b.gmove g
  if x.members ≠ [] ∧ x.slowing = false ∧ x.members.all (fun m => (b.mot m.axis).inPos && b.atEnd m.axis) then
    (x.members.foldl (fun b m => b.completeAxis m.axis) b).delGMove g
  else b

/-- The standstill test of the sample (R376). -/
def Blk.stillTest (b : Blk) (n : Nat) (before : Int) : Blk :=
  b.modMot n (fun m => { m with
    restBefore := m.v == 0
    still := m.v == 0 && m.restBefore && decide ((b.axPos n - before).natAbs ≤ b.inposLim n)
    movedAt := if m.v = 0 then m.movedAt else some b.elapsed })

/-- AXS's report to Dovetail at the end of the sample (R354): the stopping point at DEC. -/
def Blk.reportAxis (b : Blk) (n : Nat) : Blk :=
  let m := b.mot n
  let l := b.axLim n
  let stop := m.sp + m.v.sign * segsDist (stopSegs m.v.natAbs (m.v.sign * m.a) l.d l.j)
  b.modDvt (fun d => { d with
    reports := Tab.put d.reports n ⟨m.sp / 65536, (if m.v = 0 then m.sp else stop) / 65536, (b.axis n).fault != 0⟩ })

/-! ## The sample (R383) -/

/-- Axis `n` is due at instant `s`: not DISABLED, at a multiple of its period, not yet sampled then. -/
def Blk.axDue (b : Blk) (s n : Nat) : Bool :=
  b.axMode n != 0 && s % b.axPeriod n == 0 && (b.axis n).sampled != some s

/-- The input record of an axis, all zero where none is given. -/
def inputOf (ins : List AxisIn) (n : Nat) : AxisIn :=
  match ins.find? (fun x => x.axis.val == n) with
  | some x => x
  | none => ⟨0, 0, none, 0, [], 0⟩

/-- How long a sample's position is kept, in ns: FILT reaches back 2.55 ms, and a sample period is 1 ms at most (R345). -/
def histSpan : Nat := 4000000

/-- The position measured at this sample kept for the edges dated around it (R345). -/
def Blk.keepPos (b : Blk) (n : Nat) : Blk :=
  let p := b.axPos n
  b.modIo n (fun i => { i with hist := i.hist.filter (fun q => decide (b.elapsed < q.1 + histSpan)) ++ [(b.elapsed, p)] })

/-- The first part of an axis's sample: shadow copy, SSI, set-point input, loop reset and hold. -/
def Blk.sampleIn (s : Nat) (ins : List AxisIn) (b : Blk) (n : Nat) : Blk :=
  let x := inputOf ins n
  let b1 := (b.setAxis n { b.axis n with sampled := some s }).applyShadow n
  let b2 := if b1.encKind n = 3 then b1.readSsi n x.ssi else b1
  let b3 := if b2.fld (Reg.AXS_AX_CFG n) 5 4 = 1 then b2.readSp n x.uin else b2
  let ena := b3.axEna n
  let l := (b3.axis n).loop
  let idle := (b3.mot n).plan == .rest && !ena
  let b4 := if l.reset || (ena && !l.ena) || idle then b3.resetLoop n else b3
  (b4.keepPos n).modLoop n (fun l => { l with ena := ena, on := false, ovr := false })

/-- The last part: loop, current, steps, supervisors, completion, standstill, report. -/
def Blk.sampleOut (s : Nat) (before : Nat → Int) (b : Blk) (n : Nat) : Blk :=
  let ena := b.axEna n
  let b1 := if b.axFeedback n && ena then b.loopLaw n else b
  let b2 := b1.stillTest n (before n)
  (((b2.current n ena).emitSteps n s ena).supervise n).inPosition n |>.reportAxis n

/-- The moving groups at the sample: their path, and the end of a slow-down with its turn-arounds. -/
def Blk.groupPath (due : List Nat) (b : Blk) (g : Nat) : Blk :=
  let x := b.gmove g
  match x.members with
  | m :: _ =>
    if due.contains m.axis then
      let p := x.c.at (b.axTime m.axis)
      b.setGMove g { x with u := p.1, v := p.2.1, a := p.2.2 }
    else b
  | [] => b

/-- A group that has come to rest on its path (R370): after a retarget TURN of each member that moved, then the waiting line or
rest. -/
def Blk.groupTurn (due : List Nat) (b : Blk) (g : Nat) : Blk :=
  let x := b.gmove g
  match x.members with
  | [] => match x.next with
    | some e => if b.groupRest e && (b.groupAxes g).all due.contains then b.startLine e else b
    | none => b
  | m :: _ =>
    if due.contains m.axis && x.slowing && x.c.isOver (b.axTime m.axis) then
      let b1 := (x.members.filter (fun k => x.turning.isSome && k.d != 0)).foldl (fun b k =>
        let p := (b.mot k.axis).sp / 65536
        (b.axsItem k.axis 1 p (x.turning.getD 0)).modMot k.axis (fun m => { m with turn := p })) b
      let b2 := x.members.foldl (fun b k => b.modMot k.axis (fun m => { m with plan := .rest, v := 0, a := 0 })) b1
      match x.next with
      | some e => if b2.groupRest e then b2.startLine e else b2.setGMove g { next := some e }
      | none => b2.delGMove g
    else b

/-- The set-point of the apply sample under a motion that took over in it (R20, R353): a curve begins at the sample instant; an
analogue input moves the set-point of the sample before, `prev`, on. -/
def Blk.beginMotion (prev : AxMot) (b : Blk) (n : Nat) : Blk :=
  let set (b : Blk) (c : Curve) : Blk :=
    let x := c.at (b.axTime n)
    b.modMot n (fun m => { m with sp := x.1, v := x.2.1, a := x.2.2 })
  match (b.mot n).plan with
  | .move mv => set b mv.c
  | .stopping c _ => set b c
  | .home h => set b h.c
  | .group g => b.onPath n g
  | .rest => b.modMot n (fun m => { m with v := 0, a := 0 })
  | .follow p =>
    if prev.plan.followed || b.fld (Reg.AXS_AX_CFG n) 5 4 != 1 then b
    else (b.modMot n (fun m => { m with sp := prev.sp, v := prev.v, a := prev.a })).following n p
  | _ => b

/-- Every motion that took over in the sample, the axes' and the groups' (R20); `prev` are the axes before the sample, `was` the
block before its effects and the lines that waited for rest. -/
def Blk.beginMotions (due : List Nat) (prev : Nat → AxMot) (was b : Blk) : Blk :=
  let b1 := (List.range 8).foldl (fun b g => if was.gmove g = b.gmove g then b else b.groupPath due g) b
  (due.filter (fun n => (b1.mot n).plan != (was.mot n).plan)).foldl (fun b n => b.beginMotion (prev n) n) b1

/-- The pairs of the groups in a Stop-1 ramp that are at standstill turn off (R183, R376). -/
def Blk.standstills (b : Blk) : Blk :=
  (List.range 12).foldl (fun b g =>
    if b.group g = .ramp ∧ b.standstill g = true then b.setGroup g .off else b) b

/-- The engine time of axis `n` in 0.01 µs per sample (R385). -/
def Blk.axCost (b : Blk) (n : Nat) : Nat :=
  (match (b.mot n).plan with
    | .rest => 5 | .table _ => 40 | .gear _ => 25 | .follow _ => 25 | _ => 30)
  + (if b.axFeedback n then 15 else 0)
  + (if b.axFeedback n then 4 * popCount 2 (fieldOf (b.useParam n 0) 1 0) else 0)
  + (if b.encKind n = 3 then 5 else 0)

/-- CTL_STATUS.LOAD (R385, R402): the engine time used, in percent. -/
def Blk.loopLoad (b : Blk) : Nat :=
  min 255 (((List.range 48).map (fun n =>
    if b.axMode n = 0 then 0 else b.axCost n * 1000 * 32 / 2 ^ b.fld (Reg.AXS_AX_CFG n) 18 16)).sum / 10000 / 100)

/-- The load peak since it was last read (R401). -/
def Blk.loadPeak (b : Blk) : Blk :=
  b.setReg Reg.CTL_LOAD_PEAK (word (max (b.reg Reg.CTL_LOAD_PEAK).toNat b.loopLoad))

/-- AXIS_SAMPLE at instant `s` (R353-R355, R383): inputs; every due axis's motion; due effects, whose motions produce the
set-points of this sample (R20, R353); outputs. -/
def Blk.axisSample (s : Nat) (ins : List AxisIn) (b0 : Blk) : Blk :=
  let b := b0.moveTo s
  let due := (List.range 48).filter (b.axDue s)
  let before := fun n => b.axPos n
  let b1 := ins.foldl Blk.takeCounts b
  let b2 := due.foldl (Blk.sampleIn s ins) b1
  let dms := fun n => b2.masterCount (b2.masterOf n) - (b1.axis n).io.master
  let b3 := due.foldl (fun b n => b.modIo n (fun i => { i with master := b.masterCount (b.masterOf n) })) b2
  let b4 := (List.range 8).foldl (Blk.groupPath due) b3
  let b5 := due.foldl (fun b n =>
    let mp := masterPos (b.masterCount (b.masterOf n)) (b.reg (Reg.AXS_MASTER_MOD (b.masterOf n))).toNat
    let dm := wrap32 (dms n)
    (((b.tryArm n dm mp).axAdvance n dm).softWatch n).drainInbox n) b4
  let b6 := (List.range 8).foldl (Blk.groupTurn due) b5
  let b7 := b6.applyDue s due (fun n => wrap32 (dms n))
  let b8 := due.foldl (Blk.sampleOut s before) (b7.beginMotions due (fun n => b4.mot n) b5)
  let b9 := ((List.range 8).foldl Blk.groupDone b8).standstills.loadPeak
  (b9.coalesce b9.axs.completed (watermark b9.fleet.effects b9.fleet.epoch .axs) s).modAxs
    (fun x => { x with completed := 0 })

end Sys2Proof.Machine
end

