-- ==== Sys2Proof/Machine/AxisCmd.lean ====
section
/-! DEFINITION. Sys2Proof/Machine/AxisCmd.lean: the commands of the axes: samples and overruns, input edges
and encoder faults, supervisor expiries, output faults, tables and the AXS descriptors (R343-R398). -/

namespace Sys2Proof.Machine

open Sys2Proof

/-! ## Samples -/

/-- AXIS_SAMPLE (R353-R355, R383). -/
def execAxisSample (t : Nat) (ins : List AxisIn) : State → Host.Outcome State Fault Refusal :=
  onIsland .axs (fun b => b.axisSample t ins)

/-- Axis `n` misses the sample of instant `s` (R398): its outputs repeat; a second miss in a row is fault OVERRUN. -/
def Blk.overrunAt (b : Blk) (s n : Nat) : Blk :=
  if b.axMode n = 0 then b
  else
    let was := (b.axis n).loop.ovr
    let k := (b.axis n).loop.nOut
    let b1 := ((b.setAxis n { b.axis n with sampled := some s }).modLoop n
      (fun l => { l with ovr := true, emitted := l.emitted + k })).modAxs (fun x => { x with ovrAt := some b.elapsed })
    let b2 := if k = 0 then b1
      else b1.emit (.steps n (b1.dirLevel n (b1.axis n).loop.dir) k.natAbs (s + b.axPeriod n) 0 (b.axPeriod n))
    let b3 := (b2.bump (Reg.CTL_AX_OVR_COUNT n)).setFlag (if n < 32 then Reg.CTL_OVR_LO else Reg.CTL_OVR_HI) (n % 32)
    if was then b3.raiseFault n 0x12 else b3

/-- SAMPLE_OVERRUN of axis `n` in the sample of instant `s` (R398). -/
def Blk.overrun (b : Blk) (s n : Nat) : Blk := (b.moveTo s).overrunAt s n

/-- SAMPLE_OVERRUN (R398). -/
def execSampleOverrun (t : Nat) (axis : Axis48) : State → Host.Outcome State Fault Refusal :=
  onIsland .axs (fun b => b.overrun t axis.val)

/-! ## Inputs and encoders (R343-R346) -/

/-- An input's qualified state (R345). -/
def AxIo.input (i : AxIo) (which : Nat) : Bool := match which with | 0 => i.limp | 1 => i.limn | _ => i.home

/-- An input's qualified state set. -/
def AxIo.setInput (i : AxIo) (which : Nat) (v : Bool) : AxIo :=
  match which with
  | 0 => { i with limp := v }
  | 1 => { i with limn := v }
  | _ => { i with home := v }

/-- The elapsed instant to which an input's edge qualified now is dated: the start of its stable period (R345). -/
def Blk.edgeDate (b : Blk) (n : Nat) : Nat := b.elapsed - b.fld (Reg.AXS_AX_IN_CFG n) 15 8 * 10000

/-- LIMIT_INPUT_EDGE at instant `t` (R345, R346): the raw level has been held for FILT.  The transition that completes CHAT_N
in the window is fault CHATTER and nothing else. -/
def Blk.inputEdge (b0 : Blk) (t n which : Nat) (level : Bool) : Blk :=
  let b := b0.moveTo t
  let cfg := Reg.AXS_AX_IN_CFG n
  let active := level != b.flag cfg (3 + which)
  let io := (b.axis n).io
  if !b.flag cfg which || io.input which == active then b
  else
    let win := b.fld cfg 23 16 * 1000000
    let edges := (io.edges.filter (fun e => decide (b.elapsed < e.2 + win))) ++ [(which, b.elapsed)]
    let count := (edges.filter (fun e => e.1 == which)).length
    let lim := b.fld cfg 31 24
    let b1 := (b.modIo n (fun i => { i.setInput which active with edges := edges })).bump (Reg.AXS_AX_CHAT_COUNT n)
    if count = lim then b1.postFault n 0x04
    else if lim < count then b1
    else b1.modIo n (fun i => { i with inbox := i.inbox ++ [.input which active (b.edgeDate n)] })

/-- LIMIT_INPUT_EDGE (R345-R347). -/
def execLimitInputEdge (t : Nat) (axis : Axis48) (which : Fin 3) (level : Bool) : State → Host.Outcome State Fault Refusal :=
  onIsland .axs (fun b => b.inputEdge t axis.val which.val level)

/-- Z_EDGE_CAPTURE at instant `t` with its count (R343, R345): taken with QUAD_Z. -/
def Blk.zEdge (b0 : Blk) (t n : Nat) (pos : Int) : Blk :=
  let b := b0.moveTo t
  if b.encKind n = 2 then
    (b.modIo n (fun i => { i with inbox := i.inbox ++ [.z pos] })).modMot n (fun m => { m with zSeen := true })
  else b

/-- Z_EDGE_CAPTURE (R343). -/
def execZEdgeCapture (t : Nat) (axis : Axis48) (pos : Int) : State → Host.Outcome State Fault Refusal :=
  onIsland .axs (fun b => b.zEdge t axis.val pos)

/-- ENCODER_QUAD_ERROR (R343): WIRE.QUAD_ERR, its count, fault ENC_QUAD. -/
def Blk.quadError (b : Blk) (n : Nat) : Blk :=
  if b.encKind n = 1 ∨ b.encKind n = 2 then (b.bump (Reg.AXS_AX_QERR_COUNT n)).encFault n 0x06 4 else b

/-- ENCODER_QUAD_ERROR (R343, R350). -/
def execEncoderQuadError (axis : Axis48) : State → Host.Outcome State Fault Refusal :=
  onIsland .axs (fun b => b.quadError axis.val)

/-- ENCODER_OPEN_WIRE of pair A (0), B (1) or Z (2) (R343): Z is monitored only with QUAD_Z, and no pair
without an encoder or with SSI's clock on B. -/
def Blk.openWire (b : Blk) (n pair : Nat) : Blk :=
  if b.encKind n = 2 ∨ (b.encKind n = 1 ∧ pair < 2) then
    (b.modIo n (fun i => { i with openMask := setBit i.openMask pair })).encFault n 0x05 (1 + pair)
  else b

/-- ENCODER_OPEN_WIRE (R343, R350). -/
def execEncoderOpenWire (axis : Axis48) (pair : Fin 3) : State → Host.Outcome State Fault Refusal :=
  onIsland .axs (fun b => b.openWire axis.val pair.val)

/-! ## Supervisors and outputs (R391, R395, R396, R541) -/

/-- A supervisor's time is over at the present instant. -/
def Blk.expired (b : Blk) (start : Option Nat) (ms : Nat) : Bool :=
  match start with
  | some t => decide (t + ms * 1000000 ≤ b.elapsed)
  | none => false

/-- STALL_T has expired (R396). -/
def Blk.stallDue (b : Blk) (n : Nat) : Bool :=
  let l := (b.axis n).loop
  b.expired l.stallSince (b.fld (Reg.CTL_AX_TIMERS n) 15 0) && !l.stallDone

/-- FE_T has expired (R395). -/
def Blk.feDue (b : Blk) (n : Nat) : Bool :=
  let l := (b.axis n).loop
  b.expired l.feSince (b.fld (Reg.CTL_AX_TIMERS n) 31 16) && !l.feDone

/-- STALL_EXPIRY at a sample instant (R396): a FOLLOW_ERR expiry of the same sample is used up. -/
def Blk.stallExpiry (b0 : Blk) (t n : Nat) : Blk :=
  let b := b0.moveTo t
  if b.stallDue n then
    let fe := b.feDue n
    (b.modLoop n (fun l => { l with stallDone := true, feDone := l.feDone || fe })).raiseFault n 0x11
  else b

/-- STALL_EXPIRY (R396, R397). -/
def execStallExpiry (t : Nat) (axis : Axis48) : State → Host.Outcome State Fault Refusal :=
  onIsland .axs (fun b => b.stallExpiry t axis.val)

/-- FOLLOW_ERROR_EXPIRY at a sample instant (R395): where the stall time expires in the same sample only
STALL arises (R396). -/
def Blk.feExpiry (b0 : Blk) (t n : Nat) : Blk :=
  let b := b0.moveTo t
  if b.stallDue n then b.stallExpiry t n
  else if b.feDue n then (b.modLoop n (fun l => { l with feDone := true })).raiseFault n 0x10
  else b

/-- FOLLOW_ERROR_EXPIRY (R395, R397). -/
def execFollowErrorExpiry (t : Nat) (axis : Axis48) : State → Host.Outcome State Fault Refusal :=
  onIsland .axs (fun b => b.feExpiry t axis.val)

/-- SP_RANGE_EXPIRY (R391): SP_RANGE has stayed 1 for 10 ms while following. -/
def Blk.spExpiry (b0 : Blk) (t n : Nat) : Blk :=
  let b := b0.moveTo t
  if b.expired (b.axis n).io.spSince 10 && (b.mot n).plan.followed then b.raiseFault n 0x13 else b

/-- SP_RANGE_EXPIRY (R391, R397). -/
def execSpRangeExpiry (t : Nat) (axis : Axis48) : State → Host.Outcome State Fault Refusal :=
  onIsland .axs (fun b => b.spExpiry t axis.val)

/-- An output fault (R350, R541): WIRE.OUT_FAULT and fault OUTPUT; `off` when the output is switched off. -/
def Blk.outputFault (b : Blk) (n : Nat) (off : Bool) : Blk :=
  ((b.modIo n (fun i => { i with outOff := i.outOff || off })).setFlag (Reg.AXS_AX_WIRE n) 6).raiseFault n 0x08

/-- OUTPUT_CURRENT_LIMIT (R541). -/
def execOutputCurrentLimit (axis : Axis48) : State → Host.Outcome State Fault Refusal :=
  onIsland .axs (fun b => b.outputFault axis.val true)

/-- OUTPUT_OVERVOLTAGE (R541). -/
def execOutputOvervoltage (axis : Axis48) : State → Host.Outcome State Fault Refusal :=
  onIsland .axs (fun b => b.outputFault axis.val false)

/-- A write of CTL_AXn_CFG (R390, R402): its fields, and APPLY, which stays 1 until the copy. -/
def Blk.writeCtlCfg (b : Blk) (n : Nat) (w : Word) : Blk :=
  let off := Reg.CTL_AX_CFG n
  let b1 := b.applyFields off w (fun _ _ => true)
    [⟨5, 5, .rw, .any, "FE_REACT"⟩, ⟨4, 4, .rw, .any, "BOOST_EN"⟩, ⟨3, 3, .rw, .any, "OUT_INV"⟩, ⟨1, 0, .rw, .any, "BQ_EN"⟩]
  if w.getLsbD 8 then
    b1.modLoop n (fun l => { l with applyAt := match l.applyAt with | some t => some t | none => some (b.elapsed + 1000) })
  else b1

/-- CTL_APPLY: CTL_AXn_CFG written with APPLY = 1 (R390). -/
def execCtlApply (axis : Axis48) (w : Word) : State → Host.Outcome State Fault Refusal :=
  onIsland .axs (fun b => if b.inSvc then b.writeCtlCfg axis.val (w ||| 0x100) else b)

/-! ## Segment tables (R358-R360) -/

/-- The table replaced. -/
def Blk.setTable (b : Blk) (i : Nat) (t : SegTable) : Blk :=
  b.modAxs (fun x => { x with tables := Tab.put x.tables i t })

/-- The lowest axis whose unfinished effect names table `i` (R360). -/
def Blk.tableUser (b : Blk) (i : Nat) : Option Nat :=
  (List.range 48).find? (fun n => b.dvt.unfinished.any (fun e => e.act == 0x31 && e.obj == n && le e.ops 0 2 == i))

/-- AXS_TABLE_LOAD (R360): the table becomes LOADING, or is busy. -/
def Blk.tableLoad (d : Desc) (b : Blk) : Blk :=
  let i := d.op 0x24 2
  if d.op 0x18 8 % 8 ≠ 0 then b.bad d.id 0x0B 0x18
  else if 256 ≤ i then b.bad d.id 0x09 0x24
  else match b.tableUser i with
    | some n => b.complete d.id 0x21 n
    | none => b.setTable i { loading := (b.table i).loading ++ [(d.id, d.op 0x20 4)] }

/-- AXS_TABLE_LOAD (R360, R379). -/
def execAxsTableLoad (d : Desc) : State → Host.Outcome State Fault Refusal :=
  onIsland .axs (fun b => b.start d (Blk.tableLoad d))

/-- The knots of an image (R358). -/
def imageKnots (img : Bytes) : List Knot :=
  (List.range (le img 6 2)).map (fun k => ⟨sle img (20 + 12 * k) 4, sle img (24 + 12 * k) 4, le img (16 + 12 * k) 4⟩)

/-- The byte offset of the first knot field out of range (R358). -/
def badKnot (ks : List Knot) : Option Nat :=
  (ks.zipIdx.find? (fun p => if p.2 = 0 then p.1.dt != 0 else decide (p.1.dt < 32 ∨ 4000000000 < p.1.dt))).map
    (fun p => 16 + 12 * p.2)

/-- The byte offset of the first failing field of an image of `size` bytes (R359). -/
def tableFault (img : Bytes) (size : Nat) : Option Nat :=
  let n := le img 6 2
  let ks := imageKnots img
  let last := 16 + 12 * (n - 1)
  if le img 0 4 ≠ 0x544C5354 then some 0
  else if le img 4 2 ≠ 1 then some 4
  else if n < 2 ∨ 4096 < n then some 6
  else if size ≠ 16 + 12 * n then some 6
  else if (crc32c (slice img 0 12 ++ zeros 4 ++ slice img 16 (12 * n))).toNat ≠ le img 12 4 then some 12
  else match badKnot ks with
    | some o => some o
    | none =>
      if bitOf (le img 8 2) 0 then
        match ks.head?, ks.getLast? with
        | some a, some z => if a.pos ≠ z.pos then some (last + 4) else if a.vel ≠ z.vel then some (last + 8) else none
        | _, _ => none
      else none

/-- The knots of the pool in use: (first, count) of every valid table (R359). -/
def Blk.poolUse (b : Blk) : List (Nat × Nat) :=
  (b.axs.tables.filter (fun p => p.2.valid)).map (fun p => (p.2.first, p.2.knots.length))

/-- The free run that starts at a knot. -/
def freeRun (use : List (Nat × Nat)) (start : Nat) : Nat :=
  if use.any (fun u => decide (u.1 ≤ start ∧ start < u.1 + u.2)) then 0
  else (use.filter (fun u => start ≤ u.1)).foldl (fun m u => min m (u.1 - start)) (65536 - start)

/-- The knots at which a free run may start. -/
def runStarts (use : List (Nat × Nat)) : List Nat := 0 :: use.map (fun u => u.1 + u.2)

/-- The first run that holds `n` knots (R359). -/
def firstFit (use : List (Nat × Nat)) (n : Nat) : Option Nat :=
  ((runStarts use).filter (fun s => decide (n ≤ freeRun use s))).foldl
    (fun m s => match m with | some x => some (min x s) | none => some s) none

/-- The longest free run (R380). -/
def longestRun (use : List (Nat × Nat)) : Nat := ((runStarts use).map (freeRun use)).foldl max 0

/-- TABLE_VALIDATED: the image of the oldest load of table `i` has been read (R359, R360). -/
def Blk.tableValidated (b : Blk) (i : Nat) (img : Bytes) : Blk :=
  let t := b.table i
  match t.loading with
  | [] => b
  | (id, size) :: rest =>
    let ks := imageKnots img
    match tableFault img size with
    | some o => (b.setTable i { loading := rest }).complete id 0x20 o
    | none =>
      let use := (b.setTable i { loading := rest }).poolUse
      match firstFit use ks.length with
      | none => (b.setTable i { loading := rest }).complete id 0x22 (longestRun use)
      | some f =>
        (b.setTable i { valid := true, loading := rest, first := f, cyclic := bitOf (le img 8 2) 0, knots := ks
                        posMin := (tableExtremes ks).1, posMax := (tableExtremes ks).2, vPeak := tablePeak ks }).done id f

/-- TABLE_VALIDATED (R359). -/
def execTableValidated (table : Table256) (image : Bytes) : State → Host.Outcome State Fault Refusal :=
  onIsland .axs (fun b => b.tableValidated table.val image)

/-- AXS_TABLE_FREE (R360). -/
def Blk.tableFree (d : Desc) (b : Blk) : Blk :=
  let i := d.op 0x18 2
  if 256 ≤ i then b.bad d.id 0x09 0x18
  else match b.tableUser i with
    | some n => b.complete d.id 0x21 n
    | none => (b.setTable i { loading := (b.table i).loading }).done d.id

/-- AXS_TABLE_FREE (R360, R379). -/
def execAxsTableFree (d : Desc) : State → Host.Outcome State Fault Refusal :=
  onIsland .axs (fun b => b.start d (Blk.tableFree d))

/-! ## Faults cleared, positions set, axes read (R351, R379) -/

/-- The cause of an axis's fault has ended (R351, R397). -/
def Blk.causeEnded (b : Blk) (n : Nat) : Bool :=
  let x := b.axis n
  let io := x.io
  let m := b.mot n
  let win := b.fld (Reg.AXS_AX_IN_CFG n) 23 16 * 1000000
  let recent (w : Nat) : Nat := (io.edges.filter (fun e => e.1 == w && decide (b.elapsed < e.2 + win))).length
  let src := b.fld (Reg.AXS_MASTER_CFG (b.masterOf n)) 5 0
  m.v == 0 && m.plan == .rest && (match x.fault with
    | 0x04 => (List.range 3).all (fun w => decide (recent w < b.fld (Reg.AXS_AX_IN_CFG n) 31 24))
    | 0x05 => io.openMask == 0
    | 0x07 => !io.ssiBad
    | 0x0D => (b.axis src).io.openMask == 0
    | 0x10 => !b.feOver n
    | 0x11 => !b.feOver n
    | 0x13 => !io.spRange
    | _ => true)

/-- AXS_FAULT_CLEAR (R351): an output switched off comes back (R541). -/
def Blk.faultClear (d : Desc) (b : Blk) : Blk :=
  let mask := d.op 0x18 8
  if 2 ^ 48 ≤ mask then b.bad d.id 0x0B 0x18
  else
    let ns := (List.range 48).filter (fun n => bitOf mask n && (b.axis n).fault != 0 && b.causeEnded n)
    (ns.foldl (fun b n =>
      b.setAxis n { b.axis n with fault := 0, severity := 0, faultAt := none, io := { (b.axis n).io with outOff := false } })
      b).done d.id ns.length

/-- AXS_FAULT_CLEAR (R351, R379). -/
def execAxsFaultClear (d : Desc) : State → Host.Outcome State Fault Refusal :=
  onIsland .axs (fun b => b.start d (Blk.faultClear d))

/-- An axis is IDLE (R349). -/
def Blk.axIdle (b : Blk) (n : Nat) : Bool := b.axMode n != 0 && (b.axis n).fault == 0 && (b.mot n).plan == .rest

/-- AXS_SET_POS (R379, R389): measured position and set-point move together; HOMED is cleared (R374). -/
def Blk.setPos (d : Desc) (b : Blk) : Blk :=
  let n := d.op 0x18 1
  if b.nAxes ≤ n then b.bad d.id 0x09 0x18
  else if d.op 0x19 3 ≠ 0 then b.bad d.id 0x04 0x19
  else if !b.axIdle n || b.axisBusy n != 0 then b.complete d.id 0x23 n
  else if (match b.fleet.map with | some m => m.swings.any (fun s => s.axis == n) | none => false) then
    b.complete d.id 0x24 n
  else ((b.shiftPos n (sle d.bytes 0x1C 4 - b.axPos n)).modMot n (fun m => { m with homed := false, goal := false })).done d.id

/-- AXS_SET_POS (R379). -/
def execAxsSetPos (d : Desc) : State → Host.Outcome State Fault Refusal :=
  onIsland .axs (fun b => b.start d (Blk.setPos d))

/-- AXS_AXn_STATUS.STATE (R349). -/
def Blk.axState (b : Blk) (n : Nat) : Nat :=
  if b.axMode n = 0 then 0
  else if (b.axis n).fault ≠ 0 then 8
  else match (b.mot n).plan with
    | .rest => 1 | .move _ => 2 | .group _ => 2 | .table _ => 3 | .gear _ => 4 | .follow _ => 5 | .home _ => 6
    | .stopping _ _ => 7

/-- AXS_AXn_STATUS [15:0] (R382). -/
def Blk.axFlags (b : Blk) (n : Nat) : Nat :=
  let m := b.mot n
  let io := (b.axis n).io
  b2n m.homed * 2 ^ 15 + b2n m.inPos * 2 ^ 14 + b2n m.delayed * 2 ^ 13 + b2n m.arm.isSome * 2 ^ 12
    + b2n m.armLate * 2 ^ 11 + b2n m.phaseLost * 2 ^ 10 + b2n io.limp * 2 ^ 9 + b2n io.limn * 2 ^ 8
    + b2n io.home * 2 ^ 7 + b2n m.zSeen * 2 ^ 6

/-- One record of AXS_READ (R379). -/
def Blk.axRecord (b : Blk) (n : Nat) : Bytes :=
  let m := b.mot n
  leBytes 1 (b.axState n) ++ leBytes 1 (b.axis n).fault ++ leBytes 2 (b.axFlags n) ++ sleBytes 4 (b.axPos n)
    ++ sleBytes 4 (m.sp / 65536) ++ sleBytes 4 (m.v / 65536) ++ sleBytes 4 m.turn ++ sleBytes 4 m.latch
    ++ leBytes 8 (ft64 (match b.axMode n, (b.axis n).sampled with | 0, _ => b.now / b.axPeriod n * b.axPeriod n | _, s => s.getD b.now))

/-- AXS_READ (R379). -/
def Blk.axsRead (d : Desc) (b : Blk) : Blk :=
  let addr := d.op 0x18 8
  if addr % 64 ≠ 0 then b.bad d.id 0x0B 0x18
  else (b.emit (.hostWrite addr ((List.range 48).flatMap b.axRecord))).completeAt d.id St.done 0
    (watermark b.fleet.effects b.fleet.epoch .axs) b.nowFt64

/-- AXS_READ (R379). -/
def execAxsRead (d : Desc) : State → Host.Outcome State Fault Refusal :=
  onIsland .axs (fun b => b.start d (Blk.axsRead d))

/-! ## Register conditions (R341, R363, R368) -/

/-- R341: the axis is DISABLED or IDLE and holds no unfinished effect; `pair` adds that its pair is not ON. -/
def Blk.axWritable (b : Blk) (n : Nat) (pair : Bool) : Bool :=
  (b.axMode n == 0 || b.axIdle n) && b.axisBusy n == 0 && !(pair && b.group (n / 4) == .on)

/-- A change of MODE accepted (R349, R389): to OFF it clears HOMED; the loop state is reset. -/
def Blk.modeChanged (b : Blk) (n old : Nat) : Blk :=
  if b.axMode n = old then b
  else
    let b1 := if b.axMode n = 0 then
        (b.setAxis n { b.axis n with fault := 0, severity := 0 }).modMot n
          (fun m => { m with homed := false, inPos := false, goal := false })
      else b
    b1.resetLoop n

/-- A group-mask write may take its value (R368): at most 6 axes, none of another group, one SAMPLE, and
every present or named axis IDLE or DISABLED. -/
def Blk.maskOk (b : Blk) (g mask : Nat) : Bool :=
  let named := (List.range 48).filter (bitOf mask)
  let present := b.groupAxes g
  let others := ((List.range 8).filter (fun k => k != g)).flatMap b.groupAxes
  decide (named.length ≤ 6) && !named.any others.contains
    && (match named with | [] => true | a :: rest => rest.all (fun n => b.axPeriod n == b.axPeriod a))
    && (named ++ present).all (fun n => b.axMode n == 0 || b.axIdle n)

end Sys2Proof.Machine
end

