-- ==== Sys2Proof/Machine/Ptp.lean ====
section
/-! DEFINITION. Sys2Proof/Machine/Ptp.lean: the IEEE 1588-2019 messages that a LAN port recognises, and the mean path delay of
a complete exchange (R418).  Message layouts are the standard's (log 120). -/

namespace Sys2Proof.Machine

open Sys2Proof

/-- A PTP message: its type, domain, twoStepFlag, correctionField in 2^-16 ns, sourcePortIdentity, sequenceId, timestamp in
2^-16 ns, and requestingPortIdentity. -/
structure PtpMsg where
  kind : Nat
  domain : Nat
  twoStep : Bool
  corr : Int
  port : Nat
  seq : Nat
  time : Int
  asker : Nat
  deriving DecidableEq, Repr

/-- A frame's EtherType and the place of its payload: past an IEEE 802.1Q tag, where it has one. -/
def etherBody (frame : Bytes) : Nat × Nat := if be frame 12 2 = 0x8100 then (be frame 16 2, 18) else (be frame 12 2, 14)

/-- Where the PTP message of a frame begins: over Ethernet, or over UDP on IPv4 or IPv6, ports 319 and 320 (R418). -/
def ptpStart (frame : Bytes) : Option Nat :=
  let e := etherBody frame
  let udp (o : Nat) : Option Nat := if be frame (o + 2) 2 = 319 ∨ be frame (o + 2) 2 = 320 then some (o + 8) else none
  if e.1 = 0x88F7 then some e.2
  else if e.1 = 0x0800 ∧ byteAt frame (e.2 + 9) = 17 then udp (e.2 + 4 * (byteAt frame e.2 % 16))
  else if e.1 = 0x86DD ∧ byteAt frame (e.2 + 6) = 17 then udp (e.2 + 40)
  else none

/-- The PTP message of a frame. -/
def ptpMsg (frame : Bytes) : Option PtpMsg :=
  (ptpStart frame).map (fun o =>
    { kind := byteAt frame o % 16, domain := byteAt frame (o + 4), twoStep := bitOf (byteAt frame (o + 6)) 1
      corr := toSigned 64 (be frame (o + 8) 8), port := be frame (o + 20) 10, seq := be frame (o + 30) 2
      time := ((be frame (o + 34) 6 * 1000000000 + be frame (o + 40) 4) * 65536 : Nat), asker := be frame (o + 44) 10 })

/-- A message sent at instant `now` (2^-16 ns): a Delay_Req or a Pdelay_Req begins its half of an exchange. -/
def LanPort.ptpSent (m : PtpMsg) (now : Int) (l : LanPort) : LanPort :=
  match m.kind with
  | 1 => { l with req := some ⟨m.seq, m.port, now⟩ }
  | 2 => { l with pdReq := some ⟨m.seq, m.port, now⟩, pdResp := none }
  | _ => l

/-- A complete exchange of path delay `d` (2^-16 ns) joins the interval's mean, kept in ps. -/
def LanPort.exchange (d : Int) (l : LanPort) : LanPort := { l with sum := l.sum + d * 1000 / 65536, num := l.num + 1 }

/-- A message of the end-to-end mechanism received at instant `now` (R418): ((t2 − t1) + (t4 − t3)) / 2, less the corrections. -/
def LanPort.e2e (m : PtpMsg) (now : Int) (l : LanPort) : LanPort :=
  match m.kind with
  | 0 => { l with sync := some ⟨m.seq, if m.twoStep then none else some m.time, now, m.corr⟩ }
  | 8 => match l.sync with
    | some s => if s.seq = m.seq ∧ s.t1 = none then { l with sync := some { s with t1 := some m.time, corr := s.corr + m.corr } }
        else l
    | none => l
  | 9 => match l.sync, l.req with
    | some s, some r => match s.t1 with
      | some t1 =>
        if r.seq = m.seq ∧ r.port = m.asker then
          { l with req := none }.exchange (((s.t2 - t1) + (m.time - r.sent) - s.corr - m.corr) / 2)
        else l
      | none => l
    | _, _ => l
  | _ => l

/-- A message of the peer-to-peer mechanism received at instant `now` (R418): ((t4 − t1) − (t3 − t2)) / 2, less the
corrections. -/
def LanPort.p2p (m : PtpMsg) (now : Int) (l : LanPort) : LanPort :=
  match m.kind with
  | 3 => match l.pdReq with
    | some r => if r.seq = m.seq ∧ r.port = m.asker then { l with pdResp := some ⟨m.time, now, m.corr⟩ } else l
    | none => l
  | 10 => match l.pdReq, l.pdResp with
    | some r, some p =>
      if r.seq = m.seq ∧ r.port = m.asker then
        { l with pdReq := none, pdResp := none }.exchange (((p.t4 - r.sent) - (m.time - p.t2) - p.corr - m.corr) / 2)
      else l
    | _, _ => l
  | _ => l

end Sys2Proof.Machine
end

