-- ==== Sys2Proof/Machine/Invar.lean ====
section
/-! DEFINITION. Sys2Proof/Machine/Invar.lean: fleet time, its references and state, PPS, UTC, LAN ports
and compare units (R403-R428), and their commands. -/

namespace Sys2Proof.Machine

open Sys2Proof

/-! ## The counter (R405-R407) -/

/-- INC (R405). -/
def Blk.incVal (b : Blk) : Nat := b.fld Reg.INV_INC_HI 1 0 * 2 ^ 32 + (b.reg Reg.INV_INC_LO).toNat

/-- What one cycle of the RC oscillator adds to fleet time, in 2^-32 ns: 62.5 ns × (1 + c), c in 2^-31 (R407). -/
def rcTick (c : Int) : Nat := (268435456000 + 125 * c).toNat

/-- One edge of the INV clock, or of the RC oscillator while it carries fleet time (R405, R407). -/
def Blk.invEdge (b : Blk) : Blk :=
  b.modInv (fun i => { i with ft := i.ft + if i.rcClock then rcTick i.rcErr else b.incVal })

/-- Fleet time goes over to the RC oscillator, whose rate error was last measured as a free value within ±2 % (R407, R539). -/
def Blk.toRc (b : Blk) : Blk :=
  if b.inv.rcClock then b
  else { b with fresh := b.fresh + 1, inv := { b.inv with
    rcClock := true, rcErr := clampInt (-42949672) 42949672 (Config.rcError b.fresh) } }

/-- Whether the device takes time-stamps: not on the RC oscillator (R407). -/
def Blk.stamps (b : Blk) : Bool := !b.inv.rcClock

/-! ## Items of INV (R421, R425) -/

/-- An item to INV's queue while EN is 1 (R428). -/
def Blk.invItem (b : Blk) (typ : Nat) (data : Bytes) : Blk :=
  if b.flag Reg.INV_EVQ_CFG 8 then b.produce (b.fld Reg.INV_EVQ_CFG 5 0) typ data else b

/-- A time event item (R425). -/
def Blk.timeItem (b : Blk) (event old new port : Nat) (value : Int) : Blk :=
  b.invItem 0x62 (leBytes 1 event ++ leBytes 1 old ++ leBytes 1 new ++ leBytes 1 port ++ sleBytes 8 value
    ++ ft96Bytes b.inv.ft ++ zeros 8)

/-! ## References and time state (R410-R413) -/

/-- LAN port `p`. -/
def Blk.lanPort (b : Blk) (p : Nat) : LanPort := Tab.val b.inv.lan p {}

/-- The block with LAN port `p` replaced. -/
def Blk.setLan (b : Blk) (p : Nat) (x : LanPort) : Blk :=
  { b with inv := { b.inv with lan := Tab.put b.inv.lan p x } }

/-- GNSS qualified (R410). -/
def Blk.gnssQ (b : Blk) : Bool := b.flag Reg.INV_REF_CFG 0 && b.inv.gnssOk

/-- PPS_IN qualified (R410). -/
def Blk.ppsQ (b : Blk) : Bool := b.flag Reg.INV_REF_CFG 1 && b.inv.ppsOk

/-- HOST qualified (R410): written within REF_LOSS s, and its port is not ASYM_SUSPECT. -/
def Blk.hostQ (b : Blk) : Bool :=
  b.flag Reg.INV_REF_CFG 2 && !(b.lanPort (b.fld Reg.INV_REF_CFG 8 8)).suspect
    && (match b.inv.hostAt with
      | none => false
      | some t => decide (b.elapsed ≤ t + b.fld Reg.INV_REF_CFG 31 24 * 1000000000))

/-- The reference selected: 0 none, 1 GNSS, 2 PPS_IN, 3 HOST (R410). -/
def Blk.refSel (b : Blk) : Nat := if b.gnssQ then 1 else if b.ppsQ then 2 else if b.hostQ then 3 else 0

/-- The offset of a reference in ns (R410). -/
def Blk.refOff (b : Blk) (sel : Nat) : Int :=
  match sel with
  | 1 => b.inv.gnssOff
  | 2 => b.inv.ppsOff
  | 3 => b.sfld Reg.INV_HOST_OFF 31 0
  | _ => 0

/-- The holdover error estimate ε in ns (R412). -/
def Blk.holdErr (b : Blk) : Nat :=
  b.inv.holdOff.natAbs + b.fld Reg.INV_HOLD_CFG 31 16 * (b.elapsed - b.inv.holdAt) / 10000000000

/-- ε is within the budget (R412). -/
def Blk.inBudget (b : Blk) : Bool :=
  decide (b.inv.holdOff.natAbs * 10000000000 + b.fld Reg.INV_HOLD_CFG 31 16 * (b.elapsed - b.inv.holdAt)
    ≤ b.fld Reg.INV_HOLD_CFG 15 0 * 10 * 10000000000)

/-- The time state that R411 gives for a selection. -/
def Blk.timeStateOf (b : Blk) (sel : Nat) : TimeState :=
  let inMax := sel != 0 && decide ((b.refOff sel).natAbs ≤ b.fld Reg.INV_TQ_CFG 15 0)
  if b.inv.state = .unset ∧ b.inv.stepped = false ∧ inMax = false then .unset
  else if b.inv.rcClock then .free
  else if sel ≠ 0 then (if inMax then .tracking else .offset)
  else if b.inv.state = .tracking then
    (if b.inv.lastOff.natAbs ≤ b.fld Reg.INV_HOLD_CFG 15 0 * 10 then .holdover else .free)
  else if b.inv.state = .holdover && b.inBudget then .holdover
  else .free

/-- A change of selection: its item, and the last offset of the reference lost (R410, R412). -/
def Blk.select (b : Blk) (sel : Nat) : Blk :=
  let old := b.inv.sel
  let off := if sel = 0 then b.inv.lastOff else b.refOff sel
  let b1 := { b with inv := { b.inv with sel := sel, lastOff := off } }
  if old = sel then b1 else b1.timeItem 5 old sel 0xFF off

/-- A change of time state: record and item (R411). -/
def Blk.setTimeState (b : Blk) (st : TimeState) : Blk :=
  let old := b.inv.state
  if old = st then b
  else
    let b1 := { b with inv := { b.inv with state := st } }
    let off := b1.inv.lastOff
    (b1.record 0x0801 (leBytes 1 old.code ++ leBytes 1 st.code ++ zeros 2 ++ sleBytes 8 off)).timeItem
      1 old.code st.code 0xFF off

/-- The time state and selection evaluated (R410-R413). -/
def Blk.evalTime (b : Blk) : Blk :=
  let sel := b.refSel
  let st := b.timeStateOf sel
  let b1 := b.select sel
  let b2 := if st = .holdover ∧ b.inv.state ≠ .holdover then
      { b1 with inv := { b1.inv with holdAt := b1.elapsed, holdOff := b1.inv.lastOff } } else b1
  b2.setTimeState st

/-- INV_STATUS.TQ (R411). -/
def Blk.tq (b : Blk) : Bool := b.inv.state == .tracking || b.inv.state == .holdover

/-- TIME_STATE_EVAL (R411). -/
def execTimeStateEval (t : Nat) : State → Host.Outcome State Fault Refusal :=
  onBlk (fun b => (b.moveTo t).evalTime)

/-- HOLDOVER_BUDGET_EXPIRY (R412). -/
def execHoldoverBudgetExpiry (t : Nat) : State → Host.Outcome State Fault Refusal :=
  onBlk (fun b0 =>
    let b := b0.moveTo t
    if b.inv.state = .holdover && !b.inBudget then b.evalTime else b)

/-- REFCLK_RESTORE (R407): REFCLK is back and the PLLs have locked again. -/
def execRefclkRestore : State → Host.Outcome State Fault Refusal :=
  onReady (fun b => Blk.evalTime ((b.modInv (fun i => { i with rcClock := false })).modPwr
    (fun p => { p with unlocked := 0, noRefclk := false })))

/-- Fleet seconds stored in the older of two MRAM blocks (R406, R450). -/
def Blk.storeSeconds (b : Blk) : Blk :=
  { b with inv := { b.inv with
    storedSec := b.now / 1000000000, secAt := 1 - b.inv.secAt, olderSec := some b.inv.storedSec } }

/-- FLEET_SECONDS_STORE at instant `t`, a multiple of 8 s (R406). -/
def Blk.secondsAt (t : Nat) (b : Blk) : Blk := if t % 8000000000 = 0 then (b.moveTo t).storeSeconds else b

/-- FLEET_SECONDS_STORE (R406). -/
def execFleetSecondsStore (t : Nat) : State → Host.Outcome State Fault Refusal := onBlk (Blk.secondsAt t)

/-! ## PPS (R410, R414, R415) -/

/-- The pulse of PPS_OUT for second `s`: OUT_WIDTH ms, active high where OUT_POL is 0, OUT_COMP ps early (R414). -/
def Blk.ppsPulse (b : Blk) (s : Nat) : Out :=
  .pps s (b.fld Reg.INV_PPS_CFG 23 16) (!b.flag Reg.INV_PPS_CFG 30) (b.fld Reg.INV_PPS_CFG 15 0)

/-- PPS_OUT_PULSE at instant `t`: a pulse at each whole second that fleet time passes, not at one that a
step skipped (R409, R414). -/
def Blk.ppsOut (b0 : Blk) (t : Nat) : Blk :=
  let b := b0.moveTo t
  let s := b.now / 1000000000
  if b.inv.ppsSecond < s then
    let b1 := { b with inv := { b.inv with ppsSecond := s } }
    if b.flag Reg.INV_PPS_CFG 31 then b1.emit (b1.ppsPulse s) else b1
  else b

/-- PPS_OUT_PULSE (R414). -/
def execPpsOutPulse (t : Nat) : State → Host.Outcome State Fault Refusal := onBlk (fun b => b.ppsOut t)

/-- The offset of a PPS_IN edge: its time-stamp less the input delay, less the nearest whole second
(R410, R415). -/
def ppsOffset (t dly : Nat) : Int :=
  let x : Int := ((t * 1000 : Nat) - (dly : Int)) / 1000
  x - (x + 500000000) / 1000000000 * 1000000000

/-- An edge lies 1 s ± 10 µs after another (R410). -/
def ppsRegular (last t : Nat) : Bool := decide (last + 999990000 ≤ t ∧ t ≤ last + 1000010000)

/-- PPS_IN_EDGE at instant `t` (R410, R415): only the active edge counts, rising where IN_POL is 0; no time-stamp is taken on
the RC oscillator. -/
def Blk.ppsIn (b0 : Blk) (t : Nat) (rising : Bool) : Blk :=
  let b := b0.moveTo t
  if b.stamps && rising != b.flag Reg.INV_PPS_CFG 29 then
    let good := match b.inv.ppsLast with
      | none => 0
      | some l => if ppsRegular l b.now then b.inv.ppsGood + 1 else 0
    Blk.evalTime { b with inv := { b.inv with
      ppsLast := some b.now, ppsGood := good, ppsOk := decide (3 ≤ good)
      ppsOff := ppsOffset b.now (b.reg Reg.INV_PPS_IN_DLY).toNat } }
  else b

/-- PPS_IN_EDGE (R415). -/
def execPpsInEdge (t : Nat) (rising : Bool) : State → Host.Outcome State Fault Refusal := onBlk (fun b => b.ppsIn t rising)

/-- PPS_IN_LOSS at instant `t`: no edge for 1.5 s (R410). -/
def Blk.ppsLoss (b0 : Blk) (t : Nat) : Blk :=
  let b := b0.moveTo t
  match b.inv.ppsLast with
  | none => b
  | some l =>
    if l + 1500000000 ≤ b.now then
      Blk.evalTime { b with inv := { b.inv with ppsLast := none, ppsGood := 0, ppsOk := false } }
    else b

/-- PPS_IN_LOSS (R410). -/
def execPpsInLoss (t : Nat) : State → Host.Outcome State Fault Refusal := onBlk (fun b => b.ppsLoss t)

/-- HOST_REF_LOSS (R410). -/
def execHostRefLoss (t : Nat) : State → Host.Outcome State Fault Refusal :=
  onBlk (fun b => (b.moveTo t).evalTime)

/-! ## Register writes with an effect (R405, R410, R416) -/

/-- A write of the LO register of a pair applied on its HI write: held (R516). -/
def Blk.holdLo (b : Blk) (off : Nat) (w : Word) : Blk := { b with heldLo := Tab.put b.heldLo off w }

/-- The LO half that a HI write applies: the one held, else the one in use (R516). -/
def Blk.loOf (b : Blk) (off : Nat) : Nat := (Tab.val b.heldLo off (b.reg off)).toNat

/-- A pair's two registers set, and the LO half no longer held. -/
def Blk.setPair (b : Blk) (lo hi v : Nat) : Blk :=
  Blk.setReg (Blk.setReg { b with heldLo := Tab.del b.heldLo lo } lo (word v)) hi (word (v / 2 ^ 32))

/-- INV_INC_WRITE: INV_INC_HI written; the pair, clamped to ±200 ppm, is applied (R405). -/
def Blk.writeInc (b : Blk) (w : Word) : Blk :=
  let req := fieldOf w 1 0 * 2 ^ 32 + b.loOf Reg.INV_INC_LO
  let v := clampNat 8588216606 8591652578 req
  let b1 := b.setPair Reg.INV_INC_LO Reg.INV_INC_HI v
  if v = req then b1 else b1.report Reg.INV_INC_HI 33 0 1 2 req v

/-- INV_INC_WRITE (R405). -/
def execInvIncWrite (w : Word) : State → Host.Outcome State Fault Refusal :=
  onBlk (fun b => if b.inSvc then b.writeInc w else b)

/-- U of R416. -/
def Blk.utcOff (b : Blk) : Int :=
  toSigned 64 ((b.reg Reg.INV_UTC_OFF_HI).toNat * 2 ^ 32 + (b.reg Reg.INV_UTC_OFF_LO).toNat)

/-- INV_UTC_OFF_WRITE: INV_UTC_OFF_HI written; U, within ±2^62, is applied, and a change is recorded
(R416). -/
def Blk.writeUtc (b : Blk) (w : Word) : Blk :=
  let req := toSigned 64 (w.toNat * 2 ^ 32 + b.loOf Reg.INV_UTC_OFF_LO)
  let v := clampInt (-(2 ^ 62)) (2 ^ 62) req
  let raw (x : Int) : Nat := (x % 2 ^ 64).toNat
  let old := b.utcOff
  let b1 := b.setPair Reg.INV_UTC_OFF_LO Reg.INV_UTC_OFF_HI (raw v)
  let b2 := if v = req then b1 else b1.report Reg.INV_UTC_OFF_HI 63 0 1 2 (raw req) (raw v)
  if v = old then b2
  else (b2.record 0x0803 (sleBytes 8 old ++ sleBytes 8 v)).timeItem 3 b2.inv.state.code b2.inv.state.code
    0xFF v

/-- INV_UTC_OFF_WRITE (R416). -/
def execInvUtcOffWrite (w : Word) : State → Host.Outcome State Fault Refusal :=
  onBlk (fun b => if b.inSvc then b.writeUtc w else b)

/-- INV_HOST_OFF_WRITE (R410, R419): while HOST_PORT is ASYM_SUSPECT it reads back and qualifies nothing. -/
def Blk.writeHostOff (b : Blk) (w : Word) : Blk :=
  let b1 := b.applyField Reg.INV_HOST_OFF ⟨31, 0, .rw, .int (-2000000000) 2000000000, "OFF"⟩ w true
  let suspect := (b1.lanPort (b1.fld Reg.INV_REF_CFG 8 8)).suspect
  Blk.evalTime { b1 with inv := { b1.inv with hostAt := if suspect then b1.inv.hostAt else some b1.elapsed } }

/-- INV_HOST_OFF_WRITE (R410). -/
def execInvHostOffWrite (w : Word) : State → Host.Outcome State Fault Refusal :=
  onBlk (fun b => if b.inSvc then b.writeHostOff w else b)

/-! ## Steps (R408, R409) -/

/-- The first multiple of 10 ms at least 100 µs after an instant (R409). -/
def stepInstant (now : Nat) : Nat := ceilTo (now + 100000) 10000000

/-- Key period of a fleet instant in ns (R190). -/
def periodOf (ns : Nat) : Nat := ns / 1000000 % 2 ^ 48 / 2 ^ 16

/-- TIME_STEP (R408). -/
def Blk.timeStep (d : Desc) (b : Blk) : Blk :=
  let delta := d.op 0x18 8
  let tj := stepInstant b.now
  if delta = 0 ∨ 2 ^ 63 ≤ delta ∨ 2 ^ 48 * 1000000000 ≤ tj + delta then b.bad d.id 0x0B 0x18
  else if !b.stopped then b.complete d.id 0x20 0
  else if b.flag Reg.AIR_CFG 0 && periodOf (tj + delta) != periodOf tj then
    b.complete d.id 0x21 (periodOf (tj + delta) % 2 ^ 32)
  else if b.inv.step.isSome then b.complete d.id St.busy 0
  else { b with inv := { b.inv with step := some ⟨d.id, delta, tj⟩ } }

/-- TIME_STEP (R408). -/
def execTimeStep (d : Desc) : State → Host.Outcome State Fault Refusal :=
  onBlk (fun b => b.start d (Blk.timeStep d))

/-- A head's mapping and stamps shifted by a step of `k` units of 2^-16 ns (R409). -/
def Head.shift (x : Head) (k : Int) : Head :=
  let ex (e : Exch) : Exch := { e with t1 := e.t1 + k, t4 := e.t4 + k }
  { x with
    line := { x.line with y0 := x.line.y0 + k }
    t1 := x.t1.map (· + k), t1Prev := x.t1Prev.map (· + k), t4Prev := x.t4Prev.map (· + k)
    pend := x.pend.map ex, lastX := x.lastX.map ex, fitSet := x.fitSet.map (fun p => (p.1, p.2 + k)) }

/-- An effect whose T a step passes is late (R409). -/
def Effect.stepped (lo hi : Nat) (e : Effect) : Effect :=
  if lo < e.t ∧ e.t ≤ hi then { e with late := true } else e

/-- A compare unit whose target a step passes fires late (R409, R421). -/
def CmpUnit.stepped (now : Nat) (x : CmpUnit) : CmpUnit :=
  if x.state ≠ .idle ∧ x.target < (now / 2 : Nat) then { x with lateLoad := true } else x

/-- Fleet time jumps to `to` ns by `delta`; PPS seconds passed are skipped (R409). -/
def Inv.jump (dest delta : Nat) (i : Inv) : Inv :=
  { i with ft := dest * 2 ^ 32, jumped := i.jumped + delta, step := none, stepped := true
           ppsSecond := dest / 1000000000
           cmp := i.cmp.map (fun (q : Nat × CmpUnit) => (q.1, q.2.stepped dest)) }

/-- Every head's mapping shifted (R409). -/
def Hdl.shift (k : Int) (h : Hdl) : Hdl :=
  { h with heads := h.heads.map (fun (q : Nat × Head) => (q.1, q.2.shift k)) }

/-- TIME_STEP_APPLY: at t_j fleet time becomes t_j + DELTA (R409). -/
def Blk.stepApply (b0 : Blk) : Blk :=
  match b0.inv.step with
  | none => b0
  | some p =>
    let b := b0.moveTo p.tj
    let from' := b.now
    let dest := from' + p.delta
    let b1 := ((((b.modInv (Inv.jump dest p.delta)).modHdl (Hdl.shift ((p.delta : Int) * 65536))).modFleet
      (fun f => { f with effects := f.effects.map (Effect.stepped from' dest) })).modDvt
      (fun d => { d with unfinished := d.unfinished.map (Effect.stepped from' dest) }))
    let b2 := b1.loadTargets.storeSeconds
    let b3 := (b2.record 0x0802 (leBytes 8 p.delta)).timeItem 2 b2.inv.state.code b2.inv.state.code 0xFF p.delta
    let b4 := if b3.inv.state = .unset then b3.evalTime else b3
    b4.completeAt p.id St.done 0 b4.fleet.epoch (ft64 dest)

/-- TIME_STEP_APPLY (R409). -/
def execTimeStepApply : State → Host.Outcome State Fault Refusal := onBlk Blk.stepApply

/-! ## LAN ports (R417-R419, R424) -/

/-- A PTP message of port `p`'s domain (R418). -/
def Blk.inDomain (b : Blk) (p : Nat) (m : PtpMsg) : Bool := m.domain == b.fld (Reg.INV_LAN_CFG p) 15 8

/-- A PTP message of port `p`'s domain and parent (R418). -/
def Blk.fromParent (b : Blk) (p : Nat) (m : PtpMsg) : Bool :=
  b.inDomain p m && m.port == ((b.reg (Reg.INV_LAN_PARENT_HI p)).toNat * 2 ^ 32
    + (b.reg (Reg.INV_LAN_PARENT_LO p)).toNat) * 2 ^ 16 + b.fld (Reg.INV_LAN_PPORT p) 15 0

/-- The present instant in 2^-16 ns, as a LAN time-stamp (R423). -/
def Blk.stampNow (b : Blk) : Int := (b.inv.ft / 2 ^ 16 : Nat)

/-- A frame received on port `p`, time-stamped: its PTP message takes part in the exchange of the mechanism in use (R418). -/
def Blk.ptpRx (b : Blk) (p : Nat) (frame : Bytes) : Blk :=
  match ptpMsg frame with
  | none => b
  | some m =>
    if b.stamps && b.fromParent p m then
      b.setLan p (if b.flag (Reg.INV_LAN_CFG p) 0 then (b.lanPort p).p2p m b.stampNow else (b.lanPort p).e2e m b.stampNow)
    else b

/-- A frame sent on port `p`, time-stamped (R418). -/
def Blk.ptpTx (b : Blk) (p : Nat) (frame : Bytes) : Blk :=
  match ptpMsg frame with
  | none => b
  | some m => if b.stamps && b.inDomain p m then b.setLan p ((b.lanPort p).ptpSent m b.stampNow) else b

/-- A BCOPY frame (R315, R334), which goes to HDL. -/
def Blk.isBcopy (b : Blk) (frame : Bytes) : Bool :=
  match b.ethPayload frame with
  | some q => byteAt q 1 == 0x10
  | none => false

/-- A frame is delivered on LAN port `p` (R417): addressed to it, broadcast or multicast, and no
BCOPY. -/
def Blk.lanDelivers (b : Blk) (p : Nat) (frame : Bytes) : Bool :=
  (be frame 0 6 == macOf b.uid.toNat (8 + p) || bitOf (byteAt frame 0) 0) && !b.isBcopy frame

/-- LAN_FRAME_RX at instant `t`: its PTP message is taken; the frame goes to the bound queue, or is
counted (R417, R418, R424). -/
def Blk.lanRx (t p : Nat) (frame : Bytes) (b0 : Blk) : Blk :=
  let b := b0.moveTo t
  if b.flag (Reg.INV_LAN_CFG p) 31 then
    let b1 := b.ptpRx p frame
    if !b1.lanDelivers p frame then b1
    else if b1.inv.lanQueue = 0 then b1.bump Reg.INV_LAN_DROP_COUNT
    else b1.produce b1.inv.lanQueue 0x61
      (leBytes 1 p ++ leBytes 1 (b2n b1.stamps) ++ leBytes 2 frame.length
        ++ (if b1.stamps then ft96Bytes b1.inv.ft else zeros 12) ++ zeros 4 ++ frame)
  else b

/-- LAN_FRAME_RX (R417, R424). -/
def execLanFrameRx (t : Nat) (port : Fin 2) (frame : Bytes) : State → Host.Outcome State Fault Refusal :=
  onBlk (fun b => b.lanRx t port.val frame)

/-- LAN_INTERVAL_END of port `p` at instant `t` (R418, R419). -/
def Blk.lanEnd (t p : Nat) (b0 : Blk) : Blk :=
  let b := b0.moveTo t
  let l := b.lanPort p
  let step : Int := (b.fld (Reg.INV_LAN_CFG p) 23 16 : Nat) * 1000
  let clean := { l with sum := 0, num := 0, recal := if l.recal = 1 then 2 else l.recal }
  if l.num = 0 then b.setLan p clean
  else
    let mean := l.sum / l.num
    let diff := mean - l.mpd
    let next := { clean with mpd := mean, mpdValid := true }
    if l.mpdValid && decide (step < diff.natAbs) then
      if l.suspect then b.setLan p next
      else
        let b1 := b.setLan p { next with suspect := true }
        ((b1.record 0x0804 (leBytes 1 p ++ zeros 3 ++ sleBytes 8 diff)).timeItem 4 0 1 p diff).evalTime
    else if l.mpdValid && l.recal == 2 then
      (b.setLan p { next with suspect := false, recal := 0 }).evalTime
    else b.setLan p next

/-- LAN_INTERVAL_END (R418, R419). -/
def execLanIntervalEnd (t : Nat) (port : Fin 2) : State → Host.Outcome State Fault Refusal :=
  onBlk (fun b => b.lanEnd t port.val)

/-- A write of INV_LANp_CFG (R419, R428): the RW fields, and RECAL. -/
def Blk.writeLanCfg (b : Blk) (p : Nat) (w : Word) : Blk :=
  let off := Reg.INV_LAN_CFG p
  let b1 := b.applyFields off w (fun _ _ => true)
    [⟨31, 31, .rw, .any, "EN"⟩, ⟨29, 24, .rw, .num 1 60, "INTERVAL"⟩, ⟨23, 16, .rw, .num 2 255, "STEP"⟩,
      ⟨15, 8, .rw, .any, "DOMAIN"⟩, ⟨0, 0, .rw, .any, "MECH"⟩]
  let l := b1.lanPort p
  if w.getLsbD 30 && l.recal == 0 then b1.setLan p { l with recal := 1 } else b1

/-- LAN_RECAL: INV_LANp_CFG written with RECAL = 1 (R419). -/
def execLanRecal (port : Fin 2) (w : Word) : State → Host.Outcome State Fault Refusal :=
  onBlk (fun b => if b.inSvc then b.writeLanCfg port.val (w ||| 0x40000000) else b)

/-- LAN_SEND of the frame read from host memory, sent at instant `t` (R424). -/
def Blk.lanSend (t : Nat) (d : Desc) (frame : Bytes) (b0 : Blk) : Blk :=
  let p := d.op 0x18 1
  let len := d.op 0x1A 2
  if 2 ≤ p then b0.bad d.id 0x09 0x18
  else if d.op 0x19 1 ≠ 0 then b0.bad d.id 0x04 0x19
  else if len < 60 ∨ 1518 < len then b0.bad d.id 0x0B 0x1A
  else if !b0.flag (Reg.INV_LAN_CFG p) 31 then b0.complete d.id 0x23 p
  else if !(b0.lanPort p).up then b0.complete d.id 0x22 p
  else
    let b := b0.moveTo t
    ((b.ptpTx p (slice frame 0 len)).emit (.lan p (slice frame 0 len))).completeAt d.id St.done
      (if b.stamps then b.inv.ft % 2 ^ 32 / 2 ^ 16 else 0) b.fleet.epoch (if b.stamps then b.nowFt64 else 0)

/-- LAN_SEND (R424). -/
def execLanSend (t : Nat) (d : Desc) (frame : Bytes) : State → Host.Outcome State Fault Refusal :=
  onBlk (fun b => b.start d (Blk.lanSend t d frame))

/-- LAN_RX_BIND (R424): queue 1-63, or 0 to unbind. -/
def Blk.lanRxBind (d : Desc) (b : Blk) : Blk :=
  let q := d.op 0x18 1
  if 64 ≤ q then b.bad d.id 0x0B 0x18 else Blk.done { b with inv := { b.inv with lanQueue := q } } d.id

/-- LAN_RX_BIND (R424). -/
def execLanRxBind (d : Desc) : State → Host.Outcome State Fault Refusal :=
  onBlk (fun b => b.start d (Blk.lanRxBind d))

/-! ## Compare units (R420-R422) -/

/-- COMPARE_TARGET_LOAD (R420). -/
def execCompareTargetLoad (t : Nat) : State → Host.Outcome State Fault Refusal :=
  onBlk (fun b => (b.moveTo t).loadTargets)

/-- One firing of unit `n`, whose target has come (R421): the unit fires once for that target, the periods of
the grid that lie between it and the present are skipped, and the unit goes on after them. -/
def Blk.fireUnit (b : Blk) (n : Nat) : Blk :=
  let x := b.cmp n
  let per := max 1 (b.reg (Reg.INV_CMP_PERIOD n)).toNat
  let skip := if x.periodic then ((b.now / 2 : Nat) - x.target).toNat / per else 0
  let late := x.lateLoad || decide (0 < skip)
  let b1 := if late then b.bump Reg.INV_CMP_LATE_COUNT else b
  let b2 := b1.setCmp n { x with
    state := if x.periodic then .running else .idle, target := if x.periodic then x.target + ((skip + 1) * per : Nat) else x.target
    lateLoad := false, lateLast := late, fires := (x.fires + 1) % 2 ^ 16 }
  b2.invItem 0x60 (leBytes 1 n ++ leBytes 1 (b2n late + 2 * b2n x.periodic + 4 * b2n x.hostArmed) ++ zeros 2
    ++ leBytes 4 (x.target % 2 ^ 32).toNat ++ ft96Bytes b.inv.ft ++ leBytes 4 skip ++ leBytes 8 x.epoch)

/-- The pending effect that armed unit `n` counts as applied at its first firing (R420). -/
def Blk.firedEffect (b : Blk) (n : Nat) (x : CmpUnit) : Blk :=
  match b.fleet.effects.find? (fun e => e.dest == .inv && e.obj == n && e.epoch == x.epoch && e.idx == x.idx) with
  | some e => if x.hostArmed then b else b.applied e false
  | none => b

/-- Unit `n` fires if its target has come (R421). -/
def Blk.fireDue (b : Blk) (n : Nat) : Blk :=
  let x := b.cmp n
  if x.state ≠ .idle ∧ x.target ≤ (b.now / 2 : Nat) then (b.fireUnit n).firedEffect n x else b

/-- The pending COMPARE_ARMs of unit `n` whose T has come applied in order (R44, R420). -/
def Blk.armDue (b : Blk) (n : Nat) : Blk :=
  match b.cmpEffect n with
  | none => b
  | some e =>
    if b.now < e.t then b
    else if byteAt e.ops 0 = 0 then (b.setCmp n { b.cmp n with state := .idle }).applied e false
    else (b.loadUnit e).fireDue n

/-- COMPARE_FIRE of unit `n` at instant `t` (R420, R421). -/
def Blk.compareFire (b0 : Blk) (t n : Nat) : Blk :=
  let b := (b0.moveTo t).fireDue n
  ((List.range (b.fleet.effects.length)).foldl (fun b _ => b.armDue n) b).loadTargets

/-- COMPARE_FIRE (R421). -/
def execCompareFire (t : Nat) (unit : Cmp32) : State → Host.Outcome State Fault Refusal :=
  onBlk (fun b => b.compareFire t unit.val)

/-- The unit armed by the host at once with INV_CMPn_TIME as target; one that has come fires at once (R404, R422). -/
def Blk.hostArm (b : Blk) (n : Nat) : Blk :=
  let mode := b.fld (Reg.INV_CMP_CFG n) 1 0
  let target : Int := (b.now / 2 : Nat) + sdiff 32 (b.reg (Reg.INV_CMP_TIME n)).toNat (cmpTime b.now)
  if mode = 0 then b.setCmp n { b.cmp n with state := .idle }
  else (b.setCmp n { state := .armed, target := target, hostArmed := true, periodic := mode == 2
                     lateLoad := decide (target < (b.now / 2 : Nat)) }).fireDue n

/-- OWNER may change (R420): the unit is IDLE and no pending effect names it. -/
def Blk.ownerFree (b : Blk) (n : Nat) : Bool := (b.cmp n).state == .idle && (b.cmpEffect n).isNone

/-- A write of INV_CMPn_CFG (R420, R422): ARM on a unit not owned by the host is clamped and reported. -/
def Blk.writeCmpCfg (b : Blk) (n : Nat) (w : Word) : Blk :=
  let off := Reg.INV_CMP_CFG n
  let ok := b.flag off 8
  let b1 := if w.getLsbD 31 && !ok then b.report off 31 31 3 0 1 0 else b
  let b2 := b1.applyFields off w (fun b _ => b.ownerFree n) [⟨8, 8, .rw, .any, "OWNER"⟩]
  let b3 := b2.applyFields off w (fun _ _ => true) [⟨1, 0, .rw, .enum 2 0, "MODE"⟩]
  if w.getLsbD 31 && ok then b3.hostArm n else b3

/-- COMPARE_HOST_ARM: INV_CMPn_CFG written with ARM = 1 (R422). -/
def execCompareHostArm (unit : Cmp32) (w : Word) : State → Host.Outcome State Fault Refusal :=
  onBlk (fun b => if b.inSvc then b.writeCmpCfg unit.val (w ||| 0x80000000) else b)

end Sys2Proof.Machine
end

