-- ==== Sys2Proof/Machine/Clamp.lean ====
section
/-! DEFINITION. Sys2Proof/Machine/Clamp.lean: stop sources, the stop and the release, groups, STO pairs,
contactor monitors and the single-fault catalogue (R169-R204). -/

namespace Sys2Proof.Machine

open Sys2Proof

/-! ## The stop transaction (R47, R48, R112, R113, R186) -/

/-- Mortise as S leaves it: FREE entries become 0xFF (R186). -/
def MEntry.stopped (s : Nat) (e : MEntry) : MEntry :=
  if e.holder = 0 then { e with holder := 0xFF, since := s % 2 ^ 32 } else e

/-- Mortise as S_R leaves it: 0xFF entries become FREE (R197). -/
def MEntry.released (e : MEntry) : MEntry := if e.holder = 0xFF then {} else e

/-- A member as a stop leaves it: ACTIVE and SLEEPING become STOPPED (R186). -/
def Member.stopped (m : Member) : Member :=
  if m.state = .active ∨ m.state = .sleeping then { m with state := .stopped } else m

/-- The coherent state after S (R186): the task ledger is unchanged. -/
def Coherent.stopped (c : Coherent) (s : Nat) : Coherent :=
  { c with mortise := c.mortise.map (MEntry.stopped s)
           members := c.members.map (fun (p : Nat × Member) => (p.1, p.2.stopped)) }

/-- The coherent state after S_R (R197). -/
def Coherent.released (c : Coherent) : Coherent := { c with mortise := c.mortise.map MEntry.released }

/-- Clamp's transaction, as its report item names it (R110). -/
def clampTxn : Txn := ⟨.clamp, 0, 0, 0, 0, [], [], none, none, 0⟩

/-- Every waiting transaction ends ABORT_STOPPED with DETAIL S (R113). -/
def Blk.endWaits (b : Blk) : Blk :=
  b.dvt.waits.foldl (fun b w => b.abort w.txn St.stopped (b.clp.s % 2 ^ 32))
    (b.modDvt (fun d => { d with waits := [], freed := [] }))

/-- An effect that a stop cancels: its T is later than the stop's commit (R48). -/
def Blk.later (b : Blk) (e : Effect) : Bool := decide (b.now < e.t)

/-- The effects that a stop cancels taken out. -/
def Blk.cancelLater (b : Blk) : Blk := b.cancelEffects b.later

/-- The last route applied to each member before S (R296). -/
def Blk.noteRoutes (b : Blk) : Blk :=
  b.modAir (fun a => { a with links := a.links.map (fun (q : Nat × Link) => (q.1, { q.2 with stopRoute := q.2.lastRoute })) })

/-- S commits (R47, R186), and the completions that waited for it are written (R112).  With no map in service no epoch is
committed and the member table alone changes (R111, R172); under CF14 nothing commits before a map switch (R35, R202, log 47). -/
def Blk.commitStop (b0 : Blk) : Blk :=
  let b := b0.settleAir.noteRoutes
  if b.inService && !b.clp.cf14 then
    let s := b.fleet.epoch + 1
    let gone := b.fleet.effects.filter b.later
    let b1 := (b.copySnaps.cancelLater.modClp (fun c => { c with s := s })).install (b.cancelLater.fleet.coh.stopped s) s []
    let b2 := (b1.bump Reg.DVT_COMMIT_COUNT).record 0x0202 (leBytes 8 s ++ leBytes 4 gone.length)
    ((b2.dvtItem 3 0xFF clampTxn St.done 0 s).endLate gone).endWaits
  else if b.inService then (b.endLate []).endWaits
  else
    let old := b.fleet.coh
    let b1 := (b.modFleet (fun f => { f with coh := { f.coh with
      members := f.coh.members.map (fun (p : Nat × Member) => (p.1, p.2.stopped)) } })).modClp (fun c => { c with s := 0 })
    ((b1.membersChanged old).endLate []).endWaits

/-! ## Groups at a stop (R174, R183) -/

/-- Category of a group (R174): 1 while its bit of CLP_GRP_CAT is 1 and every source of the stop is of
category 1. -/
def Blk.groupCat1 (b : Blk) (g : Nat) : Bool := b.clp.allCat1 && b.flag Reg.CLP_GRP_CAT g

/-- The stop reaches the groups: those of category 0 lose their pair, the others ramp. -/
def Blk.stopGroups (b : Blk) : Blk :=
  let on := (List.range 12).filter b.pairOn
  let cut := on.filter (fun g => !b.groupCat1 g)
  let ramp := on.filter (fun g => b.groupCat1 g && b.group g == .on)
  let b1 := cut.foldl (fun b g => (b.setGroup g .off).cutAxes g) b
  let b2 := ramp.foldl (fun b g =>
    (b.setGroup g .ramp).modClp (fun c => { c with rampSince := Tab.put c.rampSince g b.elapsed })) b1
  if ramp = [] then b2 else b2.rampAxes ramp

/-- The axes of the groups whose pair is off already end their motions too (R187, R377). -/
def Blk.stopIdleAxes (b : Blk) : Blk :=
  (List.range 12).foldl (fun b g => if b.pairOn g then b else b.cutAxes g) b

/-! ## Sources (R173-R175) -/

/-- A RESUME ended by a stop: ABORT_STOPPED with DETAIL the new S, its elements withdrawn (R198). -/
def Blk.endResumes (b : Blk) : Blk :=
  let rs := b.clp.resumes
  let b1 := (List.range 128).foldl (fun b m => if rs = [] then b else b.dropElems m (fun e => e.etype == 0x85))
    (b.modClp (fun c => { c with resumes := [] }))
  rs.foldl (fun b r => b.complete r.id St.stopped (b.clp.s % 2 ^ 32)) b1

/-- A channel as a stop begins. -/
def Chan.assert' (c : Chan) (bit : Nat) : Chan := { c with stop := true, latch := setBit c.latch bit }

/-- Both channels latch a source and assert a stop. -/
def Blk.latchSource (b : Blk) (bit : Nat) : Blk :=
  b.modClp (fun c => { c with a := c.a.assert' bit, b := c.b.assert' bit })

/-- The sources that stay active after they assert (R173). -/
def lasting (bit : Nat) : Bool := bit != 5 && bit != 6 && bit != 11

/-- A stop source asserts with a category (R173-R175): its record and latch; the first one begins the stop, a
later one of category 0 turns off what still ramps. -/
def Blk.assertSource (b0 : Blk) (bit cat mix : Nat) : Blk :=
  let was := b0.stopped
  let b := if lasting bit then b0.srcActive bit true else b0
  let b1 := (b.latchSource bit).record 0x0201 (leBytes 1 bit ++ leBytes 1 mix ++ leBytes 1 cat)
  if was then
    if cat = 0 then Blk.stopGroups (b1.modClp (fun c => { c with allCat1 := false })) else b1
  else
    let b2 := (b1.modClp (fun c => { c with allCat1 := cat == 1, stopAt := b.elapsed })).bump Reg.CLP_STOP_COUNT
    ((b2.modDvt (fun d => { d with frozen := true })).stopGroups.stopIdleAxes.commitStop).endResumes

/-- A source that lasts asserts unless it is active already. -/
def Blk.assertLasting (b : Blk) (bit cat mix : Nat) : Blk :=
  if bitOf b.clp.a.active bit then b else b.assertSource bit cat mix

/-! ## The fault catalogue (R202) -/

/-- A catalogue fault noted: its record, and for a latched one CLP_FAULT. -/
def Blk.clampFault (b : Blk) (code arg : Nat) (latched : Bool) : Blk :=
  let b1 := if latched then
      b.modClp (fun c => { c with
        faultArg := if c.faultCode = 0 then arg else c.faultArg
        faultCode := if c.faultCode = 0 then code else c.faultCode
        faultCount := min 0xFFFF (c.faultCount + 1) })
    else b
  b1.record 0x0204 (leBytes 1 code ++ leBytes 1 arg)

/-- A latched fault whose reaction is a site stop of category 0. -/
def Blk.siteFault (b : Blk) (code arg : Nat) : Blk :=
  ((b.clampFault code arg true).modClp (fun c => { c with latchedFault := true })).assertLasting 9 0 0xFF

/-- Beacons are suppressed until the next power-up (R194). -/
def Blk.suppressBeacons (b : Blk) : Blk := b.modClp (fun c => { c with suppress := true })

/-! ## E-stop loops (R177-R179) -/

/-- Loop `n`. -/
def Blk.loopOf (b : Blk) (n : Nat) : Loop := Tab.val b.clp.loops n {}

/-- Loop `n` replaced. -/
def Blk.setLoop (b : Blk) (n : Nat) (x : Loop) : Blk :=
  b.modClp (fun c => { c with loops := Tab.put c.loops n x })

/-- Loop `n`'s source asserts in its category, unless it is active or the loop is disabled. -/
def Blk.loopSource (b : Blk) (n : Nat) : Blk :=
  let cfg := Reg.CLP_ES_CFG n
  if b.flag cfg 0 then (b.setLoop n { b.loopOf n with active := true }).assertLasting n (b.fld cfg 1 1) 0xFF
  else b

/-- A loop fault (R178, CF06): its status flag, its record, its source. -/
def Blk.loopFault (b : Blk) (n bit : Nat) : Blk :=
  if b.flag (Reg.CLP_ES_CFG n) 0 then
    ((b.setFlag (Reg.CLP_ES_STATUS n) bit).clampFault 6 n false).loopSource n
  else b

/-- Exactly one circuit of a loop is open (R178). -/
def Loop.uneven (l : Loop) : Bool := l.closedA != l.closedB

/-- ESTOP_LOOP_OPEN: the loop's circuits that are open after an input has changed, low for 100 ns outside its own pulse
window (R173, R178); `discAt` is when just one of them opened, and an open ends the run of good pulses (R179). -/
def Blk.loopOpen (b : Blk) (n : Nat) (a c : Bool) : Blk :=
  let l := b.loopOf n
  let l1 := { l with closedA := !a, closedB := !c }
  let b1 := b.setLoop n { l1 with
    discAt := if l1.uneven && !(l.uneven && l.closedA == l1.closedA) then b.elapsed else l.discAt
    goodA := if a || c then 0 else l.goodA, goodB := if a || c then 0 else l.goodB }
  if a || c then b1.loopSource n else b1

/-- ESTOP_LOOP_OPEN (R173, R178). -/
def execEstopLoopOpen (loop : Loop4) (circuitA circuitB : Bool) : State → Host.Outcome State Fault Refusal :=
  onBlk (fun b => b.loopOpen loop.val circuitA circuitB)

/-- The status flags that a test pulse sets, with TP_WIDTH in µs (R178, R204): OUT_FAULT for a read-back that differs for
longer than 20 µs, SHORT_HIGH for an own input not low within TP_WIDTH, CROSS for the other circuit's.  With none of them the
pulse is correct. -/
def pulseBits (width : Nat) (o : PulseObs) : List Nat :=
  (if decide (20000 < o.differs) then [7] else [])
    ++ (if o.lowAfter.any (fun d => decide (d ≤ width * 1000)) then [] else [if o.circuitB then 4 else 3])
    ++ (if o.crossed then [5] else [])

/-- A pulse of a circuit noted: the next correct one on closed circuits, or the end of the run (R179). -/
def Loop.pulse (l : Loop) (t : Nat) (good chB : Bool) : Loop :=
  let run (n : Nat) (this : Bool) : Nat := if good && l.closedA && l.closedB then n + b2n this else 0
  { l with
    goodA := run l.goodA (!chB), goodB := run l.goodB chB
    pulseA := if chB then l.pulseA else some t, pulseB := if chB then some t else l.pulseB }

/-- ESTOP_TEST_PULSE at instant `t` (R178, CF06): of an enabled loop, once every TP_PERIOD on each circuit. -/
def Blk.testPulse (b0 : Blk) (t n : Nat) (o : PulseObs) : Blk :=
  let b := b0.moveTo t
  let cfg := Reg.CLP_ES_CFG n
  let l := b.loopOf n
  let last := if o.circuitB then l.pulseB else l.pulseA
  if !b.flag cfg 0 || last.any (fun p => decide (b.elapsed < p + b.fld cfg 31 22 * 1000000)) then b
  else
    let bits := pulseBits (b.fld cfg 21 13) o
    bits.foldl (fun b bit => b.loopFault n bit) (b.setLoop n (l.pulse b.elapsed (bits == []) o.circuitB))

/-- ESTOP_TEST_PULSE (R178). -/
def execEstopTestPulse (t : Nat) (loop : Loop4) (obs : PulseObs) : State → Host.Outcome State Fault Refusal :=
  onBlk (fun b => b.testPulse t loop.val obs)

/-- ESTOP_DISCREPANCY at instant `t` (R178, CF06): one circuit open and the other closed for longer than DISC_TIME. -/
def Blk.discrepancy (b0 : Blk) (t n : Nat) : Blk :=
  let b := b0.moveTo t
  let l := b.loopOf n
  if l.uneven && decide (l.discAt + b.fld (Reg.CLP_ES_CFG n) 12 4 * 1000000 < b.elapsed) then b.loopFault n 6 else b

/-- ESTOP_DISCREPANCY (R178). -/
def execEstopDiscrepancy (t : Nat) (loop : Loop4) : State → Host.Outcome State Fault Refusal :=
  onBlk (fun b => b.discrepancy t loop.val)

/-- Both circuits are closed and two test periods in a row passed on both with every pulse correct (R179). -/
def Loop.clear (l : Loop) : Bool := l.closedA && l.closedB && decide (2 ≤ l.goodA ∧ 2 ≤ l.goodB)

/-- ESTOP_LOOP_CLEARED (R179): the source ends, the fault flags stay. -/
def Blk.loopCleared (b : Blk) (n : Nat) : Blk :=
  let l := b.loopOf n
  if l.clear then (b.setLoop n { l with active := false }).srcActive n false else b

/-- ESTOP_LOOP_CLEARED (R179). -/
def execEstopLoopCleared (loop : Loop4) : State → Host.Outcome State Fault Refusal :=
  onBlk (fun b => b.loopCleared loop.val)

/-! ## Register, heartbeat and descriptor sources (R173, R176, R199) -/

/-- A write of CLP_STOP_REQ (R173): each write of REQ 1 asserts REG with CAT, REQ 0 ends it. -/
def Blk.writeStopReq (b : Blk) (w : Word) : Blk :=
  let b1 := b.setReg Reg.CLP_STOP_REQ (w &&& 3#32)
  if w.getLsbD 0 then b1.assertSource 4 (fieldOf w 1 1) 0xFF else b1.srcActive 4 false

/-- CLP_STOP_REQ_WRITE (R173). -/
def execClpStopReqWrite (w : Word) : State → Host.Outcome State Fault Refusal :=
  onBlk (fun b => if b.inSvc then b.writeStopReq w else b)

/-- A write of CLP_HB (R176). -/
def Blk.writeHb (b : Blk) (w : Word) : Blk :=
  let seq := fieldOf w 15 0
  if b.flag Reg.CLP_SRC_CFG 2 then
    let valid := match b.clp.hbSeq with | none => true | some p => seq == (p + 1) % 65536
    if valid then (b.modClp (fun c => { c with hbSeq := some seq, hbAt := b.elapsed })).srcActive 7 false
    else b.bump Reg.CLP_HB_BAD_COUNT
  else b

/-- CLP_HB_WRITE (R176). -/
def execClpHbWrite (w : Word) : State → Host.Outcome State Fault Refusal :=
  onBlk (fun b => if b.inSvc then b.writeHb w else b)

/-- HEARTBEAT_TIMEOUT at instant `t` (R173). -/
def Blk.hbTimeout (b0 : Blk) (t : Nat) : Blk :=
  let b := b0.moveTo t
  if b.flag Reg.CLP_SRC_CFG 2 && decide (b.clp.hbAt + b.fld Reg.CLP_SRC_CFG 31 16 * 1000000 ≤ b.elapsed) then
    b.assertLasting 7 (b.fld Reg.CLP_SRC_CFG 3 3) 0xFF
  else b

/-- HEARTBEAT_TIMEOUT (R173, R176). -/
def execHeartbeatTimeout (t : Nat) : State → Host.Outcome State Fault Refusal := onBlk (fun b => b.hbTimeout t)

/-- STOP (R199). -/
def Blk.stopDesc (d : Desc) (b : Blk) : Blk :=
  let cat := d.op 0x18 1
  if 1 < cat then b.bad d.id 0x0B 0x18
  else
    let was := b.stopped
    let b1 := b.assertSource 5 cat 0xFF
    b1.completeAt d.id St.done (b2n was) b1.clp.s b1.nowFt64

/-- STOP (R199). -/
def execStop (d : Desc) : State → Host.Outcome State Fault Refusal := onBlk (fun b => b.start d (Blk.stopDesc d))

/-! ## Faults found by the device (R170, R185, R202) -/

/-- CMON_MISMATCH: monitor `m` reads open or closed at instant `t`, and has for `held` ns (R185): CF07 where this is not the
expected state and TIMEOUT has passed, also since the last change of that state. -/
def Blk.cmonMismatch (b0 : Blk) (m : Nat) (isOpen : Bool) (held t : Nat) : Blk :=
  let b := b0.moveTo t
  let cfg := Reg.CLP_CMON_CFG m
  let x := b.cmonOf m
  let lim := b.fld cfg 31 16 * 1000000
  let b1 := b.modClp (fun c => { c with cmon := Tab.put c.cmon m { x with isOpen := isOpen } })
  if b.flag cfg 15 && b.fld cfg 11 0 != 0 && isOpen != b.cmonExpectOpen m && decide (lim < held)
      && decide (x.changed + lim < b.elapsed) then
    (b1.clampFault 7 m true).assertLasting 8 0 0xFF
  else b1

/-- CMON_MISMATCH (R185). -/
def execCmonMismatch (m : Fin 2) (isOpen : Bool) (held t : Nat) : State → Host.Outcome State Fault Refusal :=
  onBlk (fun b => b.cmonMismatch m.val isOpen held t)

/-- CHANNEL_CROSS_CHECK (R170): a disagreement of more than 2 µs is CF03. -/
def execChannelCrossCheck (disagree : Bool) : State → Host.Outcome State Fault Refusal :=
  onBlk (fun b => if disagree then b.siteFault 3 0xFF else b)

/-- CLOCK_DEVIATION (R8, CF01). -/
def execClockDeviation (_which : ClockSrc) : State → Host.Outcome State Fault Refusal :=
  onBlk (fun b => b.siteFault 1 0xFF)

/-- REFCLK or an island's PLL lost (R10, R407, CF02): the event is recorded, fleet time goes to the RC oscillator where
REFCLK or the INV PLL is lost, Clamp stops, what depends on the clock does nothing more (`Blk.clocked`), and no snapshot in
processing has a result (R232). -/
def Blk.pllLost (b : Blk) (island : Island) (refclk : Bool) : Blk :=
  if !refclk && !island.hasPll then b
  else
    let b1 := ((b.record 0x0205 (leBytes 1 island.code ++ leBytes 1 (b2n (!refclk)))).siteFault 2 0xFF).modPwr (fun p =>
      if refclk then { p with noRefclk := true } else { p with unlocked := setBit p.unlocked island.code })
    let b2 := if refclk || island == .gns then b1.modGns (fun g => { g with
        snaps := g.snaps.map (fun (s : GSnap) => if s.running then { s with void := true } else s) }) else b1
    if refclk || island == .inv then b2.toRc.evalTime else b2

/-- PLL_LOCK_LOSS (R10, CF02). -/
def execPllLockLoss (island : Island) (refclk : Bool) : State → Host.Outcome State Fault Refusal :=
  onReady (fun b => b.pllLost island refclk)

/-- REFCLK_LOSS (R10, R407): as `Blk.pllLost` of REFCLK, seen by INV, unless the loss is noted already. -/
def execRefclkLoss : State → Host.Outcome State Fault Refusal :=
  onReady (fun b => if b.pwr.noRefclk then b else b.pllLost .inv true)

/-- FREEZE_ACK_TIMEOUT (CF08). -/
def execFreezeAckTimeout : State → Host.Outcome State Fault Refusal :=
  onBlk (fun b => (b.siteFault 8 0xFF).suppressBeacons)

/-- Head `h` was sent the present stop window; every position of its MASK was reported SENT. -/
def Blk.windowAsked (b : Blk) (h : Nat) : Bool := bitOf (b.head h).winSent 4

/-- Head `h` has reported SENT every position of the present stop window's MASK. -/
def Blk.windowTold (b : Blk) (h : Nat) : Bool := (b.head h).winSent % 4 &&& b.hdl.winMask == b.hdl.winMask

/-- A head that was sent the present stop window on the second channel (`ch1`) or the first. -/
def Blk.windowOn (b : Blk) (ch1 : Bool) (h : Nat) : Bool := b.windowAsked h && b.flag (Reg.AIR_HEAD_CFG h) 8 == ch1

/-- The present stop window is not confirmed (R328): a channel in use has no head that reported both positions of MASK. -/
def Blk.windowOpen (b : Blk) : Bool :=
  b.hdl.window.isSome && [false, true].any (fun c =>
    (List.range 8).any (b.windowOn c) && !(List.range 8).any (fun h => b.windowOn c h && b.windowTold h))

/-- WINDOW_CONFIRM_TIMEOUT at instant `t` (CF09, R328): during a stop, 200 µs after the end of a window that is not
confirmed. -/
def Blk.windowLate (t : Nat) (b0 : Blk) : Blk :=
  let b := b0.moveTo t
  if b.stopped && b.windowOpen && decide ((b.hdl.window.getD 0) * 1000000 + 328000 ≤ b.now) then
    (b.clampFault 9 0xFF true).suppressBeacons
  else b

/-- WINDOW_CONFIRM_TIMEOUT (R328, CF09). -/
def execWindowConfirmTimeout (t : Nat) : State → Host.Outcome State Fault Refusal := onBlk (Blk.windowLate t)

/-- K_(P+1) is not held though WC[15:0] has reached 65 000 (R192). -/
def Blk.keyLate (b : Blk) : Bool :=
  decide (65000 ≤ b.wc % 2 ^ 16) && !b.air.kp.any (fun q => q.1 == (b.keyPeriod + 1) % 2 ^ 32)

/-- PERIOD_KEY_NOT_READY at instant `t` (R192, CF10). -/
def Blk.keyNotReady (t : Nat) (b0 : Blk) : Blk :=
  let b := b0.moveTo t
  if b.keyLate then (b.siteFault 10 0xFF).suppressBeacons else b

/-- PERIOD_KEY_NOT_READY (R192, CF10). -/
def execPeriodKeyNotReady (t : Nat) : State → Host.Outcome State Fault Refusal := onBlk (Blk.keyNotReady t)

/-- A fault that ends with its condition (CF12, CF14, CF15): noted and asserted once. -/
def Blk.passingFault (b : Blk) (code : Nat) (f : Clp → Clp) : Blk :=
  ((b.modClp f).clampFault code 0xFF false).assertLasting 9 0 0xFF

/-- VFIELD_OUT_OF_RANGE of field die `die` (R539, CF12): VFIELD0_OOR or VFIELD1_OOR, and VFIELD_REV where it is
reversed (R528). -/
def Blk.vfieldBad (b : Blk) (die : Nat) (rev : Bool) : Blk :=
  let b1 := b.setFlag Reg.MON_STATUS (5 + die)
  (if rev then b1.setFlag Reg.MON_STATUS 7 else b1).passingFault 12 (fun c => { c with
    cf12 := true, vfBad := Tab.put c.vfBad die b.elapsed })

/-- VFIELD_OUT_OF_RANGE (R202, R539). -/
def execVfieldOutOfRange (die : Fin 2) (rev : Bool) : State → Host.Outcome State Fault Refusal :=
  onReady (fun b => b.vfieldBad die.val rev)

/-- VFIELD_RECOVERED of field die `die` at instant `t` (R202): in range for `held` ns, 100 ms or more and no longer than
since it was last out of range, its flag of R528 clears; with no die left out of range CF12 does, and VFIELD_REV. -/
def Blk.vfieldGood (b0 : Blk) (t die held : Nat) : Blk :=
  let b := b0.moveTo t
  if b.clp.vfBad.any (fun q => q.1 == die && decide (q.2 + held ≤ b.elapsed)) && decide (100000000 ≤ held) then
    let left := Tab.del b.clp.vfBad die
    let b1 := (b.clrFlag Reg.MON_STATUS (5 + die)).modClp (fun c => { c with vfBad := left, cf12 := left != [] })
    Blk.syncInternal (if left = [] then b1.clrFlag Reg.MON_STATUS 7 else b1)
  else b

/-- VFIELD_RECOVERED (R202). -/
def execVfieldRecovered (t : Nat) (die : Fin 2) (held : Nat) : State → Host.Outcome State Fault Refusal :=
  onReady (fun b => b.vfieldGood t die.val held)

/-- DIE_OVERTEMP (R202, CF15): above +125 °C, or back below +115 °C; TEMP_TRIP of R528. -/
def Blk.dieTemp (b : Blk) (isOver : Bool) : Blk :=
  if isOver then (b.setFlag Reg.MON_STATUS 8).passingFault 15 (fun c => { c with cf15 := true })
  else Blk.syncInternal ((b.clrFlag Reg.MON_STATUS 8).modClp (fun c => { c with cf15 := false }))

/-- DIE_OVERTEMP (R202). -/
def execDieOvertemp (isOver : Bool) : State → Host.Outcome State Fault Refusal := onReady (fun b => b.dieTemp isOver)

/-! ## STO pairs (R181-R184) -/

/-- CLP_RAMP_LIMIT of group `g` in ms (R204). -/
def Blk.rampLimit (b : Blk) (g : Nat) : Nat :=
  b.fld (Reg.CLP_RAMP_LIMIT (g / 2)) (if g % 2 = 1 then 31 else 15) (if g % 2 = 1 then 16 else 0)

/-- RAMP_LIMIT_EXPIRY of group `g` at instant `t` (R183). -/
def Blk.rampExpiry (b0 : Blk) (t g : Nat) : Blk :=
  let b := b0.moveTo t
  if b.group g = .ramp ∧ Tab.val b.clp.rampSince g 0 + b.rampLimit g * 1000000 ≤ b.elapsed then
    (b.setGroup g .off).cutAxes g
  else b

/-- RAMP_LIMIT_EXPIRY (R183). -/
def execRampLimitExpiry (t : Nat) (g : Group12) : State → Host.Outcome State Fault Refusal :=
  onBlk (fun b => b.rampExpiry t g.val)

/-- CF04 of an output of group `g` (R182): the site stop cuts the pair; the output still reads on. -/
def Blk.stuckOn (b : Blk) (g : Nat) (chB : Bool) : Blk :=
  let b1 := b.siteFault 4 g
  let b2 := if b1.pairOn g then b1.setGroup g .off else b1
  b2.modClp (fun c => if chB then { c with stoB := setBit c.stoB g } else { c with stoA := setBit c.stoA g })

/-- STO_DARK_TEST of one output of group `g` (R182): one that does not follow reads on while driven off. -/
def Blk.darkTest (b : Blk) (g : Nat) (chB followed : Bool) : Blk :=
  if b.pairOn g && !followed then b.stuckOn g chB else b

/-- STO_DARK_TEST (R182). -/
def execStoDarkTest (g : Group12) (chB followed : Bool) : State → Host.Outcome State Fault Refusal :=
  onBlk (fun b => b.darkTest g.val chB followed)

/-- CF05 of group `g` (R182, R202): a group stop, and the output reads off. -/
def Blk.deadOutput (b : Blk) (g : Nat) : Blk :=
  ((b.clampFault 5 g true).modClp (fun c => { c with cf05 := setBit c.cf05 g })).groupStop g 48

/-- STO_READBACK_FAULT (R182): reads on while driven off is CF04, off while driven on is CF05. -/
def Blk.readback (b : Blk) (g : Nat) (chB readsOn : Bool) : Blk :=
  if readsOn then (if b.pairOn g then b else b.stuckOn g chB)
  else if b.pairOn g then b.deadOutput g else b

/-- STO_READBACK_FAULT (R182). -/
def execStoReadbackFault (g : Group12) (chB readsOn : Bool) : State → Host.Outcome State Fault Refusal :=
  onBlk (fun b => b.readback g.val chB readsOn)

/-- Groups within the resources of the mode (R163, R181). -/
def Blk.groupAllowed (b : Blk) (g : Nat) : Bool := !b.hst.planes || decide (g < 4)

/-- STO_DELAY has passed since the last release commit (R181). -/
def Blk.stoDelayOver (b : Blk) : Bool :=
  decide (b.clp.releaseAt + b.fld Reg.CLP_REL_CFG 23 16 * 1000000 ≤ b.elapsed)

/-- STO_DELAY_EXPIRY at instant `t` (R181, R197): the pairs without a group stop switch on. -/
def Blk.stoOn (b0 : Blk) (t : Nat) : Blk :=
  let b := b0.moveTo t
  if !b.stopped && b.stoDelayOver then
    (List.range 12).foldl (fun b g => if b.group g = .off ∧ b.groupAllowed g then b.setGroup g .on else b) b
  else b

/-- STO_DELAY_EXPIRY (R181). -/
def execStoDelayExpiry (t : Nat) : State → Host.Outcome State Fault Refusal := onBlk (fun b => b.stoOn t)

/-! ## Release (R196, R197) -/

/-- The failing preconditions of R196. -/
def Blk.releaseBlock (b : Blk) : Nat :=
  let c := b.clp
  let cmonBad := (List.range 2).any (fun m =>
    b.flag (Reg.CLP_CMON_CFG m) 15 && b.fld (Reg.CLP_CMON_CFG m) 11 0 != 0 && (b.cmonOf m).isOpen)
  b2n (c.a.active != 0 || c.b.active != 0)
    + 2 * b2n (!(c.a.stop == c.b.stop && c.a.latch == c.b.latch))
    + 4 * b2n (c.faultCode != 0)
    + 8 * b2n ((List.range 12).any (fun g => b.group g == .ramp))
    + 16 * b2n (c.stoA != 0 || c.stoB != 0)
    + 32 * b2n cmonBad
    + 64 * b2n (decide (b.elapsed < c.stopAt + b.fld Reg.CLP_REL_CFG 15 0 * 1000000))
    + 128 * b2n (!b.pwr.ready)

/-- A channel as a release leaves it. -/
def Chan.release (c : Chan) : Chan := { c with stop := false, latch := 0 }

/-- The release commits as S_R (R197), or, with no map in service, without an epoch (R172): every axis takes
its measured position as set-point, a survey's FIELD item ends (R508), and the deferred transactions follow. -/
def Blk.commitRelease (b : Blk) : Blk :=
  let map := b.inService && !b.clp.cf14
  let sr := if map then b.fleet.epoch + 1 else 0
  let b1 := b.modClp (fun c => { c with a := c.a.release, b := c.b.release, sr := sr, releaseAt := b.elapsed })
  let b2 := if map then
      (b1.install b1.fleet.coh.released sr []).bump Reg.DVT_COMMIT_COUNT |>.dvtItem 3 0xFF clampTxn St.done 0 sr
    else b1
  let b3 := ((b2.modDvt (fun d => { d with frozen := false, quotaNew := true, quotaTick := false })).modAir
    (fun a => { a with relEpoch := sr })).record 0x0203 (leBytes 8 sr)
  let b4 := (List.range 48).foldl (fun b n => if b.axMode n = 0 then b else b.modLoop n (fun l => { l with reset := true })) b3
  (b4.modPwr (fun p => { p with survey := p.survey.map (fun s => { s with fieldCut := true }) })).replay

/-- RELEASE (R196, R197). -/
def Blk.release (d : Desc) (b : Blk) : Blk :=
  if !b.stopped then b.complete d.id 0x22 0
  else if d.op 0x18 8 ≠ b.clp.s then b.complete d.id 0x21 (b.clp.s % 2 ^ 32)
  else if b.releaseBlock ≠ 0 then b.complete d.id 0x20 b.releaseBlock
  else
    let b1 := b.commitRelease
    b1.completeAt d.id St.done 0 b1.clp.sr b1.nowFt64

/-- RELEASE (R196, R197). -/
def execRelease (d : Desc) : State → Host.Outcome State Fault Refusal := onBlk (fun b => b.start d (Blk.release d))

/-- A group in group stop may be switched on (R184). -/
def Blk.groupMayStart (b : Blk) (g : Nat) : Bool :=
  b.group g == .offFault && b.groupAllowed g && b.stoDelayOver && !bitOf b.clp.cf05 g
    && (List.range 4).all (fun k => (b.axis (4 * g + k)).fault == 0)

/-- GROUP_RELEASE (R184, R199). -/
def Blk.groupRelease (d : Desc) (b : Blk) : Blk :=
  let mask := d.op 0x18 2
  if 2 ^ 12 ≤ mask then b.bad d.id 0x0B 0x18
  else if b.stopped then b.complete d.id St.stopped (b.clp.s % 2 ^ 32)
  else
    let gs := (List.range 12).filter (fun g => bitOf mask g && b.groupMayStart g)
    (gs.foldl (fun b g => b.setGroup g .on) b).done d.id (maskOf 12 gs.contains)

/-- GROUP_RELEASE (R184, R199). -/
def execGroupRelease (d : Desc) : State → Host.Outcome State Fault Refusal :=
  onBlk (fun b => b.start d (Blk.groupRelease d))

end Sys2Proof.Machine
end

