-- ==== Sys2Proof/Machine/KeyOps.lean ====
section
/-! DEFINITION. Sys2Proof/Machine/KeyOps.lean: the derivation tree, the cache, the store slots and unsealing
(R454-R463). -/

namespace Sys2Proof.Machine

open Sys2Proof

/-! ## The derivation tree (R456) -/

/-- U: SYS_UID as 8 big-endian bytes. -/
def Blk.u8 (b : Blk) : Bytes := beBytes 8 b.uid.toNat

/-- STATE of a life-cycle state (R466). -/
def LifeCycle.code : LifeCycle → Nat
  | .manuf => 1 | .field => 3 | .rma => 4 | .scrapped => 5

/-- The life-cycle state of a code. -/
def LifeCycle.ofCode : Nat → Option LifeCycle
  | 1 => some .manuf | 3 => some .field | 4 => some .rma | 5 => some .scrapped | _ => none

/-- The test root is in force (R466). -/
def LifeCycle.test (l : LifeCycle) : Bool := l == .manuf || l == .rma

/-- The root in force (R456, R466). -/
def Blk.root (b : Blk) (i : Ident) : Bytes :=
  if i.lc.test then Config.sha256 (ascii "TSL9648-TST" ++ b.u8) else Config.deviceRoot

/-- K_LCA (R456). -/
def Blk.kLca (b : Blk) (i : Ident) : Bytes := derive (b.root i) "TSL9648-LCA" b.u8 256

/-- K_SR, the site stop root. -/
def kSr (site : Bytes) : Bytes := derive site "TSL9648-STP" [] 256

/-- K_ENR of an EUI (R285). -/
def kEnr (site : Bytes) (eui : Nat) : Bytes :=
  derive (derive site "TSL9648-ENR" [] 256) "TSL9648-PEN" (beBytes 8 eui) 256

/-- K_HL of an EUI (R319). -/
def kHl (site : Bytes) (eui : Nat) : Bytes :=
  derive (derive site "TSL9648-HRT" [] 256) "TSL9648-HLK" (beBytes 8 eui) 256

/-- K_CP, the coordinator pairing key (R334). -/
def kCp (site : Bytes) : Bytes := derive site "TSL9648-CPR" [] 128

/-- K_WRAP. -/
def kWrap (site : Bytes) : Bytes := derive site "TSL9648-WRP" [] 256

/-- K_RA, the recorder authorisation key. -/
def Blk.kRa (b : Blk) (site : Bytes) : Bytes := derive site "TSL9648-REC" b.u8 256

/-- K_TA, tamper acknowledgement and recommissioning. -/
def Blk.kTa (b : Blk) (site : Bytes) : Bytes := derive site "TSL9648-TAK" b.u8 256

/-- K_P of a period (R191). -/
def Blk.kP (b : Blk) (site : Bytes) (p : Nat) : Bytes :=
  derive (kSr site) "TSL9648-STS" (b.u8 ++ beBytes 4 p) 256

/-- K_BCN,P of a period (R278). -/
def Blk.kBcn (b : Blk) (site : Bytes) (p : Nat) : Bytes :=
  derive (kSr site) "TSL9648-BCN" (b.u8 ++ beBytes 4 p) 128

/-- KCV of a key: the first 4 bytes of its CMAC of 16 zero bytes, little-endian (R463). -/
def kcv (k : Bytes) : Nat := le (Config.cmac k (zeros 16)) 0 4

/-- The keys of period `p` derived and handed to AIR and HDL; older periods than the present are dropped (R192,
R458). -/
def Blk.holdPeriod (b : Blk) (p : Nat) : Blk :=
  match b.key.site with
  | none => b
  | some site => b.modAir (fun a => { a with
      kp := Tab.put (a.kp.filter (fun (q : Nat × Bytes) => decide (b.keyPeriod ≤ q.1))) p (b.kP site p)
      kbcn := Tab.put (a.kbcn.filter (fun (q : Nat × Bytes) => decide (b.keyPeriod ≤ q.1))) p (b.kBcn site p) })

/-- The keys of the present and next periods held at all times (R192). -/
def Blk.holdKeys (b : Blk) : Blk := (b.holdPeriod b.keyPeriod).holdPeriod ((b.keyPeriod + 1) % 2 ^ 32)

/-! ## The store (R459-R461) -/

/-- A slot is valid under R461. -/
def StoreSlot.valid (s : StoreSlot) (i : Ident) : Bool :=
  !s.torn && s.commit && s.lcState == i.lc.code && s.lcCount == i.lcCount

/-- The key of store entry 0 in the valid slot with the higher GEN, whether or not the store is sealed (R472). -/
def Blk.entry0 (b : Blk) (i : Ident) : Option Bytes :=
  let a := b.key.slotA
  let c := b.key.slotB
  let s := if c.valid i && (!a.valid i || decide (a.gen < c.gen)) then c else a
  if s.valid i then (s.entries.find? (fun p => p.1 == 0)).map (fun p => p.2.key) else none

/-- Unsealing (R461, R462): the valid slot with the higher GEN becomes active, a leftover invalid slot is noted, and
the internal keys are derived from entry 0. -/
def Blk.unseal (b : Blk) (i : Ident) : Blk :=
  let k := b.key
  let a := k.slotA.valid i
  let c := k.slotB.valid i
  let useB := c && (!a || decide (k.slotA.gen < k.slotB.gen))
  let s := if useB then k.slotB else k.slotA
  let any := a || c
  let store := if any then s.entries else []
  let gen := if any then s.gen else 0
  let other := if useB then k.slotA else k.slotB
  let repaired := any && !(other.valid i) && !other.blank
  let b1 := b.modKey (fun k => { k with
    isSealed := false, tampered := false, lost := !any, aValid := a, bValid := c, active := b2n useB, store := store,
    storeGen := gen, repaired := k.repaired || repaired
    site := (store.find? (fun (p : Nat × StoreEntry) => p.1 == 0)).map (fun p => p.2.key) })
  let b2 := if repaired || !any then
      b1.record 0x0A03 (leBytes 1 (b2n (!any)) ++ leBytes 1 (b2n a) ++ leBytes 1 (b2n c) ++ zeros 1 ++ leBytes 4 gen)
    else b1
  b2.holdKeys

/-- The slot that the next store change writes (R460). -/
def Key.setInactive (k : Key) (f : StoreSlot → StoreSlot) : Key :=
  if k.active = 0 then { k with slotB := f k.slotB } else { k with slotA := f k.slotA }

/-! ## The cache (R457, R465) -/

/-- Cache entry `n`. -/
def Blk.cacheOf (b : Blk) (n : Nat) : CacheEntry := Tab.val b.key.cache n {}

/-- Entry `n` is `root` or has it in its parent chain. -/
def under (c : Tab CacheEntry) (root : Nat) : Nat → Nat → Bool
  | 0, n => n == root
  | k + 1, n => n == root || (match (Tab.val c n {}).parent with | some p => under c root k p | none => false)

/-- The entries that satisfy `p` zeroised, each with its descendants; generations are kept. -/
def Blk.zeroise (b : Blk) (p : Nat → CacheEntry → Bool) : Blk :=
  let c := b.key.cache
  let roots := (c.filter (fun q => q.2.used && p q.1 q.2)).map (fun q => q.1)
  b.modKey (fun k => { k with cache := k.cache.map (fun (q : Nat × CacheEntry) =>
    if roots.any (fun r => under c r 9 q.1) then (q.1, ({ gen := q.2.gen } : CacheEntry)) else q) })

/-- Host entries in use (R473). -/
def Blk.cacheUsed (b : Blk) : Nat := (b.key.cache.filter (fun q => q.2.used)).length

/-- The lowest free host entry. -/
def Blk.freeCache (b : Blk) : Option Nat :=
  ((List.range 256).drop 32).find? (fun n => !(b.cacheOf n).used)

/-- The generation of a refilled entry: 1-255, skipping 0 (R457). -/
def refillGen (g : Nat) : Nat := if g % 256 = 255 then 1 else g % 256 + 1

/-- An entry filled; the handle is its index and generation. -/
def Blk.fillCache (b : Blk) (n : Nat) (e : CacheEntry) : Blk × Nat :=
  let g := refillGen (b.cacheOf n).gen
  (b.modKey (fun k => { k with cache := Tab.put k.cache n { e with gen := g, used := true } }), g * 256 + n)

/-! ## Statuses of KEY (R465) -/

/-- KEY_NO_ENTRY. -/
def St.keyNoEntry : Nat := 0x20
/-- KEY_STALE. -/
def St.keyStale : Nat := 0x21
/-- KEY_DEPTH. -/
def St.keyDepth : Nat := 0x22
/-- KEY_CACHE_FULL. -/
def St.keyCacheFull : Nat := 0x23
/-- KEY_UNWRAP_FAIL. -/
def St.keyUnwrapFail : Nat := 0x24
/-- KEY_MIC_FAIL. -/
def St.keyMicFail : Nat := 0x25
/-- KEY_INSTALLED. -/
def St.keyInstalled : Nat := 0x26
/-- KEY_SEALED. -/
def St.keySealed : Nat := 0x27
/-- KEY_LABEL. -/
def St.keyLabel : Nat := 0x28
/-- KEY_AUTH_FAIL. -/
def St.keyAuthFail : Nat := 0x29
/-- KEY_LC_TARGET. -/
def St.keyLcTarget : Nat := 0x2B

/-- A key operation completes, and is counted (R473). -/
def Blk.keyDone (b : Blk) (id : OpId) (status detail : Nat) : Blk :=
  let b1 := b.bump Reg.KEY_OP_COUNT
  (if status = St.keyAttr then b1.bump Reg.KEY_ATTR_COUNT else b1).complete id status detail

/-- What bars a key operation in the present state (R462, R466, R470, R471). -/
def Blk.keyBar (b : Blk) (i : Ident) (op : Nat) : Option Nat :=
  if i.lc = .scrapped ∧ op ≠ 0x0809 then some St.denied
  else if b.key.lockout ∧ op ≠ 0x0809 then some St.tamper
  else if b.key.tampered && !b.key.isSealed then some St.tamper
  else if b.key.isSealed && !([0x0809, 0x080A, 0x080B, 0x080C].contains op) then some St.keySealed
  else none

/-- A key operation: its operand checks, then its bar, then its effect. -/
def Blk.keyOp (i : Ident) (d : Desc) (cs : List (Bool × Nat × Nat)) (f : Blk → Blk) (b : Blk) : Blk :=
  b.start d (fun b => b.checked d cs (fun b =>
    match b.keyBar i d.opcode with
    | some st => b.keyDone d.id st 0
    | none => f b))

/-- An operation on the entry of a handle: DENIED below index 32, KEY_STALE for another generation (R457). -/
def Blk.withHandle (b : Blk) (id : OpId) (h : Nat) (f : Nat → CacheEntry → Blk) : Blk :=
  let n := h % 256
  let e := b.cacheOf n
  if n < 32 then b.keyDone id St.denied 0
  else if e.used && e.gen == h / 256 then f n e
  else b.keyDone id St.keyStale h

/-- An operation on a handle whose key must have an attribute (R454). -/
def Blk.withAttr (b : Blk) (id : OpId) (h attr : Nat) (f : Nat → CacheEntry → Blk) : Blk :=
  b.withHandle id h (fun n e => if e.attr = attr then f n e else b.keyDone id St.keyAttr (e.attr * 2 ^ 16 + h))

/-! ## Challenges (R464, R465) -/

/-- The challenge of a purpose, while it is valid: within 60 s of its issue. -/
def Blk.challenge (b : Blk) (p : Nat) : Option Bytes :=
  (b.key.chall.find? (fun q => q.1 == p && decide (b.elapsed ≤ q.2.2 + 60000000000))).map (fun q => q.2.1)

/-- The challenge of a purpose used up. -/
def Blk.useChallenge (b : Blk) (p : Nat) : Blk := b.modKey (fun k => { k with chall := Tab.del k.chall p })

/-- A response matches: CMAC of the challenge and the context under a key. -/
def Blk.authentic (b : Blk) (p : Nat) (key ctx response : Bytes) : Bool :=
  match b.challenge p with
  | none => false
  | some c => Config.cmac key (c ++ ctx) == response

/-- A wrong response to KEY: counted, recorded, KEY_AUTH_FAIL (R467, R472). -/
def Blk.authFail (b : Blk) (id : OpId) (p : Nat) : Blk :=
  (((b.useChallenge p).bump Reg.KEY_AUTH_FAIL_COUNT).record 0x0A05 (leBytes 1 p)).keyDone id St.keyAuthFail p

end Sys2Proof.Machine
end

