-- ==== Sys2Proof/Machine/HeadOps.lean ====
section
/-! DEFINITION. Sys2Proof/Machine/HeadOps.lean: what the air protocol and the heads share: head ticks and fleet time
(R322, R323), frames received and sent (R317, R327, R330), the loss of a head and failover (R333). -/

namespace Sys2Proof.Machine

open Sys2Proof

/-! ## Ticks and fleet time (R323) -/

/-- A head tick value unwrapped next to `x0` (R322: signed difference on 40 bits). -/
def unwrapTick (x0 : Int) (v : Nat) : Int := x0 + sdiff 40 v (x0 % 2 ^ 40).toNat

/-- Fleet time in 2^-16 ns of an unwrapped head tick (log 30: rounded down). -/
def Line.fleet (l : Line) (x : Int) : Int := l.y0 + (x - l.x0) * l.num / l.den

/-- Fleet time in 2^-16 ns of a head tick value. -/
def Line.toFleet (l : Line) (v : Nat) : Int := l.fleet (unwrapTick l.x0 v)

/-- The head tick of a fleet instant in ns, bits [39:0]. -/
def Line.tick (l : Line) (ns : Nat) : Nat := ((l.x0 + ((ns : Int) * 65536 - l.y0) * l.den / l.num) % 2 ^ 40).toNat

/-- The fleet instant in ns of a head tick value. -/
def Line.toNs (l : Line) (v : Nat) : Nat := (l.toFleet v / 65536).toNat

/-- RATE of R322: −ρ in 2^-20 ppm. -/
def Line.rate (l : Line) : Int :=
  (l.den * 655360000 - l.num * 638976) * (1000000 * 2 ^ 20) / (l.den * 655360000)

/-! ## Frames (R317, R327) -/

/-- A frame of a type received on port `h` from its joined head: HCRC, then MIC and counter; its payload, or none
and the failure counted (R317). -/
def Blk.hlRx (b : Blk) (h typ : Nat) (frame : Bytes) : Option Bytes × Blk :=
  match b.ethPayload frame with
  | none => (none, b)
  | some p => match hlParse p with
    | none => (none, b.bump Reg.HDL_HCRC_ERR_COUNT)
    | some f =>
      let x := b.head h
      if !x.joined then (none, b)
      else
        let fresh := match x.rx with | none => true | some c => decide (c < f.cnt)
        match hlOpen x.kHs x.eui 1 f with
        | none => (none, b.bump Reg.HDL_MIC_ERR_COUNT)
        | some body =>
          if !fresh then (none, b.bump Reg.HDL_MIC_ERR_COUNT)
          else
            let b1 := b.setHead h { x with rx := some f.cnt }
            (if f.typ = typ then some body else none, b1)

/-- A TX frame to head `h`, with the next TXID (R327): `launch` in fleet ns, PHY, STS key choice, SHORT, V and PSDU. -/
def Blk.txSend (b : Blk) (h launch phy sts short : Nat) (v psdu : Bytes) : Blk :=
  let id := b.hdl.txid
  (b.modHdl (fun x => { x with txid := (id + 1) % 0xFFFFFF00 })).headSend h 0x05
    (leBytes 4 id ++ leBytes 8 ((b.head h).line.tick launch) ++ leBytes 1 phy ++ leBytes 1 sts ++ leBytes 2 short
      ++ slice v 0 16 ++ leBytes 2 psdu.length ++ zeros 2 ++ psdu)

/-! ## States, loss and failover (R321, R333) -/

/-- STATE code of a head (R321). -/
def HState.code : HState → Nat
  | .absent => 0 | .calibrating => 1 | .up => 2 | .suspect => 3 | .noAir => 4 | .lost => 5

/-- A head's state set; a change is recorded (R321, R481). -/
def Blk.setHState (b : Blk) (h : Nat) (st : HState) : Blk :=
  let x := b.head h
  if x.state = st then b
  else (b.setHead h { x with state := st }).record 0x0601
    (leBytes 1 h ++ leBytes 1 x.state.code ++ leBytes 1 st.code)

/-- The head that takes over a member of head `h` (R333): the lowest one in UP or SUSPECT that accepted the member's
most recent frame, else `h` itself. -/
def Blk.successor (b : Blk) (h : Nat) (l : Link) : Nat :=
  match (List.range 8).find? (fun k => k != h && (l.heard.headD []).contains k
      && ((b.head k).state == .up || (b.head k).state == .suspect)) with
  | none => h
  | some k => k

/-- A slot-map entry without its owner for which `p` holds; a second owner left alone becomes the first (R294). -/
def Slot.without (p : Owner → Bool) (s : Slot) : Slot :=
  let second := s.second.filter (fun o => !p o)
  if p s.toOwner then { toOwner := second.getD {} } else { s with second := second }

/-- A slot map without the entries of head `h`. -/
def dropHead (h : Nat) (m : Tab (List Slot)) : Tab (List Slot) :=
  m.map (fun (q : Nat × List Slot) =>
    (q.1, q.2.map (Slot.without (fun o => o.owner != 0xFFFF && o.head == h))))

/-- Failover (R333): the members of head `h` change head, their pending elements with them, and the slot maps drop
the head. -/
def Blk.failover (b : Blk) (h : Nat) : Blk :=
  b.modAir (fun a => { a with
    links := a.links.map (fun (q : Nat × Link) =>
      if q.2.head = h then
        (q.1, { q.2 with head := b.successor h q.2, elems := q.2.elems.map (fun (e : Elem) => { e with sent := false }) })
      else q)
    maps := dropHead h a.maps
    next := a.next.map (fun (p : Nat × Tab (List Slot)) => (p.1, dropHead h p.2)) })

/-- Head `h` is LOST: its record, CF11 without action of Clamp, and failover (R202, R333). -/
def Blk.headLost (b : Blk) (h : Nat) : Blk :=
  if (b.head h).joined then ((b.setHState h .lost).clampFault 11 h false).failover h else b

end Sys2Proof.Machine
end

