-- ==== Sys2Proof/Machine/Head.lean ====
section
/-! DEFINITION. Sys2Proof/Machine/Head.lean: the heads: joining, heartbeat and mapping, path steps and recalibration,
transmission reports, stop windows and loss (R314-R337). -/

namespace Sys2Proof.Machine

open Sys2Proof

/-! ## Joining (R319, R320) -/

/-- The admitted EUI of port `h` (R336). -/
def Blk.headEui (b : Blk) (h : Nat) : Nat :=
  (b.reg (Reg.HDL_HEAD_EUI_HI h)).toNat * 2 ^ 32 + (b.reg (Reg.HDL_HEAD_EUI_LO h)).toNat

/-- KEYS entries of a period, for each kind held (R331). -/
def Blk.keyEntries (b : Blk) (p : Nat) : Bytes :=
  (match b.air.kp.find? (fun q => q.1 == p) with
    | none => [] | some q => zeros 4 ++ leBytes 4 p ++ slice q.2 0 32)
  ++ (match b.air.kbcn.find? (fun q => q.1 == p) with
    | none => [] | some q => leBytes 1 1 ++ zeros 3 ++ leBytes 4 p ++ slice q.2 0 16 ++ zeros 16)

/-- The keys of the given periods sent to head `h` (R331). -/
def Blk.sendKeys (b : Blk) (h : Nat) (ps : List Nat) : Blk :=
  let body := ps.flatMap b.keyEntries
  if body = [] then b else b.headSend h 0x0A body

/-- The whole MEMBERS table sent to head `h`, in two frames of 64 entries (R331). -/
def Blk.sendMembers (b : Blk) (h : Nat) : Blk :=
  [0, 64].foldl (fun (b : Blk) (k : Nat) =>
    b.headSend h 0x0B ((List.range 64).flatMap (fun i => b.membersEntry (k + i)))) b

/-- A HELLO refused: counted, and from another EUI on a joined port recorded once per EUI (R320). -/
def Blk.helloRefused (b : Blk) (h eui : Nat) : Blk :=
  let x := b.head h
  let b1 := b.bump Reg.HDL_REFUSE_COUNT
  if x.joined && x.eui != eui && !x.recorded.contains eui then
    (b1.setHead h { x with recorded := eui :: x.recorded }).record 0x0604 (leBytes 1 h ++ zeros 3 ++ leBytes 8 eui)
  else b1

/-- A verified HELLO answered (R320): JOIN, K_HS, CALIBRATING, then KEYS and MEMBERS. -/
def Blk.join (b0 : Blk) (h : Nat) (site : Bytes) (src : Bytes) (f : HlRx) (p : Bytes) : Blk :=
  let old := b0.head h
  let eui := le p 0 8
  let k := kHl site eui
  let (n, b) := b0.free
  let nonceD := leBytes 8 n
  let body := slice p 0 8 ++ leBytes 1 h ++ zeros 7 ++ nonceD
  let hs := derive k "TSL9648-HDL" (beBytes 8 eui ++ slice p 8 8 ++ nonceD) 128
  let x : Head := { state := old.state, eui := eui, cap := le p 0x10 2, antDelay := le p 0x12 2, kHs := hs, mac := src
                    linkUp := old.linkUp, hseq := 0xFFFF, recorded := old.recorded, lastHb := b.elapsed, answered := true
                    asym := (b.reg (Reg.HDL_HEAD_ASYM h)).toInt }
  let b1 := (b.modHdl (fun y => { y with joins := Tab.put y.joins eui f.cnt })).emit
    (.head h 0x02 f.cnt body (b.ethernet h src (hlFrame (upperHalf k) eui 0 0x02 0xFF f.cnt false body)))
  let b2 := (b1.setHead h x).setHState h .calibrating
  (b2.sendKeys h [b2.keyPeriod, (b2.keyPeriod + 1) % 2 ^ 32]).sendMembers h

/-- HELLO_RX (R320): the checks in R320's order; without K_SITE the HELLO is ignored. -/
def Blk.hello (b : Blk) (h : Nat) (frame : Bytes) : Blk :=
  match b.ethPayload frame with
  | none => b
  | some p => match hlParse p with
    | none => b.bump Reg.HDL_HCRC_ERR_COUNT
    | some f => match b.key.site with
      | none => b
      | some site =>
        let pay := slice f.rest 0 0x18
        let eui := le pay 0 8
        if f.typ ≠ 1 then b
        else if (b.head h).joined || (b.headEui h != 0 && b.headEui h != eui) then b.helloRefused h eui
        else match hlOpen (upperHalf (kHl site eui)) eui 1 f with
          | none => b.bump Reg.HDL_MIC_ERR_COUNT
          | some pay' =>
            let fresh := match b.hdl.joins.find? (fun q => q.1 == eui) with
              | none => true | some q => decide (q.2 < f.cnt)
            if fresh then b.join h site (slice frame 6 6) f pay' else b.bump Reg.HDL_MIC_ERR_COUNT

/-- HELLO_RX (R320). -/
def execHelloRx (head : Head8) (frame : Bytes) : State → Host.Outcome State Fault Refusal :=
  onIsland .hdl (fun b => if b.inSvc then b.hello head.val frame else b)

/-! ## Heartbeat (R322) -/

/-- Fleet time in 2^-16 ns as FT96; 0 where there is none (R322). -/
def stampBytes : Option Int → Bytes
  | none => zeros 12
  | some x => ft96Bytes (x.toNat * 65536)

/-- HB_DN to head `h`, egressing at `t1` (R322); a heartbeat without an accepted HB_UP is counted. -/
def Blk.beat (b : Blk) (h : Nat) (t1 : Int) : Blk :=
  let x := b.head h
  let seq := (x.hseq + 1) % 65536
  let b1 := if x.answered then b else b.bump (Reg.HDL_HEAD_HB_MISS_COUNT h)
  let body := leBytes 2 seq ++ zeros 2 ++ sleBytes 4 x.line.rate ++ stampBytes x.t1 ++ stampBytes x.t4Prev
  (b1.setHead h { x with hseq := seq, t1Prev := x.t1, t1 := some t1, t4Prev := none, answered := false
                         pend := if x.answered then x.pend else none }).headSend h 0x03 body

/-- The integer multiple of `p` ns at which a timed event falls: the last one up to `t`. -/
def gridAt (p t : Nat) : Nat := t / p * p

/-- HB_DN_TX at the multiple of 125 µs of fleet time that `t0` names (R322): to each joined head, its egress in 2^-16 ns after
that instant. -/
def Blk.heartbeat (t0 : Nat) (egress : List Nat) (b : Blk) : Blk :=
  let t := gridAt 125000 t0
  (List.range 8).foldl (fun b h =>
    if (b.head h).joined then b.beat h (((t * 65536 + egress.getD h 0 : Nat) : Int)) else b) (b.moveTo t)

/-- HB_DN_TX (R322). -/
def execHbDnTx (t : Nat) (egress : List Nat) : State → Host.Outcome State Fault Refusal := onIsland .hdl (Blk.heartbeat t egress)

/-- D of an exchange in 2^-16 ns (R323; log 30: rounded down). -/
def Line.delayOf (l : Line) (e : Exch) : Int := ((e.t4 - e.t1) * l.den - (e.t3 - e.t2) * l.num) / (2 * l.den)

/-- Picoseconds in 2^-16 ns. -/
def psToUnits (ps : Int) : Int := ps * 65536 / 1000

/-- 2^-16 ns in picoseconds. -/
def unitsToPs (u : Int) : Int := u * 1000 / 65536

/-- An exchange complete (R323): discarded as an outlier, or its D and F kept. -/
def Blk.exchange (b : Blk) (h : Nat) (e : Exch) : Blk :=
  let x := b.head h
  let d := x.line.delayOf e
  let out := match x.mPrev with
    | none => false
    | some m => decide ((b.fld Reg.HDL_SYNC_CFG 15 8 * 65536 : Nat) < (d - m).natAbs)
  if out then (b.setHead h { x with outliers := x.outliers + 1 }).bump Reg.HDL_OUTLIER_COUNT
  else
    let f := e.t1 + d + psToUnits x.asym / 2
    b.setHead h { x with ds := d :: x.ds, lastX := some e, need := x.need - 1
                         fitSet := ((e.t2, f) :: x.fitSet).take 64 }

/-- HB_UP of head `h` (R322, R323, R333) received at `t4`, in 2^-16 ns. -/
def Blk.hbUp (h : Nat) (frame : Bytes) (t4 : Nat) (b0 : Blk) : Blk :=
  let b := b0.moveTo (t4 / 65536)
  match b.hlRx h 0x04 frame with
  | (none, b1) => b1
  | (some p, b1) =>
    let x := b1.head h
    if le p 0 2 ≠ x.hseq then (if bitOf (byteAt p 2) 0 then b1 else b1.headLost h)
    else
      let ref := match x.fitSet with | [] => x.line.x0 | q :: _ => q.1
      let t2 := unwrapTick ref (le p 4 8)
      let pend := x.pend
      let b2 := b1.setHead h { x with
        hflags := byteAt p 2, t4Prev := some t4, lastHb := b1.elapsed, answered := true
        pend := match x.t1 with
          | none => none
          | some t1 => if (t4 : Int) - t1 ≤ 100000 * 65536 then some ⟨t1, t2, 0, t4⟩ else none }
      let b3 := match pend with
        | none => b2
        | some e => b2.exchange h { e with t3 := unwrapTick e.t2 (le p 0xC 8) }
      if bitOf (byteAt p 2) 0 then b3 else b3.headLost h

/-- HB_UP_RX (R322). -/
def execHbUpRx (head : Head8) (frame : Bytes) (t4 : Nat) : State → Host.Outcome State Fault Refusal :=
  onIsland .hdl (Blk.hbUp head.val frame t4)

/-! ## Measurement intervals (R321, R323, R325) -/

/-- The least-squares line through points (T2, F), slope exact and offset rounded down (R323, log 30); none below
two distinct points. -/
def fitLine : List (Int × Int) → Option Line
  | [] => none
  | p :: rest =>
    let pts := (p :: rest).map (fun (q : Int × Int) => (q.1 - p.1, q.2 - p.2))
    let n : Int := pts.length
    let sx := (pts.map (fun (q : Int × Int) => q.1)).sum
    let sy := (pts.map (fun (q : Int × Int) => q.2)).sum
    let num := n * (pts.map (fun (q : Int × Int) => q.1 * q.2)).sum - sx * sy
    let den := n * (pts.map (fun (q : Int × Int) => q.1 * q.1)).sum - sx * sx
    if den ≤ 0 ∨ num ≤ 0 then none else some ⟨p.1, p.2 + (sy * den - num * sx) / (n * den), num, den⟩

/-- CAP_MISSING (R321): CAP lacks the channel of AIR_HEAD_CFG.CHAN, STS_ONLY or ACK. -/
def Blk.capMissing (b : Blk) (h : Nat) : Bool :=
  let cap := (b.head h).cap
  !(bitOf cap (b.fld (Reg.AIR_HEAD_CFG h) 8 8) && bitOf cap 3 && bitOf cap 4)

/-- A path step of head `h` in the interval of mean `m` (R325). -/
def Blk.pathStep (b : Blk) (h : Nat) (m : Option Int) : Bool :=
  let x := b.head h
  decide (32 < x.outliers) || (match m, x.mPrev with
    | some m, some p => decide ((b.fld Reg.HDL_SYNC_CFG 23 16 * 65536 : Nat) < (m - p).natAbs)
    | _, _ => false)

/-- A mean for a record: of an interval with no accepted exchange a free value (log 3). -/
def Blk.meanPs (b : Blk) : Option Int → Int × Blk
  | some m => (unitsToPs m, b)
  | none => let (n, b1) := b.free; ((n : Int), b1)

/-- A path step declared (R325): the mapping frozen, SUSPECT, the record with both means. -/
def Blk.stepFound (b : Blk) (h : Nat) (prev m : Option Int) : Blk :=
  let (p0, b1) := b.meanPs prev
  let (p1, b2) := b1.meanPs m
  let b3 := b2.record 0x0602 (leBytes 1 h ++ zeros 3 ++ sleBytes 4 p0 ++ sleBytes 4 p1)
  let x := b3.head h
  if x.frozen then b3
  else (b3.setHead h { x with frozen := true, suspectAt := b3.elapsed }).setHState h .suspect

/-- The delays of head `h` from a mean (R323), and TOO_FAR. -/
def Blk.setDelays (b : Blk) (h : Nat) : Option Int → Blk
  | none => b
  | some m =>
    let x := b.head h
    let dn := (2 * unitsToPs m + x.asym) / 2
    let up := (2 * unitsToPs m - x.asym) / 2
    b.setHead h { x with delay := dn, delayUp := up, tooFar := decide (16000000 < dn ∨ 16000000 < up) }

/-- The end of a recalibration (R326): RECALIBRATED, its record, and the return to ranging. -/
def Blk.recalDone (b : Blk) (h : Nat) : Blk :=
  let x := b.head h
  if x.recal then
    (((b.setHead h { x with recal := false, frozen := false }).setFlag (Reg.HDL_HEAD_STATUS h) 6).modPos
      (fun p => { p with suspect := clearBit p.suspect h })).record 0x0603
      (leBytes 1 h ++ zeros 3 ++ sleBytes 4 x.asym)
  else b

/-- The state that R321 gives head `h` at an interval's end. -/
def Blk.headState (b : Blk) (h : Nat) : Blk :=
  let x := b.head h
  let b1 := b.setHead h { x with capMissing := b.capMissing h }
  let ok := !b.capMissing h && !x.tooFar
  if x.frozen then (if x.state = .suspect && !ok then b1.setHState h .noAir else b1)
  else if x.need = 0 || x.state = .up || x.state = .noAir then b1.setHState h (if ok then .up else .noAir)
  else b1

/-- The end of an interval for head `h` (R323, R325, R326). -/
def Blk.intervalEnd (b : Blk) (h : Nat) : Blk :=
  let x := b.head h
  let m : Option Int := if x.ds = [] then none else some (x.ds.sum / x.ds.length)
  let step := b.pathStep h m
  let b1 := if step then b.stepFound h x.mPrev m else b
  let b2 := b1.setDelays h m
  let y := b2.head h
  let recalEnds := y.recal && y.need == 0
  let mayFit := if y.recal then recalEnds else !y.frozen
  let line := if mayFit then (fitLine y.fitSet).getD y.line else y.line
  let b3 := b2.setHead h { y with line := line, ds := [], outliers := 0, mPrev := m }
  let b4 := if recalEnds then b3.recalDone h else b3
  b4.headState h

/-- SYNC_INTERVAL_END at fleet instant `t` (R323). -/
def Blk.syncEnd (t : Nat) (b : Blk) : Blk :=
  (List.range 8).foldl (fun b h => if (b.head h).joined then b.intervalEnd h else b) (b.moveTo (gridAt 8000000 t))

/-- SYNC_INTERVAL_END (R323, R325). -/
def execSyncIntervalEnd (t : Nat) : State → Host.Outcome State Fault Refusal := onIsland .hdl (Blk.syncEnd t)

/-- SUSPECT_HOLD_EXPIRY of head `h` at instant `t` (R325). -/
def Blk.holdExpiry (t h : Nat) (b0 : Blk) : Blk :=
  let b := b0.moveTo t
  let x := b.head h
  if x.state = .suspect ∧ x.suspectAt + b.fld Reg.HDL_SYNC_CFG 31 24 * 1000000000 ≤ b.elapsed then b.setHState h .noAir
  else b

/-- SUSPECT_HOLD_EXPIRY (R325). -/
def execSuspectHoldExpiry (t : Nat) (head : Head8) : State → Host.Outcome State Fault Refusal :=
  onIsland .hdl (Blk.holdExpiry t head.val)

/-! ## Recalibration (R326) -/

/-- A recalibration begins with asymmetry `a` in ps: 64 new exchanges are wanted. -/
def Blk.recalStart (b : Blk) (h : Nat) (a : Int) : Blk :=
  let x := b.head h
  let m2 := 2 * x.delay - x.asym
  b.setHead h { x with asym := a, recal := true, need := 64, fitSet := []
                       delay := (m2 + a) / 2, delayUp := (m2 - a) / 2 }

/-- A of HOLD (R326), in ps, and the block: 2 × (F_frozen − T1 − M); without an accepted exchange a free value. -/
def Blk.holdAsym (b : Blk) (h : Nat) : Int × Blk :=
  let x := b.head h
  match x.lastX with
  | none => let (n, b1) := b.free; ((n : Int), b1)
  | some e => (unitsToPs (2 * (x.line.fleet e.t2 - e.t1)) - (2 * x.delay - x.asym), b)

/-- A write of HDL_HEADh_CTL (R326, R337): MODE is kept; RECAL starts what MODE says, and HOLD outside SUSPECT is
clamped to 0 and reported. -/
def Blk.writeHeadCtl (b : Blk) (h : Nat) (w : Word) : Blk :=
  let off := Reg.HDL_HEAD_CTL h
  let b1 := b.setReg off (word (fieldOf w 1 1 * 2))
  if !w.getLsbD 0 then b1
  else if w.getLsbD 1 then
    (if (b1.head h).joined then b1.recalStart h (b1.reg (Reg.HDL_HEAD_ASYM h)).toInt else b1)
  else if (b1.head h).state = .suspect then
    let (a, b2) := b1.holdAsym h
    (b2.recalStart h a).setReg (Reg.HDL_HEAD_ASYM h) (sword a)
  else b1.report off 0 0 3 0 1 0

/-- HEAD_RECAL_HOLD (R326). -/
def execHeadRecalHold (head : Head8) (w : Word) : State → Host.Outcome State Fault Refusal :=
  onIsland .hdl (fun b => if b.inSvc then b.writeHeadCtl head.val w else b)

/-- HEAD_RECAL_SET (R326). -/
def execHeadRecalSet (head : Head8) (w : Word) : State → Host.Outcome State Fault Refusal :=
  onIsland .hdl (fun b => if b.inSvc then b.writeHeadCtl head.val w else b)

/-! ## Reports and stop windows (R327, R328) -/

/-- A report of a stop position SENT is kept with its head (R328). -/
def Blk.windowReport (b : Blk) (h pos : Nat) : Blk :=
  let x := b.head h
  b.setHead h { x with winSent := setBit x.winSent pos }

/-- TX_REPORT of head `h` (R327): other than SENT it counts in HDL_LATE_COUNT; SENT gives the transmit time-stamp. -/
def Blk.txReport (h : Nat) (frame : Bytes) (b : Blk) : Blk :=
  match b.hlRx h 0x06 frame with
  | (none, b1) => b1
  | (some p, b1) =>
    let id := le p 0 4
    if byteAt p 4 ≠ 0 then b1.bump Reg.HDL_LATE_COUNT
    else if 0xFFFFFF00 ≤ id then b1.windowReport h (id % 2)
    else
      let at' := (b1.head h).line.toNs (le p 8 8)
      b1.modAir (fun a => { a with links := a.links.map (fun (q : Nat × Link) =>
        if q.2.txid = id ∧ q.2.txHead = h then (q.1, { q.2 with txAt := some at' }) else q) })

/-- TX_REPORT_RX (R327). -/
def execTxReportRx (head : Head8) (frame : Bytes) : State → Host.Outcome State Fault Refusal :=
  onIsland .hdl (Blk.txReport head.val frame)

/-- Windows in a row that head `h` has not reported SENT, the present one with them (R328). -/
def Blk.windowMisses (b : Blk) (h : Nat) : Nat := if b.windowTold h then 0 else (b.head h).winMiss + 1

/-- The reports of the window before counted against each head asked (R328). -/
def Blk.judgeWindow (b : Blk) : Blk :=
  match b.hdl.window with
  | none => b
  | some _ => (List.range 8).foldl (fun b h =>
      let x := b.head h
      if b.windowAsked h then b.setHead h { x with winSent := 0, winMiss := b.windowMisses h } else b) b

/-- The positions of the window that starts at `t`: those whose hand-off, 48 µs before, the stop met (R18, R189). -/
def Blk.windowMask (b : Blk) (t : Nat) : Nat :=
  let e := ((t : Int) - b.inv.jumped).toNat
  b2n (decide (b.clp.stopAt + 48000 ≤ e)) + 2 * b2n (decide (b.clp.stopAt ≤ e + 16000))

/-- STOPWIN to every head with air service for the window that starts at `t` (R328). -/
def Blk.sendWindow (b : Blk) (t mask : Nat) : Blk :=
  let wc := t / 1000000 % 2 ^ 48
  let psel := b2n (wc / 2 ^ 16 != b.keyPeriod)
  (List.range 8).foldl (fun b h =>
    if b.headAir h then
      let x := b.head h
      (b.setHead h { x with winSent := 16 }).headSend h 0x09
        (leBytes 6 wc ++ leBytes 1 mask ++ leBytes 1 psel ++ leBytes 8 (x.line.tick t)
          ++ leBytes 8 (x.line.tick (t + 64000)))
    else b) (b.modHdl (fun y => { y with window := some wc, winMask := mask }))

/-- STOP_WINDOW for the window that starts at the multiple of 1 ms of fleet time that `t0` names, at its hand-off (R189,
R328). -/
def Blk.stopWindow (t0 : Nat) (b0 : Blk) : Blk :=
  let t := gridAt 1000000 t0
  let b := (b0.moveTo (t - 48000)).judgeWindow
  if b.stopped then
    let mask := b.windowMask t
    if mask = 0 then b else b.sendWindow t mask
  else (List.range 8).foldl (fun b h => b.setHead h { b.head h with winMiss := 0 })
    (b.modHdl (fun y => { y with window := none, winMask := 0 }))

/-- STOP_WINDOW (R328). -/
def execStopWindow (t : Nat) : State → Host.Outcome State Fault Refusal := onIsland .hdl (Blk.stopWindow t)

/-- Head `h` has failed to report SENT for three windows in a row, the present one among them where its reports are
still missing (R328). -/
def Blk.windowsMissed (b : Blk) (h : Nat) : Bool :=
  decide (3 ≤ (b.head h).winMiss) || (b.windowAsked h && decide (3 ≤ b.windowMisses h))

/-- STOPWIN_REPORT_MISSING of head `h` (R328, R333). -/
def execStopwinReportMissing (head : Head8) : State → Host.Outcome State Fault Refusal :=
  onIsland .hdl (fun b => if b.windowsMissed head.val then b.headLost head.val else b)

/-! ## Loss (R333) -/

/-- HEAD_HB_LOSS of head `h` at instant `t` (R333). -/
def Blk.hbLoss (t h : Nat) (b0 : Blk) : Blk :=
  let b := b0.moveTo t
  if (b.head h).lastHb + b.fld Reg.HDL_SYNC_CFG 1 0 * 125000 ≤ b.elapsed then b.headLost h else b

/-- HEAD_HB_LOSS (R333). -/
def execHeadHbLoss (t : Nat) (head : Head8) : State → Host.Outcome State Fault Refusal := onIsland .hdl (Blk.hbLoss t head.val)

/-- SGMII_LINK_CHANGE of port `p` (R314, R333): ports 8 and 9 are LAN ports 0 and 1. -/
def Blk.sgmii (b : Blk) (p : Nat) (up : Bool) : Blk :=
  if p < 8 then
    let b1 := b.setHead p { b.head p with linkUp := up }
    if up then b1 else b1.headLost p
  else b.setLan (p - 8) { b.lanPort (p - 8) with up := up }

/-- SGMII_LINK_CHANGE (R333). -/
def execSgmiiLinkChange (port : Fin 10) (up : Bool) : State → Host.Outcome State Fault Refusal :=
  onIsland .hdl (fun b => b.sgmii port.val up)

end Sys2Proof.Machine
end

