-- ==== Sys2Proof/Machine/Fp64.lean ====
section
/-! DEFINITION. Sys2Proof/Machine/Fp64.lean: IEEE 754 binary64 values of descriptors and orbit sets as exact
rationals (R239, R241). -/

namespace Sys2Proof.Machine

open Sys2Proof

/-- The bits are finite. -/
def fp64Finite (v : Nat) : Bool := bitsOf v 62 52 != 2047

/-- The bits are a zero of either sign. -/
def fp64Zero (v : Nat) : Bool := v % 2 ^ 63 == 0

/-- The value of finite bits as numerator and denominator. -/
def fp64Rat (v : Nat) : Int × Nat :=
  let e := bitsOf v 62 52
  let m := bitsOf v 51 0 + if e = 0 then 0 else 2 ^ 52
  let ex : Int := (max e 1 : Nat) - 1075
  let n : Int := if 0 ≤ ex then (m : Int) * 2 ^ ex.toNat else m
  (if bitOf v 63 then -n else n, if 0 ≤ ex then 1 else 2 ^ (-ex).toNat)

/-- The integer square root by `k` steps of bisection over `[lo, lo + 2^k)`. -/
def isqrtFrom (n : Nat) : Nat → Nat → Nat
  | 0, lo => lo
  | k + 1, lo => isqrtFrom n k (if (lo + 2 ^ k) * (lo + 2 ^ k) ≤ n then lo + 2 ^ k else lo)

/-- The integer square root. -/
def isqrt64 (n : Nat) : Nat := isqrtFrom n (n.log2 / 2 + 1) 0

end Sys2Proof.Machine
end

