-- ==== Sys2Proof/Machine/Vec.lean ====
section
/-! DEFINITION. Sys2Proof/Machine/Vec.lean: vectors and matrices of rationals, as the solver uses them (R249-R260). -/

namespace Sys2Proof.Machine

open Sys2Proof Sys2Proof.Config

/-! ## Vectors -/

/-- The sum and the difference of two vectors, a multiple, and the scalar product. -/
def vadd (a b : V3) : V3 := ⟨a.x + b.x, a.y + b.y, a.z + b.z⟩
def vsub (a b : V3) : V3 := ⟨a.x - b.x, a.y - b.y, a.z - b.z⟩
def vscale (k : Rat) (a : V3) : V3 := ⟨k * a.x, k * a.y, k * a.z⟩
def vdot (a b : V3) : Rat := a.x * b.x + a.y * b.y + a.z * b.z

/-- Coordinate `i`. -/
def vget (a : V3) : Nat → Rat
  | 0 => a.x | 1 => a.y | _ => a.z

/-- A distance in m. -/
def vdist (a b : V3) : Rat := Config.sqrt (vdot (vsub a b) (vsub a b))

/-- The nearest whole number, a half rounded up. -/
def roundR (r : Rat) : Int := (r + 1 / 2).floor

/-! ## Matrices by rows -/

/-- The scalar product of two rows. -/
def rdot (a b : List Rat) : Rat := (List.zipWith (fun x y => x * y) a b).sum

/-- A matrix of `n` rows and `m` columns. -/
def mOf (n m : Nat) (f : Nat → Nat → Rat) : Mat := (List.range n).map (fun i => (List.range m).map (f i))

/-- The transpose of a matrix of `m` columns. -/
def mT (m : Nat) (a : Mat) : Mat := (List.range m).map (fun j => a.map (fun r => r.getD j 0))

/-- The product with the transpose of `b`. -/
def mMulT (a b : Mat) : Mat := a.map (fun r => b.map (rdot r))

/-- The product with a matrix `b` of `m` columns. -/
def mMul (a b : Mat) (m : Nat) : Mat := mMulT a (mT m b)

/-- Sum and difference. -/
def mAdd (a b : Mat) : Mat := List.zipWith (List.zipWith (fun x y => x + y)) a b
def mSub (a b : Mat) : Mat := List.zipWith (List.zipWith (fun x y => x - y)) a b

/-- The identity. -/
def mId (n : Nat) : Mat := mOf n n (fun i j => if i = j then 1 else 0)

/-- Gauss-Jordan elimination of column `c` and the following ones: the rows done, then the others. -/
def gauss : Nat → Nat → Mat → Mat → Option Mat
  | 0, _, done, _ => some done
  | k + 1, c, done, rest =>
    match rest.find? (fun r => r.getD c 0 != 0) with
    | none => none
    | some r =>
      let p := r.map (fun x => x / r.getD c 0)
      let clear (q : List Rat) : List Rat := List.zipWith (fun x y => x - q.getD c 0 * y) q p
      gauss k (c + 1) (done.map clear ++ [p]) ((rest.erase r).map clear)

/-- The inverse, where there is one. -/
def mInv (a : Mat) : Option Mat :=
  let n := a.length
  (gauss n 0 [] (List.zipWith (fun x y => x ++ y) a (mId n))).map (fun m => m.map (fun r => r.drop n))

/-- A list in rising order of a key. -/
def insertBy {α : Type} (key : α → Rat) (a : α) : List α → List α
  | [] => [a]
  | b :: rest => if key a ≤ key b then a :: b :: rest else b :: insertBy key a rest

def sortBy {α : Type} (key : α → Rat) : List α → List α
  | [] => []
  | a :: rest => insertBy key a (sortBy key rest)

/-- The first of the entries with the greatest key. -/
def maxBy {α : Type} (key : α → Rat) : List α → Option α
  | [] => none
  | a :: rest => match maxBy key rest with
    | none => some a
    | some b => if key b ≤ key a then some a else some b

end Sys2Proof.Machine
end

