-- ==== Sys2Proof/Machine/Orbit.lean ====
section
/-! DEFINITION. Sys2Proof/Machine/Orbit.lean: systems and their time scales (R211, R212), orbit sets and where they put a
satellite (R241-R243). -/

namespace Sys2Proof.Machine

open Sys2Proof Sys2Proof.Config

/-! ## Systems (R211, R212) -/

/-- The SVIDs of a system (R211). -/
def svidMax (sys : Nat) : Nat := match sys with | 0 => 32 | 1 => 36 | 2 => 63 | _ => 10

/-- SIG of a system (R211). -/
def sigOf (sys : Nat) : Nat := match sys with | 1 => 1 | 2 => 2 | _ => 0

/-- A system's time at fleet instant `t`, in ns (R212): TAI − 33 s for BeiDou, TAI − 19 s for the others. -/
def systemTime (sys t : Nat) : Int := (t : Int) - (if sys = 2 then 33 else 19) * 1000000000

/-- c in m/s. -/
def lightSpeed : Rat := 299792458

/-- F_L1 in Hz, and its wavelength in m (R214). -/
def fL1 : Rat := 1575420000
def waveL1 : Rat := lightSpeed / fL1

/-! ## Orbit sets (R241, R242) -/

/-- KIND of a system's records (R241). -/
def kindOf (sys : Nat) : Nat := match sys with | 1 => 1 | 2 => 2 | _ => 0

/-- The first failing field of the orbit record at `o` (R242). -/
def orbitRecBad (s : Bytes) (o : Nat) : Option Nat :=
  let sys := byteAt s o
  let sv := byteAt s (o + 1)
  let fit := le s (o + 0x18) 4
  if 3 < sys then some o
  else if sv = 0 ∨ svidMax sys < sv then some (o + 1)
  else if byteAt s (o + 3) ≠ kindOf sys then some (o + 3)
  else if fit < 60 ∨ 14400 < fit then some (o + 0x18)
  else if !allZero s (o + 0x1C) 4 then some (o + 0x1C)
  else if sys ≠ 2 && !fp64Zero (le s (o + 0x28) 8) then some (o + 0x28)
  else if sys ≠ 2 && !fp64Zero (le s (o + 0x60) 8) then some (o + 0x60)
  else none

/-- Validation of an orbit set of SIZE bytes (R242): the offset of the first failing field, or the set.  R242 names no place for
SET_ID and the header's zeros: they are checked after CRC (DEDUCED, log 110). -/
def checkOrbit (size : Nat) (s : Bytes) : Except Nat OrbitSet :=
  let n := le s 6 2
  if le s 0 4 ≠ 0x4F4C5354 then .error 0
  else if le s 4 2 ≠ 1 then .error 4
  else if n = 0 ∨ 160 < n then .error 6
  else if size ≠ 32 + 200 * n then .error 6
  else if (crc32c (slice s 0 12 ++ zeros 4 ++ slice s 16 (size - 16))).toNat ≠ le s 12 4 then .error 12
  else if le s 8 4 = 0 then .error 8
  else if !allZero s 16 16 then .error 16
  else match (List.range n).findSome? (fun i => orbitRecBad s (32 + 200 * i)) with
    | some o => .error o
    | none => .ok ⟨le s 8 4, (List.range n).map (fun i => slice s (32 + 200 * i) 200)⟩

/-- FP64 bits as a rational. -/
def fp64Q (v : Nat) : Rat := let q := fp64Rat v; (q.1 : Rat) / (q.2 : Rat)

/-- The three coordinates of 24 bytes. -/
def fp64V3 (p : Bytes) : V3 := ⟨fp64Q (le p 0 8), fp64Q (le p 8 8), fp64Q (le p 16 8)⟩

/-- A fleet instant of `t` ns in s. -/
def secsQ (t : Nat) : Rat := (t : Rat) / 1000000000

/-- TOE of a record, and its distance in s from `t` s of fleet time. -/
def toeAge (t : Rat) (r : Bytes) : Rat := let d := t - fp64Q (le r 8 8); if d < 0 then -d else d

/-- A record is usable at `t` s of fleet time (R243); one with a value that is no number never is (log 110). -/
def recUsable (t : Rat) (r : Bytes) : Bool :=
  byteAt r 2 == 0 && fp64Finite (le r 8 8) && fp64Finite (le r 0x10 8)
    && (List.range 21).all (fun i => fp64Finite (le r (0x20 + 8 * i) 8))
    && decide (toeAge t r * 2 ≤ (le r 0x18 4 : Rat))

/-- The record of a satellite at an instant (R242): of two, the one whose TOE is nearest; none where it is not usable. -/
def recOf (recs : List Bytes) (t : Rat) (sys svid : Nat) : Option Bytes :=
  match sortBy (toeAge t) (recs.filter (fun r => byteAt r 0 == sys && byteAt r 1 == svid)) with
  | [] => none
  | r :: _ => if recUsable t r then some r else none

/-- The satellites with a usable record. -/
def satsOf (recs : List Bytes) (t : Rat) : List (Nat × Nat) :=
  ((recs.map (fun r => (byteAt r 0, byteAt r 1))).eraseDups).filter (fun q => (recOf recs t q.1 q.2).isSome)

/-! ## Where a satellite is (R241) -/

/-- A satellite at the instant its signal left: position and velocity in ECEF, clock error in s. -/
structure SatAt where
  pos : V3
  vel : V3
  clk : Rat
  deriving DecidableEq, Repr

/-- A record evaluated at `t` s (R241): the broadcast-orbit algorithm of its KIND, and the clock with TGD. -/
def recEval (r : Bytes) (t : Rat) : SatAt :=
  let p (i : Nat) : Rat := fp64Q (le r (0x20 + 8 * i) 8)
  let s := Config.orbitAt (byteAt r 3) ((List.range 17).map p) (t - fp64Q (le r 8 8))
  let d := t - fp64Q (le r 0x10 8)
  ⟨s.pos, s.vel, p 17 + p 18 * d + p 19 * d * d + s.rel - p 20⟩

/-- A satellite as it was when the signal that `rx` receives at `t` s left it. -/
def satAt (recs : List Bytes) (t : Rat) (rx : V3) (sys svid : Nat) : Option SatAt :=
  (recOf recs t sys svid).map (fun r => recEval r (t - Config.range rx (recEval r t).pos / lightSpeed))

/-- The tropospheric delay of a satellite's signal at a receiver, m (R251). -/
def tropoAt (rx : V3) (s : SatAt) : Rat := Config.tropo (Config.height rx) (Config.elevation rx s.pos)

/-- The pseudorange that a receiver without clock error would measure, m. -/
def predRange (rx : V3) (s : SatAt) : Rat := Config.range rx s.pos - lightSpeed * s.clk + tropoAt rx s

/-- The rate of a satellite's range from a receiver moving at `v`, m/s. -/
def rangeRate (rx v : V3) (s : SatAt) : Rat := vdot (Config.sight rx s.pos) (vsub s.vel v)

/-- The set in service at fleet instant `t` ns (R243): until 2 s after a switch, the previous one for an instant before it. -/
def Blk.setAt (b : Blk) (t : Nat) : List Bytes :=
  match b.pos.orbitPrev with
  | some (o, sw, e) => if t < sw ∧ b.elapsed ≤ e + 2000000000 then o.recs else (b.pos.orbit.map (fun o => o.recs)).getD []
  | none => (b.pos.orbit.map (fun o => o.recs)).getD []

/-- NO_ORBIT (R243): the active set has no usable record for at least 4 satellites. -/
def Blk.noOrbit (b : Blk) : Bool :=
  match b.pos.orbit with
  | none => true
  | some s => decide ((satsOf s.recs (secsQ b.now)).length < 4)

/-- The reference position, ECEF m: the one loaded, or the one estimated while there is none (R213, R239). -/
def Blk.refPos (b : Blk) : Option V3 :=
  match b.pos.ref with
  | some p => some (fp64V3 p)
  | none => b.gns.self

end Sys2Proof.Machine
end

