-- ==== Sys2Proof/Machine/PosFilter.lean ====
section
/-! DEFINITION. Sys2Proof/Machine/PosFilter.lean: the estimates of a member's filter: its states, its propagation and its
update (R249-R251, R258), the fixed solution, and the error figures of a solution (R259, R260). -/

namespace Sys2Proof.Machine

open Sys2Proof Sys2Proof.Config

/-! ## States (R249) -/

/-- The value of a state; 0 where the filter has none such. -/
def Est.get (e : Est) (k : Coord) : Rat := ((e.keys.zip e.x).find? (fun q => q.1 == k)).elim 0 (fun q => q.2)

/-- Position and velocity. -/
def Est.pos (e : Est) : V3 := ⟨e.get (.pos 0), e.get (.pos 1), e.get (.pos 2)⟩
def Est.vel (e : Est) : V3 := ⟨e.get (.vel 0), e.get (.vel 1), e.get (.vel 2)⟩

/-- A row over the states. -/
def Est.row (e : Est) (f : Coord → Rat) : List Rat := e.keys.map f

/-- The covariance of two linear functions of the states. -/
def Est.cov (e : Est) (f g : Coord → Rat) : Rat := rdot (e.row f) (e.p.map (rdot (e.row g)))

/-- A state taken out. -/
def Est.drop (e : Est) (k : Coord) : Est :=
  let keep {α : Type} (l : List α) : List α := ((e.keys.zip l).filter (fun q => q.1 != k)).map (fun q => q.2)
  ⟨keep e.keys, keep e.x, (keep e.p).map keep⟩

/-- A state set anew, with a variance and no correlation. -/
def Est.reset (e : Est) (k : Coord) (v var : Rat) : Est :=
  let d := e.drop k
  ⟨d.keys ++ [k], d.x ++ [v], d.p.map (fun r => r ++ [0]) ++ [d.p.map (fun _ => 0) ++ [var]]⟩

/-- The estimates at an initial position (R249): velocity 0 with 5 m/s, no ambiguities. -/
def Est.start (pos : V3) (var : Rat) : Est :=
  ⟨[.pos 0, .pos 1, .pos 2, .vel 0, .vel 1, .vel 2], [pos.x, pos.y, pos.z, 0, 0, 0],
    mOf 6 6 (fun i j => if i ≠ j then 0 else if i < 3 then var else 25)⟩

/-- The UWB range bias is a state exactly while UWB is used (R249). -/
def Est.withBias (e : Est) (on : Bool) : Est :=
  if on == e.keys.contains .bias then e else if on then e.reset .bias 0 Config.biasVar else e.drop .bias

/-! ## Propagation (R250) -/

/-- The spectral density q of DYN, in m²/s³; STATIC of a payload overrides it. -/
def qOf (dyn : Nat) (static : Bool) : Rat :=
  if static then 1 / 1000000 else match dyn with | 0 => 1 / 4 | 1 => 1 | 2 => 4 | _ => 1 / 1000000

/-- The transition over `dt` s: constant velocity, everything else constant. -/
def transition (dt : Rat) (a c : Coord) : Rat :=
  if a = c then 1 else match a, c with | .pos i, .vel j => if i = j then dt else 0 | _, _ => 0

/-- The process noise over `dt` s: white acceleration on each axis, the bias a random walk of 10⁻⁶ m²/s. -/
def processNoise (q dt : Rat) (a c : Coord) : Rat :=
  match a, c with
  | .pos i, .pos j => if i = j then q * dt * dt * dt / 3 else 0
  | .pos i, .vel j => if i = j then q * dt * dt / 2 else 0
  | .vel i, .pos j => if i = j then q * dt * dt / 2 else 0
  | .vel i, .vel j => if i = j then q * dt else 0
  | .bias, .bias => dt / 1000000
  | _, _ => 0

/-- A filter propagated by `dt` s. -/
def Est.predict (e : Est) (q dt : Rat) : Est :=
  let n := e.keys.length
  let f := e.keys.map (fun a => e.keys.map (transition dt a))
  { e with
    x := f.map (fun r => Config.fp64 (rdot r e.x))
    p := (mAdd (mMulT (mMul f e.p n) f) (e.keys.map (fun a => e.keys.map (processNoise q dt a)))).map (fun r => r.map Config.fp64) }

/-! ## Update (R251, R258) -/

/-- A measurement linearised at the filter's state.  `kind`: 0 code, 1 phase, 2 Doppler (double differences), 3 arrival, 4 range,
5 position; `sys` its system and `id` its satellite or head; the row over the states; the innovation; its own variance, and
the part that all measurements of its kind and system share (the pivot's, the reference arrival's). -/
structure Meas where
  kind : Nat
  sys : Nat
  id : Nat
  row : List Rat
  nu : Rat
  own : Rat
  shared : Rat
  deriving DecidableEq, Repr

/-- A measurement of GNSS double differences. -/
def Meas.gnss (m : Meas) : Bool := m.kind < 3

/-- The covariance of measurements. -/
def measCov (ms : List Meas) : Mat :=
  ms.zipIdx.map (fun a => ms.zipIdx.map (fun c =>
    if a.2 = c.2 then a.1.own + a.1.shared
    else if a.1.kind = c.1.kind ∧ a.1.sys = c.1.sys then a.1.shared else 0))

/-- The variance of a measurement's innovation. -/
def Est.innVar (e : Est) (m : Meas) : Rat := rdot m.row (e.p.map (rdot m.row)) + m.own + m.shared

/-- The normalised innovation exceeds 5 (R251). -/
def Est.rejects (e : Est) (m : Meas) : Bool := decide (25 * e.innVar m < m.nu * m.nu)

/-- A gain that leaves a direction of position and velocity alone. -/
def holdDir (keys : List Coord) (u : V3) (k : Mat) : Mat :=
  let along (at' : Nat → Coord) (j : Nat) : Rat :=
    ((List.range 3).map (fun i => vget u i * ((keys.zip k).find? (fun q => q.1 == at' i)).elim 0 (fun q => q.2.getD j 0))).sum
  (keys.zip k).map (fun q => q.2.zipIdx.map (fun x => match q.1 with
    | .pos i => x.1 - vget u i * along .pos x.2
    | .vel i => x.1 - vget u i * along .vel x.2
    | _ => x.1))

/-- All measurements in one step, in Joseph's form; `hold` is a direction held (R258).  None where their covariance has no
inverse. -/
def Est.update (e : Est) (ms : List Meas) (hold : Option V3) : Option Est :=
  let n := e.keys.length
  let m := ms.length
  let h := ms.map (fun x => x.row)
  let r := measCov ms
  let pht := mMulT e.p h
  (mInv (mAdd (mMul h pht m) r)).map (fun si =>
    let k0 := mMul pht si m
    let k := match hold with | none => k0 | some u => holdDir e.keys u k0
    let ikh := mSub (mId n) (mMul k h n)
    { e with
      x := List.zipWith (fun x d => Config.fp64 (x + d)) e.x (k.map (rdot (ms.map (fun x => x.nu))))
      p := (mAdd (mMulT (mMul ikh e.p n) ikh) (mMulT (mMul k r m) k)).map (fun q => q.map Config.fp64) })

/-! ## Figures of a solution (R259, R260) -/

/-- Row `i` of the rotation to east, north, up, as a function of position states or of velocity states. -/
def enuRow (at' : V3) (i : Nat) (vel : Bool) (k : Coord) : Rat :=
  match k, vel with
  | .pos j, false => ((Config.enu at').getD i []).getD j 0
  | .vel j, true => ((Config.enu at').getD i []).getD j 0
  | _, _ => 0

/-- Velocity east (0), north (1) or up (2) in mm/s, as the solution's int16. -/
def Est.velEnu (e : Est) (i : Nat) : Int :=
  max (-32768) (min 32767 (roundR (1000 * rdot (e.row (enuRow e.pos i true)) e.x)))

/-- The standard deviation east, north or up, m. -/
def Est.sigma (e : Est) (i : Nat) : Rat := Config.sqrt (e.cov (enuRow e.pos i false) (enuRow e.pos i false))

/-- σ_maj: the semi-major axis of the horizontal error ellipse, m (R260). -/
def Est.sigmaMaj (e : Est) : Rat :=
  let ee := e.cov (enuRow e.pos 0 false) (enuRow e.pos 0 false)
  let nn := e.cov (enuRow e.pos 1 false) (enuRow e.pos 1 false)
  let en := e.cov (enuRow e.pos 0 false) (enuRow e.pos 1 false)
  Config.sqrt ((ee + nn) / 2 + Config.sqrt ((ee - nn) * (ee - nn) / 4 + en * en))

/-- ⌈K × σ⌉ in mm, of K in 0.1 and σ in m (R260). -/
def protLevel (k : Nat) (sig : Rat) : Nat := ((k : Rat) * sig * 100).ceil.toNat

/-- A number saturated at 16 bits. -/
def sat16 (v : Nat) : Nat := min v 0xFFFF

end Sys2Proof.Machine
end

