-- ==== Sys2Proof/Machine/PosObs.lean ====
section
/-! DEFINITION. Sys2Proof/Machine/PosObs.lean: the records of a member's payload (R246, R247), the double differences formed of
them (R251), and the search for integer ambiguities (R252, R253). -/

namespace Sys2Proof.Machine

open Sys2Proof Sys2Proof.Config

/-! ## Records (R246, R247) -/

/-- A GNSS record: code in m modulo one light-millisecond, phase in cycles modulo 65 536, Doppler in Hz, C/N0 in dB-Hz. -/
structure ObsSat where
  sys : Nat
  svid : Nat
  code : Rat
  phase : Rat
  dop : Rat
  cn0 : Nat
  half : Bool
  ok : Bool
  lock : Nat
  slip : Bool
  deriving DecidableEq, Repr

/-- The 12 bytes of a GNSS record. -/
def gnssRec (r : Bytes) : ObsSat :=
  ⟨byteAt r 0 / 64, byteAt r 0 % 64 + 1, (le r 1 3 : Rat) / 50, (le r 4 3 : Rat) / 256, (sle r 7 2 : Rat) / 2,
    byteAt r 9 / 4 + 20, bitOf (byteAt r 9) 1, bitOf (byteAt r 9) 0, le r 0xA 2 / 32, bitOf (le r 0xA 2) 4⟩

/-- The GNSS records of a payload. -/
def gnssRecs (d : Bytes) : List ObsSat := (List.range (byteAt d 1)).map (fun i => gnssRec (slice d (16 + 12 * i) 12))

/-- A UWB range record: head, VALID, T_ROUND in the member's ticks, FO in 1/1024 ppm. -/
structure UwbRec where
  head : Nat
  valid : Bool
  round : Nat
  fo : Int
  deriving DecidableEq, Repr

/-- The UWB range records of a payload. -/
def uwbRecs (d : Bytes) : List UwbRec :=
  (List.range (byteAt d 2)).map (fun i =>
    let o := 16 + 12 * byteAt d 1 + 8 * i
    ⟨byteAt d o, bitOf (byteAt d (o + 1)) 0, le d (o + 2) 4, sle d (o + 6) 2⟩)

/-- One light-millisecond, m. -/
def lightMs : Rat := lightSpeed / 1000

/-- A code with its whole milliseconds, nearest to a prediction (R246). -/
def resolveMs (pred code : Rat) : Rat := code + lightMs * (roundR ((pred - code) / lightMs) : Rat)

/-- The phase unwrapped against the satellite's record of the previous epoch, `dt` s before, and the Doppler integrated since
(R246); and whether the record is treated as SLIP. -/
def unwrap (prev : Option Track) (near : Bool) (dt code : Rat) (o : ObsSat) : Rat × Bool :=
  match prev with
  | none => (o.phase, true)
  | some p =>
    let pred := p.phase - (p.dop + o.dop) / 2 * dt
    let full := o.phase + 65536 * (roundR ((pred - o.phase) / 65536) : Rat)
    let d := (full - p.phase) - (code - p.code) / waveL1
    if o.slip || !near || decide (16384 < d) || decide (d < -16384) then (o.phase, true) else (full, false)

/-! ## Satellites of an epoch -/

/-- A satellite with a record: the record, its resolved code and unwrapped phase, whether its ambiguity is reset (R250), where
the satellite is, its elevation at the member and at the reference, and the reference's record of it at the member's
instant (R244). -/
structure SatIn where
  o : ObsSat
  code : Rat
  phase : Rat
  reset : Bool
  sat : SatAt
  elM : Rat
  elR : Rat
  r : Option RefSat
  deriving DecidableEq, Repr

/-- SYS and SVID. -/
def SatIn.key (s : SatIn) : Nat × Nat := (s.o.sys, s.o.svid)

/-- Its ambiguity state. -/
def SatIn.amb (s : SatIn) : Coord := .amb s.o.sys s.o.svid

/-- The reference's record of it. -/
def SatIn.refSat (s : SatIn) : RefSat := s.r.getD ⟨0, 0, 0, 0, 0, 0, false, false, false, false, 0, false, 0⟩

/-- A reference record propagated with the range rate over `d` s (R244). -/
def RefSat.after (r : RefSat) (rate d : Rat) : RefSat :=
  { r with code := r.code + rate * d, phase := r.phase + rate / waveL1 * d }

/-- Both receivers measured what a double difference of the kind needs. -/
def SatIn.has (kind : Nat) (s : SatIn) : Bool :=
  match s.r, kind with
  | none, _ => false
  | some r, 0 => r.codeOk
  | some r, 1 => r.phaseOk && s.o.ok
  | some r, _ => r.dopOk

/-! ## Double differences (R251) -/

/-- Each satellite with its system's pivot: the highest at the reference. -/
def ddPairs (sats : List SatIn) : List (SatIn × SatIn) :=
  [0, 1, 2, 3].flatMap (fun sys =>
    let g := sats.filter (fun s => s.o.sys == sys)
    match maxBy (fun s => s.elR) g with
    | none => []
    | some p => (g.filter (fun s => s != p)).map (fun s => (s, p)))

/-- σ² of one undifferenced observable. -/
def obsVar (kind : Nat) (el cn0 : Rat) : Rat :=
  let a : Rat := match kind with | 0 => 3 / 10 | 1 => 3 / 1000 | _ => 1 / 10
  a * a * (1 + 1 / Config.sinSq el) * max 1 (Config.pow10 ((40 - cn0) / 10))

/-- The variance of a satellite's single difference. -/
def SatIn.var (kind : Nat) (s : SatIn) : Rat := obsVar kind s.elM (s.o.cn0 : Rat) + obsVar kind s.elR s.refSat.cn0

/-- The modelled single difference of range and troposphere, m. -/
def SatIn.geom (s : SatIn) (x ref : V3) : Rat :=
  (Config.range x s.sat.pos + tropoAt x s.sat) - (Config.range ref s.sat.pos + tropoAt ref s.sat)

/-- A single difference less what the filter predicts of it. -/
def SatIn.innov (s : SatIn) (kind : Nat) (e : Est) (ref : V3) : Rat :=
  let r := s.refSat
  match kind with
  | 0 => (s.code - r.code) - s.geom e.pos ref
  | 1 => waveL1 * (s.phase - r.phase) - s.geom e.pos ref - waveL1 * e.get s.amb
  | _ => (s.o.dop - r.dop) + (rangeRate e.pos e.vel s.sat - rangeRate ref {} s.sat) / waveL1

/-- How a single difference depends on the states. -/
def SatIn.slope (s : SatIn) (kind : Nat) (e : Est) (k : Coord) : Rat :=
  let u := Config.sight e.pos s.sat.pos
  match kind, k with
  | 2, .vel j => vget u j / waveL1
  | 2, _ => 0
  | _, .pos j => - vget u j
  | 1, .amb a c => if (a, c) = s.key then waveL1 else 0
  | _, _ => 0

/-- The double differences of a kind. -/
def ddMeas (kind : Nat) (e : Est) (ref : V3) (sats : List SatIn) : List Meas :=
  (ddPairs (sats.filter (SatIn.has kind))).map (fun q =>
    ⟨kind, q.1.o.sys, q.1.o.svid, e.row (fun k => q.1.slope kind e k - q.2.slope kind e k),
      q.1.innov kind e ref - q.2.innov kind e ref, q.1.var kind, q.2.var kind⟩)

/-- Rejection (R251): the measurements that pass; without any of GNSS where more than 2 satellites fail. -/
def Est.accepts (e : Est) (ms : List Meas) : List Meas :=
  let fail := ((ms.filter (fun m => m.gnss && e.rejects m)).map (fun m => (m.sys, m.id))).eraseDups
  ms.filter (fun m => !e.rejects m && (!m.gnss || decide (fail.length ≤ 2)))

/-! ## Integers (R252-R254) -/

/-- Integers of satellites, each relative to the first of its system. -/
abbrev Ints := List ((Nat × Nat) × Int)

/-- The form in which two searches' integers are compared. -/
def normInts (l : Ints) : Ints :=
  [0, 1, 2, 3].flatMap (fun sys =>
    match sortBy (fun q => ((q.1.2 : Nat) : Rat)) (l.filter (fun q => q.1.1 == sys)) with
    | [] => []
    | b :: rest => (b :: rest).map (fun q => (q.1, q.2 - b.2)))

/-- The number of ambiguities that integers fix: all but one of each system. -/
def nFix (l : Ints) : Nat := ([0, 1, 2, 3].map (fun sys => (l.filter (fun q => q.1.1 == sys)).length - 1)).sum

/-- Two integer vectors disagree about two satellites of a system that both hold. -/
def intsDiffer (a c : Ints) : Bool :=
  let both := a.filterMap (fun p => (c.find? (fun q => q.1 == p.1)).map (fun q => (p.1.1, p.2 - q.2)))
  both.any (fun p => both.any (fun q => p.1 == q.1 && p.2 != q.2))

/-- The difference of two ambiguities as a function of the states. -/
def ambDiff (a c : Coord) (k : Coord) : Rat := if k = a then 1 else if k = c then -1 else 0

/-- The fixed solution: the filter with its ambiguities held to integers. -/
def Est.fixTo (e : Est) (l : Ints) : Option Est :=
  let rows := [0, 1, 2, 3].flatMap (fun sys =>
    match l.filter (fun q => q.1.1 == sys) with
    | [] => []
    | b :: rest => rest.map (fun q =>
        let a : Coord := .amb q.1.1 q.1.2
        let p : Coord := .amb b.1.1 b.1.2
        (⟨5, 0, 0, e.row (ambDiff a p), ((q.2 - b.2 : Int) : Rat) - (e.get a - e.get p), 0, 0⟩ : Meas)))
  if rows = [] then none else e.update rows none

/-- The double-difference phase residuals of a fixed solution all stay within `lim` m. -/
def residOk (fx : Est) (ref : V3) (sats : List SatIn) (lim : Rat) : Bool :=
  (ddMeas 1 fx ref sats).all (fun m => decide (-lim ≤ m.nu ∧ m.nu ≤ lim))

/-- The satellites of an epoch that integers cover. -/
def covered (l : Ints) (sats : List SatIn) : List SatIn := sats.filter (fun s => l.any (fun q => q.1 == s.key))

/-- The residuals of held integers exceed `lim` whichever one satellite is left out (R254). -/
def fixFails (e : Est) (l : Ints) (ref : V3) (sats : List SatIn) (lim : Rat) : Bool :=
  let ok (m : Ints) : Bool := match e.fixTo m with
    | none => false
    | some fx => residOk fx ref (covered m sats) lim
  !(ok l || l.any (fun q => ok (l.filter (fun p => p.1 != q.1))))

/-- A satellite may enter the search (R252). -/
def SatIn.searchable (lockMin : Nat) (s : SatIn) : Bool :=
  decide (lockMin ≤ s.o.lock) && s.o.half && s.refSat.half && s.has 1

/-- What a search found: integers, ratio of the squared norms, bootstrapped failure rate, and whether the set passes R253's
tests of ratio, success rate and residuals. -/
structure Found where
  ints : Ints
  ratio : Rat
  fail : Rat
  pass : Bool
  deriving DecidableEq, Repr

/-- The limits of a search (R252, R253): MIN_AMB, RATIO in 0.1, PSR, RES_MAX in m. -/
structure Limits where
  minAmb : Nat
  ratio : Nat
  psr : Nat
  res : Rat
  deriving DecidableEq, Repr

/-- One search over the double differences of satellites. -/
def searchOnce (e : Est) (ref : V3) (lim : Limits) (sats : List SatIn) : Found :=
  let ps := ddPairs sats
  let d (q : SatIn × SatIn) : Coord → Rat := ambDiff q.1.amb q.2.amb
  let (v, ratio, fail) := Config.integers (ps.map (fun q => e.get q.1.amb - e.get q.2.amb))
    (ps.map (fun a => ps.map (fun c => e.cov (d a) (d c))))
  let ints := normInts ((ps.zip v).map (fun q => (q.1.1.key, q.2))
    ++ ((ps.map (fun q => q.2.key)).eraseDups).map (fun k => (k, (0 : Int))))
  ⟨ints, ratio, fail,
    decide ((lim.ratio : Rat) ≤ ratio * 10) && decide (fail * (10 ^ lim.psr : Nat) ≤ 1)
      && (match e.fixTo ints with | none => false | some fx => residOk fx ref sats lim.res)⟩

/-- The search of R252: while a set fails, the ambiguity of the lowest satellite is removed, down to MIN_AMB; where none
passes, what the full set gave. -/
def search (e : Est) (ref : V3) (lim : Limits) : Nat → List SatIn → Option Found
  | 0, _ => none
  | n + 1, sats =>
    let ps := ddPairs sats
    if ps.length < lim.minAmb then none
    else
      let f := searchOnce e ref lim sats
      if f.pass then some f
      else match maxBy (fun q => - q.1.elM) ps with
        | none => some f
        | some low => match search e ref lim n (sats.filter (fun s => s != low.1)) with
          | some g => if g.pass then some g else some f
          | none => some f

end Sys2Proof.Machine
end

