-- ==== Sys2Proof/Machine/Rtcm.lean ====
section
/-! DEFINITION. Sys2Proof/Machine/Rtcm.lean: RTCM 3 messages built from reference observables (R263).  The layout of the messages
is RTCM 10403's (PRESUMED, log 111). -/

namespace Sys2Proof.Machine

open Sys2Proof Sys2Proof.Config

/-! ## Frames -/

/-- One byte of CRC-24Q. -/
def crc24Byte (c : BitVec 24) (x : Byte) : BitVec 24 :=
  (List.range 8).foldl (fun a _ => if a.getLsbD 23 then (a <<< 1) ^^^ 0x864CFB#24 else a <<< 1)
    (c ^^^ ((x.setWidth 24 : BitVec 24) <<< (16 : Nat)))

/-- A message framed with preamble, length and CRC-24Q (R263). -/
def rtcmFrame (m : Bytes) : Bytes :=
  let h := leBytes 1 0xD3 ++ beBytes 2 (m.length % 1024) ++ m
  h ++ beBytes 3 (h.foldl crc24Byte 0#24).toNat

/-- `v` in `w` bits, the most significant first. -/
def bitField : Nat → Nat → List Bool
  | 0, _ => []
  | w + 1, v => v.testBit w :: bitField w v

/-- A signed number in `w` bits. -/
def bitFieldS (w : Nat) (v : Int) : List Bool := bitField w (v % 2 ^ w).toNat

/-- Bits as bytes, filled up with zeros. -/
def bitBytes (bs : List Bool) : Bytes :=
  (List.range (ceilDiv bs.length 8)).map (fun i =>
    BitVec.ofNat 8 ((List.range 8).foldl (fun a k => 2 * a + b2n (bs.getD (8 * i + k) false)) 0))

/-! ## Observables (MSM4, MSM7) -/

/-- The epoch time of a message: ms of the week in the system's time; day 3657 after 1970-01-01 begins week 0. -/
def towMs (sys t : Nat) : Nat := ((systemTime sys t / 1000000 - 315964800000) % 604800000).toNat

/-- The lock-time indicator of `t` ms: DF402 in 4 bits, DF407 in 10 bits. -/
def lock4 (t : Nat) : Nat := ((List.range 15).filter (fun i => decide (32 * 2 ^ i ≤ t))).length
def lock7 (t : Nat) : Nat :=
  let k := ((List.range 21).filter (fun i => decide (64 * 2 ^ i ≤ t))).length
  min 704 (t / 2 ^ k + 32 * k)

/-- A record's range, as the message splits it: rough in 2^-10 ms, and what remains of code and phase in ms. -/
def RefSat.rough (r : RefSat) : Int := roundR (r.code / lightMs * 1024)
def RefSat.fineCode (r : RefSat) : Rat := r.code / lightMs - (r.rough : Rat) / 1024
def RefSat.finePhase (r : RefSat) : Rat := (r.phase + (r.align : Rat)) * waveL1 / lightMs - (r.rough : Rat) / 1024

/-- The range rate in m/s. -/
def RefSat.rate (r : RefSat) : Rat := - r.dop * waveL1

/-- A value in `w` bits, or the mark of none: the most negative one. -/
def orNone (w : Nat) (ok : Bool) (v : Int) : List Bool :=
  bitFieldS w (if ok && decide (- 2 ^ (w - 1) < v) && decide (v < 2 ^ (w - 1)) then v else - 2 ^ (w - 1))

/-- One MSM message of a system's records with code (R263): station, the multiple-message bit, MSM4 or MSM7. -/
def msmMessage (num station sys t : Nat) (more msm7 : Bool) (all : List RefSat) : Bytes :=
  let ss := sortBy (fun r => ((r.svid : Nat) : Rat)) (all.filter (fun r => r.sys == sys && r.codeOk))
  let each (f : RefSat → List Bool) : List Bool := ss.flatMap f
  bitBytes (bitField 12 num ++ bitField 12 station ++ bitField 30 (towMs sys t) ++ [more] ++ bitField 18 0
    ++ (List.range 64).map (fun i => ss.any (fun r => r.svid == i + 1))
    ++ (List.range 32).map (fun i => i == 1) ++ ss.map (fun _ => true)
    ++ each (fun r => bitField 8 (r.rough / 1024 % 256).toNat)
    ++ (if msm7 then each (fun _ => bitField 4 0) else [])
    ++ each (fun r => bitField 10 (r.rough % 1024).toNat)
    ++ (if msm7 then each (fun r => orNone 14 r.dopOk (roundR r.rate)) else [])
    ++ (if msm7 then
          each (fun r => orNone 20 true (roundR (r.fineCode * 2 ^ 29)))
            ++ each (fun r => orNone 24 r.phaseOk (roundR (r.finePhase * 2 ^ 31)))
            ++ each (fun r => bitField 10 (lock7 (50 * r.lock)))
            ++ each (fun r => [!r.half])
            ++ each (fun r => bitField 10 (roundR (r.cn0 * 16)).toNat)
            ++ each (fun r => orNone 15 r.dopOk (roundR ((r.rate - (roundR r.rate : Rat)) * 10000)))
        else
          each (fun r => orNone 15 true (roundR (r.fineCode * 2 ^ 24)))
            ++ each (fun r => orNone 22 r.phaseOk (roundR (r.finePhase * 2 ^ 29)))
            ++ each (fun r => bitField 4 (lock4 (50 * r.lock)))
            ++ each (fun r => [!r.half])
            ++ each (fun r => bitField 6 (roundR r.cn0).toNat)))

/-- The station message (R263): 1005, or 1006 with the ARP height in 0.1 mm; the reference point in 0.1 mm. -/
def stationMessage (station : Nat) (hgt : Option Nat) (p : V3) : Bytes :=
  let c (v : Rat) : List Bool := bitFieldS 38 (roundR (v * 10000))
  bitBytes (bitField 12 (if hgt.isSome then 1006 else 1005) ++ bitField 12 station ++ bitField 6 0
    ++ [true, false, true, false] ++ c p.x ++ [false, false] ++ c p.y ++ [false, false] ++ c p.z
    ++ (match hgt with | none => [] | some h => bitField 16 h))

end Sys2Proof.Machine
end

