-- ==== Sys2Proof/Machine/Pos.lean ====
section
/-! DEFINITION. Sys2Proof/Machine/Pos.lean: fleet positioning: reference position and orbit loads, payloads, admission,
degradation, heads, and the descriptors of POS (R239-R264). -/

namespace Sys2Proof.Machine

open Sys2Proof Sys2Proof.Config

/-! ## Filters (R249) -/

/-- The filter of a member. -/
def Blk.filterOf (b : Blk) (mix : Nat) : Filter := Tab.val b.pos.filters mix {}

/-- The filter of a member replaced. -/
def Blk.setFilter (b : Blk) (mix : Nat) (f : Filter) : Blk :=
  b.modPos (fun p => { p with filters := Tab.put p.filters mix f })

/-- FIXED withdrawn (R254): counted. -/
def Blk.withdraw (b : Blk) (mix : Nat) : Blk :=
  let f := b.filterOf mix
  if f.fixed then (b.setFilter mix { f with fixed := false, held := [], cand := [], agree := 0, bad := 0 }).bump
    Reg.POS_FIX_LOSS_COUNT
  else b

/-- A filter to be initialised at its next epoch, without ambiguity states (R249): nothing has updated it since. -/
def Blk.initFilter (b0 : Blk) (mix : Nat) : Blk :=
  let b := b0.withdraw mix
  let f := b.filterOf mix
  b.setFilter mix { f with on := true, est := none, mode := 0, fixed := false, held := [], cand := [], agree := 0, bad := 0
                           updAt := none, gnssAt := b.elapsed, ratio := 0, tracks := [], searchSet := [] }

/-- A filter cleared (R249, R267): what no filter needs, a snapshot's result, stays. -/
def Blk.clearFilter (b : Blk) (mix : Nat) : Blk :=
  b.setFilter mix { snap := (b.filterOf mix).snap }

/-- A member is served by the solver: MODE 0 or 2 (R248). -/
def Blk.solved (b : Blk) (mix : Nat) : Bool := b.posMode mix % 2 == 0

/-- A filter at a member's first accepted payload (R249). -/
def Blk.readyFilter (b : Blk) (mix : Nat) : Blk := if (b.filterOf mix).on then b else b.initFilter mix

/-- UWB is used for a member (R257). -/
def Blk.uwbOn (b : Blk) (mix : Nat) : Bool := b.flag (Reg.POS_MCFG mix) 15

/-! ## Orbit sets (R241-R243) -/

/-- ORBIT_LOAD with the set read (R242): POS_BUSY while an earlier one is still being read (R243, log 32). -/
def Blk.orbitLoad (d : Desc) (set : Bytes) (b : Blk) : Blk :=
  b.checked d [d.aligned 0x18 8] (fun b =>
    if b.pos.orbitNext.any (fun q => q.2.2 == b.elapsed) then b.complete d.id 0x33 0
    else match checkOrbit (d.op 0x20 4) set with
      | .error o => b.complete d.id 0x30 o
      | .ok s => b.modPos (fun p => { p with orbitNext := p.orbitNext ++ [(d.id, s, b.elapsed)] }))

/-- ORBIT_LOAD (R242). -/
def execOrbitLoad (d : Desc) (set : Bytes) : State → Host.Outcome State Fault Refusal :=
  onIsland .pos (fun b => b.start d (Blk.orbitLoad d set))

/-- ORBIT_SET_ACTIVATE at the reference epoch `t` (R243): the sets validated since become active in their order, the set before
them is kept for 2 s, and each ORBIT_LOAD completes. -/
def Blk.orbitActivate (t : Nat) (b0 : Blk) : Blk :=
  let b := b0.moveTo t
  match b.pos.orbitNext.getLast? with
  | none => b
  | some q =>
    b.pos.orbitNext.foldl (fun b x => b.done x.1 x.2.1.id)
      (b.modPos (fun p => { p with orbitNext := [], orbit := some q.2.1
                                   orbitPrev := p.orbit.map (fun o => (o, b.now, b.elapsed)) }))

/-- ORBIT_SET_ACTIVATE (R243). -/
def execOrbitSetActivate (t : Nat) : State → Host.Outcome State Fault Refusal := onIsland .pos (Blk.orbitActivate t)

/-- The set before the last switch dropped after 2 s (R243). -/
def Blk.dropOldSet (b : Blk) : Blk :=
  match b.pos.orbitPrev with
  | none => b
  | some (_, _, e) => if e + 2000000000 < b.elapsed then b.modPos (fun p => { p with orbitPrev := none }) else b

/-! ## The reference position (R239) -/

/-- The three coordinates of a position of 24 bytes as rationals. -/
def coords (p : Bytes) : List (Int × Nat) := [0, 8, 16].map (fun o => fp64Rat (le p o 8))

/-- The square of a distance between coordinate lists as a rational. -/
def distSq (a c : List (Int × Nat)) : Nat × Nat :=
  (a.zip c).foldl (fun (s : Nat × Nat) (q : (Int × Nat) × (Int × Nat)) =>
    let n := (q.1.1 * q.2.2 - q.2.1 * q.1.2).natAbs
    let d := q.1.2 * q.2.2
    (s.1 * (d * d) + n * n * s.2, s.2 * (d * d))) (0, 1)

/-- The Earth's centre. -/
def earthCentre : List (Int × Nat) := [(0, 1), (0, 1), (0, 1)]

/-- ⌊`k` × the distance⌋. -/
def distFloor (k : Nat) (s : Nat × Nat) : Nat := isqrt64 (s.1 * k * k / s.2)

/-- A finite position. -/
def posFinite (p : Bytes) : Bool := [0, 8, 16].all (fun o => fp64Finite (le p o 8))

/-- POS_REF_SET (R239): out of range, or taken at the next reference epoch. A position that is no number has no
distance that the spec states: DETAIL is a free value (log 3). -/
def Blk.posRefSet (d : Desc) (b : Blk) : Blk :=
  let p := slice d.bytes 0x18 24
  if !posFinite p then
    let (n, b1) := b.free
    b1.complete d.id 0x31 n
  else
    let s := distSq (coords p) earthCentre
    if s.1 < 6340000 * 6340000 * s.2 ∨ 6400000 * 6400000 * s.2 < s.1 then
      b.complete d.id 0x31 (isqrt64 (s.1 / s.2 / 1000000))
    else
      let init := match b.pos.ref with
        | none => false
        | some o => let m := distSq (coords p) (coords o); decide (m.2 < m.1 * 100)
      (b.modPos (fun q => { q with refNext := some p, refInit := init })).done d.id (b2n init)

/-- POS_REF_SET (R239). -/
def execPosRefSet (d : Desc) : State → Host.Outcome State Fault Refusal :=
  onIsland .pos (fun b => b.start d (Blk.posRefSet d))

/-- The reference position taken at a reference epoch (R239): after a move of more than 0.1 m every filter is
initialised, with one record. -/
def Blk.takeRef (b : Blk) : Blk :=
  match b.pos.refNext with
  | none => b
  | some p =>
    let b1 := b.modPos (fun q => { q with ref := some p, refNext := none, refInit := false })
    if b.pos.refInit then
      let mm := match b.pos.ref with | none => 0 | some o => distFloor 1000 (distSq (coords p) (coords o))
      ((b1.pos.filters.filter (fun (q : Nat × Filter) => q.2.on)).foldl (fun b q => b.initFilter q.1) b1).record 0x0401
        (leBytes 4 (min mm (2 ^ 32 - 1)))
    else b1

/-! ## Payloads (R244-R248) -/

/-- The whole payload of fragments. -/
def Payload.data (p : Payload) : Bytes := (List.range p.count).flatMap (fun i => Tab.val p.frags i [])

/-- The reference epoch (ns) that T_M names for a receipt at `t` (R244): the latest one no later than `t` that
matches. -/
def matchEpoch (t tm : Nat) : Nat :=
  let n := t / 50000000
  (n - ((n + 2 ^ 32 - tm % 2 ^ 32) % 2 ^ 32)) * 50000000

/-- The field checks of a payload's header and the carriage of its records (R245). -/
def payloadOk (d : Bytes) : Bool :=
  let dt := sle d 8 4
  byteAt d 0 == 1 && decide (byteAt d 1 ≤ 32) && decide (byteAt d 2 ≤ 8) && byteAt d 3 / 8 == 0
    && (!bitOf (byteAt d 3) 0 || decide (dt.natAbs ≤ 1000000)) && allZero d 0xE 2
    && decide (d.length = 16 + 12 * byteAt d 1 + 8 * byteAt d 2)

/-- An epoch put into the solver's queue. -/
def Blk.queueEpoch (b : Blk) (e : Epoch) : Blk := b.modPos (fun q => { q with ready := q.ready ++ [e] })

/-- A payload that fails (R248): discarded and counted; the member's filter goes on as for a missing epoch, at the reference
instant now past, with the arrivals of the frame `ms`. -/
def Blk.payloadFailed (b0 : Blk) (mix t0 : Nat) (ms : List Mark) : Blk :=
  let b := b0.bump Reg.POS_OBS_DROP_COUNT
  if b.solved mix && (b.filterOf mix).on then
    b.queueEpoch { mix := mix, tm := b.now / 50000000 * 50000000, dt := 0, t0 := t0, marks := ms }
  else b

/-- A complete payload (R248): accepted into the solver's queue, or discarded and counted. -/
def Blk.payloadDone (b : Blk) (mix : Nat) (p : Payload) (t0 : Nat) : Blk :=
  let f := b.filterOf mix
  let d := p.data
  let tm := matchEpoch p.t0 (le d 4 4)
  let ms := (b.link mix).marks
  let b1 := b.setFilter mix { f with asm := none }
  if payloadOk d && decide (le d 4 4 = tm / 50000000 % 2 ^ 32)
      && decide (p.t0 ≤ tm + b.fld Reg.POS_OBS_CFG 31 24 * 1000000) then
    let dt : Int := if bitOf (byteAt d 3) 0 then sle d 8 4 else 0
    let b2 := b1.readyFilter mix
    (b2.setFilter mix { b2.filterOf mix with lastSeq := some p.seq }).queueEpoch
      { mix := mix, tm := tm, dt := dt, t0 := t0, data := d, reply := p.reply, marks := ms }
  else b1.payloadFailed mix t0 ms

/-- The limit within which the fragments of a payload arrive (R248), ns. -/
def obsLimit : Nat := 10000000

/-- One observation fragment (R245, R248) whose frame's last symbol came at `t0`. -/
def Blk.obsFragment (b : Blk) (mix : Nat) (body : Bytes) (t0 : Nat) : Blk :=
  let seq := byteAt body 0
  let idx := byteAt body 1 / 16
  let cnt := byteAt body 1 % 16
  let f := b.filterOf mix
  if f.lastSeq = some seq then b
  else if !b.solved mix ∨ cnt = 0 ∨ 4 < cnt ∨ cnt ≤ idx ∨ body.length < 2 then b.bump Reg.POS_OBS_DROP_COUNT
  else
    let fresh : Payload := ⟨seq, cnt, [], b.elapsed, b.now, (b.link mix).upReply⟩
    let same := match f.asm with
      | none => false
      | some p => p.seq == seq && p.count == cnt && decide (b.elapsed ≤ p.at' + obsLimit)
    let b1 := if same || f.asm.isNone then b else b.payloadFailed mix t0 []
    let p := if same then f.asm.getD fresh else fresh
    let p1 := { p with frags := Tab.put p.frags idx (body.drop 2)
                       at' := if idx = 0 then b.elapsed else p.at', t0 := if idx = 0 then b.now else p.t0 }
    if p1.frags.length = cnt then b1.payloadDone mix p1 t0
    else b1.setFilter mix { f with asm := some p1 }

/-- OBS_PAYLOAD_TIMEOUT of a member at instant `t` (R248). -/
def Blk.obsTimeout (t mix : Nat) (b0 : Blk) : Blk :=
  let b := b0.moveTo t
  let f := b.filterOf mix
  match f.asm with
  | none => b
  | some p =>
    if p.at' + obsLimit < b.elapsed then (b.setFilter mix { f with asm := none }).payloadFailed mix p.t0 [] else b

/-- OBS_PAYLOAD_TIMEOUT (R248). -/
def execObsPayloadTimeout (t : Nat) (mix : Mix) : State → Host.Outcome State Fault Refusal :=
  onIsland .pos (Blk.obsTimeout t mix.val)

/-- An uplink frame of a member in MODE 2 without a payload gives a UWB-only epoch at its arrival (R248, log 33). -/
def Blk.uwbEpoch (b : Blk) (mix arrival t0 : Nat) : Blk :=
  if b.posMode mix = 2 ∧ b.uwbOn mix then
    let b1 := b.readyFilter mix
    b1.queueEpoch { mix := mix, tm := arrival, dt := 0, t0 := t0, marks := (b1.link mix).marks }
  else b

/-- The arrival of a member's frame at a further head (R257): it joins the epoch of that frame, or opens one where no head
before had a qualified arrival. -/
def Blk.furtherMark (b : Blk) (mix arrival t0 : Nat) (ms : List Mark) : Blk :=
  let hit (e : Epoch) : Bool := e.mix == mix && decide (e.t0 ≤ t0 + 100000) && decide (t0 ≤ e.t0 + 100000)
  let put (l : List Epoch) : List Epoch := l.map (fun e => if hit e then { e with marks := e.marks ++ ms } else e)
  if ms = [] then b
  else if (b.pos.ready ++ b.pos.solving).any hit then
    b.modPos (fun p => { p with ready := put p.ready, solving := put p.solving })
  else if (b.filterOf mix).asm.isNone ∧ (b.link mix).marks = ms then b.uwbEpoch mix arrival t0
  else b

/-! ## Capacity and degradation (R261, R262) -/

/-- The configured rate of a member in Hz (R267). -/
def Blk.rateHz (b : Blk) (mix : Nat) : Nat := match b.fld (Reg.POS_MCFG mix) 1 0 with | 0 => 5 | 1 => 10 | _ => 20

/-- The rate in Hz at which a member is served with steps 1 to `k` in force (R262). -/
def Blk.servedHz (b : Blk) (k mix : Nat) : Nat :=
  let prio := b.fld (Reg.POS_MCFG mix) 11 10
  let r := b.rateHz mix
  if r = 20 then
    (if (1 ≤ k ∧ prio = 0) ∨ (2 ≤ k ∧ prio ≤ 2) then 10 else 20)
  else if r = 10 then
    (if (3 ≤ k ∧ prio = 0) ∨ (4 ≤ k ∧ prio = 1) then 5 else 10)
  else r

/-- The members counted in D (R262). -/
def Blk.demanding (b : Blk) : List Nat :=
  (List.range 128).filter (fun m => b.solved m && (b.member m).state.served)

/-- Member epochs per second that POS serves, and the load up to which a step relaxes (R262, in NIGHT R490). -/
def Blk.posMax (b : Blk) : Nat × Nat := if b.pwr.pstate = 2 then (320, 304) else (1280, 1216)

/-- The planned load with steps 1 to `k` (R262); step 5 caps it. -/
def Blk.plannedLoad (b : Blk) (k : Nat) : Nat :=
  let l := (b.demanding.map (b.servedHz k)).sum
  if k = 5 then min l b.posMax.1 else l

/-- The step the load needs, from step `k` on. -/
def Blk.raiseStep (b : Blk) : Nat → Nat → Nat
  | 0, k => k
  | n + 1, k => if b.posMax.1 < b.plannedLoad k then Blk.raiseStep b n (k + 1) else k

/-- A step of R262 taken into force, with its record. -/
def Blk.setStep (b : Blk) (k demand : Nat) : Blk :=
  if k = b.pos.degrade then b
  else (b.modPos (fun p => { p with degrade := k, relax := 0 })).record 0x0403
    (leBytes 1 b.pos.degrade ++ leBytes 1 k ++ leBytes 2 (min demand 0xFFFF))

/-- The demand D (R262). -/
def Blk.demandNow (b : Blk) : Nat := (b.demanding.map b.rateHz).sum

/-- The degradation steps evaluated (R262, R490). -/
def Blk.degradeNow (b : Blk) : Blk :=
  let k := b.pos.degrade
  let up := b.raiseStep (5 - k) k
  if k < up then b.setStep up b.demandNow
  else if k ≠ 0 ∧ b.plannedLoad (k - 1) ≤ b.posMax.2 then
    (if 2 ≤ b.pos.relax then b.setStep (k - 1) b.demandNow else b.modPos (fun p => { p with relax := p.relax + 1 }))
  else b.modPos (fun p => { p with relax := 0 })

/-- DEGRADE_EVALUATE at instant `t` (R262). -/
def Blk.degradeEval (t : Nat) (b0 : Blk) : Blk :=
  let b := b0.moveTo t
  (b.modPos (fun p => { p with demand := b.demandNow, served := p.counting, counting := 0 })).degradeNow

/-- DEGRADE_EVALUATE (R262). -/
def execDegradeEvaluate (t : Nat) : State → Host.Outcome State Fault Refusal := onIsland .pos (Blk.degradeEval t)

/-- The reduced grid of a member holds the instant of a payload (R262). -/
def Blk.onGrid (b : Blk) (e : Epoch) : Bool :=
  let hz := b.servedHz b.pos.degrade e.mix
  e.data == [] || e.tm % 1000000000 % (1000000000 / hz) == 0

/-- The registers that a member's epoch is solved with (R266). -/
def Blk.posCfg (b : Blk) (mix : Nat) : PosCfg :=
  ⟨(b.reg Reg.POS_OBS_CFG).toNat, (b.reg Reg.POS_AR_CFG).toNat, (b.reg Reg.POS_FIX_CFG).toNat,
    (b.reg Reg.POS_INTEG_CFG).toNat, (b.reg Reg.POS_OUT_CFG).toNat, (b.reg (Reg.POS_MCFG mix)).toNat⟩

/-- A member is served below its rate (R262). -/
def Blk.decimated (b : Blk) (mix : Nat) : Bool := b.servedHz b.pos.degrade mix != b.rateHz mix

/-- The epoch admitted next (R261, R262 step 5): in order of arrival, in step 5 PRIO 3 first and then round-robin. -/
def Blk.nextEpoch (b : Blk) : Option Epoch :=
  if b.pos.degrade = 5 then
    match b.pos.ready.find? (fun e => b.fld (Reg.POS_MCFG e.mix) 11 10 == 3) with
    | some e => some e
    | none => (List.range 128).findSome? (fun k =>
        b.pos.ready.find? (fun e => e.mix == (b.pos.lastServed + 1 + k) % 128))
  else b.pos.ready.head?

/-- POS_EPOCH_ADMIT (R261, R262): the epoch takes its registers with it (R266). -/
def Blk.epochAdmit (b : Blk) : Blk :=
  match b.nextEpoch with
  | none => b
  | some e =>
    if 4 ≤ b.pos.solving.length then b
    else
      let b1 := b.modPos (fun p => { p with ready := p.ready.erase e })
      let e1 := { e with cfg := b.posCfg e.mix }
      if !b.solved e.mix then b1.bump Reg.POS_OBS_DROP_COUNT
      else if b.decimated e.mix && !b.onGrid e then b1
      else if b.pos.degrade = 5 ∧ b.posMax.1 ≤ b.pos.counting then
        (b1.modPos (fun p => { p with solving := p.solving ++ [{ e1 with refused := true }] })).bump Reg.POS_SKIP_COUNT
      else b1.modPos (fun p => { p with
        solving := p.solving ++ [e1], counting := p.counting + 1
        lastServed := if b.fld (Reg.POS_MCFG e.mix) 11 10 = 3 then p.lastServed else e.mix })

/-- POS_EPOCH_ADMIT (R261). -/
def execPosEpochAdmit : State → Host.Outcome State Fault Refusal := onIsland .pos Blk.epochAdmit

/-- SEARCH_DEADLINE of a member's search still running at instant `t` (R261). -/
def Blk.searchDeadline (t mix : Nat) (b0 : Blk) : Blk :=
  let b := b0.moveTo t
  let hit (e : Epoch) : Bool := e.mix == mix && !e.aborted && !e.refused && decide (e.t0 + 1800000 ≤ b.now)
  if b.pos.solving.any hit then
    (b.modPos (fun p => { p with
      solving := p.solving.map (fun (e : Epoch) => if hit e then { e with aborted := true } else e) })).bump
      Reg.POS_SEARCH_ABORT_COUNT
  else b

/-- SEARCH_DEADLINE (R261). -/
def execSearchDeadline (t : Nat) (mix : Mix) : State → Host.Outcome State Fault Refusal :=
  onIsland .pos (Blk.searchDeadline t mix.val)

/-! ## Heads (R256-R258) -/

/-- The record of head `h` in the table that a measurement at fleet instant `t` ns uses (R256). -/
def Blk.headRec (b : Blk) (t h : Nat) : PHead :=
  ((if t < b.pos.headsAt then b.pos.headsOld else b.pos.heads).getD []).getD h {}

/-- Head `h` contributes a UWB measurement taken at fleet instant `t` (R258). -/
def Blk.headRanges (b : Blk) (t h : Nat) : Bool :=
  (b.headRec t h).en && (b.head h).state == .up && b.flag (Reg.AIR_HEAD_CFG h) 15 && !bitOf b.pos.suspect h

/-- One residual of head `h` in mm (R258): a mean above 150 mm over 100 makes it suspect. -/
def Blk.headResid (b : Blk) (h : Nat) (r : Int) : Blk :=
  let rs := (r :: Tab.val b.pos.resid h []).take 100
  if rs.length = 100 ∧ 15000 < rs.sum.natAbs then
    (b.modPos (fun p => { p with resid := Tab.del p.resid h, suspect := setBit p.suspect h })).record 0x0402 (leBytes 1 h)
  else b.modPos (fun p => { p with resid := Tab.put p.resid h rs })

/-- A head table of 128 bytes (R256): the offset of the first failing field, or the table. -/
def parseHeads (s : Bytes) : Except Nat (List PHead) :=
  match (List.range 8).findSome? (fun i =>
    if 1 < byteAt s (16 * i + 14) then some (16 * i + 14)
    else if byteAt s (16 * i + 15) ≠ 0 then some (16 * i + 15) else none) with
  | some o => .error o
  | none => .ok ((List.range 8).map (fun i =>
      ⟨sle s (16 * i) 4, sle s (16 * i + 4) 4, sle s (16 * i + 8) 4, sle s (16 * i + 12) 2, bitOf (byteAt s (16 * i + 14)) 0⟩))

/-- HEAD_SET with the table read (R256). -/
def Blk.headSet (d : Desc) (tab : Bytes) (b : Blk) : Blk :=
  b.checked d [d.aligned 0x18 8] (fun b =>
    if d.op 0x20 4 ≠ 128 then b.complete d.id 0x32 0xFFFFFFFF
    else match parseHeads tab with
      | .error o => b.complete d.id 0x32 o
      | .ok hs => b.modPos (fun p => { p with headsNext := p.headsNext ++ [(d.id, hs)] }))

/-- HEAD_SET (R256). -/
def execHeadSet (d : Desc) (tab : Bytes) : State → Host.Outcome State Fault Refusal :=
  onIsland .pos (fun b => b.start d (Blk.headSet d tab))

/-- The head tables taken at a superframe's start: each HEAD_SET completes, and no head is suspect (R256, R258). -/
def Blk.takeHeads (b : Blk) : Blk :=
  if b.pos.headsNext = [] then b
  else b.pos.headsNext.foldl (fun b q => (b.modPos (fun p => { p with heads := some q.2, suspect := 0, resid := [] })).done q.1)
    (b.modPos (fun p => { p with headsNext := [], headsOld := p.heads, headsAt := b.now }))

/-! ## Descriptors (R264) -/

/-- MEMBER_FILTER_RESET (R264). -/
def Blk.filterReset (d : Desc) (b : Blk) : Blk :=
  let mask := d.op 0x18 16
  let ms := (List.range 128).filter (fun m => bitOf mask m && (b.filterOf m).on)
  (ms.foldl Blk.initFilter b).done d.id ms.length

/-- MEMBER_FILTER_RESET (R264). -/
def execMemberFilterReset (d : Desc) : State → Host.Outcome State Fault Refusal :=
  onIsland .pos (fun b => b.start d (Blk.filterReset d))

/-- POS_OFFER_READ (R264): 0 for a member that is not served. -/
def Blk.offerRead (d : Desc) (b : Blk) : Blk :=
  b.checked d [d.aligned 0x18 64] (fun b =>
    (b.emit (.hostWrite (d.op 0x18 8) ((List.range 128).flatMap (fun m =>
      leBytes 1 (if b.demanding.contains m then b.servedHz b.pos.degrade m else 0))))).done d.id)

/-- POS_OFFER_READ (R264). -/
def execPosOfferRead (d : Desc) : State → Host.Outcome State Fault Refusal :=
  onIsland .pos (fun b => b.start d (Blk.offerRead d))

/-! ## RTCM output (R263) -/

/-- The interval of RTCM output in ns; 0 when it is off (R267). -/
def Blk.rtcmEvery (b : Blk) : Nat :=
  match b.fld Reg.POS_RTCM_CFG 15 12 with
  | 1 => 1000000000 | 2 => 500000000 | 3 => 200000000 | 4 => 100000000 | _ => 0

/-- The systems whose records are output, each with the number of its MSM1 message less 1 (R263). -/
def Blk.rtcmSystems (b : Blk) : List (Nat × Nat) :=
  [(0, 1070), (1, 1090), (3, 1110)].filter (fun q => b.flag Reg.POS_RTCM_CFG q.1)

/-- The messages of a reference epoch at `t` (R263): MSM of the enabled systems, the multiple-message bit set on all but the
last, and the station message at the first output epoch and every tenth. -/
def Blk.rtcmMessages (b : Blk) (t : Nat) (sats : List RefSat) (ref : V3) : List Bytes :=
  let msm := b.fld Reg.POS_RTCM_CFG 11 8
  let station := b.fld Reg.POS_RTCM_CFG 31 20
  let ss := b.rtcmSystems
  ss.zipIdx.map (fun q => msmMessage (q.1.2 + msm) station q.1.1 t (decide (q.2 + 1 < ss.length)) (msm == 7) sats)
    ++ (if b.pos.rtcmN % 10 = 0 then
          [stationMessage station (if b.flag Reg.POS_RTCM_CFG 7 then some (b.fld Reg.POS_RTCM_HGT 15 0) else none) ref]
        else [])

/-- A channel has a member that gets RTCM (R263). -/
def Blk.rtcmOn (b : Blk) (chan9 : Bool) : Bool :=
  (List.range 128).any (fun m => b.posMode m == 1 && (b.member m).state.served && (b.link m).chan9 == chan9)

/-- The RTCM elements of one epoch (R277): at most 16 fragments of 133 bytes (log 34). -/
def rtcmElems (id : Nat) (data : Bytes) : List Bytes :=
  let parts := (chunks 133 data.length data).take 16
  parts.zipIdx.map (fun (q : Bytes × Nat) => leBytes 1 id ++ leBytes 1 (q.2 * 16 + (parts.length - 1)) ++ q.1)

/-- The output of the reference epoch at `t` (R263). -/
def Blk.rtcmOut (b : Blk) (t : Nat) (sats : List RefSat) : Blk :=
  let every := b.rtcmEvery
  match b.pos.ref with
  | none => b
  | some ref =>
    if every = 0 ∨ t % every ≠ 0 then b
    else
      let data := (b.rtcmMessages t sats (fp64V3 ref)).flatMap rtcmFrame
      let q := b.fld Reg.POS_OUT_CFG 5 0
      let b1 := if q = 0 then b else b.produce q 0x45 data
      let es := rtcmElems b.pos.rtcmSeq data
      let on := [false, true].filter b1.rtcmOn
      (b1.modPos (fun p => { p with rtcmN := p.rtcmN + 1, rtcmSeq := (p.rtcmSeq + 1) % 256 })).modAir (fun a => { a with
        bcasts := a.bcasts ++ on.flatMap (fun c => es.map (fun (x : Bytes) => (⟨c, false, 0, 0, x⟩ : Bcast))) })

/-- What a reference epoch at `t` brings to POS (R243, R263): its records, the end of the old orbit set's two seconds, RTCM. -/
def Blk.posEpoch (b : Blk) (t : Nat) (r : RefEpoch) : Blk :=
  ((b.modPos (fun p => { p with refs := (r :: p.refs).take 8 })).dropOldSet).rtcmOut t r.sats

end Sys2Proof.Machine
end

