-- ==== Sys2Proof/Machine/AirSched.lean ====
section
/-! DEFINITION. Sys2Proof/Machine/AirSched.lean: superframes: slot times, sleep and guards, the slot map, RXPLAN and the
beacon (R271-R283, R290-R302, R329, R334). -/

namespace Sys2Proof.Machine

open Sys2Proof

/-! ## Times and addresses (R271-R273, R283) -/

/-- The number of the present superframe, not reduced modulo 2^32. -/
def Blk.sfIndex (b : Blk) : Nat := b.air.sfStart / 10000000

/-- The fleet instant in ns at which slot `s` of superframe `n` starts (R271, R272). -/
def slotStart (n s : Nat) : Nat := n * 10000000 + s / 2 * 1000000 + 128000 + s % 2 * 436000

/-- The fleet instant of the first SYNC symbol of a frame in slot `s` (R273). -/
def slotLaunch (n s : Nat) : Nat := slotStart n s + 10000

/-- The STS counter of a broadcast frame in slot `s` (R283). -/
def stsBroadcast (sfn s : Nat) : Bytes := leBytes 16 (sfn * 2 ^ 96 + s * 2 ^ 16)

/-- The STS counter of a member's frame (R283). -/
def stsMember (fcnt short : Nat) : Bytes := leBytes 16 (fcnt * 2 ^ 96 + short * 2 ^ 80)

/-- The beacon key of a launch instant with STS_KEY's choice of it (R278, R327): none where it is not held. -/
def Blk.bcnKey (b : Blk) (launch : Nat) : Option (Nat × Bytes) :=
  let p := launch / 1000000 % 2 ^ 48 / 2 ^ 16
  (b.air.kbcn.find? (fun q => q.1 == p)).map (fun q => (b2n (p != b.keyPeriod), q.2))

/-- A fixed frame to every head of a channel (R269). -/
def Blk.sendAll (b : Blk) (chan9 : Bool) (launch phy sts : Nat) (v psdu : Bytes) : Blk :=
  (b.chanHeads chan9).foldl (fun b h => b.txSend h launch phy sts 0 v psdu) b

/-- SITE (R275). -/
def Blk.site (b : Blk) : Nat := b.fld Reg.AIR_ADDR_CFG 31 16

/-- WC[15:0] is at 45 536 or later: the next key is being delivered (R192, R279). -/
def keyChange (ns : Nat) : Bool := decide (45536 ≤ ns / 1000000 % 2 ^ 16)

/-! ## Members of a channel, sleep and guards (R299-R302) -/

/-- The members of a channel: those with a link that are neither ABSENT nor EVICTED. -/
def Blk.onChan (b : Blk) (chan9 : Bool) : List Nat :=
  (List.range 128).filter (fun m =>
    (b.link m).eui != 0 && (b.link m).chan9 == chan9 && (b.member m).state != .absent && (b.member m).state != .evicted)

/-- The members of a channel that slots can go to: also one whose EVICT is not yet applied (R290). -/
def Blk.slotMembers (b : Blk) (chan9 : Bool) : List Nat :=
  (List.range 128).filter (fun m =>
    (b.link m).eui != 0 && (b.link m).chan9 == chan9
      && ((b.member m).state != .absent || (b.link m).handshake || (b.link m).keepUplinks))

/-- A channel's drift regime is LARGE (R300). -/
def Blk.largeNow (b : Blk) (chan9 : Bool) : Bool :=
  decide (32 < (b.onChan chan9).length)
    || (b.onChan chan9).any (fun m => (b.member m).state == .sleeping && decide (1000 < (b.link m).interval))

/-- The regime in force on a channel. -/
def Blk.large (b : Blk) (chan9 : Bool) : Bool := if chan9 then b.air.large9 else b.air.large5

/-- The guard G of a sleeper in 0.1 µs, rounded up (R300, R301). -/
def Blk.guardOf (b : Blk) (l : Link) : Nat :=
  if b.large l.chan9 then
    10 * b.fld Reg.AIR_SLEEP_CFG 15 8 + ceilDiv (b.fld Reg.AIR_SLEEP_CFG 7 0 * l.interval) 10000
  else 10 * b.fld Reg.AIR_SLEEP_CFG 23 16

/-- `n / d` rounded to the nearest integer, halves up (log 30). -/
def roundDiv (n : Int) (d : Nat) : Int := (2 * n + d) / (2 * d)

/-- INTERVAL_US of a member (R300, R301). -/
def Blk.intervalUs (b : Blk) (l : Link) : Nat :=
  let i := l.interval * 1000
  if b.large l.chan9 then (i + roundDiv (i * l.e) 1024000000).toNat else i

/-- A link as its offered schedule will make it, or with the one in force. -/
def Link.offered (l : Link) : Link :=
  match l.offer with
  | none => l
  | some (ms, sfn, slot) => { l with interval := ms, pollSfn := sfn, pollSlot := slot, sleepy := true }

/-- A SCHED body (R299). -/
def Blk.schedBody (b : Blk) (mix : Nat) : Bytes :=
  let l := (b.link mix).offered
  let on := l.sleepy
  leBytes 1 (b2n on) ++ leBytes 1 (b.fld (Reg.POS_MCFG mix) 1 0) ++ leBytes 1 (b.posMode mix) ++ zeros 1
    ++ leBytes 4 (if on then l.pollSfn else 0) ++ leBytes 1 (if on then l.pollSlot else 0) ++ zeros 3
    ++ leBytes 4 (if on then b.intervalUs l else 0)

/-- A SCHED pending for a member (R291, R299); its body is made when it is sent. -/
def Blk.sendSched (b : Blk) (mix : Nat) : Blk :=
  let l := b.link mix
  b.setLink mix { l with
    elems := l.elems.filter (fun (e : Elem) => e.etype != 0x89) ++ ([{ etype := 0x89, body := zeros 16 }] : List Elem) }

/-- Superframes between two polls. -/
def Link.pollStep (l : Link) : Nat := max 1 (l.interval / 10)

/-- The superframe of a member's next poll, moved on past polls that were missed long since. -/
def Link.nextPoll (l : Link) (sfn : Nat) : Nat :=
  let late := sdiff 32 sfn l.pollSfn
  if 1 < late then (l.pollSfn + ceilTo late.toNat l.pollStep) % 2 ^ 32 else l.pollSfn

/-! ## The slot map (R280, R290-R292, R295) -/

/-- The first free slot of slots `lo` to `hi` given to `s`; entry `i` of the map is slot `i + 2`. -/
def placeUp (m : List Slot) (lo hi : Nat) (s : Owner) : Option (List Slot) :=
  ((List.range m.length).find? (fun i => decide (lo ≤ i + 2 ∧ i + 2 ≤ hi) && (m.getD i {}).kind == 0)).map
    (fun i => m.set i { toOwner := s })

/-- The last free slot from slot `lo` on given to `s`. -/
def placeDown (m : List Slot) (lo : Nat) (s : Owner) : Option (List Slot) :=
  ((List.range m.length).reverse.find? (fun i => decide (lo ≤ i + 2) && (m.getD i {}).kind == 0)).map
    (fun i => m.set i { toOwner := s })

/-- A slot of a member's. -/
def Blk.memberSlot (b : Blk) (mix kind : Nat) : Owner := ⟨b.short mix, kind, (b.link mix).head, b.hprf mix⟩

/-- The last 10 frames received from the member of a short address, as the heads that received each. -/
def Blk.heardOf (b : Blk) (short : Nat) : List (List Nat) := (b.link (short - b.fld Reg.AIR_ADDR_CFG 15 0)).heard

/-- Two owners may share a slot (R294): their heads' REUSE values differ and are not 0, and no head of either class
received the other owner in its last 10 frames, of which 10 are known (log 106). -/
def Blk.mayShare (b : Blk) (p q : Owner) : Bool :=
  let reuse (h : Nat) : Nat := b.fld (Reg.AIR_HEAD_CFG h) 11 10
  let apart (short cls : Nat) : Bool :=
    (b.heardOf short).length == 10 && (b.heardOf short).all (fun hs => hs.all (fun h => reuse h != cls))
  reuse p.head != 0 && reuse q.head != 0 && reuse p.head != reuse q.head
    && apart p.owner (reuse q.head) && apart q.owner (reuse p.head)

/-- The second owners listed in a slot map, with their slots. -/
def reuses (m : List Slot) : List (Nat × Owner) :=
  m.zipIdx.filterMap (fun q => q.1.second.map (fun o => (q.2 + 2, o)))

/-- An UPLINK or DOWN given to `s` in slots `lo` to `hi`: the first free slot, else the first one of them that it may
share, of which there are at most 6 (R279, R294). -/
def Blk.place (b : Blk) (m : List Slot) (lo hi : Nat) (s : Owner) : Option (List Slot) :=
  match placeUp m lo hi s with
  | some m1 => some m1
  | none =>
    if 6 ≤ (reuses m).length then none
    else ((List.range m.length).find? (fun i =>
      let x := m.getD i {}
      decide (lo ≤ i + 2 ∧ i + 2 ≤ hi) && (x.kind == 1 || x.kind == 2) && x.second.isNone && b.mayShare x.toOwner s)).map
        (fun i => m.set i { m.getD i {} with second := some s })

/-- The owners of an entry, one or two. -/
def Slot.owners (s : Slot) : List Owner := s.toOwner :: s.second.toList

/-- The owner of an entry that a head serves: the second one where the head is its. -/
def Slot.forHead (s : Slot) (h : Nat) : Owner := ((s.second.filter (fun o => o.head == h)).getD s.toOwner)

/-- The slot maps in the making: the block with what the filling notes, and the map. -/
abbrev Filling := Blk × List Slot

/-- One slot for each of a list of members, in order, as far as there is room; `f` notes a member served. -/
def fillEach (kind lo hi : Nat) (f : Blk → Nat → Blk) (ms : List Nat) (x : Filling) : Filling :=
  ms.foldl (fun (x : Filling) mix => match x.1.place x.2 lo hi (x.1.memberSlot mix kind) with
    | none => x
    | some m => (f x.1 mix, m)) x

/-- A member polls: its sleepy schedule is in force and it is served, or keeps its slots until its EVICT (R290, R299). -/
def Blk.polls (b : Blk) (mix : Nat) : Bool :=
  (b.link mix).sleepy && ((b.member mix).state.served || (b.link mix).keepUplinks)

/-- POLL windows due in superframe `n` (R290). -/
def Blk.fillPolls (n : Nat) (ms : List Nat) (x : Filling) : Filling :=
  ms.foldl (fun (x : Filling) mix =>
    let b := x.1
    let l := b.link mix
    if b.polls mix then
      let p := l.nextPoll (n % 2 ^ 32)
      let b1 := b.setLink mix { l with pollSfn := p }
      if p = n % 2 ^ 32 then (b1, x.2.set (l.pollSlot - 2) { toOwner := b.memberSlot mix 3 }) else (b1, x.2)
    else x) x

/-- A member gets UPLINK slots: awake and ACTIVE or STOPPED, in its handshake, or EVICTED with its slots kept (R286,
R290). -/
def Blk.uplinks (b : Blk) (mix : Nat) : Bool :=
  let st := (b.member mix).state
  !(b.link mix).sleepy && (st == .active || st == .stopped || (b.link mix).handshake || (b.link mix).keepUplinks)

/-- A member observes: it declared GNSS_OBS or UWB_RANGE (R284). -/
def Link.observes (l : Link) : Bool := bitOf l.cap 4 || bitOf l.cap 7

/-- Superframes between a member's observations (R291). -/
def Blk.obsPeriod (b : Blk) (mix : Nat) : Nat := if b.posMode mix % 2 = 1 then 10 else 100 / b.rateHz mix

/-- How many superframes after the grid instant an observation uplink may start (R291). -/
def Blk.obsSpread (b : Blk) (mix : Nat) : Nat := min (b.obsPeriod mix) (b.fld Reg.POS_OBS_CFG 31 24 / 10)

/-- The phase of a member: its place among the members of its period, over the superframes open to it (R291). -/
def Blk.obsPhase (b : Blk) (ms : List Nat) (mix : Nat) : Nat :=
  (ms.filter (fun k => decide (k < mix) && b.obsPeriod k == b.obsPeriod mix)).length % max 1 (b.obsSpread mix)

/-- A member's observation is due in superframe `n` and has had no uplink (R290, R291). -/
def Blk.obsDue (b : Blk) (n : Nat) (ms : List Nat) (mix : Nat) : Bool :=
  let p := b.obsPeriod mix
  (b.link mix).grid != n / p && decide (b.obsPhase ms mix ≤ n % p) && decide (n % p < b.obsSpread mix)

/-- The greatest number up to `u` that meets the bound of R295 with `per` entries a frame. -/
def servedBound (per : Nat) : Nat → Nat
  | 0 => 0
  | u + 1 => if u + 1 + ceilDiv (u + 1) per ≤ 13 then u + 1 else servedBound per u

/-- A member is given an UPLINK in superframe `n`. -/
def Blk.noteUplink (n : Nat) (b : Blk) (mix : Nat) : Blk :=
  let l := b.link mix
  b.setLink mix { l with grid := n / b.obsPeriod mix, decade := n / 10 }

/-- Every head of a channel permits HPRF, as a frame sent through all of them at once needs (R269, R270). -/
def Blk.chanHprf (b : Blk) (chan9 : Bool) : Bool := (b.chanHeads chan9).all b.headHprf

/-- The members whose observation is due in superframe `n`, carried ones first (R290, R291). -/
def Blk.obsOrder (b : Blk) (n : Nat) (ms : List Nat) : List Nat :=
  let os := ms.filter (fun m => b.uplinks m && (b.link m).observes)
  let due := os.filter (b.obsDue n os)
  let late := due.filter (fun m => b.obsPhase os m != n % b.obsPeriod m)
  late ++ due.filter (fun m => !late.contains m)

/-- The POS_DL batches of observations from these members go at HPRF. -/
def Blk.obsFast (b : Blk) (chan9 : Bool) (all : List Nat) : Bool := b.chanHprf chan9 && all.all b.hprf

/-- Observation uplinks in slots 2-14, carried ones first, up to the bound of R295 (R290, R291, R295). -/
def Blk.fillObs (n : Nat) (chan9 : Bool) (ms : List Nat) (x : Filling) : Filling :=
  let b := x.1
  let all := b.obsOrder n ms
  let k := servedBound (if b.obsFast chan9 all then 10 else 2) all.length
  fillEach 1 2 14 (Blk.noteUplink n) (all.take k) (if k < all.length then
    (b.bump Reg.AIR_DEFER_COUNT (all.length - k), x.2) else x)

/-- The slots of the UPLINKs in a map, ascending, one for each owner. -/
def upSlots (m : List Slot) : List Nat :=
  m.zipIdx.flatMap (fun q => (q.1.owners.filter (fun o => o.kind == 1)).map (fun _ => q.2 + 2))

/-- POS_DL slots (R290, R292): those carried, and for each batch of the observation uplinks `ups` one at or after slot
s + 5 of its last; one without a slot is carried. -/
def Blk.fillPos (chan9 fast : Bool) (ups : List Nat) (x : Filling) : Filling :=
  let c := b2n chan9
  let put (hprf : Bool) (r : Option (List Slot)) (y : Filling) : Filling :=
    match r with
    | some m => (y.1, m)
    | none => (y.1.modAir (fun a => { a with posNeed := Tab.put a.posNeed c (Tab.val a.posNeed c [] ++ [hprf]) }), y.2)
  let now := (chunks (if fast then 10 else 2) ups.length ups).reverse.foldl (fun (y : Filling) us =>
    if us = [] then y
    else put fast (placeDown y.2 (us.foldl max 0 + 5) ⟨0xFFFF, 4, 0, fast⟩) y)
    (x.1.modAir (fun a => { a with posNeed := Tab.put a.posNeed c [] }), x.2)
  (Tab.val x.1.air.posNeed c []).foldl (fun y hprf => put hprf (placeUp y.2 2 19 ⟨0xFFFF, 4, 0, hprf⟩) y) now

/-- One UPLINK in every ten superframes for each member without an observation due in them (R290). -/
def Blk.fillAlive (n : Nat) (ms : List Nat) (x : Filling) : Filling :=
  let b := x.1
  let os := ms.filter (fun m => b.uplinks m && (b.link m).observes)
  let inDecade (m : Nat) : Bool :=
    os.contains m && (decide (b.obsPeriod m ≤ 10) || b.obsPhase os m / 10 == n % b.obsPeriod m / 10)
  fillEach 1 2 19 (fun b m => b.setLink m { b.link m with decade := n / 10 })
    (ms.filter (fun m => b.uplinks m && !inDecade m && (b.link m).decade != n / 10 && decide (m % 10 ≤ n % 10))) x

/-- Urgency of an element (R290), lowest first. -/
def urgency (etype : Nat) : Nat :=
  match etype with
  | 0x85 => 0 | 0x86 => 1 | 0x87 => 2 | 0x84 => 3 | 0x81 => 4 | 0x82 => 5 | 0x83 => 6 | 0x88 => 7 | 0x8A => 8 | 0x8B => 8
  | 0x89 => 9 | _ => 10

/-- Urgency of the most urgent element of a member. -/
def Link.urgent (l : Link) : Nat := l.elems.foldl (fun a e => min a (urgency e.etype)) 11

/-- A member can be sent DOWN frames in superframe `n`: awake, or kept awake by PENDING; an UNHEARD one, in every tenth
superframe alone (R290, R299, R304). -/
def Blk.downOk (b : Blk) (n mix : Nat) : Bool :=
  let l := b.link mix
  let unheard := (b.member mix).state == .unheard && !l.handshake && !l.reassoc
  (!l.sleepy || l.stayAwake) && (!unheard || n % 10 == mix % 10)

/-- The STATE element that an UNHEARD member is sent in every tenth superframe until it reassociates; it takes the place of
one still pending, which no longer applies (R303, R304). -/
def Blk.remindUnheard (n : Nat) (ms : List Nat) (b : Blk) : Blk :=
  ms.foldl (fun b mix =>
    let l := b.link mix
    if (b.member mix).state == .unheard && !l.handshake && !l.reassoc && n % 10 == mix % 10 then
      (b.dropElems mix (fun e => e.etype == 0x87)).pushElem mix
        { etype := 0x87, body := stateBody .unheard b.fleet.epoch b.air.relEpoch }
    else b) b

/-- Members in round-robin order after `last`. -/
def roundRobin (last : Nat) (ms : List Nat) : List Nat :=
  ms.filter (fun m => decide (last < m)) ++ ms.filter (fun m => decide (m ≤ last))

/-- DOWN slots, most urgent members first, those of equal urgency round-robin (R290). -/
def Blk.fillDown (n : Nat) (chan9 : Bool) (ms : List Nat) (x : Filling) : Filling :=
  let b := Blk.remindUnheard n ms x.1
  let want := ms.filter (fun m => (b.link m).elems != [] && b.downOk n m)
  (List.range 11).foldl (fun (y : Filling) u =>
    let key := 2 * u + b2n chan9
    fillEach 2 2 19 (fun b m => b.modAir (fun a => { a with rr := Tab.put a.rr key m }))
      ((roundRobin (Tab.val b.air.rr key 127) want).filter (fun m => (b.link m).urgent == u)) y) (b, x.2)

/-- `k` slots of a kind without an owner. -/
def fillPlain (kind k : Nat) (x : Filling) : Filling :=
  (List.range k).foldl (fun (y : Filling) _ =>
    match placeUp y.2 2 19 ⟨0xFFFF, kind, 0, false⟩ with | none => y | some m => (y.1, m)) x

/-- Further contention slots (R290): while ASSOC_OPEN is set or a resync backoff runs. -/
def Blk.fillContention (chan9 : Bool) (ms : List Nat) (x : Filling) : Filling :=
  let b := x.1
  let resync := ms.any (fun m => (b.link m).sleepy && (b.link m).miss != 0)
  fillPlain 6 (if b.flag Reg.AIR_CFG 1 || resync then b.fld Reg.AIR_CFG 23 20 else 0)
    (fillPlain 5 (b.air.bcasts.filter (fun q => q.chan9 == chan9)).length x)

/-- Further UPLINK slots for members that set MORE (R290). -/
def Blk.fillMore (chan9 : Bool) (ms : List Nat) (x : Filling) : Filling :=
  let b := x.1
  fillEach 1 2 19 (fun b m => b.modAir (fun a => { a with rrUp := Tab.put a.rrUp (b2n chan9) m }))
    ((roundRobin (Tab.val b.air.rrUp (b2n chan9) 127) ms).filter (fun m => (b.link m).more && b.uplinks m)) x

/-- Slots 2-19 of one channel in superframe `n`, in the order of R290. -/
def Blk.fillChan (n : Nat) (chan9 : Bool) (b : Blk) : Filling :=
  let ms := b.slotMembers chan9
  let obs := Blk.fillObs n chan9 ms (Blk.fillPolls n ms (b, List.replicate 18 ({} : Slot)))
  let pos := Blk.fillPos chan9 (b.obsFast chan9 (b.obsOrder n ms)) (upSlots obs.2) (Blk.fillAlive n ms obs)
  Blk.fillMore chan9 ms (Blk.fillContention chan9 ms (Blk.fillDown n chan9 ms pos))

/-- The slot maps of superframe `n`, both channels (R290): those already made for it, or new ones. -/
def Blk.prepare (b : Blk) (n : Nat) : Tab (List Slot) × Blk :=
  match b.air.next with
  | some (k, m) => if k = n then (m, b) else
    let x := Blk.fillChan n false b
    let y := Blk.fillChan n true x.1
    ([(0, x.2), (1, y.2)], y.1)
  | none =>
    let x := Blk.fillChan n false b
    let y := Blk.fillChan n true x.1
    ([(0, x.2), (1, y.2)], y.1)

/-- The slot map of a channel in the present superframe. -/
def Blk.slots (b : Blk) (chan9 : Bool) : List Slot := Tab.val b.air.maps (b2n chan9) []

/-! ## The beacon (R279, R280, R334) -/

/-- FLAGS of a beacon for the superframe that starts at `t` (R279). -/
def Blk.beaconFlags (b : Blk) (chan9 : Bool) (t : Nat) : Nat :=
  b2n (b.flag Reg.AIR_CFG 1) + 2 * b2n (b.large chan9) + 4 * b2n (b.flag Reg.AIR_SUB_CFG 0) + 8 * b2n b.air.sub.orphan
    + 16 * b2n (keyChange t)

/-- INFO of a slot-map entry (R280). -/
def Owner.info (s : Owner) : Nat := s.kind + 16 * s.head + 128 * b2n s.hprf

/-- A beacon's payload (R279, R294). -/
def Blk.beaconBody (b : Blk) (chan9 : Bool) (t : Nat) : Bytes :=
  leBytes 4 (t / 10000000 % 2 ^ 32) ++ leBytes 1 (b2n b.stopped) ++ leBytes 1 (b.beaconFlags chan9 t) ++ zeros 2
    ++ leBytes 4 (if b.stopped then b.clp.s else b.air.relEpoch) ++ leBytes 4 (t / 1000000 % 2 ^ 48 / 2 ^ 16)
    ++ leBytes 8 (ft64 t)
    ++ (b.slots chan9).flatMap (fun (s : Slot) => leBytes 2 s.owner ++ leBytes 1 s.info)
    ++ leBytes 1 (reuses (b.slots chan9)).length ++ zeros 1
    ++ (reuses (b.slots chan9)).flatMap (fun q => leBytes 1 q.1 ++ leBytes 2 q.2.owner ++ leBytes 1 q.2.info)

/-- Beacons are being sent (R312): air service is on, the beacon key held, and Clamp does not suppress them (R194). -/
def Blk.beaconing (b : Blk) : Bool :=
  b.flag Reg.AIR_CFG 0 && !b.clp.suppress && b.air.kbcn.any (fun q => q.1 == b.keyPeriod)

/-- The copies of a beacon on the LAN ports of a primary (R334). -/
def Blk.bcopy (b : Blk) (chan9 : Bool) (t : Nat) : Blk :=
  match b.key.site with
  | none => b
  | some site =>
    let payload := leBytes 4 (t / 10000000 % 2 ^ 32) ++ leBytes 1 (if chan9 then 9 else 5)
      ++ leBytes 1 (b.beaconFlags chan9 t) ++ zeros 2 ++ ft96Bytes (t * 2 ^ 32) ++ leBytes 4 (t / 1000000 % 2 ^ 48 / 2 ^ 16)
    (List.range 2).foldl (fun b p =>
      if b.flag Reg.HDL_LAN_CFG p && !b.flag Reg.AIR_SUB_CFG 0 then
        (b.modAir (fun a => { a with bcopyCnt := a.bcopyCnt + 1 })).emit (.lan p (b.ethernet (8 + p) (beBytes 6 0xFFFFFFFFFFFF)
          (hlFrame (kCp site) b.uid.toNat 0 0x10 0xFF b.air.bcopyCnt false payload)))
      else b) b

/-- The beacon of one channel for the superframe that starts at `t` (R269, R276, R283). -/
def Blk.beacon (b : Blk) (t : Nat) (chan9 : Bool) : Blk :=
  let launch := slotLaunch (t / 10000000) 0
  match b.bcnKey launch with
  | none => b
  | some (sts, k) =>
    if b.beaconing && b.chanHeads chan9 != [] then
      let sfn := t / 10000000 % 2 ^ 32
      let psdu := psduSeal k 0 (b.air.bcastSeq % 256) b.site 0xFFFF 0 sfn 0 false (b.beaconBody chan9 t)
      ((b.modAir (fun a => { a with bcastSeq := (a.bcastSeq + 1) % 256 })).sendAll chan9 launch 0 sts
        (stsBroadcast sfn 0) psdu).bcopy chan9 t
    else b

/-! ## SUPERFRAME_START and RXPLAN_SEND -/

/-- The end of a superframe's first instants, 90 µs after its start `t`: the beacon leaves with Clamp's state 48 µs before
its launch (R193), the regime chosen and the slot map filled (R290, R300), head tables taken (R256). -/
def Blk.superframe (t0 : Nat) (b0 : Blk) : Blk :=
  let n := t0 / 10000000
  let t := 10000000 * n
  let b := (b0.moveTo (90000 + t)).takeHeads
  let b1 := (b.modDvt (fun d => { d with quotaTick := true })).modAir (fun a => { a with
    sfn := n % 2 ^ 32, sfStart := t, large5 := b.largeNow false, large9 := b.largeNow true })
  if b1.flag Reg.AIR_CFG 0 then
    let (m, b2) := b1.prepare n
    let b3 := b2.modAir (fun a => { a with maps := m, next := none })
    (b3.beacon t false).beacon t true
  else b1.modAir (fun a => { a with maps := [], next := none })

/-- SUPERFRAME_START for the superframe that starts at `t` (R290, R300). -/
def execSuperframeStart (t : Nat) : State → Host.Outcome State Fault Refusal := onIsland .air (Blk.superframe t)

/-- How far listening is widened while ORPHAN, in 0.1 µs (R307). -/
def Blk.orphanWiden (b : Blk) : Nat :=
  if b.air.sub.orphan then 10 * min 50 ((b.elapsed - b.air.sub.since) / 100000000) else 0

/-- A counter of the member's is near its end: REKEY (R286). -/
def Link.rekey (l : Link) : Bool := decide (0xFFFF0000 ≤ l.tx ∨ 0xFFFF0000 ≤ l.rx.getD 0)

/-- One RXPLAN entry for head `h` (R329). -/
def Blk.planEntry (b : Blk) (h : Nat) (x : Slot) : Bytes :=
  let s := x.forHead h
  let mix := s.owner - b.fld Reg.AIR_ADDR_CFG 15 0
  let l := b.link mix
  let w : Int := b.orphanWiden
  let g : Int := b.guardOf l
  let plain (owner act flags : Nat) (lo hi : Int) : Bytes :=
    leBytes 2 owner ++ leBytes 1 act ++ leBytes 1 flags ++ sleBytes 2 lo ++ sleBytes 2 hi
  let entry (owner act flags : Nat) (lo hi : Int) : Bytes := plain owner act flags (lo - w) (hi + w)
  let flags := 8 * b2n (l.elems != []) + 16 * b2n l.rekey
  match s.kind with
  | 1 => if s.head = h then entry s.owner 1 flags 0 300 else entry 0xFFFF 0 0 0 300
  | 2 => plain 0xFFFF 0 0 0 4360
  | 3 => if s.head = h then entry s.owner 2 flags (100 - g) (100 + g) else entry 0xFFFF 0 0 (100 - g) (100 + g)
  | 4 | 5 => plain 0xFFFF 3 0 0 0
  | _ => entry 0xFFFF 0 0 0 300

/-- RXPLAN_SEND (R329): the slot maps of the coming superframe made, and the RXPLAN of each head with air service. -/
def Blk.rxplan (b0 : Blk) : Blk :=
  let n := b0.sfIndex + 1
  if b0.flag Reg.AIR_CFG 0 then
    let (m, b) := b0.prepare n
    let b1 := b.modAir (fun a => { a with next := some (n, m) })
    (List.range 8).foldl (fun b h =>
      if b.headAir h then
        let chan9 := b.flag (Reg.AIR_HEAD_CFG h) 8
        b.headSend h 0x08 (leBytes 4 (n % 2 ^ 32) ++ zeros 4 ++ leBytes 8 ((b.head h).line.tick (n * 10000000))
          ++ b.planEntry h { kind := 4 } ++ b.planEntry h {}
          ++ (Tab.val m (b2n chan9) []).flatMap (b.planEntry h))
      else b) b1
  else b0

/-- RXPLAN_SEND (R329). -/
def execRxplanSend : State → Host.Outcome State Fault Refusal := onIsland .air Blk.rxplan

end Sys2Proof.Machine
end

