-- ==== Sys2Proof/Machine/PosSolve.lean ====
section
/-! DEFINITION. Sys2Proof/Machine/PosSolve.lean: a member epoch solved: initialisation, masks, double differences and UWB in one
update, fix and withdrawal, and the solution's output (R244-R261). -/

namespace Sys2Proof.Machine

open Sys2Proof Sys2Proof.Config

/-! ## The epoch's registers (R266) -/

/-- Fields of the registers an epoch was admitted with. -/
def Epoch.fObs (e : Epoch) (hi lo : Nat) : Nat := bitsOf e.cfg.obs hi lo
def Epoch.fAr (e : Epoch) (hi lo : Nat) : Nat := bitsOf e.cfg.ar hi lo
def Epoch.fFix (e : Epoch) (hi lo : Nat) : Nat := bitsOf e.cfg.fix hi lo
def Epoch.fInteg (e : Epoch) (hi lo : Nat) : Nat := bitsOf e.cfg.integ hi lo
def Epoch.fMem (e : Epoch) (hi lo : Nat) : Nat := bitsOf e.cfg.mcfg hi lo

/-- UWB_EN. -/
def Epoch.uwb (e : Epoch) : Bool := bitOf e.cfg.mcfg 15

/-- GNSS records enter: the payload of a member in MODE 0, not refused by step 5. -/
def Epoch.gnss (e : Epoch) : Bool := e.data != [] && e.fMem 5 4 == 0 && !e.refused

/-- PRED_MAX, FIX_HOLD in ns and RES_MAX in m (R254, R255). -/
def Epoch.predMax (e : Epoch) : Nat := e.fFix 7 0 * 10000000
def Epoch.fixHold (e : Epoch) : Nat := e.fFix 31 16 * 1000000
def Epoch.resMax (e : Epoch) : Rat := (e.fFix 15 8 : Rat) / 1000

/-- The limits of the search. -/
def Epoch.limits (e : Epoch) : Limits := ⟨e.fAr 15 12, e.fAr 31 24, e.fAr 23 20, e.resMax⟩

/-! ## The farm frame (R51) -/

/-- The origin and ORIENT of the map in service. -/
def Blk.farm (b : Blk) : Option (V3 × Nat) :=
  match b.inService, b.fleet.map with
  | true, some m => some (⟨fp64Q (m.origin.getD 0 0), fp64Q (m.origin.getD 1 0), fp64Q (m.origin.getD 2 0)⟩, m.orient)
  | _, _ => none

/-- A position in 0.1 mm of the farm frame in ECEF. -/
def Blk.toEcef (b : Blk) (x y z : Rat) : Option V3 :=
  b.farm.map (fun f => Config.fromFarm f.1 f.2 ⟨x / 10000, y / 10000, z / 10000⟩)

/-! ## UWB measurements (R256-R258) -/

/-- One radio tick in s, and in ns (R257). -/
def tickS : Rat := 1 / (128 * 499200000)
def tickNs : Rat := tickS * 1000000000

/-- An arrival at a contributing head: head, its position, the instant in ns of fleet time less the head's delay, quality. -/
structure Arrival where
  head : Nat
  pos : V3
  at' : Rat
  fpq : Nat
  deriving DecidableEq, Repr

/-- The position of a head's antenna in ECEF. -/
def Blk.headPos (b : Blk) (t h : Nat) : Option V3 :=
  let r := b.headRec t h
  b.toEcef (r.x : Rat) (r.y : Rat) (r.z : Rat)

/-- The qualifying arrivals of an epoch's frame, earliest first: the first is the reference (R257). -/
def Blk.arrivals (b : Blk) (e : Epoch) : List Arrival :=
  if !e.uwb || e.refused then []
  else sortBy (fun a => a.at') (e.marks.filterMap (fun m =>
    let t := (m.at' / 65536).toNat
    if !b.headRanges t m.head then none
    else (b.headPos t m.head).map (fun p =>
      ⟨m.head, p, (m.at' : Rat) / 65536 - (((b.headRec t m.head).delay : Int) : Rat) * tickNs, m.fpq⟩)))

/-- The arrivals as distances in m after the first. -/
def arrivalDists (as : List Arrival) : List (V3 × Rat) :=
  match as with
  | [] => []
  | r :: _ => as.map (fun a => (a.pos, lightSpeed * (a.at' - r.at') / 1000000000))

/-- The time differences of arrival against the first (R257). -/
def tdoaMeas (x : Est) (as : List Arrival) : List Meas :=
  match as with
  | [] => []
  | r :: rest =>
    let p := x.pos
    rest.map (fun a =>
      ⟨3, 0, a.head, x.row (fun k => match k with
          | .pos j => vget (Config.sight p r.pos) j - vget (Config.sight p a.pos) j
          | _ => 0),
        lightSpeed * (a.at' - r.at') / 1000000000 - (vdist p a.pos - vdist p r.pos),
        Config.arrivalVar a.fpq, Config.arrivalVar r.fpq⟩)

/-- The range of a record in m (R257): T_REPLY, D_H and D_M in radio ticks. -/
def uwbRange (u : UwbRec) (reply : Nat) (dH dM : Int) : Rat :=
  lightSpeed / 2 * tickS * ((u.round : Rat) * (1 - ((u.fo : Int) : Rat) / (1024 * 1000000)) - (reply : Rat)
    - (dH : Rat) - (dM : Rat))

/-- The range records of an epoch that are VALID and of contributing heads: head, its position, the range. -/
def Blk.ranges (b : Blk) (e : Epoch) : List (Nat × V3 × Rat) :=
  if !e.uwb || e.refused || e.data == [] then []
  else (uwbRecs e.data).filterMap (fun u =>
    if !u.valid || !b.headRanges e.reply.2 u.head then none
    else (b.headPos e.reply.2 u.head).map (fun p =>
      (u.head, p, uwbRange u e.reply.1 (b.headRec e.reply.2 u.head).delay (b.link e.mix).antDelay)))

/-- The ranges as measurements, with the range bias. -/
def rangeMeas (x : Est) (rs : List (Nat × V3 × Rat)) : List Meas :=
  rs.map (fun r =>
    ⟨4, 0, r.1, x.row (fun k => match k with
        | .pos j => - vget (Config.sight x.pos r.2.1) j
        | .bias => 1
        | _ => 0),
      r.2.2 - vdist x.pos r.2.1 - x.get .bias, Config.rangeVar, 0⟩)

/-! ## Satellites (R244, R246, R248) -/

/-- The codes of an epoch for a code solution: SYS, the satellite's position, the pseudorange with clock and troposphere
taken out. -/
def codesOf (recs : List Bytes) (t : Rat) (x : V3) (obs : List ObsSat) : List (Nat × V3 × Rat) :=
  obs.filterMap (fun o => (satAt recs t x o.sys o.svid).map (fun s =>
    (o.sys, s.pos, resolveMs (predRange x s) o.code + lightSpeed * s.clk - tropoAt x s)))

/-- A code solution (R255): it takes as many codes as unknowns, 3 coordinates and a clock for each system (log 109). -/
def codeFix (codes : List (Nat × V3 × Rat)) (approx : V3) : Option (V3 × Rat) :=
  if codes.length < 3 + ((codes.map (fun q => q.1)).eraseDups).length ∨ codes = [] then none
  else Config.codeSolve codes approx

/-- The records that the masks let through (R248): C/N0, elevation at the member's predicted position, and of more than
MAX_SV the highest. -/
def Epoch.masked (e : Epoch) (recs : List Bytes) (t : Rat) (x : V3) (obs : List ObsSat) : List ObsSat :=
  let up := obs.filterMap (fun o =>
    if o.cn0 < e.fObs 15 8 then none
    else match satAt recs t x o.sys o.svid with
      | none => none
      | some s =>
        let el := Config.elevation x s.pos
        if el < (e.fObs 23 16 : Rat) then none else some (o, el))
  ((sortBy (fun (q : ObsSat × Rat) => - q.2) up).take (e.fObs 5 0)).map (fun q => q.1)

/-- An epoch's satellites at a predicted position `x` (R244, R246): `d` is DT_RX and the clock offset in s, `dt` the time
since the satellites' last records. -/
def satsIn (recs : List Bytes) (t : Rat) (x : V3) (ref : Option V3) (refs : List RefSat) (tracks : List Track) (near : Bool)
    (dt d : Rat) (obs : List ObsSat) : List SatIn :=
  obs.filterMap (fun o => (satAt recs t x o.sys o.svid).map (fun s =>
    let code := resolveMs (predRange x s) o.code
    let (phase, slip) := unwrap (tracks.find? (fun k => k.sys == o.sys && k.svid == o.svid)) near dt code o
    ⟨o, code, phase, slip || o.lock == 0 || !o.ok, s, Config.elevation x s.pos,
      (match ref with | none => 0 | some r => Config.elevation r s.pos),
      match ref with
      | none => none
      | some r => (refs.find? (fun q => q.sys == o.sys && q.svid == o.svid)).map (fun q => q.after (rangeRate r {} s) d)⟩))

/-- The ambiguity states after an epoch's records (R249, R250): one for each satellite, reset where its phase is. -/
def Est.upkeep (e : Est) (sats : List SatIn) : Est :=
  let gone := e.keys.filter (fun k => match k with | .amb _ _ => !sats.any (fun s => s.amb == k) | _ => false)
  sats.foldl (fun x s =>
    if !s.reset && x.keys.contains s.amb then x
    else x.reset s.amb (if s.has 1 then (s.phase - s.refSat.phase) - (s.code - s.refSat.code) / waveL1 else 0) 100000000)
    (gone.foldl Est.drop e)

/-! ## Initialisation (R249) -/

/-- The initial position: the first that exists of a code solution of at least 5 satellites, a UWB solution, a DONE
snapshot no older than 10 s, and the last solution; with its variance. -/
def Blk.initial (b : Blk) (f : Filter) (codes : List (Nat × V3 × Rat)) (as : List Arrival) (approx : V3) : Option (V3 × Rat) :=
  let code := if 5 ≤ codes.length then (codeFix codes approx).map (fun q => (q.1, Config.initVar 0 0)) else none
  let uwb := if 3 ≤ as.length then (Config.uwbSolve (arrivalDists as) approx).map (fun p => (p, Config.initVar 1 0)) else none
  let snap := match f.snap with
    | none => none
    | some (t, p, u) =>
      if b.elapsed ≤ t + 10000000000 then (b.toEcef p.x p.y p.z).map (fun q => (q, Config.initVar 2 u)) else none
  match code, uwb, snap with
  | some q, _, _ => some q
  | none, some q, _ => some q
  | none, none, some q => some q
  | none, none, none => f.last.map (fun p => (p, Config.initVar 3 0))

/-! ## The update (R251, R255, R258) -/

/-- What an epoch's update gave: the filter's estimates; whether double differences entered, or a code solution; the
contributing heads; whether the height was held; the satellites used; residuals of heads in mm. -/
structure Updated where
  est : Est
  dd : Bool := false
  code : Bool := false
  heads : List Nat := []
  held : Bool := false
  nSv : Nat := 0
  resid : List (Nat × Int) := []
  deriving DecidableEq, Repr

/-- The code solution as measurements of the position. -/
def codeMeas (x : Est) (p : V3) : List Meas :=
  (List.range 3).map (fun i =>
    ⟨5, i, i, x.row (fun k => if k = .pos i then 1 else 0), vget p i - vget x.pos i, Config.codeVar, 0⟩)

/-- The heads of UWB measurements that passed: with a time difference its own and the reference's, with a range its own. -/
def headsOf (ms : List Meas) (as : List Arrival) : List Nat :=
  let td := (ms.filter (fun m => m.kind == 3)).map (fun m => m.id)
  let all := (if td = [] then [] else (as.take 1).map (fun a => a.head)) ++ td
    ++ (ms.filter (fun m => m.kind == 4)).map (fun m => m.id)
  all.eraseDups

/-- One update with everything an epoch has (R251, R258): GNSS and UWB in one step; UWB alone needs arrivals at 3 heads and
holds the height with 3. -/
def updateWith (x : Est) (ref : Option V3) (sats : List SatIn) (code : Option V3) (as : List Arrival)
    (rs : List (Nat × V3 × Rat)) : Updated :=
  let gn := match ref with
    | none => []
    | some r => ddMeas 0 x r sats ++ ddMeas 1 x r sats ++ ddMeas 2 x r sats
  let sol := if gn = [] then (match code with | none => [] | some p => codeMeas x p) else []
  let ok := x.accepts (gn ++ sol ++ tdoaMeas x as ++ rangeMeas x rs)
  let gnOk := ok.any (fun m => m.gnss)
  let solOk := ok.any (fun m => m.kind == 5)
  let nArr := (ok.filter (fun m => m.kind == 3)).length + 1
  let alone := !gnOk && !solOk
  let use := if alone && decide (nArr < 3) then [] else ok
  let held := alone && nArr == 3
  if use = [] then { est := x }
  else match x.update use (if held then some ⟨((Config.enu x.pos).getD 2 []).getD 0 0, ((Config.enu x.pos).getD 2 []).getD 1 0,
      ((Config.enu x.pos).getD 2 []).getD 2 0⟩ else none) with
    | none => { est := x }
    | some y =>
      { est := y, dd := gnOk, code := solOk, heads := headsOf use as, held := held
        nSv := if gnOk then (((use.filter (fun m => m.gnss)).map (fun m => (m.sys, m.id))).eraseDups).length
            + (((use.filter (fun m => m.gnss)).map (fun m => m.sys)).eraseDups).length
          else if solOk then sats.length else 0
        resid := (tdoaMeas y as).map (fun m => (m.id, roundR (m.nu * 1000))) }

/-! ## Fix and withdrawal (R252-R254) -/

/-- The withdrawals of R254 that an epoch shows, after its update: continuous lock on fewer than MIN_AMB ambiguities, or
residuals too large in 2 consecutive epochs; a satellite that slipped or left becomes float again. -/
def Blk.checkFix (b : Blk) (e : Epoch) (ref : V3) (x : Est) (sats : List SatIn) : Blk :=
  let f := b.filterOf e.mix
  let kept := normInts (f.held.filter (fun q => sats.any (fun s => s.key == q.1 && !s.reset)))
  if !f.fixed then b
  else if nFix kept < e.limits.minAmb then b.withdraw e.mix
  else
    let bad := if fixFails x kept ref sats e.resMax then f.bad + 1 else 0
    if 2 ≤ bad then b.withdraw e.mix else b.setFilter e.mix { f with held := kept, bad := bad }

/-- The ratio as a solution shows it: in 0.1, saturating. -/
def ratioTenths (r : Rat) : Nat := min 255 ((r * 10).floor).toNat

/-- A search of a member that is not FIXED (R253): FIXED is declared when every condition holds. -/
def Blk.tryFix (b : Blk) (e : Epoch) (s : Found) (refOk : Bool) : Blk :=
  let f := b.filterOf e.mix
  let n := if f.cand = s.ints then f.agree + 1 else 1
  let f1 := { f with cand := s.ints, agree := n, ratio := ratioTenths s.ratio }
  if s.pass && decide (e.fAr 19 16 ≤ n) && refOk then
    b.setFilter e.mix { f1 with fixed := true, held := s.ints, fixAt := b.elapsed, bad := 0 }
  else b.setFilter e.mix f1

/-- A revalidation of a FIXED member (R252-R254): another vector that passes the ratio test withdraws the fix, one
that passes the tests adds its new satellites. -/
def Blk.revalidate (b : Blk) (e : Epoch) (s : Found) : Blk :=
  let f := b.filterOf e.mix
  if intsDiffer f.held s.ints then
    (if (e.limits.ratio : Rat) ≤ s.ratio * 10 then b.withdraw e.mix else b)
  else
    let shift (q : (Nat × Nat) × Int) : (Nat × Nat) × Int :=
      match f.held.find? (fun h => h.1.1 == q.1.1 && s.ints.any (fun p => p.1 == h.1)) with
      | none => q
      | some h => (q.1, q.2 + h.2 - ((s.ints.find? (fun p => p.1 == h.1)).elim 0 (fun p => p.2)))
    let joined := (s.ints.filter (fun q => !f.held.any (fun p => p.1 == q.1))).map shift
    b.setFilter e.mix { f with ratio := ratioTenths s.ratio, held := if s.pass then normInts (f.held ++ joined) else f.held }

/-- The search after an update (R252): at every epoch until FIXED, then once a second and when a satellite joins; none where
its deadline has passed (R261). -/
def Blk.searchFix (b : Blk) (e : Epoch) (ref : V3) (x : Est) (sats : List SatIn) (refOk : Bool) : Blk :=
  let f := b.filterOf e.mix
  let set := sats.filter (SatIn.searchable (e.fAr 7 0))
  let keys := set.map SatIn.key
  let due := !f.fixed || decide (f.searchAt + 1000000000 ≤ b.elapsed) || keys.any (fun k => !f.searchSet.contains k)
  let b1 := b.setFilter e.mix { f with searchSet := keys, searchAt := if due then b.elapsed else f.searchAt }
  if e.aborted || !due then b1
  else match search x ref e.limits set.length set with
    | none => b1
    | some s => if f.fixed then b1.revalidate e s else b1.tryFix e s refOk

/-! ## Output (R255, R259-R261) -/

/-- The mode of an epoch (R255): what entered it, and whether the filter may still predict. -/
def Blk.solMode (b : Blk) (e : Epoch) (u : Updated) : Nat :=
  let f := b.filterOf e.mix
  if u.dd then (if f.fixed then 3 else 2)
  else if u.code then 1
  else if u.heads ≠ [] then 4
  else match f.updAt with
    | none => 0
    | some t => if b.elapsed ≤ t + e.predMax then 5 else 0

/-- REF_FAULT's causes at the reference epoch `tm` (R253, R259): ANT_FAULT or N = 0, and JAM_ALARM; an epoch that never came
counts as one with N = 0. -/
def Blk.refEpochAt (b : Blk) (tm : Nat) : RefEpoch :=
  (b.pos.refs.find? (fun q => q.n == tm / 50000000)).getD ⟨tm / 50000000, true, false, []⟩

/-- What a solution says (R259), in the item's units. -/
structure Sol where
  mode : Nat := 0
  tSol : Int := 0
  x : Int := 0
  y : Int := 0
  z : Int := 0
  ve : Int := 0
  vn : Int := 0
  vu : Int := 0
  std : List Nat := [0, 0, 0]
  hpl : Nat := 0
  vpl : Nat := 0
  nSv : Nat := 0
  heads : Nat := 0
  held : Bool := false
  gnss : Bool := false
  far : Bool := false
  deriving DecidableEq, Repr

/-- A position and its errors as a solution gives them (R259, R260): in the farm frame of the map in service, 0 without one. -/
def Blk.solOf (b : Blk) (e : Epoch) (u : Updated) (out : Est) (mode : Nat) (tSol : Int) : Sol :=
  let p := match b.farm with | none => ({} : V3) | some f => Config.toFarm f.1 f.2 out.pos
  { mode := mode, tSol := tSol, x := roundR (p.x * 10000), y := roundR (p.y * 10000), z := roundR (p.z * 10000)
    ve := out.velEnu 0, vn := out.velEnu 1, vu := out.velEnu 2
    std := [0, 1, 2].map (fun i => (roundR (out.sigma i * 10000)).toNat)
    hpl := protLevel (e.fInteg 31 24) out.sigmaMaj, vpl := protLevel (e.fInteg 23 16) (out.sigma 2)
    nSv := u.nSv, heads := u.heads.length, held := mode == 4 && u.held, gnss := u.dd || u.code
    far := match b.refPos with
      | none => false
      | some r => decide (2000 * 2000 < vdot (vsub out.pos r) (vsub out.pos r)) }

/-- Horizontal speed squared, (mm/s)². -/
def Sol.speedSq (s : Sol) : Nat := (s.ve * s.ve + s.vn * s.vn).toNat

/-- The heading of a solution and HEADING_HELD (R259). -/
def Blk.headingOf (b : Blk) (e : Epoch) (s : Sol) : Nat × Bool :=
  if 10000 ≤ s.speedSq then (Config.course s.ve s.vn % 65536, false)
  else if bitOf (byteAt e.data 3) 1 then (le e.data 12 2, false)
  else ((b.filterOf e.mix).heading, true)

/-- The 64 bytes of a solution (R259); the flags are those of the table, in order of their bits. -/
def Blk.solItem (b : Blk) (e : Epoch) (s : Sol) (heading : Nat) (flags : List Bool) : Bytes :=
  let f := b.filterOf e.mix
  let k (v : Int) : Bytes := if b.inService then sleBytes 4 v else zeros 4
  leBytes 1 e.mix ++ leBytes 1 s.mode ++ leBytes 2 (maskOf 10 (fun i => flags.getD i false)) ++ leBytes 8 (ft64 s.tSol.toNat)
    ++ k s.x ++ k s.y ++ k s.z ++ sleBytes 2 s.ve ++ sleBytes 2 s.vn ++ sleBytes 2 s.vu ++ leBytes 2 heading
    ++ leBytes 2 (sat16 (s.std.getD 0 0)) ++ leBytes 2 (sat16 (s.std.getD 1 0)) ++ leBytes 2 (sat16 (s.std.getD 2 0))
    ++ leBytes 2 (sat16 s.hpl) ++ leBytes 2 (sat16 s.vpl)
    ++ leBytes 1 s.nSv ++ leBytes 1 (if s.mode = 3 then nFix f.held else 0) ++ leBytes 1 s.heads ++ leBytes 1 (min f.ratio 255)
    ++ leBytes 2 (if f.fixed then sat16 ((b.elapsed - f.fixAt) / 10000000) else 0)
    ++ leBytes 8 b.fleet.epoch ++ leBytes 4 ((b.now - e.t0) / 1000)
    ++ leBytes 4 (if b.inService then b.fleet.gen else 0)

/-- A point lies outside a segment (R287), all in 0.1 mm: its distance from the line between the nodes exceeds half the
width plus the HPL. -/
def outsideSeg (m : SiteMap) (seg : Nat) (x y : Int) (hpl : Nat) : Bool :=
  match m.segs[seg]? with
  | none => true
  | some g => match m.nodes[g.src]?, m.nodes[g.dst]? with
    | some a, some c =>
      let (dx, dy) := (c.x - a.x, c.y - a.y)
      let (px, py) := (x - a.x, y - a.y)
      let len := dx * dx + dy * dy
      let dot := px * dx + py * dy
      let lim : Int := ((5 * g.width + 10 * hpl : Nat) : Int)
      if dot ≤ 0 ∨ len = 0 then decide (lim * lim < px * px + py * py)
      else if len ≤ dot then decide (lim * lim < (x - c.x) * (x - c.x) + (y - c.y) * (y - c.y))
      else let cr := px * dy - py * dx; decide (lim * lim * len < cr * cr)
    | _, _ => true

/-- A POS_VALID solution lies outside every frozen segment of its member (R287). -/
def Blk.outsideFrozen (b : Blk) (mix : Nat) (x y : Int) (hpl : Nat) : Bool :=
  match b.fleet.map with
  | none => true
  | some m => b.fleet.coh.mortise.zipIdx.all (fun q =>
      !(q.1.holder == mix + 1 && q.1.frozen) || outsideSeg m q.2 x y hpl)

/-- A solution delivered (R259, R261, R287, R292): host queue, position downlink, member table, and the return of a
reassociated member. -/
def Blk.deliverSol (b : Blk) (e : Epoch) (item : Bytes) (valid : Bool) (s : Sol) : Blk :=
  let q := bitsOf e.cfg.out 13 8
  let b1 := if q = 0 then b else b.produce q 0x44 item
  let m := b1.member e.mix
  if m.state = .evicted ∨ m.state = .absent then b1
  else
    let b2 := b1.modAir (fun a => { a with
      posQueue := a.posQueue.filter (fun (p : PosEntry) => p.mix != e.mix)
        ++ ([⟨e.mix, slice item 1 47, b1.now⟩] : List PosEntry) })
    let m1 := { m with posFlags := b2n valid + 2 * b2n (s.mode == 3) + 4 * b2n (s.mode == 4)
                       x := sle item 0x0C 4, y := sle item 0x10 4, heading := le item 0x1E 2
                       speed := ((isqrt64 (4 * s.speedSq) + 1) / 2 : Nat), posTime := le item 4 8
                       located := m.located || valid }
    let b3 := b2.modFleet (fun f => { f with coh := f.coh.setMember e.mix m1 })
    let l := b3.link e.mix
    if valid && l.reassoc && !l.handshake && m.state == .unheard && b3.outsideFrozen e.mix s.x s.y s.hpl then
      (b3.setLink e.mix { l with reassoc := false }).device e.mix .reassociated
    else b3

/-- The filter after an epoch: its mode, estimates and instants. -/
def Blk.storeFilter (b : Blk) (e : Epoch) (u : Updated) (sats : List SatIn) (s : Sol) (heading : Nat) (out : V3) : Blk :=
  let f := b.filterOf e.mix
  b.setFilter e.mix { f with
    est := some u.est, time := s.tSol, mode := s.mode, heading := heading, hpl := s.hpl
    updAt := if u.dd || u.code || u.heads != [] then some b.elapsed else f.updAt
    gnssAt := if u.dd then b.elapsed else f.gnssAt
    tracks := if sats = [] then f.tracks
      else sats.map (fun s => ⟨s.o.sys, s.o.svid, s.code, s.phase, s.o.dop⟩)
    trackAt := if sats = [] then f.trackAt else s.tSol
    last := if s.mode = 0 then f.last else some out }

/-- A solution put out, with INTEG_ALERT, POS_VALID and the other flags (R259, R260). -/
def Blk.emitSol (b : Blk) (e : Epoch) (s : Sol) (heading : Nat) (kept : Bool) : Blk :=
  let r := b.refEpochAt e.tm
  let alert := decide (10 * e.fInteg 15 8 < s.hpl ∨ 10 * e.fInteg 7 0 < s.vpl)
  let valid := s.mode != 0 && !alert
  b.deliverSol e (b.solItem e s heading
    [valid, alert, kept, b.decimated e.mix, decide (0 < s.heads), s.gnss, !b.inService, s.far, r.bad || r.jam, s.held]) valid s

/-- An epoch without anything to solve from: a cleared filter, or one that no source initialises (R249): NONE, position and
velocity 0 (log 112). -/
def Blk.noSolution (b : Blk) (e : Epoch) : Blk :=
  let s : Sol := { tSol := (e.tm : Int) + e.dt }
  let (heading, kept) := b.headingOf e s
  b.emitSol e s heading kept

/-- FIXED ends where no double differences have updated the filter for FIX_HOLD, and with a gap longer than PRED_MAX the filter
is initialised (R249, R254). -/
def Blk.ageFilter (b : Blk) (e : Epoch) : Blk :=
  let f := b.filterOf e.mix
  let b1 := if f.fixed ∧ f.gnssAt + e.fixHold < b.elapsed then b.withdraw e.mix else b
  match f.updAt with
  | none => b1.initFilter e.mix
  | some t => if t + e.predMax < b.elapsed then b1.initFilter e.mix else b1

/-- An epoch solved from estimates `x0` at its instant, `approx` their position (R250-R260). -/
def Blk.solveFrom (b : Blk) (e : Epoch) (x0 : Est) (obs : List ObsSat) (as : List Arrival) (tSol : Int) : Blk :=
  let f := b.filterOf e.mix
  let recs := b.setAt e.tm
  let t : Rat := (tSol : Rat) / 1000000000
  let r := b.refEpochAt e.tm
  let ref := b.pos.ref.map fp64V3
  let x1 := x0.withBias e.uwb
  let used := e.masked recs t x1.pos obs
  let codes := codesOf recs t x1.pos used
  let code := codeFix codes x1.pos
  let clk := match code with | none => 0 | some q => q.2 / lightSpeed
  let dt := ((tSol - f.trackAt : Int) : Rat) / 1000000000
  let all := satsIn recs t x1.pos ref r.sats f.tracks (decide (dt ≤ 1)) dt ((e.dt : Rat) / 1000000000 + clk) obs
  let x2 := if all = [] then x1 else x1.upkeep all
  let sats := all.filter (fun s => used.contains s.o)
  let u := updateWith x2 ref sats (code.map (fun q => q.1)) as (b.ranges e)
  let b1 : Blk := match ref with
    | none => b
    | some p =>
      if !u.dd then b
      else (b.checkFix e p u.est all).searchFix e p u.est (sats.filter (SatIn.has 1)) (!r.bad)
  let b2 : Blk := u.resid.foldl (fun b q => b.headResid q.1 q.2) b1
  let f2 := b2.filterOf e.mix
  let mode := b2.solMode e u
  let out := if mode = 3 then (u.est.fixTo f2.held).getD u.est else u.est
  let s := b2.solOf e u out mode tSol
  let (heading, kept) := b2.headingOf e s
  (b2.storeFilter e u all s heading out.pos).emitSol e s heading kept

/-- A member epoch solved (R244-R260): at T_m + DT_RX, or without GNSS and with UWB at the reference arrival. -/
def Blk.solve (b0 : Blk) (e : Epoch) : Blk :=
  if !(b0.filterOf e.mix).on then b0.noSolution e
  else
    let b := b0.ageFilter e
    let f := b.filterOf e.mix
    let obs := if e.gnss then gnssRecs e.data else []
    let as := b.arrivals e
    let grid : Int := (e.tm : Int) + e.dt
    let tSol : Int := match as with
      | a :: _ => if obs = [] ∧ 3 ≤ as.length then a.at'.floor else grid
      | [] => grid
    let t : Rat := (tSol : Rat) / 1000000000
    match f.est with
    | some x => b.solveFrom e (x.predict (qOf (e.fMem 9 8) (bitOf (byteAt e.data 3) 2)) (max 0 (((tSol - f.time : Int) : Rat) / 1000000000)))
        obs as tSol
    | none =>
      let approx := match f.last, b.refPos, b.farm with
        | some p, _, _ => p
        | none, some p, _ => p
        | none, none, some q => q.1
        | none, none, none => {}
      match b.initial f (codesOf (b.setAt e.tm) t approx (e.masked (b.setAt e.tm) t approx obs)) as approx with
      | none => b.noSolution e
      | some (p, v) => b.solveFrom e (Est.start p v) obs as tSol

/-- SOLUTION_COMPLETE of the oldest epoch in the solver at instant `t` (R253-R260). -/
def Blk.solutionComplete (t : Nat) (b0 : Blk) : Blk :=
  let b := b0.moveTo t
  match b.pos.solving with
  | [] => b
  | e :: rest => (b.modPos (fun p => { p with solving := rest })).solve e

/-- SOLUTION_COMPLETE (R259). -/
def execSolutionComplete (t : Nat) : State → Host.Outcome State Fault Refusal := onIsland .pos (Blk.solutionComplete t)

end Sys2Proof.Machine
end

