-- ==== Sys2Proof/Machine/Gnss.lean ====
section
/-! DEFINITION. Sys2Proof/Machine/Gnss.lean: the GNSS receiver: antenna, AGC, notches, jamming indicator, channels,
reference epochs and navigation symbols (R205-R225).  What the receiver's loops measure is operands (log 31). -/

namespace Sys2Proof.Machine

open Sys2Proof Sys2Proof.Config

/-! ## Antenna (R205, R206) -/

/-- The antenna state entered, with its record where it is a change among OFF, NORMAL, OPEN and SHORT (R206). -/
def Blk.setAnt (b : Blk) (st : Nat) : Blk :=
  let g := b.gns
  if st = g.ant then b
  else
    let b1 := b.modGns (fun g => { g with ant := st, antAt := b.elapsed, antCond := 0, antN := 0, antTot := 0 })
    if st = 4 ∨ st = g.antShown then b1
    else (b1.modGns (fun g => { g with antShown := st })).record 0x0301
      (leBytes 1 g.antShown ++ leBytes 1 st ++ leBytes 2 g.iMeas)

/-- The condition a current shows: 1 between the thresholds, 2 below I_OPEN, 3 at or above I_SHORT or in limit
(R206); `i` in 0.1 mA. -/
def Blk.antCondOf (b : Blk) (i : Nat) : Nat :=
  if b.fld Reg.GNS_ANT_CFG 31 24 * 10 ≤ i ∨ 1500 ≤ i then 3 else if i < b.fld Reg.GNS_ANT_CFG 23 16 then 2 else 1

/-- ANTENNA_CURRENT_SAMPLE of `i` × 0.1 mA (R206).  In RETRY the supply is on for 10 ms, 10 samples, before a short counts
again. -/
def Blk.antSample (b : Blk) (i : Nat) : Blk :=
  if b.fld Reg.GNS_ANT_CFG 1 0 = 0 then (b.modGns (fun g => { g with iMeas := 0 })).setAnt 0
  else if b.gns.ant = 3 then b.modGns (fun g => { g with iMeas := min i 2000 })
  else
    let c := b.antCondOf i
    let n := if c = b.gns.antCond then b.gns.antN + 1 else 1
    let b1 := b.modGns (fun g => { g with iMeas := min i 2000, antCond := c, antN := n, antTot := g.antTot + 1 })
    if c = 3 then (if b1.gns.ant = 4 ∧ b1.gns.antTot < 10 then b1 else b1.setAnt 3)
    else if 100 ≤ n then b1.setAnt c else b1

/-- ANTENNA_CURRENT_SAMPLE (R206). -/
def execAntennaCurrentSample (i : Nat) : State → Host.Outcome State Fault Refusal := onIsland .gns (fun b => b.antSample i)

/-- ANTENNA_RETRY at instant `t` (R206): 1 s after SHORT the supply is tried again. -/
def Blk.antRetry (t : Nat) (b0 : Blk) : Blk :=
  let b := b0.moveTo t
  if b.gns.ant = 3 ∧ b.fld Reg.GNS_ANT_CFG 1 0 ≠ 0 ∧ b.gns.antAt + 1000000000 ≤ b.elapsed then b.setAnt 4 else b

/-- ANTENNA_RETRY (R206). -/
def execAntennaRetry (t : Nat) : State → Host.Outcome State Fault Refusal := onIsland .gns (Blk.antRetry t)

/-- ANT_FAULT (R206). -/
def Blk.antFault (b : Blk) : Bool := b.gns.ant == 2 || b.gns.ant == 3 || b.gns.ant == 4

/-! ## AGC, notches, jamming (R207-R210) -/

/-- AGC_UPDATE (R207): the ADC's RMS in 1/16 LSB, P_IN in 0.01 dBm. -/
def Blk.agc (b : Blk) (rms : Nat) (pIn : Int) : Blk :=
  let target := b.fld Reg.GNS_AGC_CFG 7 0
  b.modGns (fun g => { g with
    pIn := pIn
    gain := if b.flag Reg.GNS_AGC_CFG 8 then g.gain
      else if rms < target then min 120 (g.gain + 1) else if target < rms then g.gain - 1 else g.gain })

/-- AGC_UPDATE (R207). -/
def execAgcUpdate (rms : Nat) (pIn : Int) : State → Host.Outcome State Fault Refusal := onIsland .gns (fun b => b.agc rms pIn)

/-- The notches, engaged or not. -/
def Blk.notch (b : Blk) (n : Nat) : Notch := Tab.val b.gns.notches n {}

/-- Notch `n` set. -/
def Blk.setNotch (b : Blk) (n : Nat) (x : Notch) : Blk := b.modGns (fun g => { g with notches := Tab.put g.notches n x })

/-- Engaged notches. -/
def Blk.engaged (b : Blk) : List Nat := (List.range 4).filter (fun n => (b.notch n).on)

/-- A frequency moved towards a line by at most 1 kHz. -/
def follow (f line : Int) : Int := clampInt (f - 1000) (f + 1000) line

/-- An engaged notch at a new spectrum (R208): it follows its line, and is released when the line has been quiet or it
is no longer enabled. -/
def Blk.holdNotch (b : Blk) (lines : List SpecLine) (n : Nat) : Blk :=
  let x := b.notch n
  let level := match lines.find? (fun l => l.line == x.line) with | none => 0 | some l => l.level
  let quiet := if level + 12 ≤ b.fld Reg.GNS_NOTCH_CFG 15 8 then x.quiet + 1 else 0
  if !x.on then b
  else if !b.flag Reg.GNS_NOTCH_CFG (16 + n) ∨ 100 ≤ quiet then b.setNotch n {}
  else match lines.find? (fun l => l.line == x.line) with
    | none => b.setNotch n { x with level := 0, quiet := quiet }
    | some l => b.setNotch n { x with freq := follow x.freq l.freq, level := l.level, depth := min 60 l.depth, quiet := quiet }

/-- The weakest notched line among the enabled notches. -/
def Blk.weakest (b : Blk) : Option Nat :=
  b.engaged.foldl (fun (best : Option Nat) n => match best with
    | none => some n
    | some m => if (b.notch n).level < (b.notch m).level then some n else best) none

/-- A notch put on a line. -/
def Blk.notchOn (b : Blk) (n : Nat) (l : SpecLine) : Blk :=
  (b.setNotch n { on := true, line := l.line, freq := l.freq, level := l.level, depth := min 60 l.depth }).modGns
    (fun g => { g with lines := g.lines.filter (fun (x : NLine) => x.line != l.line) })

/-- A line without a notch (R208): counted, and given a free notch or the weakest one. -/
def Blk.newLine (b : Blk) (l : SpecLine) : Blk :=
  let old := (b.gns.lines.find? (fun x => x.line == l.line)).getD ⟨l.line, 0, 0⟩
  let free := (List.range 4).find? (fun n => b.flag Reg.GNS_NOTCH_CFG (16 + n) && !(b.notch n).on)
  let beat := match b.weakest with
    | none => false
    | some w => free.isNone && decide ((b.notch w).level + 6 ≤ l.level)
  let x : NLine := ⟨l.line, if b.fld Reg.GNS_NOTCH_CFG 15 8 ≤ l.level then old.count + 1 else 0,
    if beat then old.beats + 1 else 0⟩
  let b1 := b.modGns (fun g => { g with lines := x :: g.lines.filter (fun (y : NLine) => y.line != l.line) })
  match free, b.weakest with
  | some n, _ => if 10 ≤ x.count then b1.notchOn n l else b1
  | none, some w => if 10 ≤ x.beats then b1.notchOn w l else b1
  | none, none => b1

/-- SPECTRUM_UPDATE with the lines of one spectrum (R208). -/
def Blk.spectrum (b : Blk) (lines : List SpecLine) : Blk :=
  let before := b.engaged.length
  let b1 := (List.range 4).foldl (fun b n => b.holdNotch lines n) b
  let b2 := b1.modGns (fun g => { g with
    lines := g.lines.filter (fun (x : NLine) => lines.any (fun l => l.line == x.line)) })
  let free := lines.filter (fun l => !b2.engaged.any (fun n => (b2.notch n).line == l.line))
  let b3 := free.foldl Blk.newLine b2
  let after := b3.engaged.length
  if (before == 0) == (after == 0) then b3 else b3.record 0x0302 (leBytes 1 (b2n (after != 0)))

/-- SPECTRUM_UPDATE (R208). -/
def execSpectrumUpdate (lines : List SpecLine) : State → Host.Outcome State Fault Refusal := onIsland .gns (fun b => b.spectrum lines)

/-- J of R209; a half step rounds up. -/
def jamOf (pIn pRef : Int) : Nat := (clampInt 0 255 ((16 * (pIn - pRef) + 100) / 200)).toNat

/-- JAM_UPDATE (R209, R210). -/
def Blk.jamUpdate (b : Blk) : Blk :=
  let j := jamOf b.gns.pIn (b.sfld Reg.GNS_JAM_CFG 31 16)
  let th := b.fld Reg.GNS_JAM_CFG 7 0
  let low := if j ≤ th - 8 then b.gns.jamLow + 1 else 0
  let on := if th ≤ j then true else if 10 ≤ low then false else b.gns.jam
  let b1 := b.modGns (fun g => { g with j := j, jPeak := max j g.jPeak, jamLow := low, jam := on })
  if on = b.gns.jam then b1 else b1.record 0x0303 (leBytes 1 (b2n on) ++ leBytes 1 j)

/-- JAM_UPDATE (R209). -/
def execJamUpdate : State → Host.Outcome State Fault Refusal := onIsland .gns Blk.jamUpdate

/-! ## Channels (R217-R221) -/

/-- Channel `n`. -/
def Blk.chan (b : Blk) (n : Nat) : GChan := Tab.val b.gns.chans n {}

/-- Channel `n` replaced. -/
def Blk.setChan (b : Blk) (n : Nat) (c : GChan) : Blk := b.modGns (fun g => { g with chans := Tab.put g.chans n c })

/-- A channel released: it keeps only which satellite it tracked last (R225). -/
def GChan.freed (c : GChan) : GChan := { last := c.last }

/-- Channel `n` released. -/
def Blk.freeChan (b : Blk) (n : Nat) : Blk := b.setChan n (b.chan n).freed

/-- A satellite has a channel. -/
def Blk.hasChan (b : Blk) (sys svid : Nat) : Bool :=
  (List.range 64).any (fun n => (b.chan n).st != 0 && (b.chan n).sys == sys && (b.chan n).svid == svid)

/-- A free channel put to search a satellite (R217). -/
def Blk.assign (b : Blk) (sys svid elev : Nat) : Blk :=
  if b.hasChan sys svid then b
  else match (List.range 64).find? (fun n => (b.chan n).st == 0) with
    | none => b
    | some n => b.setChan n { st := 1, sys := sys, svid := svid, elev := elev, last := (b.chan n).last }

/-- Every SVID of the enabled systems, in ascending SYS, then SVID order (R217). -/
def Blk.allSats (b : Blk) : List (Nat × Nat) :=
  ([0, 1, 2, 3].filter (fun s => b.flag Reg.GNS_SYS_CFG s)).flatMap (fun s =>
    (List.range (svidMax s)).map (fun i => (s, i + 1)))

/-- The next satellite of the search without an orbit set, cyclically, that has no channel (R217). -/
def Blk.nextSearch (b : Blk) : Option (Nat × (Nat × Nat)) :=
  let n := b.allSats.length
  (List.range n).findSome? (fun k =>
    let i := (b.gns.nextSat + k) % n
    match b.allSats[i]? with
    | none => none
    | some q => if b.hasChan q.1 q.2 then none else some ((i + 1) % n, q))

/-- A channel put on the next satellite of the search; IDLE where there is none. -/
def Blk.searchOn (b0 : Blk) (n : Nat) : Blk :=
  let b := b0.freeChan n
  match b.nextSearch with
  | none => b
  | some (i, q) =>
    (b.modGns (fun g => { g with nextSat := i })).setChan n { st := 1, sys := q.1, svid := q.2, last := (b.chan n).last }

/-- The elevation in degrees at which a satellite is predicted at the reference position (R217); none without a usable record
or a position. -/
def Blk.elevOf (b : Blk) (sys svid : Nat) : Option Rat :=
  match b.refPos with
  | none => none
  | some p => (satAt (b.setAt b.now) (secsQ b.now) p sys svid).map (fun s => Config.elevation p s.pos)

/-- Degrees as GNS_CHn_STATUS shows them. -/
def elevDeg (e : Rat) : Nat := min 90 e.floor.toNat

/-- The satellites of enabled systems predicted at or above ELEV_MASK, highest first. -/
def Blk.inView (b : Blk) : List ((Nat × Nat) × Rat) :=
  let mask : Rat := (b.fld Reg.GNS_SYS_CFG 15 8 : Rat)
  sortBy (fun (q : (Nat × Nat) × Rat) => - q.2) ((b.allSats.filterMap (fun q => (b.elevOf q.1 q.2).map (fun e => (q, e)))).filter
    (fun q => decide (mask ≤ q.2)))

/-- The review of one channel: released below ELEV_MASK − 2°. -/
def Blk.reviewChan (b : Blk) (n : Nat) : Blk :=
  let c := b.chan n
  if c.st = 0 then b
  else match b.elevOf c.sys c.svid with
    | none => b
    | some e =>
      if e + 2 < (b.fld Reg.GNS_SYS_CFG 15 8 : Rat) then b.freeChan n else b.setChan n { c with elev := elevDeg e }

/-- CHANNEL_REVIEW at instant `t` (R217): with an orbit set and a position the satellites in view, highest first; else every
free channel searches. -/
def Blk.chanReview (t : Nat) (b0 : Blk) : Blk :=
  let b := b0.moveTo t
  if b.noOrbit || b.refPos.isNone then
    (List.range 64).foldl (fun b n => if (b.chan n).st = 0 then b.searchOn n else b) b
  else
    b.inView.foldl (fun (b : Blk) (q : (Nat × Nat) × Rat) => b.assign q.1.1 q.1.2 (elevDeg q.2))
      ((List.range 64).foldl Blk.reviewChan b)

/-- CHANNEL_REVIEW (R217). -/
def execChannelReview (t : Nat) : State → Host.Outcome State Fault Refusal := onIsland .gns (Blk.chanReview t)

/-- The peak-to-mean test of R214 over the first `n` dwells: 10 log10(peak / mean) ≥ `th` / 10. -/
def peakOver (th n : Nat) (cell mean : List Nat) : Bool :=
  let p := (cell.take n).sum
  let m := (mean.take n).sum
  decide (n ≤ cell.length) && decide (n ≤ mean.length) && decide (0 < p) && decide (10 ^ th * m ^ 100 ≤ p ^ 100)

/-- The Doppler in Hz predicted for a satellite at the reference position (R214). -/
def Blk.aidOf (b : Blk) (sys svid : Nat) : Option Rat :=
  match b.refPos with
  | none => none
  | some p => (satAt (b.setAt b.now) (secsQ b.now) p sys svid).map (fun s => - rangeRate p {} s / waveL1)

/-- A Doppler in Hz lies in the span that is searched for a satellite: aided by the orbit set, or not (R214). -/
def Blk.inSpan (b : Blk) (sys svid : Nat) (d : Rat) : Bool :=
  let ref : Rat := (b.fld Reg.GNS_ACQ_CFG 31 24 : Rat) / 10000000 * fL1
  let (mid, half) : Rat × Rat := match b.aidOf sys svid with | some a => (a, 1000 + ref) | none => (0, 5000 + ref)
  decide (mid - half ≤ d ∧ d ≤ mid + half)

/-- A search found its satellite (R214): in the span, over the threshold, and verified within one code step and one Doppler
bin. -/
def Blk.acqFound (b : Blk) (c : GChan) (o : AcqObs) : Bool :=
  let th := b.fld Reg.GNS_ACQ_CFG 23 16
  let n := b.fld Reg.GNS_ACQ_CFG 6 0
  b.inSpan c.sys c.svid ((o.doppler : Rat) / 1000) && peakOver th n o.cell o.mean && peakOver th n o.cell2 o.mean2
    && decide (o.dCode.natAbs ≤ 1) && decide (o.dBin.natAbs ≤ 1)

/-- The primary code period in ms (R219). -/
def codeMs (sys : Nat) : Nat := match sys with | 1 => 4 | 2 => 10 | _ => 1

/-- ACQ_SEARCH_DONE of channel `n` (R214, R217): a verified detection is handed to tracking; without an orbit set
a channel that found nothing goes to the next satellite. -/
def Blk.acqDone (b : Blk) (n : Nat) (o : AcqObs) : Blk :=
  let c := b.chan n
  if c.st ≠ 1 ∧ c.st ≠ 4 then b
  else if b.acqFound c o then
    b.setChan n { c with st := 2, low := 0, weak := 0, sync := false, half := false, coh := codeMs c.sys
                         loops := b.fld Reg.GNS_TRK_CFG 31 8 }
  else if b.noOrbit then b.searchOn n
  else b.setChan n { c with st := 1 }

/-- ACQ_SEARCH_DONE (R214). -/
def execAcqSearchDone (chan : Chan64) (obs : AcqObs) : State → Host.Outcome State Fault Refusal :=
  onIsland .gns (fun b => b.acqDone chan.val obs)

/-- A pilot signal: E1 or B1C (R211). -/
def GChan.pilot (c : GChan) : Bool := c.sys == 1 || c.sys == 2

/-- The coherent integration time of a channel in ms (R219): the code period until it is synchronised, then GNS_COH_CFG's. -/
def Blk.cohOf (b : Blk) (c : GChan) : Nat :=
  if !c.sync then codeMs c.sys
  else match c.sys with
    | 1 => (match b.fld Reg.GNS_COH_CFG 3 2 with | 0 => 4 | 1 => 20 | _ => 100)
    | 2 => (match b.fld Reg.GNS_COH_CFG 1 0 with | 0 => 10 | 1 => 20 | _ => 50)
    | _ => (match b.fld Reg.GNS_COH_CFG 5 4 with | 0 => 1 | 1 => 5 | 2 => 10 | _ => 20)

/-- A channel's estimates of 100 ms (R217, R218, R220), which is a whole number of integrations: the loops take their
parameters here (R219). -/
def Blk.trackOne (b : Blk) (x : TrkIn) : Blk :=
  let n := x.chan.val
  let c : GChan := { b.chan n with
    cn0 := x.cn0, coh := b.cohOf (b.chan n), loops := b.fld Reg.GNS_TRK_CFG 31 8 }
  let weak : Nat := if x.cn0 < b.fld Reg.GNS_TRK_CFG 7 0 * 100 then c.weak + 1 else 0
  if c.st = 2 then
    (if 10 ≤ weak then b.freeChan n
     else if 800 < x.cos2 then
       b.setChan n { c with st := 3, low := 0, weak := weak, lock := 0, inTrack := false, half := c.pilot, last := (c.sys, c.svid) }
     else b.setChan n { c with weak := weak })
  else if c.st = 3 then
    let low : Nat := if x.cos2 < 400 then c.low + 1 else 0
    if 10 ≤ weak then b.freeChan n
    else if 2 ≤ low then (b.setChan n { c with st := 4, slip := true, low := 0, weak := weak }).bump Reg.GNS_SLIP_COUNT
    else b.setChan n { c with low := low, weak := weak }
  else b

/-- TRACKING_UPDATE (R218). -/
def execTrackingUpdate (ins : List TrkIn) : State → Host.Outcome State Fault Refusal := onIsland .gns (fun b => ins.foldl Blk.trackOne b)

/-- BIT_SYNC_FOUND (R219). -/
def execBitSyncFound (chan : Chan64) : State → Host.Outcome State Fault Refusal :=
  onIsland .gns (fun b =>
    let c := b.chan chan.val
    if c.st = 2 ∨ c.st = 3 then b.setChan chan.val { c with sync := true } else b)

/-- PREAMBLE_DECODED (R221): a C/A channel's half cycle is resolved.  Which polarity the channel found, and so whether its phase
changes by half a cycle, is a free value (log 3). -/
def Blk.preamble (b : Blk) (n : Nat) : Blk :=
  let c := b.chan n
  if c.st = 3 && !c.pilot && !c.half then
    let (k, b1) := b.free
    b1.setChan n { c with half := true, cp := c.cp + (k % 2 : Nat) * 2 ^ 31 }
  else b

/-- PREAMBLE_DECODED (R221). -/
def execPreambleDecoded (chan : Chan64) : State → Host.Outcome State Fault Refusal :=
  onIsland .gns (fun b => b.preamble chan.val)

/-- GNS_RESTART (R235). -/
def Blk.gnsRestart (d : Desc) (b : Blk) : Blk :=
  b.checked d [d.chk 0x18 1 (fun v => decide (v < 2))] (fun b =>
    let cold := d.op 0x18 1 == 1
    let f (c : GChan) : GChan :=
      if cold || c.st == 0 then {} else { c with st := 1, lock := 0, low := 0, weak := 0, inTrack := false }
    (b.modGns (fun g => { g with
      chans := g.chans.map (fun (q : Nat × GChan) => (q.1, f q.2)), timeValid := g.timeValid && !cold
      fewSince := if cold then none else g.fewSince })).done d.id)

/-- GNS_RESTART (R235). -/
def execGnsRestart (d : Desc) : State → Host.Outcome State Fault Refusal := onIsland .gns (fun b => b.start d (Blk.gnsRestart d))

/-- GNS_SPECTRUM with the 2048 bytes of bin powers (R235). -/
def Blk.gnsSpectrum (d : Desc) (bins : Bytes) (b : Blk) : Blk :=
  b.checked d [d.aligned 0x18 64] (fun b =>
    if d.op 0x20 4 < 2048 then b.complete d.id 0x25 2048
    else (b.emit (.hostWrite (d.op 0x18 8) (slice bins 0 2048))).done d.id)

/-- GNS_SPECTRUM (R235). -/
def execGnsSpectrum (d : Desc) (bins : Bytes) : State → Host.Outcome State Fault Refusal :=
  onIsland .gns (fun b => b.start d (Blk.gnsSpectrum d bins))

/-! ## Reference epochs (R213, R220, R222-R224) -/

/-- PR of a signal of `sys` sent at `tx` (2^-32 ns of the system's time) at fleet instant `t` (R212, R224), in 2^-24 m. -/
def prOf (sys t : Nat) (tx : Int) : Nat := (299792458 * (systemTime sys t * 2 ^ 32 - tx) / (1000000000 * 256)).toNat

/-- What channel `n` measured at an epoch. -/
def obsOf (obs : List RefObs) (n : Nat) : Option RefObs := obs.find? (fun o => o.chan.val == n)

/-- CP's arbitrary start value, a free value (log 3, R224), and the whole cycles that bring it to PR for RTCM (R263). -/
def Blk.startPhase (b : Blk) (t n : Nat) (c : GChan) (o : RefObs) : Blk :=
  let (k, b1) := b.free
  let pr : Rat := (prOf c.sys t o.tx : Rat) / 2 ^ 24
  b1.setChan n { c with phase := o.phase, cp := (k : Int), align := roundR (pr / waveL1 - (k : Rat) / 2 ^ 32) }

/-- The channels at a reference epoch (R217, R220, R224): those of a disabled system are released; in TRACK CP follows the
phase and the lock counts move on, and a slip sets them to 0. -/
def Blk.epochChan (t : Nat) (obs : List RefObs) (b : Blk) (n : Nat) : Blk :=
  let c := b.chan n
  if c.st ≠ 0 ∧ !b.flag Reg.GNS_SYS_CFG (c.sys % 4) then b.freeChan n
  else if c.st ≠ 3 then b
  else match obsOf obs n with
    | none => b.setChan n { c with inTrack := true, lock := if c.inTrack then min 65535 (c.lock + 1) else 0 }
    | some o =>
      if !c.inTrack then b.startPhase t n { c with inTrack := true, lock := 0 } o
      else if 2 ^ 30 < (o.phase - c.phase - o.turn).natAbs then
        (b.startPhase t n { c with lock := 0, slip := true } o).bump Reg.GNS_SLIP_COUNT
      else b.setChan n { c with lock := min 65535 (c.lock + 1), cp := c.cp + (o.phase - c.phase), phase := o.phase }

/-- What the record of channel `n` at an epoch says, as the solver takes it (R223, R224). -/
def Blk.refSat (b : Blk) (t : Nat) (obs : List RefObs) (n : Nat) : RefSat :=
  let c := b.chan n
  let o := (obsOf obs n).getD { chan := 0 }
  ⟨c.sys, c.svid, (prOf c.sys t o.tx : Rat) / 2 ^ 24, (c.cp : Rat) / 2 ^ 32, (o.doppler : Rat) / 1024, (c.cn0 : Rat) / 100,
    c.half, o.prOk, o.phaseOk, o.dopOk, c.lock, c.slip, c.align⟩

/-- One observation record (R223). -/
def Blk.obsRec (b : Blk) (t : Nat) (obs : List RefObs) (n : Nat) : Bytes :=
  let c := b.chan n
  let o := (obsOf obs n).getD { chan := 0 }
  leBytes 1 c.sys ++ leBytes 1 c.svid ++ leBytes 1 (sigOf c.sys) ++ leBytes 1 n
    ++ leBytes 2 (b2n o.prOk + 2 * b2n o.phaseOk + 4 * b2n c.half + 8 * b2n c.slip + 16 * b2n o.dopOk)
    ++ leBytes 2 c.cn0 ++ leBytes 8 (if (obsOf obs n).isSome then prOf c.sys t o.tx else 0) ++ sleBytes 8 c.cp
    ++ sleBytes 4 o.doppler ++ leBytes 2 c.lock ++ leBytes 1 (min 255 o.prStd) ++ leBytes 1 (min 255 o.cpStd)

/-- The codes of an epoch with their satellites, clock and troposphere taken out. -/
def Blk.refCodes (b : Blk) (t : Nat) (p : V3) (sats : List RefSat) : List (RefSat × SatAt) :=
  (sats.filter (fun r => r.codeOk)).filterMap (fun r => (satAt (b.setAt t) (secsQ t) p r.sys r.svid).map (fun s => (r, s)))

/-- What each record says of fleet time (R213), by SYS: fleet less system time in ns, and its rate in ps/s. -/
def Blk.timeResid (b : Blk) (t : Nat) (p : V3) (sats : List RefSat) : List (Nat × Rat × Rat) :=
  (b.refCodes t p sats).map (fun q => (q.1.sys, (q.1.code - predRange p q.2) / lightSpeed * 1000000000,
    (- q.1.dop * waveL1 - rangeRate p {} q.2) / lightSpeed * 1000000000000))

/-- The position estimated while none is loaded (R213), from at least 4 codes. -/
def Blk.estimateSelf (b : Blk) (t : Nat) (sats : List RefSat) : Blk :=
  if b.pos.ref.isSome then b.modGns (fun g => { g with self := none })
  else
    let cs := b.refCodes t (b.gns.self.getD {}) sats
    if cs.length < 4 then b
    else b.modGns (fun g => { g with self := some (Config.selfPos (cs.map (fun q => (q.1.sys, q.2.pos, q.1.code + lightSpeed * q.2.clk)))) })

/-- The timing solution (R212, R213, R410): TIME_VALID, CLK_OFF at 0.01 ns, the systems' biases and, at full range, INV's
offset. -/
def Blk.timing (b : Blk) (t : Nat) (sats : List RefSat) : Blk :=
  let rs := match b.refPos with | none => [] | some p => b.timeResid t p sats
  let used := rs.length
  let (off, drift, bias) := Config.timing rs
  let few := if 4 ≤ used then none else match b.gns.fewSince with | none => some b.elapsed | some t => some t
  let valid := if 4 ≤ used then true
    else b.gns.timeValid && (match few with | none => true | some t => decide (b.elapsed < t + 1000000000))
  let b1 := b.modGns (fun g => { g with
    timeValid := valid, fewSince := few
    clkOff := if used = 0 then g.clkOff else clampInt (-2147483648) 2147483647 (off * 100).floor
    clkDrift := if used = 0 then g.clkDrift else clampInt (-2147483648) 2147483647 drift.floor
    bias := if used = 0 then g.bias else bias })
  Blk.evalTime (b1.modInv (fun i => { i with gnssOk := valid, gnssOff := if 4 ≤ used then off.floor else i.gnssOff }))

/-- The channels with a record at an epoch (R222): in TRACK with C/N0 of at least CN0_MIN; none under ANT_FAULT (R224). -/
def Blk.recorded (b : Blk) : List Nat :=
  if b.antFault then []
  else (List.range 64).filter (fun n => (b.chan n).st == 3 && decide (b.fld Reg.GNS_TRK_CFG 7 0 * 100 ≤ (b.chan n).cn0))

/-- The header of an epoch's item with `n` records (R223). -/
def Blk.epochHead (b : Blk) (t n : Nat) : Bytes :=
  let g := b.gns
  leBytes 4 g.seq ++ leBytes 1 n
    ++ leBytes 1 (b2n g.timeValid + 2 * b2n b.antFault + 4 * b2n g.jam + 8 * b2n b.pos.ref.isNone
      + 16 * b2n (!b.engaged.isEmpty))
    ++ leBytes 1 g.j ++ leBytes 1 g.gain ++ ft96Bytes (t * 2 ^ 32) ++ sleBytes 4 g.clkOff ++ sleBytes 4 g.clkDrift ++ zeros 4

/-- REFERENCE_EPOCH at fleet instant `t`, a multiple of 50 ms (R213, R222-R224, R239, R263). -/
def Blk.refEpoch (t : Nat) (obs : List RefObs) (b0 : Blk) : Blk :=
  if t % 50000000 ≠ 0 then b0.moveTo t
  else
    let b := (List.range 64).foldl (Blk.epochChan t obs) (b0.moveTo t).takeRef
    let ns := b.recorded
    let sats := ns.map (b.refSat t obs)
    let b1 := (b.estimateSelf t sats).timing t sats
    let q := b1.fld Reg.GNS_OUT_CFG 13 8
    let b2 := if q = 0 ∨ b1.gns.seq % b1.fld Reg.GNS_OUT_CFG 4 0 ≠ 0 then b1
      else b1.produce q 0x41 (b1.epochHead t ns.length ++ ns.flatMap (b1.obsRec t obs))
    let b3 := b2.modGns (fun g => { g with
      seq := (g.seq + 1) % 2 ^ 32
      chans := g.chans.map (fun (q : Nat × GChan) => if q.2.st = 3 then (q.1, { q.2 with slip := false }) else q) })
    b3.posEpoch t ⟨t / 50000000, b1.antFault || ns.isEmpty, b1.gns.jam, sats⟩

/-- REFERENCE_EPOCH (R222). -/
def execReferenceEpoch (t : Nat) (obs : List RefObs) : State → Host.Outcome State Fault Refusal :=
  onIsland .gns (Blk.refEpoch t obs)

/-- The symbols of a system in one second, and the length of one in ns (R225). -/
def symbolsOf (sys : Nat) : Nat × Nat := match sys with | 1 => (250, 4000000) | 2 => (100, 10000000) | _ => (50, 20000000)

/-- NAV_SYMBOL_ITEM of channel `n` (R225): symbols of one fleet second, first received at `first` ns; `gap` marks an
item that ended or began with a tracking gap.  It names the satellite the channel tracks or tracked last. -/
def Blk.navItem (b : Blk) (n first nSym : Nat) (known gap : Bool) (sym : Bytes) : Blk :=
  let c := b.chan n
  let (sys, svid) := c.last
  let q := b.fld Reg.GNS_OUT_CFG 21 16
  let (max, len) := symbolsOf sys
  if q = 0 || nSym == 0 || max < nSym || 1000000000 ≤ first % 1000000000 + (nSym - 1) * len || svid == 0
      || !(c.st == 3 || gap) then b
  else b.produce q 0x42 (leBytes 1 sys ++ leBytes 1 svid ++ leBytes 1 (sigOf sys) ++ leBytes 1 n
    ++ leBytes 2 nSym ++ leBytes 1 (b2n known + 2 * b2n gap) ++ zeros 1 ++ ft96Bytes (first * 2 ^ 32) ++ zeros 12
    ++ slice sym 0 32)

/-- NAV_SYMBOL_ITEM (R225). -/
def execNavSymbolItem (chan : Chan64) (first nSym : Nat) (known gap : Bool) (sym : Bytes) :
    State → Host.Outcome State Fault Refusal := onIsland .gns (fun b => b.navItem chan.val first nSym known gap sym)

end Sys2Proof.Machine
end

