-- ==== Sys2Proof/Machine/Snapshot.lean ====
section
/-! DEFINITION. Sys2Proof/Machine/Snapshot.lean: the GNSS snapshot service: fragments, the queue, processing and
results (R226-R236). -/

namespace Sys2Proof.Machine

open Sys2Proof Sys2Proof.Config

/-! ## Headers and results (R227, R229, R234) -/

/-- N_B of a record length (R226). -/
def snapBytes (lenCode : Nat) : Nat := match lenCode with | 0 => 1023 | 1 => 2046 | _ => 4092

/-- The first failing field of a snapshot header, in field order (R229); a host snapshot's FRAG_DATA is ignored
(R235). -/
def snapHeaderBad (h : Bytes) (host : Bool) : Option Nat :=
  let f := byteAt h 2
  let hz := le h 4 4
  if byteAt h 0 ≠ 1 then some 0
  else if 2 < byteAt h 1 then some 1
  else if f / 8 ≠ 0 then some 2
  else if byteAt h 3 ≠ 0 then some 3
  else if hz < 980000 ∨ 1070000 < hz then some 4
  else if le h 12 2 = 0 ∨ 5000 < le h 12 2 then some 12
  else if bitOf f 0 && (le h 14 2 == 0 || decide (10000 < le h 14 2)) then some 14
  else if bitOf f 1 && (le h 0x24 2 == 0 || decide (5000 < le h 0x24 2)) then some 0x24
  else if !host && (decide (le h 0x2C 2 < 32) || decide (600 < le h 0x2C 2)) then some 0x2C
  else if !allZero h 0x2E 2 then some 0x2E
  else none

/-- What a DONE result holds (R234), in the result's units. -/
structure SnapSol where
  nSv : Nat
  coarse : Bool
  fix : SnapFix
  gpsMask : Nat
  qzsMask : Nat
  deriving DecidableEq, Repr

/-- SNAP_ID of a snapshot's header (R227). -/
def GSnap.id (s : GSnap) : Nat := le s.header 0x26 2

/-- The 48 bytes of a result (R234); position and time are 0 unless `sol` is given. -/
def snapResult (status mix snapId nSv latency : Nat) (sol : Option SnapSol) : Bytes :=
  leBytes 1 status ++ leBytes 1 mix ++ leBytes 2 snapId ++ leBytes 1 nSv
    ++ (match sol with
      | none => zeros 39
      | some s => leBytes 1 (1 + 2 * b2n s.coarse + 4 * b2n s.fix.oscSolved) ++ leBytes 2 (sat16 s.fix.hUnc)
          ++ sleBytes 4 s.fix.x ++ sleBytes 4 s.fix.y ++ sleBytes 4 s.fix.z ++ leBytes 2 (sat16 s.fix.vUnc)
          ++ leBytes 2 (sat16 s.fix.tUnc) ++ leBytes 8 (ft64 s.fix.time) ++ sleBytes 4 s.fix.osc ++ leBytes 4 s.gpsMask
          ++ leBytes 2 (s.qzsMask % 1024) ++ leBytes 2 (sat16 s.fix.pdop))
    ++ leBytes 4 latency

/-- A DONE result of a member kept for its filter's initialisation (R249). -/
def Blk.keepSnap (b : Blk) (mix : Nat) (f : SnapFix) : Blk :=
  b.setFilter mix { b.filterOf mix with snap := some (b.elapsed, ⟨f.x, f.y, f.z⟩, f.hUnc) }

/-- A snapshot ends (R229-R236): its result to the host queue, and to its member, or the host operation's completion. -/
def Blk.endSnap (b : Blk) (s : GSnap) (status detail nSv : Nat) (sol : Option SnapSol) : Blk :=
  let lat := match s.doneAt with | none => 0 | some t => (b.elapsed - t) / 1000
  let res := snapResult status (if s.host.isSome then 0xFF else s.mix) s.id nSv lat sol
  let q := b.fld Reg.GNS_OUT_CFG 29 24
  let b1 := if q = 0 then b else b.produce q 0x43 res
  match s.host with
  | some id => b1.complete id status detail
  | none =>
    if s.orphan then b1
    else
      let b2 := match sol with | none => b1 | some x => b1.keepSnap s.mix x.fix
      b2.pushElem s.mix { etype := 0x8A, body := res }

/-- A snapshot taken out of the queue. -/
def Blk.dropSnap (b : Blk) (s : GSnap) : Blk := b.modGns (fun g => { g with snaps := g.snaps.erase s })

/-- Places taken: snapshots whose processing has not started (R230). -/
def Blk.snapPlaces (b : Blk) : Nat := (b.gns.snaps.filter (fun s => !s.running)).length

/-! ## Fragments (R228-R230) -/

/-- BUSY_RETRY to a member (R230): counted, with its retry superframe. -/
def Blk.snapBusy (b : Blk) (mix snapId : Nat) : Blk :=
  let r := Tab.val b.gns.busyRow mix 0
  let sf := (b.air.sfn + 4 + 3 * ((mix + 29 * r) % 64)) % 2 ^ 32
  ((b.modGns (fun g => { g with busyRow := Tab.put g.busyRow mix (r + 1) })).bump Reg.GNS_SNAP_BUSY_COUNT).pushElem mix
    { etype := 0x8B, body := leBytes 2 snapId ++ zeros 2 ++ leBytes 4 sf }

/-- The sample bytes that fragment `i` must carry (R228). -/
def fragLen (h : Bytes) (i : Nat) : Nat := min (le h 0x2C 2) (snapBytes (byteAt h 1) - (i - 1) * le h 0x2C 2)

/-- A snapshot with a further fragment: complete, it is checked against SAMPLE_CRC (R229). -/
def Blk.addFrag (b : Blk) (s : GSnap) (i : Nat) (data : Bytes) : Blk :=
  let s1 := { s with frags := Tab.put s.frags i data }
  let b1 := b.modGns (fun g => { g with snaps := g.snaps.map (fun (x : GSnap) => if x = s then s1 else x) })
  if s1.frags.length + 1 < s.count then b1
  else
    let samples := s1.frags.flatMap (fun (q : Nat × Bytes) => q.2)
    if (crc32c samples).toNat = le s.header 0x28 4 then
      let s2 := { s1 with doneAt := some b.elapsed }
      b1.modGns (fun g => { g with snaps := g.snaps.map (fun (x : GSnap) => if x = s1 then s2 else x) })
    else (b1.dropSnap s1).endSnap s1 St.crcFail s1.id 0 none

/-- Fragment 0 of a member (R228-R230): a duplicate of an open snapshot's is ignored. -/
def Blk.snapHeader (b : Blk) (mix snapId cnt : Nat) (h : Bytes) : Blk :=
  let s : GSnap := { mix := mix, host := none, snapId := snapId, header := h, count := cnt, frags := [], at' := b.elapsed
                     t0 := b.now, doneAt := none, running := false, orphan := false }
  let old := b.gns.snaps.find? (fun x => x.host.isNone && !x.orphan && x.mix == mix)
  if old.any (fun x => !x.running && x.snapId == snapId) then b
  else if !b.flag Reg.GNS_SNAP_CFG 0 then b.endSnap s 0x26 0 0 none
  else match snapHeaderBad h false with
    | some o => b.endSnap s 0x20 o 0 none
    | none =>
      if cnt ≠ 1 + ceilDiv (snapBytes (byteAt h 1)) (le h 0x2C 2) then b
      else
        let take (b : Blk) : Blk :=
          if 160 ≤ b.snapPlaces then b.snapBusy mix snapId
          else b.modGns (fun g => { g with snaps := g.snaps ++ [s], busyRow := Tab.del g.busyRow mix })
        match old with
        | none => take b
        | some x => if x.running then b.snapBusy mix snapId else take ((b.dropSnap x).endSnap x 0x22 s.id 0 none)

/-- One snapshot fragment of a member (R228). -/
def Blk.snapFragment (b : Blk) (mix : Nat) (body : Bytes) : Blk :=
  let id := le body 0 2
  let i := byteAt body 2
  let cnt := byteAt body 3
  if body.length < 4 then b
  else if i = 0 then b.snapHeader mix id cnt (slice body 4 48)
  else match b.gns.snaps.find? (fun x => x.host.isNone && !x.orphan && x.mix == mix && x.snapId == id && x.doneAt.isNone) with
    | none => b
    | some s =>
      if cnt ≠ s.count ∨ cnt ≤ i ∨ body.length - 4 ≠ fragLen s.header i ∨ s.frags.any (fun q => q.1 == i) then b
      else b.addFrag s i (body.drop 4)

/-- SNAP_FRAGMENT_TIMEOUT at instant `t` (R229). -/
def Blk.snapFragTimeout (t : Nat) (b0 : Blk) : Blk :=
  let b := b0.moveTo t
  let late (s : GSnap) : Bool := s.doneAt.isNone && decide (s.at' + b.fld Reg.GNS_SNAP_CFG 31 16 * 1000000 ≤ b.elapsed)
  (b.gns.snaps.filter late).foldl (fun (b : Blk) (s : GSnap) =>
    (b.dropSnap s).endSnap s 0x21 (s.count * 2 ^ 16 + s.frags.length + 1) 0 none) b

/-- SNAP_FRAGMENT_TIMEOUT (R229). -/
def execSnapFragmentTimeout (t : Nat) : State → Host.Outcome State Fault Refusal := onIsland .gns (Blk.snapFragTimeout t)

/-! ## Processing (R231-R234) -/

/-- The complete snapshot that became complete earliest. -/
def Blk.nextSnap (b : Blk) : Option GSnap :=
  b.gns.snaps.foldl (fun (best : Option GSnap) (s : GSnap) =>
    match s.doneAt, s.running, best with
    | some t, false, none => if t ≤ b.elapsed then some s else best
    | some t, false, some x => if t < x.doneAt.getD 0 then some s else best
    | _, _, _ => best) none

/-- SNAP_PROCESS_START at instant `t` (R231, R233): on the 25 ms grid, one at each instant; the snapshot keeps the orbit set it
starts with. -/
def Blk.snapStart (t : Nat) (b0 : Blk) : Blk :=
  let b := b0.moveTo t
  if t % 25000000 ≠ 0 ∨ b.gns.lastStart = some t then b
  else match b.nextSnap with
    | none => b
    | some s =>
      if 9 ≤ (b.gns.snaps.filter (fun x => x.running)).length then b
      else
        let b1 := b.modGns (fun g => { g with lastStart := some t })
        if b.noOrbit then (b1.dropSnap s).endSnap s 0x24 0 0 none
        else
          let o := b.pos.orbit.getD ⟨0, []⟩
          b1.modGns (fun g => { g with snaps := (g.snaps.erase s) ++ [{ s with running := true, set := o.id, recs := o.recs }] })

/-- SNAP_PROCESS_START (R231). -/
def execSnapProcessStart (t : Nat) : State → Host.Outcome State Fault Refusal := onIsland .gns (Blk.snapStart t)

/-- The a priori position of a snapshot (R227): the header's, or the origin of the farm frame. -/
def Blk.snapPos (b : Blk) (s : GSnap) : V3 :=
  let k (o : Nat) : Rat := if bitOf (byteAt s.header 2) 1 then ((sle s.header o 4 : Int) : Rat) else 0
  (b.toEcef (k 0x18) (k 0x1C) (k 0x20)).getD (b.refPos.getD {})

/-- The a priori capture time in fleet ns (R227): the header's, or the middle of the 10 s before fragment 0. -/
def Blk.snapTime (b : Blk) (s : GSnap) : Nat :=
  if bitOf (byteAt s.header 2) 0 then ofFt64 b.now (le s.header 0x10 8) else s.t0 - 5000000000

/-- The oscillator error of the header in 1/1024 ppm (R227): 0 where it is unknown. -/
def GSnap.osc (s : GSnap) : Int := if le s.header 8 4 = 0x80000000 then 0 else sle s.header 8 4

/-- Coarse-time navigation is used (R233). -/
def GSnap.coarse (s : GSnap) : Bool := !bitOf (byteAt s.header 2) 0 || decide (10 < le s.header 0xE 2)

/-- The satellites of GPS and QZSS above 0° at a snapshot's a priori position and time, as they were (R233). -/
def Blk.snapSats (b : Blk) (s : GSnap) : List ((Nat × Nat) × SatAt) :=
  let t := secsQ (b.snapTime s)
  ((satsOf s.recs t).filter (fun q => q.1 == 0 || q.1 == 3)).filterMap (fun q =>
    match satAt s.recs t (b.snapPos s) q.1 q.2 with
    | none => none
    | some a => if 0 < Config.elevation (b.snapPos s) a.pos then some (q, a) else none)

/-- What a search found of a predicted satellite counts (R214): 11.0 dB over the mean, within the Doppler span around the
prediction corrected by OSC_PPM. -/
def Blk.snapHit (b : Blk) (s : GSnap) (a : SatAt) (d : SnapDet) : Bool :=
  let pred := - rangeRate (b.snapPos s) {} a / waveL1 - fL1 * (s.osc : Rat) / 1024000000
  let half := (le s.header 0xC 2 : Rat) / 100000000 * fL1 + 500
  let f : Rat := (d.doppler : Rat) / 1000
  peakOver 110 1 [d.peak] [d.mean] && decide (pred - half ≤ f ∧ f ≤ pred + half)

/-- The satellites that a snapshot's search detected, with their code phases. -/
def Blk.snapFound (b : Blk) (s : GSnap) (dets : List SnapDet) : List ((Nat × Nat) × V3 × Nat) :=
  (b.snapSats s).filterMap (fun q =>
    match dets.find? (fun d => d.sys == q.1.1 && d.svid == q.1.2) with
    | none => none
    | some d => if b.snapHit s q.2 d then some (q.1, q.2.pos, d.phase) else none)

/-- The solution with rejection (R233): while the residual RMS exceeds 30 m, the satellite with the largest residual leaves and
the rest is solved again. -/
def rejectSnap (solve : List (V3 × Nat) → SnapFix) : Nat → List ((Nat × Nat) × V3 × Nat) → List ((Nat × Nat) × V3 × Nat) × SnapFix
  | 0, l => (l, solve (l.map (fun q => q.2)))
  | n + 1, l =>
    let f := solve (l.map (fun q => q.2))
    if (f.res.map (fun r => r * r)).sum ≤ 30000 * 30000 * (f.res.length : Int) then (l, f)
    else match maxBy (fun (q : ((Nat × Nat) × V3 × Nat) × Int) => ((q.2.natAbs : Nat) : Rat)) (l.zip f.res) with
      | none => (l, f)
      | some w => rejectSnap solve n (l.erase w.1)

/-- The SVIDs used of a system as a mask (R234). -/
def svMask (sys : Nat) (l : List ((Nat × Nat) × V3 × Nat)) : Nat :=
  maskOf 32 (fun i => l.any (fun q => q.1 == (sys, i + 1)))

/-- The processing of a snapshot (R233). -/
def Blk.snapSolution (b : Blk) (s : GSnap) (dets : List SnapDet) : SnapSol :=
  let found := b.snapFound s dets
  let (l, f) := rejectSnap (Config.snapSolve (b.snapPos s) (b.snapTime s) s.osc s.coarse) found.length found
  ⟨l.length, s.coarse, f, svMask 0 l, svMask 3 l⟩

/-- SNAP_RESULT at instant `t` (R233, R234): the snapshot in processing longest ends; one during whose processing the clock was
lost has no result (R232). -/
def Blk.snapEnds (t : Nat) (dets : List SnapDet) (b0 : Blk) : Blk :=
  let b := b0.moveTo t
  match b.gns.snaps.find? (fun s => s.running) with
  | none => b
  | some s =>
    let b1 := b.dropSnap s
    let sol := b.snapSolution s dets
    if s.void then b1
    else if sol.nSv < b.fld Reg.GNS_SNAP_CFG 7 4 then b1.endSnap s 0x23 (sol.nSv % 256) (sol.nSv % 256) none
    else b1.endSnap s St.done (sol.nSv % 256 * 2 ^ 24 + s.id) (sol.nSv % 256) (some sol)

/-- SNAP_RESULT (R234). -/
def execSnapResult (t : Nat) (dets : List SnapDet) : State → Host.Outcome State Fault Refusal :=
  onIsland .gns (Blk.snapEnds t dets)

/-- GNS_SNAP_HOST with the header and samples read (R235). -/
def Blk.snapHost (d : Desc) (data : Bytes) (b : Blk) : Blk :=
  b.checked d [d.aligned 0x18 8] (fun b =>
    let h := slice data 0 48
    let size := d.op 0x20 4
    let s : GSnap := { mix := 0xFF, host := some d.id, snapId := le h 0x26 2, header := h, count := 1, frags := []
                       at' := b.elapsed, t0 := b.now, doneAt := some b.elapsed, running := false, orphan := false }
    if !b.flag Reg.GNS_SNAP_CFG 0 then b.endSnap s 0x26 0 0 none
    else match snapHeaderBad h true with
      | some o => b.endSnap s 0x20 o 0 none
      | none =>
        let n := snapBytes (byteAt h 1)
        if size ≠ 48 + n then b.complete d.id 0x20 0xFFFFFFFF
        else if (crc32c (slice data 48 n)).toNat ≠ le h 0x28 4 then b.endSnap s St.crcFail s.id 0 none
        else if 160 ≤ b.snapPlaces then (b.bump Reg.GNS_SNAP_BUSY_COUNT).complete d.id St.busy 0
        else b.modGns (fun g => { g with snaps := g.snaps ++ [s] }))

/-- GNS_SNAP_HOST (R235). -/
def execGnsSnapHost (d : Desc) (data : Bytes) : State → Host.Outcome State Fault Refusal :=
  onIsland .gns (fun b => b.start d (Blk.snapHost d data))

end Sys2Proof.Machine
end

