-- ==== Sys2Proof/Machine/AirRx.lean ====
section
/-! DEFINITION. Sys2Proof/Machine/AirRx.lean: what members and partners send: UP and POLL frames, their elements, sleep and
drift, and association (R275-R289, R298-R306). -/

namespace Sys2Proof.Machine

open Sys2Proof

/-! ## Frames received (R330) -/

/-- What a head reports of a frame (R330): SFN and slot, whether the head acknowledged it, whether its keyed STS was
checked and passed, its RMARKER in fleet 2^-16 ns, FO, first-path quality, PSDU length and PSDU. -/
structure AirRxFrame where
  head : Nat
  sfn : Nat
  slot : Nat
  acked : Bool
  sts : Bool
  rmarker : Int
  fo : Int
  fpq : Nat
  len : Nat
  p : Psdu
  deriving DecidableEq, Repr

/-- The fields of an RX frame's body from head `h` (R330). -/
def Blk.rxFields (b : Blk) (h : Nat) (x : Bytes) : AirRxFrame :=
  let n := le x 0x1A 2
  ⟨h, le x 0 4, byteAt x 4, bitOf (byteAt x 5) 0, bitOf (byteAt x 5) 1 && bitOf (byteAt x 5) 2,
    (b.head h).line.toFleet (le x 8 8), sle x 0x10 2, byteAt x 7, n, psduParse (slice x 0x1C n)⟩

/-- An RX frame of head `h` read (R330); a PSDU of another SITE is ignored (R275). -/
def Blk.readRx (b : Blk) (h : Nat) (frame : Bytes) : Option AirRxFrame × Blk :=
  match b.hlRx h 0x07 frame with
  | (none, b1) => (none, b1)
  | (some x, b1) =>
    let f := b1.rxFields h x
    if f.p.site ≠ b1.site ∨ !b1.flag Reg.AIR_CFG 0 then (none, b1) else (some f, b1)

/-- Air time from the RMARKER to the last symbol of a frame of `n` bytes, in radio ticks of 1/128 chip (PRESUMED,
IEEE 802.15.4z: STS with its gap, PHR, and data symbols of 64 chips at BPRF, 16 at HPRF). -/
def airTicks (n : Nat) (hprf : Bool) : Nat :=
  128 * (34 * 512 + (21 + 8 * n + 48 * ceilDiv (8 * n) 330) * (if hprf then 16 else 64))

/-- The channel of a head. -/
def Blk.headChan (b : Blk) (h : Nat) : Bool := b.flag (Reg.AIR_HEAD_CFG h) 8

/-- The owner, for the head that heard it, of the slot in which a frame came. -/
def Blk.rxSlot (b : Blk) (x : AirRxFrame) : Owner := ((b.slots (b.headChan x.head)).getD (x.slot - 2) {}).forHead x.head

/-- A frame came in a contention slot (R271, R280). -/
def Blk.inContention (b : Blk) (x : AirRxFrame) : Bool := x.slot == 1 || (2 ≤ x.slot && (b.rxSlot x).kind == 6)

/-- A frame's air time after its RMARKER, in radio ticks, in the mode of its slot. -/
def Blk.airTicksOf (b : Blk) (x : AirRxFrame) : Nat :=
  airTicks x.len (2 ≤ x.slot && (b.rxSlot x).kind == 1 && (b.rxSlot x).hprf)

/-- The last symbol of a frame, in fleet ns (R15, R308). -/
def Blk.lastSymbol (b : Blk) (x : AirRxFrame) : Nat := (x.rmarker / 65536).toNat + b.airTicksOf x * 10000 / 638976

/-- T_REPLY of a frame in radio ticks (R308): the frame after its RMARKER, 40.000 µs, and the acknowledgement's 40 SYNC symbols
of 508 chips before its RMARKER. -/
def Blk.replyTicks (b : Blk) (x : AirRxFrame) : Nat := b.airTicksOf x + 2555904 + 40 * 508 * 128

/-- The RMARKER of a frame in fleet ns. -/
def AirRxFrame.at (x : AirRxFrame) : Nat := (x.rmarker / 65536).toNat

/-! ## Security (R278, R306) -/

/-- A MIC failure of a member's frame (R306): counted, every tenth recorded; enough of them within MIC_WIN evict. -/
def Blk.micFail (b : Blk) (mix : Nat) : Blk :=
  let l := b.link mix
  let win := b.fld Reg.AIR_SEC_CFG 15 8 * 1000000000
  let ts := (b.elapsed :: l.mics).filter (fun (t : Nat) => decide (b.elapsed < t + win))
  let n := l.micCount + 1
  let b1 := (b.bump Reg.AIR_MIC_FAIL_COUNT).setLink mix { l with mics := ts, micCount := n }
  let b2 := if n % 10 = 0 then b1.record 0x0501 (leBytes 1 mix ++ zeros 3 ++ leBytes 4 n) else b1
  let max := b2.fld Reg.AIR_SEC_CFG 7 0
  if max ≠ 0 ∧ max ≤ ts.length ∧ (b2.member mix).state ≠ .evicted then
    (b2.setLink mix { b2.link mix with mics := [] }).device mix .security
  else b2

/-- The member whose short address a frame carries and that has a link. -/
def Blk.senderOf (b : Blk) (p : Psdu) : Option Nat :=
  let base := b.fld Reg.AIR_ADDR_CFG 15 0
  let mix := p.src - base
  if base ≤ p.src ∧ mix < 128 ∧ p.dst = 0 ∧ (b.link mix).eui ≠ 0 then some mix else none

/-- What a frame's arrival gives for ranging: its time-stamp at a head that serves for ranging, where keyed STS qualifies it
(R283, R321). -/
def Blk.markOf (b : Blk) (x : AirRxFrame) : List Mark :=
  if x.sts && !b.inContention x && (b.head x.head).state == .up then [⟨x.head, x.rmarker, x.fo, x.fpq⟩] else []

/-- A member's frame checked under K_LINK (R278): its payload, or none and what its failure does.  The same frame through
another head only tells that this head hears the member too (R333). -/
def Blk.checkUp (b : Blk) (mix : Nat) (x : AirRxFrame) : Option Bytes × Blk :=
  let l := b.link mix
  match psduOpen l.kLink 0 true x.p with
  | none => (none, b.micFail mix)
  | some body =>
    let fresh := match l.rx with | none => true | some c => decide (c < x.p.fcnt)
    if fresh then (some body, b.setLink mix { l with
        rx := some x.p.fcnt, miss := 0, more := x.p.more, heard := [x.head] :: l.heard.take 9, marks := b.markOf x
        upLast := (b.replyTicks x, x.at), upReply := l.upLast })
    else if l.rx = some x.p.fcnt ∧ !(l.heard.headD []).contains x.head then
      (none, (b.setLink mix { l with heard := (l.heard.headD [] ++ [x.head]) :: l.heard.tail, marks := l.marks ++ b.markOf x }).furtherMark
        mix x.at (b.lastSymbol x) (b.markOf x))
    else (none, b.bump Reg.AIR_MIC_FAIL_COUNT)

/-- The first frame under a new K_LINK completes the association (R286, R287). -/
def Blk.firstFrame (b : Blk) (mix : Nat) : Blk :=
  let l := b.link mix
  if l.handshake then
    let b1 := b.setLink mix { l with handshake := false }
    if l.reassoc then
      if (b1.member mix).state = .unheard ∧ b1.posMode mix % 2 = 1 ∧ !b1.holdsFrozen mix then
        (b1.setLink mix { b1.link mix with reassoc := false }).device mix .associated
      else b1
    else b1.device mix .associated
  else b

/-! ## Sleep (R299, R302) -/

/-- Two poll grids in one slot meet: the polls of two members fall in one superframe some time. -/
def pollsMeet (sfnA stepA sfnB stepB : Nat) : Bool :=
  let g := Nat.gcd stepA stepB
  g == 0 || sfnA % g == sfnB % g

/-- The poll windows taken on a channel by other sleepers: slot, superframe and step, in force and offered. -/
def Blk.pollsTaken (b : Blk) (mix : Nat) : List (Nat × Nat × Nat) :=
  (((List.range 128).filter (fun k => k != mix && (b.link k).chan9 == (b.link mix).chan9)).map b.link).flatMap (fun l =>
    (if l.sleepy then [(l.pollSlot, l.pollSfn, l.pollStep)] else [])
      ++ (match l.offer with | none => [] | some _ => [(l.offered.pollSlot, l.offered.pollSfn, l.offered.pollStep)]))

/-- Superframe and slot for a sleeper's polls every `step` superframes that meet no other sleeper's on its channel
(R299): the lowest slot of the earliest superframe from `start` on. -/
def Blk.freePoll (b : Blk) (mix step start : Nat) : Option (Nat × Nat) :=
  let taken := b.pollsTaken mix
  ((List.range (min step 128)).flatMap (fun k => (List.range 18).map (fun s => (start + k, s + 2)))).find? (fun c =>
    taken.all (fun q => q.1 != c.2 || !pollsMeet c.1 step q.2.1 q.2.2))

/-- The interval granted for one asked for, ms (R299, R301): whole superframes, shortened so that G ≤ 150 µs where the
channel is in LARGE or will be. -/
def Blk.grantedMs (b : Blk) (chan9 : Bool) (ms : Nat) : Nat :=
  let cut := (1500 - 10 * b.fld Reg.AIR_SLEEP_CFG 15 8) * 10000 / b.fld Reg.AIR_SLEEP_CFG 7 0
  let m := if b.large chan9 || decide (1000 < ms) then min ms cut else ms
  max 10 (m / 10 * 10)

/-- A sleepy schedule with polls every `i` ms offered to a member by a SCHED; without a free poll window none is. -/
def Blk.offerPolls (b : Blk) (mix i : Nat) : Blk :=
  match b.freePoll mix (i / 10) (b.air.sfn + 20) with
  | none => b
  | some (sfn, slot) => (b.setLink mix { b.link mix with offer := some (i, sfn % 2 ^ 32, slot) }).sendSched mix

/-- A sleepy schedule of about `ms` granted to a member (R299). -/
def Blk.grant (b : Blk) (mix ms : Nat) : Blk := b.offerPolls mix (b.grantedMs (b.link mix).chan9 ms)

/-- SLEEP_REQ (R299): 0 leaves the sleepy schedule; else it is granted within AIR_SLEEP_CFG. -/
def Blk.sleepReq (b : Blk) (mix ms : Nat) : Blk :=
  let l := b.link mix
  let st := (b.member mix).state
  if ms = 0 then
    let b1 := b.setLink mix { l with want := 0, interval := 0, sleepy := false, offer := none, resync := false
                                     stayAwake := false, elems := l.elems.filter (fun (e : Elem) => e.etype != 0x89) }
    if st = .sleeping ∨ (st = .stopped ∧ b.stopped) then b1.device mix .awake else b1
  else if 100 ≤ ms ∧ ms ≤ b.fld Reg.AIR_SLEEP_CFG 31 24 * 1000 ∧ bitOf l.cap 5 ∧ st.served then
    (b.setLink mix { l with want := ms, resync := false }).grant mix ms
  else b

/-! ## Elements (R277, R298) -/

/-- A request with the REQ_ID of the last one is answered with the kept REPLY, once that is known; a new one becomes the
last (R298). -/
def Blk.request (b : Blk) (mix req : Nat) (f : Blk → Blk) : Blk :=
  let l := b.link mix
  if l.reqId = some req then
    match l.reply with
    | none => b
    | some r => if l.elems.any (fun e => e.etype == 0x88 && e.body == r) then b
                else b.pushElem mix { etype := 0x88, body := r }
  else f (b.setLink mix { l with reqId := some req, reply := none })

/-- A TASK_DONE element (R109, R114, R298). -/
def Blk.taskElem (b : Blk) (mix req handle : Nat) : Blk :=
  if b.stopped then
    b.modDvt (fun d => { d with deferred := Tab.upd d.deferred mix {} (fun (x : Deferral) => { x with taskDone := some handle }) })
  else b.ahead.taskDone mix handle (some req)

/-- STOP_REQ (R173, R277, R298): its REASON kept, and the MEMBER source while it is enabled. -/
def Blk.stopReq (b0 : Blk) (mix : Nat) (body : Bytes) : Blk :=
  let b := b0.setLink mix { b0.link mix with stopReason := byteAt body 0 }
  if b.flag Reg.CLP_SRC_CFG 0 then
    (b.modClp (fun c => { c with lastMix := mix })).assertSource 6 (b.fld Reg.CLP_SRC_CFG 1 1) mix
  else b

/-- KEY_ACK (R192, R303): the KEY element whose last entry names the period is delivered. -/
def Blk.keyAck (b : Blk) (mix p : Nat) : Blk :=
  let l := b.link mix
  b.setLink mix { l with
    keyAcked := some p
    elems := l.elems.filter (fun (e : Elem) => !(e.etype == 0x86 && le e.body (4 + 52 * (byteAt e.body 0 - 1)) 4 == p)) }

/-- One uplink element (R277); one too short for its fields is skipped (log 107), a TXN only without a REQ_ID to answer
(R298). -/
def Blk.element (b : Blk) (mix : Nat) (x : AirRxFrame) (etype : Nat) (body : Bytes) : Blk :=
  match etype with
  | 0x01 => b.obsFragment mix body (b.lastSymbol x)
  | 0x02 => b.snapFragment mix body
  | 0x03 => if body = [] then b else
      b.request mix (byteAt body 0) (fun b => b.admitTxn mix (txnOfElement mix body))
  | 0x04 => if body.length < 8 then b else
      b.request mix (byteAt body 0) (fun b => b.taskElem mix (byteAt body 0) (le body 4 4))
  | 0x05 => b.stopReq mix body
  | 0x06 => if body.length < 4 then b else b.keyAck mix (le body 0 4)
  | 0x07 => if body.length < 4 then b else b.sleepReq mix (le body 0 4)
  | 0x08 =>
    if b.air.rxQueue = 0 then b
    else b.produce b.air.rxQueue 0x46 (leBytes 1 mix ++ zeros 1 ++ leBytes 2 body.length ++ leBytes 8 (ft64 x.at) ++ body)
  | _ => b

/-- An accepted frame of a member (R277, R286): association, then its elements; a payload that its elements do not fill is
discarded. -/
def Blk.accepted (b : Blk) (mix : Nat) (x : AirRxFrame) (body : Bytes) : Blk :=
  let b1 := b.firstFrame mix
  match elements body.length body with
  | none => b1
  | some es =>
    let b2 := es.foldl (fun b e => b.element mix x e.1 e.2) b1
    if x.p.typ = 4 ∧ es.all (fun e => e.1 != 0x01) ∧ (b2.link mix).marks ≠ [] then b2.uwbEpoch mix x.at (b.lastSymbol x) else b2

/-- UP_FRAME_RX (R275, R277, R278): other frame types are ignored here. -/
def Blk.upFrame (h : Nat) (frame : Bytes) (b : Blk) : Blk :=
  match b.readRx h frame with
  | (none, b1) => b1
  | (some x, b1) =>
    if x.p.typ ≠ 4 then b1
    else match b1.senderOf x.p with
      | none => b1
      | some mix => match b1.checkUp mix x with
        | (none, b2) => b2
        | (some body, b2) => b2.accepted mix x body

/-- UP_FRAME_RX (R277). -/
def execUpFrameRx (head : Head8) (frame : Bytes) : State → Host.Outcome State Fault Refusal :=
  onIsland .air (Blk.upFrame head.val frame)

/-! ## Polls (R299-R302) -/

/-- The start of a frame's first SYNC symbol, 40 symbols of 508 chips before its RMARKER, in fleet 2^-16 ns (R268,
PRESUMED). -/
def AirRxFrame.start (x : AirRxFrame) : Int := x.rmarker - 40 * 508 * 128 * 655360000 / 638976

/-- Fleet 2^-16 ns of the predicted start of a member's poll in the superframe numbered `n`. -/
def Link.predicted (l : Link) (n : Nat) : Int := (slotLaunch n l.pollSlot : Int) * 65536

/-- The clock error after a poll in LARGE (R301): FO and the arrival's offset `o` from its prediction, 2^-16 ns. -/
def newError (e fo o : Int) (ms : Nat) : Int :=
  let e1 := e + roundDiv (fo - e) 4
  clampInt (-32768) 32767 (e1 - roundDiv (o * 512000000) (ms * 1000000 * 65536))

/-- The number of the superframe, near the present one, with a given SFN. -/
def Blk.sfNear (b : Blk) (sfn : Nat) : Nat := ((b.sfIndex : Int) + sdiff 32 sfn b.air.sfn).toNat

/-- A poll in a poll window (R300-R302): one outside the member's own window is counted; e follows, and after a resync the
interval asked for comes back. -/
def Blk.windowPoll (b : Blk) (mix : Nat) (x : AirRxFrame) : Blk :=
  let l := b.link mix
  let own := x.slot == l.pollSlot && (b.rxSlot x).kind == 3 && (b.rxSlot x).owner == b.short mix
  let b1 := if own then b else b.bump Reg.AIR_COLLIDE_COUNT
  let o := x.start - l.predicted (b.sfNear x.sfn)
  let near := decide (o.natAbs ≤ b.guardOf l * 50 * 65536)
  let good := if near then l.good + 1 else 0
  let l1 := { l with
    e := if b.large l.chan9 then newError l.e x.fo o (max 1 l.interval) else 0
    pollSfn := (x.sfn + l.pollStep) % 2 ^ 32, good := good
    stayAwake := x.acked && (l.elems != [] || !own) }
  let b2 := b1.setLink mix l1
  if l.resync && decide (3 ≤ good) then (b2.setLink mix { l1 with resync := false, good := 0 }).grant mix l.want
  else if !own || b2.intervalUs l1 != l.intUs then b2.sendSched mix else b2

/-- A resync poll (R302): e from FO, and a quarter of the interval asked for. -/
def Blk.resyncPoll (b : Blk) (mix : Nat) (x : AirRxFrame) : Blk :=
  let l := b.link mix
  (b.setLink mix { l with e := if b.large l.chan9 then x.fo else 0, resync := true, good := 0, stayAwake := true }).grant mix
    (l.want / 4)

/-- POLL_RX (R299-R302). -/
def Blk.pollFrame (h : Nat) (frame : Bytes) (b : Blk) : Blk :=
  match b.readRx h frame with
  | (none, b1) => b1
  | (some x, b1) =>
    if x.p.typ ≠ 7 then b1
    else match b1.senderOf x.p with
      | none => b1
      | some mix => match b1.checkUp mix x with
        | (none, b2) => b2
        | (some body, b2) =>
          let b3 := if !(b2.link mix).sleepy then b2
            else if b2.inContention x then b2.resyncPoll mix x else b2.windowPoll mix x
          b3.accepted mix x body

/-- POLL_RX (R299). -/
def execPollRx (head : Head8) (frame : Bytes) : State → Host.Outcome State Fault Refusal :=
  onIsland .air (Blk.pollFrame head.val frame)

/-! ## Association (R284-R289) -/

/-- An ASSOC_REQ's fields (R284). -/
structure AssocReq where
  eui : Nat
  cnt : Nat
  nonceM : Bytes
  cap : Nat
  delay : Int
  osc : Nat
  prev : Nat
  chan9 : Bool
  head : Nat
  deriving DecidableEq, Repr

/-- A MIX is in use: not ABSENT, or an association of it is under way or deferred (R114, R287). -/
def Blk.mixUsed (b : Blk) (mix : Nat) : Bool :=
  (b.member mix).state != .absent || (b.link mix).handshake
    || b.dvt.deferred.any (fun q => q.1 == mix && q.2.change.any (fun st => st != .absent))

/-- The MIX that an EUI holds. -/
def Blk.mixOf (b : Blk) (eui : Nat) : Option Nat :=
  (List.range 128).find? (fun m => (b.link m).eui == eui && b.mixUsed m)

/-- A MIX may be given to an EUI: free, and kept for nobody else (R287, R289). -/
def Blk.mixFree (b : Blk) (eui mix : Nat) : Bool :=
  decide (mix < b.nMix) && !b.mixUsed mix && !b.air.kept.any (fun k => k.mix == mix && k.eui != eui)

/-- The MIX given to a partner that holds none (R287, R289). -/
def Blk.newMix (b : Blk) (r : AssocReq) : Option Nat :=
  match b.air.kept.find? (fun k => k.eui == r.eui && b.mixFree r.eui k.mix) with
  | some k => some k.mix
  | none => if b.mixFree r.eui r.prev then some r.prev else (List.range 128).find? (b.mixFree r.eui)

/-- The channel for a new MIX (R285). -/
def Blk.newChan (b : Blk) (r : AssocReq) : Bool :=
  if bitOf r.cap 1 && bitOf r.cap 2
      && decide ((b.onChan (!r.chan9)).length + 8 ≤ (b.onChan r.chan9).length) then !r.chan9 else r.chan9

/-- An ASSOC_RSP queued (R285). -/
def Blk.respondWith (b : Blk) (r : AssocReq) (status mix chan state retry : Nat) (nonce : Bytes) (wait : Nat) : Blk :=
  let ok := status == 0
  b.modAir (fun a => { a with bcasts := a.bcasts ++ ([⟨r.chan9, true, r.eui, r.cnt,
    leBytes 8 r.eui ++ leBytes 1 status ++ leBytes 1 (if ok then mix else 0xFF)
      ++ leBytes 2 (if ok then b.short mix else 0xFFFE) ++ leBytes 1 chan ++ leBytes 1 state ++ leBytes 2 retry
      ++ slice nonce 0 8 ++ leBytes 4 a.relEpoch ++ leBytes 1 (if ok then b.fld (Reg.POS_MCFG mix) 1 0 else 0)
      ++ leBytes 1 (if ok then b.posMode mix else 0) ++ leBytes 1 wait ++ zeros 1⟩] : List Bcast) })

/-- An ASSOC_RSP that is not ACCEPTED, with a random NONCE_D (R285). -/
def Blk.respond (b : Blk) (r : AssocReq) (status chan state retry wait : Nat) : Blk :=
  b.free.2.respondWith r status 0 chan state retry (leBytes 8 b.free.1) wait

/-- A KEY element with the keys of the given periods that are held (R277). -/
def Blk.keyElem (b : Blk) (ps : List Nat) : Option Elem :=
  let es := ps.filterMap (fun p =>
    match b.air.kp.find? (fun q => q.1 == p), b.air.kbcn.find? (fun q => q.1 == p) with
    | some k, some c => some (leBytes 4 p ++ slice k.2 0 32 ++ slice c.2 0 16)
    | _, _ => none)
  if es = [] then none else some { etype := 0x86, body := leBytes 1 es.length ++ zeros 3 ++ es.flatten }

/-- The periods whose keys a member gets when it associates (R192). -/
def Blk.assocPeriods (b : Blk) : List Nat :=
  b.keyPeriod :: (if keyChange b.now then [(b.keyPeriod + 1) % 2 ^ 32] else [])

/-- A pending EVICT of a MIX that is given to a new partner counts as acknowledged: its addressee is gone. -/
def Blk.evictGone (b : Blk) (mix : Nat) : Blk :=
  Blk.settleAir (b.modFleet (fun f => { f with effects := f.effects.map (fun (e : Effect) =>
    if e.dest = .air ∧ e.obj = mix ∧ e.act = 0x43 then { e with acked := true } else e) }))

/-- The link of an accepted partner under its new keys (R286, R287): `old` is the link of a MIX that it held, or none. -/
def newLink (old : Option Link) (r : AssocReq) (chan9 : Bool) (keys : Bytes) (again : Bool) (at' : Nat) (key : List Elem) :
    Link :=
  let keep : List Elem := (old.getD {}).elems.filter (fun (e : Elem) => e.etype != 0x86)
  { old.getD {} with
    eui := r.eui, chan9 := chan9, cap := r.cap, antDelay := r.delay, osc := r.osc, kLink := slice keys 0 16
    kMsts := slice keys 16 16, rx := none, tx := 0, seq := 0, head := r.head, handshake := true, reassoc := again
    acceptedAt := at', miss := 0, elems := keep.map (fun (e : Elem) => { e with sent := false }) ++ key }

/-- A request ACCEPTED under MIX `mix` (R285-R287), new or held already: keys derived with NONCE_D, the link made anew,
the answer queued. -/
def Blk.admitAs (b0 : Blk) (site : Bytes) (r : AssocReq) (mix : Nat) (fresh : Bool) : Blk :=
  let (n, b1) := (if fresh then b0.evictGone mix else b0).free
  let nonceD := leBytes 8 n
  let keys := derive (kEnr site r.eui) "TSL9648-LNK" (beBytes 8 r.eui ++ r.nonceM ++ nonceD) 256
  let chan9 := if fresh then b1.newChan r else (b1.link mix).chan9
  let key := match b1.keyElem b1.assocPeriods with | none => [] | some e => [e]
  let r := { r with head := if b1.headChan r.head == chan9 then r.head else (b1.chanHeads chan9).headD r.head }
  let m := b1.member mix
  let again := !fresh && m.state != .absent && m.state != .associating
  let b2 := (b1.setLink mix (newLink (if fresh then none else some (b1.link mix)) r chan9 keys again b1.elapsed key)).modAir
    (fun a => { a with
      waiters := a.waiters.filter (fun (w : Waiter) => w.eui != r.eui), kept := a.kept.filter (fun (k : Kept) => k.eui != r.eui) })
  let b3 := b2.sendMember mix
  let b4 := if fresh then b3.device mix .associating else b3
  b4.respondWith r 0 mix (if chan9 then 9 else 5) (if again then m.state.code else 1) 0 nonceD 0

/-- A request that finds no MIX (R289): WAIT with its place, or FULL. -/
def Blk.makeWait (b : Blk) (r : AssocReq) : Blk :=
  let chan := if r.chan9 then 9 else 5
  match b.air.waiters.findIdx? (fun w => w.eui == r.eui) with
  | some i =>
    (b.modAir (fun a => { a with waiters := a.waiters.map (fun (w : Waiter) =>
      if w.eui = r.eui then { w with heard := b.elapsed } else w) })).respond r 1 chan 0 100 (i + 1)
  | none =>
    if 32 ≤ b.air.waiters.length then b.respond r 2 chan 0 1000 0
    else (b.modAir (fun a => { a with waiters := a.waiters ++ ([⟨r.eui, b.elapsed⟩] : List Waiter) })).respond r 1 chan 0 100
      (b.air.waiters.length + 1)

/-- A verified request answered (R285, R287, R289). -/
def Blk.answerAssoc (b : Blk) (site : Bytes) (r : AssocReq) : Blk :=
  match b.mixOf r.eui with
  | some mix =>
    if (b.member mix).state = .evicted then b.respond r 3 (if r.chan9 then 9 else 5) 6 0 0
    else b.admitAs site r mix false
  | none => match b.newMix r with
    | some mix => b.admitAs site r mix true
    | none => b.makeWait r

/-- ASSOC_REQ_RX (R284, R285): MIC, counter and admission, then the answer. -/
def Blk.assocReq (h : Nat) (frame : Bytes) (b : Blk) : Blk :=
  match b.readRx h frame with
  | (none, b1) => b1
  | (some x, b1) =>
    match b1.key.site with
    | none => b1
    | some site =>
      if x.p.typ ≠ 2 ∨ x.p.src ≠ 0xFFFE ∨ x.p.dst ≠ 0 ∨ !b1.flag Reg.AIR_CFG 1 then b1
      else
        let eui := le x.p.body 0 8
        match psduOpen (upperHalf (kEnr site eui)) (eui % 2 ^ 16) false x.p with
        | none => b1.bump Reg.AIR_MIC_FAIL_COUNT
        | some p =>
          if x.p.fcnt ≤ Tab.val b1.air.enr eui 0 ∧ b1.air.enr.any (fun q => q.1 == eui) then b1.bump Reg.AIR_MIC_FAIL_COUNT
          else if !b1.flag Reg.AIR_CFG 3 && !b1.air.admitted.contains eui then b1.bump Reg.AIR_REFUSE_COUNT
          else if p.length ≠ 0x18 ∨ byteAt p 0x17 ≠ 1 then b1
          else
            (b1.modAir (fun a => { a with enr := Tab.put a.enr eui x.p.fcnt })).answerAssoc site
              ⟨eui, x.p.fcnt, slice p 8 8, le p 0x10 2, sle p 0x12 2, le p 0x14 2, byteAt p 0x16, b1.headChan h, h⟩

/-- ASSOC_REQ_RX (R285). -/
def execAssocReqRx (head : Head8) (frame : Bytes) : State → Host.Outcome State Fault Refusal :=
  onIsland .air (Blk.assocReq head.val frame)

/-- ASSOC_TIMEOUT of a MIX at instant `t` (R286): during a stop the change to ABSENT is deferred (R114); a MIX whose
ASSOCIATING was deferred too is ABSENT already, and free for the first waiting partner (R289). -/
def Blk.assocTimeout (t mix : Nat) (b0 : Blk) : Blk :=
  let b := b0.moveTo t
  let l := b.link mix
  if l.handshake && !l.reassoc && decide (l.acceptedAt + 1000000000 ≤ b.elapsed) then
    if (b.member mix).state = .absent then
      (((b.setLink mix {}).device mix .assocFailed).sendMember mix).keepFor mix
    else (b.setLink mix { l with handshake := false }).device mix .assocFailed
  else b

/-- ASSOC_TIMEOUT (R286). -/
def execAssocTimeout (t : Nat) (mix : Mix) : State → Host.Outcome State Fault Refusal := onIsland .air (Blk.assocTimeout t mix.val)

/-- WAIT_LIST_KEEP_EXPIRY of a MIX at instant `t` (R289). -/
def execWaitListKeepExpiry (t : Nat) (mix : Mix) : State → Host.Outcome State Fault Refusal :=
  onIsland .air (fun b0 =>
    let b := b0.moveTo t
    b.modAir (fun a => { a with kept := a.kept.filter (fun (k : Kept) =>
      !(k.mix == mix.val && decide (k.since + 1000000000 ≤ b.elapsed))) }))

/-- WAIT_LIST_DROP of an EUI at instant `t` (R289). -/
def execWaitListDrop (t : Nat) (eui : DWord) : State → Host.Outcome State Fault Refusal :=
  onIsland .air (fun b0 =>
    let b := b0.moveTo t
    b.modAir (fun a => { a with waiters := a.waiters.filter (fun (w : Waiter) =>
      !(w.eui == eui.toNat && decide (w.heard + 3000000000 ≤ b.elapsed))) }))

end Sys2Proof.Machine
end

