-- ==== Sys2Proof/Machine/Air.lean ====
section
/-! DEFINITION. Sys2Proof/Machine/Air.lean: what the device sends to members, missed uplinks, key delivery, the subordinate
coordinator, AIR's descriptors, and RESUME (R192, R198, R285, R292, R296-R310, R334). -/

namespace Sys2Proof.Machine

open Sys2Proof

/-! ## DOWN frames (R277, R290, R296, R303) -/

/-- Elements sorted by urgency, in order of queueing among equals (R290). -/
def byUrgency (es : List Elem) : List Elem :=
  (List.range 11).flatMap (fun u => es.filter (fun e => urgency e.etype == u))

/-- The longest prefix of elements that fits in `room` payload bytes (R275). -/
def fitElems : Nat → List Elem → List Elem
  | _, [] => []
  | room, e :: rest => if 3 + e.body.length ≤ room then e :: fitElems (room - 3 - e.body.length) rest else []

/-- Payload bytes of a secured frame (R275). -/
def payloadMax (hprf : Bool) : Nat := if hprf then 618 else 138

/-- A member's DOWN slot in the present slot map: its slot number and entry. -/
def Blk.downSlot (b : Blk) (mix : Nat) : Option (Nat × Owner) :=
  ((b.slots (b.link mix).chan9).zipIdx.flatMap (fun q => q.1.owners.map (fun o => (q.2 + 2, o)))).find? (fun q =>
    q.2.kind == 2 && q.2.owner == b.short mix)

/-- A slot of the present slot map used up by its owner or owners for which `p` holds. -/
def Blk.useSlot (b : Blk) (chan9 : Bool) (s : Nat) (p : Owner → Bool := fun _ => true) : Blk :=
  b.modAir (fun a => { a with
    maps := Tab.put a.maps (b2n chan9) ((b.slots chan9).set (s - 2) (((b.slots chan9).getD (s - 2) {}).without p)) })

/-- The pending SCHED brought up to date: an offer whose first poll is near is made anew (R299). -/
def Blk.freshSched (b : Blk) (mix : Nat) : Blk :=
  let l := b.link mix
  let b1 := match l.offer with
    | none => b
    | some (i, sfn, _) => if sdiff 32 sfn b.air.sfn < 2 then b.offerPolls mix i else b
  let body := b1.schedBody mix
  let l1 := b1.link mix
  if l1.elems.any (fun e => e.etype == 0x89) then
    b1.setLink mix { l1 with
      intUs := le body 12 4
      elems := l1.elems.map (fun (e : Elem) => if e.etype = 0x89 then { e with body := body } else e) }
  else b1

/-- The head and mode that a slot-map entry names serve a DOWN frame (R269, R270, R321). -/
def Blk.canSend (b : Blk) (o : Owner) : Bool := b.headAir o.head && (!o.hprf || b.headHprf o.head)

/-- DOWN_SLOT_TX (R277, R280, R290, R296): in the member's DOWN slot, through the head that it names, its most urgent
elements that fit one frame. -/
def Blk.downTx (mix : Nat) (b0 : Blk) : Blk :=
  match b0.downSlot mix with
  | none => b0
  | some (s, o) =>
    if !b0.canSend o then b0 else
    let b := (b0.useSlot (b0.link mix).chan9 s (· == o)).freshSched mix
    let l := b.link mix
    let order := byUrgency l.elems
    let now := fitElems (payloadMax o.hprf) order
    let more := decide (now.length < order.length)
    let rest := order.drop now.length
    let psdu := psduSeal l.kLink (5 + 32 + 64 * b2n more) l.seq b.site (b.short mix) 0 l.tx 0 true
      (now.flatMap (fun e => elemBytes e.etype e.body))
    (b.setLink mix { l with
        tx := l.tx + 1, seq := (l.seq + 1) % 256, lastMore := more, txid := b.hdl.txid, txAt := none
        txSlot := some (b.sfIndex, s), txHead := o.head
        elems := now.map (fun (e : Elem) => { e with sent := true, tries := e.tries + 1 })
          ++ rest.map (fun (e : Elem) => { e with sent := false }) }).txSend o.head (slotLaunch b.sfIndex s) (b2n o.hprf) 2
      (b.short mix) (stsMember l.tx (b.short mix)) psdu

/-- DOWN_SLOT_TX (R296). -/
def execDownSlotTx (mix : Mix) : State → Host.Outcome State Fault Refusal := onIsland .air (Blk.downTx mix.val)

/-- An AIR effect acknowledged (R296): one whose T has passed is late. -/
def Blk.ackEffect (b : Blk) (k : Nat × Nat) : Blk :=
  b.modFleet (fun f => { f with effects := f.effects.map (fun (e : Effect) =>
    if e.dest = .air ∧ (e.epoch, e.idx) = k then { e with acked := true, late := e.late || decide (e.t < b.now) } else e) })

/-- A RESUME whose member was resumed: complete once none is left (R198). -/
def Blk.resumeCount (b : Blk) (mix : Nat) (did : Bool) (epoch : Nat) : Blk :=
  let rs := b.clp.resumes.map (fun (r : Resume) =>
    if bitOf r.mask mix then
      { r with mask := clearBit r.mask mix, resumed := r.resumed + b2n did, lastEpoch := if did then epoch else r.lastEpoch }
    else r)
  (rs.filter (fun r => r.mask == 0)).foldl (fun b r => b.completeAt r.id St.done r.resumed r.lastEpoch b.nowFt64)
    (b.modClp (fun c => { c with resumes := rs.filter (fun (r : Resume) => r.mask != 0) }))

/-- A member acknowledges its RESUME (R198). -/
def Blk.resumeAck (b : Blk) (mix : Nat) : Blk :=
  if (b.member mix).state = .stopped then
    let b1 := b.device mix .resumed
    b1.resumeCount mix ((b1.member mix).state != .stopped) b1.fleet.epoch
  else b.resumeCount mix false 0

/-- A member acknowledges its SCHED (R299): an offered schedule is in force, and an ACTIVE member sleeps. -/
def Blk.schedAck (b : Blk) (mix : Nat) : Blk :=
  let l := b.link mix
  match l.offer with
  | none => b
  | some _ =>
    let b1 := b.setLink mix { l.offered with offer := none }
    let st := (b.member mix).state
    if st = .active ∨ (st = .stopped ∧ b.stopped) then b1.device mix .sleep else b1

/-- The RMARKER of a member's last DOWN frame, as its head reported it (R147, R309). -/
def Blk.sentFt64 (b : Blk) (mix : Nat) : Nat := match (b.link mix).txAt with | none => b.nowFt64 | some t => ft64 t

/-- What the acknowledgement of one element does (R198, R296, R299, R309). -/
def Blk.elemAck (mix : Nat) (b : Blk) (e : Elem) : Blk :=
  let b1 := match e.eff with
    | none => b
    | some k => if e.last then b.ackEffect k else b
  let b2 := match e.op with
    | none => b1
    | some id => b1.completeAt id St.done e.tries b1.fleet.epoch (b.sentFt64 mix)
  if e.etype = 0x85 then b2.resumeAck mix else if e.etype = 0x89 then b2.schedAck mix else b2

/-- A PSDU is an acknowledgement to the device with a given SEQ (R281). -/
def isAck (psdu : Bytes) (seq : Nat) : Bool :=
  psdu.length == 9 && byteAt psdu 0 == 1 && byteAt psdu 1 == seq && le psdu 2 2 == 0 && byteAt psdu 4 == 0

/-- The member whose DOWN frame, sent through head `h` in a slot of the superframe, an acknowledgement answers. -/
def Blk.ackedBy (b : Blk) (h sfn slot : Nat) (psdu : Bytes) : Option Nat :=
  (List.range 128).find? (fun m =>
    let l := b.link m
    l.elems.any (fun e => e.sent) && l.txHead == h && l.txSlot.any (fun q => q.1 % 2 ^ 32 == sfn && q.2 == slot)
      && isAck psdu ((l.seq + 255) % 256))

/-- A member's last DOWN frame acknowledged (R296, R303): the frame's elements are delivered, but for KEY, which a KEY_ACK
delivers; after a frame without MORE a sleeper sleeps. -/
def Blk.memberAcked (mix : Nat) (off : Int) (b : Blk) : Blk :=
  let l := b.link mix
  let got := l.elems.filter (fun e => e.sent)
  if got = [] then b
  else
    let b1 := b.setLink mix { l with
      clkOff := off
      elems := (l.elems.filter (fun e => !e.sent || e.etype == 0x86)).map (fun (e : Elem) => { e with sent := false })
      stayAwake := l.stayAwake && l.lastMore }
    (got.foldl (Blk.elemAck mix) b1).settleAir

/-- DOWN_ACK_RX at instant `t` (R281, R296, R330): a head's RX frame with an acknowledgement of a DOWN frame of its own. -/
def Blk.downAck (t h : Nat) (frame : Bytes) (b0 : Blk) : Blk :=
  match (b0.moveTo t).hlRx h 0x07 frame with
  | (none, b) => b
  | (some x, b) =>
    let psdu := slice x 0x1C (le x 0x1A 2)
    match b.ackedBy h (le x 0 4) (byteAt x 4) psdu with
    | none => b
    | some mix => b.memberAcked mix (sle psdu 5 2)

/-- DOWN_ACK_RX (R296). -/
def execDownAckRx (t : Nat) (head : Head8) (frame : Bytes) : State → Host.Outcome State Fault Refusal :=
  onIsland .air (Blk.downAck t head.val frame)

/-- DOWN_NO_ACK (R303): counted; elements stay pending, and an AIR_SEND beyond RETRY ends AIR_NO_ACK. -/
def Blk.downNoAck (mix : Nat) (b0 : Blk) : Blk :=
  let l := b0.link mix
  if l.elems.any (fun e => e.sent) then
    let b := b0.bump Reg.AIR_NOACK_COUNT
    let isOver (e : Elem) : Bool := e.sent && e.op.isSome && decide (b.fld Reg.AIR_CFG 19 16 < e.tries)
    let b1 := b.setLink mix { l with
      elems := (l.elems.filter (fun e => !isOver e)).map (fun (e : Elem) => { e with sent := false }) }
    (l.elems.filter isOver).foldl (fun b e => match e.op with
      | none => b
      | some id => b.completeAt id 0x20 e.tries b.fleet.epoch (b0.sentFt64 mix)) b1
  else b0

/-- DOWN_NO_ACK (R303). -/
def execDownNoAck (mix : Mix) : State → Host.Outcome State Fault Refusal := onIsland .air (Blk.downNoAck mix.val)

/-! ## Missed uplinks (R296, R304) -/

/-- EXPECTED_UPLINK_MISSED: an EVICTED member's first one after its EVICT was sent acknowledges the EVICT; else the third in
a row commits UNHEARD. -/
def Blk.uplinkMissed (mix : Nat) (b : Blk) : Blk :=
  let l := b.link mix
  let st := (b.member mix).state
  if l.keepUplinks ∧ (st = .evicted ∨ st = .absent) then
    if l.elems.any (fun e => e.etype == 0x84 && decide (0 < e.tries)) then b.evictGone mix else b
  else if st.served then
    let n := min 3 (l.miss + 1)
    let b1 := (b.bump Reg.AIR_MISS_COUNT).setLink mix { l with miss := n }
    if n = 3 ∧ l.miss < 3 then b1.device mix .unheard else b1
  else b

/-- EXPECTED_UPLINK_MISSED (R304). -/
def execExpectedUplinkMissed (mix : Mix) : State → Host.Outcome State Fault Refusal := onIsland .air (Blk.uplinkMissed mix.val)

/-! ## Position batches and broadcasts (R282, R285, R292) -/

/-- An entry of a POS_DL frame (R282): the `i`-th, authenticated under the member's K_LINK. -/
def Blk.posEntry (b : Blk) (hdr : Bytes) (cnt i : Nat) (q : PosEntry) : Bytes :=
  let data := leBytes 2 (b.short q.mix) ++ slice q.sol 0 47
  data ++ Config.ccmSeal (b.link q.mix).kLink (airNonce b.site 0 (b.short q.mix) i cnt 2) (hdr ++ data) [] 8

/-- POS_DL_SLOT_TX in slot `s` (R282, R292): the oldest entries queued at least 20 µs before it, through every head. -/
def Blk.posDl (chan9 : Bool) (s : Nat) (b : Blk) : Blk :=
  let slot := (b.slots chan9).getD (s - 2) {}
  if slot.kind ≠ 4 ∨ s < 2 ∨ (slot.hprf && !b.chanHprf chan9) = true then b
  else
    let start := slotStart b.sfIndex s
    let fit (q : PosEntry) : Bool := (b.link q.mix).chan9 == chan9 && decide (q.at' + 20000 ≤ start) && (!slot.hprf || bitOf (b.link q.mix).cap 0)
    let qs := (b.air.posQueue.filter fit).take (if slot.hprf then 10 else 2)
    let launch := slotLaunch b.sfIndex s
    match b.bcnKey launch with
    | none => b
    | some (sts, _) =>
      if qs = [] then b
      else
        let hdr := psduHeader 6 b.air.bcastSeq b.site 0xFFFF 0 b.air.bcastCnt
        let psdu := withFcs (hdr ++ leBytes 1 qs.length ++ zeros 1
          ++ qs.zipIdx.flatMap (fun (q : PosEntry × Nat) => b.posEntry hdr b.air.bcastCnt q.2 q.1))
        ((b.modAir (fun a => { a with
            posQueue := a.posQueue.filter (fun (q : PosEntry) => !qs.contains q)
            bcastCnt := a.bcastCnt + 1, bcastSeq := (a.bcastSeq + 1) % 256 })).useSlot chan9 s).sendAll chan9 launch
          (b2n slot.hprf) sts (stsBroadcast b.air.sfn s) psdu

/-- POS_DL_SLOT_TX (R292): channel 5 is 0, channel 9 is 1. -/
def execPosDlSlotTx (chan : Fin 2) (slot : Nat) : State → Host.Outcome State Fault Refusal :=
  onIsland .air (Blk.posDl (chan == 1) slot)

/-- A broadcast sent in slot `s` (R276, R278, R283, R285): ASSOC_RSP under the partner's K_ENR, or RTCM under K_BCN,P. -/
def Blk.sendBcast (b : Blk) (chan9 : Bool) (s : Nat) (q : Bcast) : Blk :=
  let launch := slotLaunch b.sfIndex s
  if q.rsp then
    match b.key.site with
    | none => b
    | some site =>
      (b.modAir (fun a => { a with rspSeq := (a.rspSeq + 1) % 256 })).sendAll chan9 launch 0 3 (leBytes 16 (b.air.sfn * 2 ^ 96))
        (psduSeal (upperHalf (kEnr site q.eui)) 3 b.air.rspSeq b.site 0xFFFE 0 q.cnt (q.eui % 2 ^ 16) true q.body)
  else
    match b.bcnKey launch with
    | none => b
    | some (sts, k) =>
      (b.modAir (fun a => { a with bcastCnt := a.bcastCnt + 1, bcastSeq := (a.bcastSeq + 1) % 256 })).sendAll chan9 launch 0 sts (stsBroadcast b.air.sfn s)
        (psduSeal k 5 b.air.bcastSeq b.site 0xFFFF 0 b.air.bcastCnt 0 false (elemBytes 0x8C q.body))

/-- BCAST_SLOT_TX (R285, R290): the oldest broadcast of the channel in its next BCAST slot. -/
def Blk.bcastTx (chan9 : Bool) (b : Blk) : Blk :=
  match (b.slots chan9).findIdx? (fun s => s.kind == 5), b.air.bcasts.find? (fun q => q.chan9 == chan9) with
  | some i, some q =>
    ((b.modAir (fun a => { a with bcasts := a.bcasts.erase q })).useSlot chan9 (i + 2)).sendBcast chan9 (i + 2) q
  | _, _ => b

/-- BCAST_SLOT_TX (R285). -/
def execBcastSlotTx (chan : Fin 2) : State → Host.Outcome State Fault Refusal := onIsland .air (Blk.bcastTx (chan == 1))

/-! ## Period keys (R192, R331, R458) -/

/-- KEY_DELIVERY_START (R192, R331): the next period's keys to every joined head, then a KEY element to every member. -/
def Blk.deliverKeys (b : Blk) : Blk :=
  let p := (b.keyPeriod + 1) % 2 ^ 32
  let b1 := (List.range 8).foldl (fun (b : Blk) h => if (b.head h).joined then b.sendKeys h [p] else b) b
  match b1.keyElem [p] with
  | none => b1
  | some e => (b1.onChan false ++ b1.onChan true).foldl (fun b m => b.pushElem m e) b1

/-- KEY_DELIVERY_START (R192). -/
def execKeyDeliveryStart : State → Host.Outcome State Fault Refusal := onIsland .air Blk.deliverKeys

/-- PERIOD_KEY_DERIVE (R192, R458): the keys of the present and the next period are held. -/
def execPeriodKeyDerive : State → Host.Outcome State Fault Refusal := onIsland .key Blk.holdKeys

/-! ## The subordinate coordinator (R307, R334) -/

/-- A BCOPY that passes its checks, for superframe `sfn`: three in a row end ORPHAN. -/
def Blk.copyHeard (b : Blk) (sfn cnt : Nat) : Blk :=
  let s := b.air.sub
  let good := if s.lastSfn = some sfn then s.good
    else if s.lastSfn = some ((sfn + 2 ^ 32 - 1) % 2 ^ 32) then s.good + 1 else 1
  let back := s.orphan && decide (3 ≤ good)
  let b1 := b.modAir (fun a => { a with sub := { a.sub with
    locked := true, missed := 0, good := good, rx := some cnt, lastSfn := some sfn, orphan := s.orphan && !back } })
  if back then b1.record 0x0502 (zeros 1) else b1

/-- BCOPY_RX on a LAN port (R307, R334): of the port that carries the primary's beacons, authenticated under K_CP with the
primary's UID, its counter above the last. -/
def Blk.bcopyRx (port : Nat) (frame : Bytes) (b : Blk) : Blk :=
  if !b.flag Reg.AIR_SUB_CFG 0 ∨ b.fld Reg.AIR_SUB_CFG 1 1 ≠ port then b
  else match b.key.site, (b.ethPayload frame).bind hlParse with
    | some site, some f =>
      let fresh : Bool := match b.air.sub.rx with | none => true | some c => decide (c < f.cnt)
      match hlOpen (kCp site) Config.primaryUid.toNat 0 f with
      | none => b
      | some p => if f.typ = 0x10 ∧ fresh = true ∧ p.length = 24 then b.copyHeard (le p 0 4) f.cnt else b
    | _, _ => b

/-- BCOPY_RX (R334). -/
def execBcopyRx (port : Fin 2) (frame : Bytes) : State → Host.Outcome State Fault Refusal := onIsland .air (Blk.bcopyRx port.val frame)

/-- PRIMARY_BEACON_MISSED (R307): no copy came for the superframe that ended; the third miss in a row makes the subordinate
ORPHAN. -/
def Blk.beaconMissed (b : Blk) : Blk :=
  let s := b.air.sub
  let ended := (b.air.sfn + 2 ^ 32 - 1) % 2 ^ 32
  if !b.flag Reg.AIR_SUB_CFG 0 ∨ s.lastSfn = some ended ∨ s.lastSfn = some b.air.sfn then b
  else
    let n := s.missed + 1
    let out := !s.orphan && decide (3 ≤ n)
    let b1 := b.modAir (fun a => { a with sub := { s with
      missed := n, good := 0, orphan := s.orphan || out, locked := s.locked && !out
      since := if out then b.elapsed else s.since } })
    if out then b1.record 0x0502 (leBytes 1 1) else b1

/-- PRIMARY_BEACON_MISSED (R307). -/
def execPrimaryBeaconMissed : State → Host.Outcome State Fault Refusal := onIsland .air Blk.beaconMissed

/-! ## AIR's descriptors (R309, R310) -/

/-- AIR_SEND with the bytes read (R309). -/
def Blk.airSend (d : Desc) (data : Bytes) (b : Blk) : Blk :=
  let mix := d.op 0x18 1
  let len := d.op 0x1A 2
  let max := payloadMax (b.hprf mix) - 3
  b.checked d [(decide (mix < b.nMix), 0x09, 0x18), d.gap 0x19 1, d.chk 0x1A 2 (fun n => decide (1 ≤ n ∧ n ≤ 615)),
      d.gap 0x1C 4] (fun b =>
    if !(b.member mix).state.served then b.complete d.id 0x21 (b.member mix).state.code
    else if max < len then b.complete d.id 0x22 max
    else b.pushElem mix { etype := 0x8D, body := slice data 0 len, op := some d.id })

/-- AIR_SEND (R309). -/
def execAirSend (d : Desc) (data : Bytes) : State → Host.Outcome State Fault Refusal :=
  onIsland .air (fun b => b.start d (Blk.airSend d data))

/-- AIR_RX_BIND (R309). -/
def Blk.airRxBind (d : Desc) (b : Blk) : Blk :=
  b.checked d [d.idx 0x18 64] (fun b => (b.modAir (fun a => { a with rxQueue := d.op 0x18 1 })).done d.id)

/-- AIR_RX_BIND (R309). -/
def execAirRxBind (d : Desc) : State → Host.Outcome State Fault Refusal := onIsland .air (fun b => b.start d (Blk.airRxBind d))

/-- AIR_ADMIT (R309): OP 0 adds, 1 removes, 2 clears. -/
def Blk.airAdmit (d : Desc) (b : Blk) : Blk :=
  let eui := d.op 0x18 8
  b.checked d [d.chk 0x20 1 (fun n => decide (n ≤ 2))] (fun b =>
    let list := b.air.admitted
    let put (l : List Nat) : Blk := (b.modAir (fun a => { a with admitted := l })).done d.id l.length
    match d.op 0x20 1 with
    | 0 => if list.contains eui then put list
           else if 256 ≤ list.length then b.complete d.id 0x23 0 else put (list ++ [eui])
    | 1 => put (list.filter (fun e => e != eui))
    | _ => put [])

/-- AIR_ADMIT (R309). -/
def execAirAdmit (d : Desc) : State → Host.Outcome State Fault Refusal := onIsland .air (fun b => b.start d (Blk.airAdmit d))

/-- One of the 128 entries of AIR_MEMBERS_READ (R309). -/
def Blk.memberEntry (b : Blk) (mix : Nat) : Bytes :=
  let l := b.link mix
  if b.mixUsed mix then
    leBytes 8 l.eui ++ leBytes 2 (b.short mix) ++ leBytes 1 (if l.chan9 then 9 else 5) ++ leBytes 1 l.head
      ++ sleBytes 2 l.e ++ leBytes 2 l.cap
  else zeros 8 ++ leBytes 2 0xFFFE ++ zeros 6

/-- AIR_MEMBERS_READ (R309). -/
def Blk.membersRead (d : Desc) (b : Blk) : Blk :=
  b.checked d [d.aligned 0x18 64] (fun b =>
    (b.emit (.hostWrite (d.op 0x18 8) ((List.range 128).flatMap b.memberEntry))).done d.id)

/-- AIR_MEMBERS_READ (R309). -/
def execAirMembersRead (d : Desc) : State → Host.Outcome State Fault Refusal :=
  onIsland .air (fun b => b.start d (Blk.membersRead d))

/-! ## RESUME (R198) -/

/-- A RESUME element (R277): S_R, MODE and the last route applied before S (R296). -/
def Blk.resumeElem (b : Blk) (mode mix : Nat) : Elem :=
  { etype := 0x85, body := leBytes 4 b.clp.sr ++ leBytes 1 mode ++ zeros 3 ++ leBytes 4 (b.link mix).stopRoute }

/-- RESUME (R198, R199). -/
def Blk.resume (d : Desc) (b : Blk) : Blk :=
  let mask := d.op 0x18 16
  let mode := d.op 0x28 1
  b.checked d [d.chk 0x28 1 (fun n => decide (n ≤ 1))] (fun b =>
    if b.stopped then b.complete d.id St.stopped (b.clp.s % 2 ^ 32)
    else
      let ms := (List.range 128).filter (fun m => bitOf mask m && (b.member m).state == .stopped)
      if ms = [] then b.done d.id 0
      else
        (ms.foldl (fun (b : Blk) m =>
          (b.dropElems m (fun e => e.etype == 0x85)).pushElem m (b.resumeElem mode m)) b).modClp (fun c => { c with
            resumes := c.resumes ++ ([⟨d.id, maskOf 128 ms.contains, mode, 0, b.fleet.epoch, b.elapsed⟩] : List Resume) }))

/-- RESUME (R198). -/
def execResume (d : Desc) : State → Host.Outcome State Fault Refusal := onBlk (fun b => b.start d (Blk.resume d))

/-- RESUME_TIMEOUT at instant `t` (R198): each RESUME older than RESUME_TO ends CLP_RESUME_PARTIAL; members that no other
RESUME names stay STOPPED. -/
def Blk.resumeTimeout (t : Nat) (b0 : Blk) : Blk :=
  let b := b0.moveTo t
  let lim := b.fld Reg.CLP_REL_CFG 31 24 * 1000000000
  let isOver := b.clp.resumes.filter (fun r => decide (r.since + lim ≤ b.elapsed))
  let left := b.clp.resumes.filter (fun r => !decide (r.since + lim ≤ b.elapsed))
  let b1 := b.modClp (fun c => { c with resumes := left })
  let b2 := (List.range 128).foldl (fun (b : Blk) m =>
    if isOver.any (fun r => bitOf r.mask m) && !left.any (fun r => bitOf r.mask m) then b.dropElems m (fun e => e.etype == 0x85)
    else b) b1
  isOver.foldl (fun b r => b.complete r.id 0x23 (popCount 128 r.mask * 2 ^ 16 + r.resumed)) b2

/-- RESUME_TIMEOUT (R198). -/
def execResumeTimeout (t : Nat) : State → Host.Outcome State Fault Refusal := onBlk (Blk.resumeTimeout t)

end Sys2Proof.Machine
end

