-- ==== Sys2Proof/Machine/Keys.lean ====
section
/-! DEFINITION. Sys2Proof/Machine/Keys.lean: the commands of opcode class 0x08 other than LC_CHANGE, the end of a store
change and of a key operation, and the end of AIR_HOLD (R463-R465, R471, R472). -/

namespace Sys2Proof.Machine

open Sys2Proof

/-! ## Store changes (R460, R463, R464) -/

/-- A store change begins (R460). -/
def Blk.changeStore (b : Blk) (id : OpId) (image : Tab StoreEntry) (drop detail : Option Nat) : Blk :=
  b.modKey (fun k => { k.setInactive (fun s => { s with torn := true, blank := false }) with
    update := some ⟨id, image, drop, detail⟩ })

/-- A store operation: BUSY_RETRY while another is in progress, before any other outcome (R460). -/
def Blk.storeOp (i : Ident) (d : Desc) (cs : List (Bool × Nat × Nat)) (f : Blk → Blk) : Blk → Blk :=
  Blk.keyOp i d cs (fun b => if b.key.update.isSome then b.keyDone d.id St.busy 0 else f b)

/-- KEY_INSTALL of the 32 bytes `site` read from host memory (R463). -/
def Blk.keyInstall (i : Ident) (d : Desc) (site : Bytes) : Blk → Blk :=
  Blk.storeOp i d [] (fun b =>
    match b.entry0 i with
    | some k => b.keyDone d.id St.keyInstalled (kcv k)
    | none =>
      if i.lc = .field ∧ b.key.store = [] ∧ b.stopped then
        b.changeStore d.id [(0, ⟨3, true, 0, slice site 0 32⟩)] none (some (kcv (slice site 0 32)))
      else b.keyDone d.id St.denied 0)

/-- KEY_INSTALL (R463). -/
def execKeyInstall (d : Desc) (site : Bytes) : State → Host.Outcome State Fault Refusal :=
  onIslandI .key (fun i b => b.keyInstall i d site)

/-- The content of an unwrapped blob (R464): ATTR, LEN, two zero bytes, TAG, key; none where a field is out of
range or the length does not fit LEN. -/
def blobEntry (p : Bytes) (size : Nat) : Option StoreEntry :=
  let long := byteAt p 1 == 1
  if byteAt p 0 ≤ 3 ∧ byteAt p 1 ≤ 1 ∧ le p 2 2 = 0 ∧ size = (if long then 48 else 32) then
    some ⟨byteAt p 0, long, le p 4 4, slice p 8 (if long then 32 else 16)⟩
  else none

/-- An imported blob unwrapped and stored (R464). -/
def Blk.importBlob (b : Blk) (d : Desc) (wrapper blob : Bytes) : Blk :=
  let n := d.op 0x18 1
  let size := d.op 0x28 4
  match (Config.keyUnwrap wrapper (slice blob 0 size)).bind (fun p => blobEntry p size) with
  | none => b.keyDone d.id St.keyUnwrapFail 0
  | some e => b.changeStore d.id (Tab.put b.key.store n e)
      (if b.key.store.any (fun p => p.1 == n) then some n else none) none

/-- KEY_IMPORT (R463, R464): entry 0 only under K_WRAP and with a stop asserted. -/
def Blk.keyImport (i : Ident) (d : Desc) (blob : Bytes) : Blk → Blk :=
  Blk.storeOp i d [d.chk 0x18 1 (fun v => decide (v < 32)), d.chk 0x19 1 (fun v => decide (v < 2)), d.gap 0x1C 4,
      d.chk 0x28 4 (fun v => v == 32 || v == 48)] (fun b =>
    if d.op 0x18 1 = 0 ∧ (d.op 0x19 1 ≠ 0 ∨ b.stopped = false) then b.keyDone d.id St.denied 0
    else if d.op 0x19 1 = 0 then
      match b.key.site with
      | none => b.keyDone d.id St.keyNoEntry 0
      | some s => b.importBlob d (kWrap s) blob
    else b.withAttr d.id (d.op 0x1A 2) 2 (fun _ e => b.importBlob d e.key blob))

/-- KEY_IMPORT (R464). -/
def execKeyImport (d : Desc) (blob : Bytes) : State → Host.Outcome State Fault Refusal :=
  onIslandI .key (fun i b => b.keyImport i d blob)

/-- KEY_DELETE (R464, R465). -/
def Blk.keyDelete (i : Ident) (d : Desc) : Blk → Blk :=
  Blk.storeOp i d [d.chk 0x18 1 (fun v => decide (1 ≤ v ∧ v < 32))] (fun b =>
    let n := d.op 0x18 1
    if b.key.store.any (fun p => p.1 == n) then b.changeStore d.id (Tab.del b.key.store n) (some n) none
    else b.keyDone d.id St.keyNoEntry n)

/-- KEY_DELETE (R464). -/
def execKeyDelete (d : Desc) : State → Host.Outcome State Fault Refusal := onIslandI .key (fun i b => b.keyDelete i d)

/-- STORE_UPDATE_DONE: the commit record is written and the slot becomes active (R460); copies loaded from a changed
entry are zeroised (R465); a new entry 0 renews the internal keys. -/
def Blk.storeDone (i : Ident) (b : Blk) : Blk :=
  match b.key.update with
  | none => b
  | some u =>
    let gen := b.key.storeGen + 1
    let slot : StoreSlot := ⟨u.image, gen, i.lc.code, i.lcCount, false, true, false⟩
    let old : Option Bytes := (b.key.store.find? (fun p => p.1 == 0)).map (fun p => p.2.key)
    let new : Option Bytes := (u.image.find? (fun p => p.1 == 0)).map (fun p => p.2.key)
    let b1 := b.modKey (fun k => { k.setInactive (fun _ => slot) with
      active := 1 - k.active, store := u.image, storeGen := gen, update := none })
    let b2 := match u.drop with
      | none => b1
      | some e => b1.zeroise (fun _ c => c.entry == some e)
    let b3 := if old = new then b2 else (b2.modKey (fun k => { k with site := new })).holdKeys
    b3.keyDone u.id St.done (u.detail.getD (gen % 2 ^ 32))

/-- STORE_UPDATE_DONE (R460). -/
def execStoreUpdateDone : State → Host.Outcome State Fault Refusal := onReadyI Blk.storeDone

/-! ## Loading, deriving, ciphering (R457, R464) -/

/-- KEY_LOAD (R457, R464). -/
def Blk.keyLoad (i : Ident) (d : Desc) : Blk → Blk :=
  Blk.keyOp i d [d.chk 0x18 1 (fun v => decide (1 ≤ v ∧ v < 32))] (fun b =>
    let n := d.op 0x18 1
    match b.key.store.find? (fun p => p.1 == n), b.freeCache with
    | none, _ => b.keyDone d.id St.keyNoEntry n
    | some _, none => b.keyDone d.id St.keyCacheFull 0
    | some p, some c =>
      let r := b.fillCache c { attr := p.2.attr, long := p.2.long, key := p.2.key, entry := some n }
      r.1.keyDone d.id St.done r.2)

/-- KEY_LOAD (R464). -/
def execKeyLoad (d : Desc) : State → Host.Outcome State Fault Refusal := onIslandI .key (fun i b => b.keyLoad i d)

/-- A key operation with host data begins; KEY_OPERATION_DONE ends it. -/
def Blk.beginKey (d : Desc) (data aux : Bytes) (b : Blk) : Blk :=
  b.modKey (fun k => { k with running := k.running ++ [⟨d, data, aux⟩] })

/-- KEY_DERIVE of the label and context in `data` (R464). -/
def execKeyDerive (d : Desc) (data : Bytes) : State → Host.Outcome State Fault Refusal :=
  onIslandI .key (fun i b => b.keyOp i d
    [d.chk 0x1A 1 (fun v => decide (v < 4)), d.chk 0x1B 1 (fun v => decide (v < 2)),
      d.chk 0x1C 1 (fun v => decide (1 ≤ v ∧ v ≤ 16)), d.chk 0x1D 1 (fun v => decide (v ≤ 64)), d.gap 0x1E 2]
    (Blk.beginKey d data []))

/-- KEY_CIPHER of `data` from IN and `aux` from AUX (R464). -/
def execKeyCipher (d : Desc) (data aux : Bytes) : State → Host.Outcome State Fault Refusal :=
  onIslandI .key (fun i b => b.keyOp i d
    [d.chk 0x1A 1 (fun v => decide (v < 6)), d.gap 0x1B 1,
      d.chk 0x1C 4 (fun v => decide (v ≤ 65536) && (v % 16 == 0 || decide (2 ≤ d.op 0x1A 1)))]
    (Blk.beginKey d data aux))

/-- KEY_HASH of `data` (R464). -/
def execKeyHash (d : Desc) (data : Bytes) : State → Host.Outcome State Fault Refusal :=
  onIslandI .key (fun i b => b.keyOp i d [d.chk 0x18 4 (fun v => decide (v ≤ 16777216)), d.gap 0x1C 4] (Blk.beginKey d data []))

/-- AES over a text block by block (ECB). -/
def ecb (enc : Bool) (key : Bytes) : Nat → Bytes → Bytes
  | 0, _ => []
  | n + 1, bs => Config.aesBlock enc key (slice bs 0 16) ++ ecb enc key n (bs.drop 16)

/-- KEY_CIPHER's result under a key (R464): where it writes what; none where an open or verify fails. -/
def cipher (d : Desc) (key data aux : Bytes) : Option (Nat × Bytes) :=
  let len := d.op 0x1C 4
  let out := d.op 0x28 8
  let nonce := slice aux 0 13
  let aad := slice aux 16 (le aux 14 2)
  match d.op 0x1A 1 with
  | 0 => some (out, ecb true key (len / 16) data)
  | 1 => some (out, ecb false key (len / 16) data)
  | 2 => some (out, Config.ccmSeal key nonce aad (slice data 0 len) 8)
  | 3 => (Config.ccmOpen key nonce aad (slice data 0 (len + 8)) 8).map (fun p => (out, p))
  | 4 => some (d.op 0x30 8, Config.cmac key (slice data 0 len))
  | _ => if Config.cmac key (slice data 0 len) = slice aux 0 16 then some (out, []) else none

/-- KEY_CIPHER ends (R464): a failed open or verify writes nothing. -/
def Blk.cipherDone (b : Blk) (r : KeyRun) : Blk :=
  let fn := r.d.op 0x1A 1
  b.withAttr r.d.id (r.d.op 0x18 2) (fn % 2) (fun _ e =>
    match cipher r.d e.key r.data r.aux with
    | none => b.keyDone r.d.id St.keyMicFail 0
    | some (addr, bs) => (if bs = [] then b else b.emit (.hostWrite addr bs)).keyDone r.d.id St.done bs.length)

/-- KEY_DERIVE ends (R457, R464). -/
def Blk.deriveDone (b : Blk) (r : KeyRun) : Blk :=
  let h := r.d.op 0x18 2
  let ll := r.d.op 0x1C 1
  let long := r.d.op 0x1B 1 == 1
  let label := slice r.data 0 ll
  let ctx := slice r.data ll (r.d.op 0x1D 1)
  b.withAttr r.d.id h 3 (fun n e =>
    if 8 ≤ e.depth then b.keyDone r.d.id St.keyDepth h
    else if slice label 0 8 = ascii "TSL9648-" then b.keyDone r.d.id St.keyLabel 0
    else match b.freeCache with
      | none => b.keyDone r.d.id St.keyCacheFull 0
      | some c =>
        let bits := if long then 256 else 128
        let z := label ++ zeros 1 ++ ctx ++ beBytes 4 bits
        let key := if long then Config.cmac e.key (beBytes 4 1 ++ z) ++ Config.cmac e.key (beBytes 4 2 ++ z)
          else Config.cmac e.key (beBytes 4 1 ++ z)
        let f := b.fillCache c { attr := r.d.op 0x1A 1, long := long, key := key, depth := e.depth + 1,
                                 parent := some n }
        f.1.keyDone r.d.id St.done f.2)

/-- KEY_HASH ends (R464). -/
def Blk.hashDone (b : Blk) (r : KeyRun) : Blk :=
  (b.emit (.hostWrite (r.d.op 0x28 8) (Config.sha256 (slice r.data 0 (r.d.op 0x18 4))))).keyDone r.d.id St.done 0

/-- KEY_OPERATION_DONE: the oldest key operation in progress writes its output and completes (R464). -/
def Blk.keyOpDone (b0 : Blk) : Blk :=
  match b0.key.running with
  | [] => b0
  | r :: rest =>
    let b := b0.modKey (fun k => { k with running := rest })
    if r.d.opcode = 0x0805 then b.deriveDone r
    else if r.d.opcode = 0x0806 then b.cipherDone r
    else b.hashDone r

/-- KEY_OPERATION_DONE (R464). -/
def execKeyOperationDone : State → Host.Outcome State Fault Refusal := onIsland .key Blk.keyOpDone

/-- KEY_EXPORT_ENROL (R464): the key wrapped as ATTR DERIVE, LEN 1, TAG 0. -/
def Blk.keyExport (i : Ident) (d : Desc) : Blk → Blk :=
  Blk.keyOp i d [d.chk 0x18 1 (fun v => decide (v < 2)), d.gap 0x19 1, d.gap 0x1C 4] (fun b =>
    b.withAttr d.id (d.op 0x1A 2) 2 (fun _ e =>
      match b.key.site with
      | none => b.keyDone d.id St.keyNoEntry 0
      | some s =>
        let k := if d.op 0x18 1 = 0 then kEnr s (d.op 0x20 8) else kHl s (d.op 0x20 8)
        (b.emit (.hostWrite (d.op 0x28 8)
          (Config.keyWrap e.key (leBytes 1 3 ++ leBytes 1 1 ++ zeros 6 ++ k)))).keyDone d.id St.done (kcv k)))

/-- KEY_EXPORT_ENROL (R464). -/
def execKeyExportEnrol (d : Desc) : State → Host.Outcome State Fault Refusal := onIslandI .key (fun i b => b.keyExport i d)

/-- KEY_EVICT (R464, R465). -/
def Blk.keyEvict (i : Ident) (d : Desc) : Blk → Blk :=
  Blk.keyOp i d [] (fun b => b.withHandle d.id (d.op 0x18 2) (fun n _ =>
    let b1 := b.zeroise (fun m _ => m == n)
    b1.keyDone d.id St.done (b.cacheUsed - b1.cacheUsed)))

/-- KEY_EVICT (R464). -/
def execKeyEvict (d : Desc) : State → Host.Outcome State Fault Refusal := onIslandI .key (fun i b => b.keyEvict i d)

/-- KEY_CHALLENGE (R464, R465): 16 random bytes, which replace an earlier challenge of the purpose. -/
def Blk.keyChallenge (i : Ident) (d : Desc) : Blk → Blk :=
  Blk.keyOp i d [d.chk 0x18 1 (fun v => decide (v < 3)), d.gap 0x19 7] (fun b =>
    let r := b.free
    let c := leBytes 16 r.1
    ((r.2.modKey (fun k => { k with chall := Tab.put k.chall (d.op 0x18 1) (c, b.elapsed) })).emit
      (.hostWrite (d.op 0x20 8) c)).keyDone d.id St.done 0)

/-- KEY_CHALLENGE (R464). -/
def execKeyChallenge (d : Desc) : State → Host.Outcome State Fault Refusal := onIslandI .key (fun i b => b.keyChallenge i d)

/-! ## Tamper (R471, R472) -/

/-- TAMPER_ACK accepted: latch, first source and the TAMPER stop source clear, and the store is unsealed (R472). -/
def Blk.tamperCleared (b : Blk) (i : Ident) (id : OpId) : Blk :=
  let b1 := ((b.useChallenge 1).modKey (fun k => { k with latch := 0, first := 7, phase := 0, holdAt := none })).srcActive
    10 false
  ((b1.unseal i).record 0x0A02 (leBytes 4 b.key.count)).keyDone id St.done 0

/-- TAMPER_ACK (R472). -/
def Blk.tamperAck (i : Ident) (d : Desc) : Blk → Blk :=
  Blk.keyOp i d [] (fun b =>
    if b.key.lockout ∨ b.key.live ≠ 0 ∨ b.stopped = false then b.keyDone d.id St.denied 0
    else match b.entry0 i with
      | none => b.tamperCleared i d.id
      | some s =>
        if b.authentic 1 (b.kTa s) (b.u8 ++ beBytes 4 b.key.count) (slice d.bytes 0x18 16) then
          b.tamperCleared i d.id
        else b.authFail d.id 1)

/-- TAMPER_ACK (R472). -/
def execTamperAck (d : Desc) : State → Host.Outcome State Fault Refusal := onReadyI (fun i b => b.tamperAck i d)

/-- TAMPER_SOURCE_INACTIVE: the source no longer qualifies; the latch stays (R472, R474). -/
def execTamperSourceInactive (src : Fin 6) : State → Host.Outcome State Fault Refusal :=
  onIsland .key (fun b => b.modKey (fun k => { k with live := clearBit k.live src.val }))

/-- The air and head keys of R458 zeroised. -/
def Blk.dropAirKeys (b : Blk) : Blk :=
  (b.modAir (fun a => { a with kp := [], kbcn := []
                               links := a.links.map (fun (q : Nat × Link) => (q.1, { q.2 with kLink := [], kMsts := [] })) })).modHdl
    (fun h => { h with heads := h.heads.map (fun (q : Nat × Head) => (q.1, { q.2 with kHs := [] })) })

/-- AIR_HOLD_EXPIRY at instant `t` (R471): AIR_HOLD after q the air and internal keys go and the store is
sealed. -/
def Blk.airHold (t : Nat) (b0 : Blk) : Blk :=
  let b := b0.moveTo t
  match b.key.holdAt with
  | none => b
  | some q =>
    if q + b.fld Reg.TMP_CFG 31 24 * 1000000 ≤ b.elapsed then
      b.dropAirKeys.modKey (fun k => { k with holdAt := none, site := none, isSealed := true })
    else b

/-- AIR_HOLD_EXPIRY (R471). -/
def execAirHoldExpiry (t : Nat) : State → Host.Outcome State Fault Refusal := onReady (Blk.airHold t)

end Sys2Proof.Machine
end

