-- ==== Sys2Proof/Machine/Recorder.lean ====
section
/-! DEFINITION. Sys2Proof/Machine/Recorder.lean: the event recorder: committing, the scan at power-up, reading and
clearing (R475-R488). -/

namespace Sys2Proof.Machine

open Sys2Proof

/-- The 64 bytes of a record (R479). -/
def recBytes (r : Rec) : Bytes :=
  let head := leBytes 8 r.rseq ++ leBytes 2 r.code ++ leBytes 1 r.flags ++ zeros 1 ++ leBytes 4 (r.pcc % 2 ^ 24)
    ++ leBytes 8 (r.optime % 2 ^ 48) ++ leBytes 8 r.ft ++ leBytes 8 r.epoch ++ slice r.args 0 20
  head ++ leBytes 4 (crc32c head).toNat

/-- EVR_OLDEST (R487). -/
def Evr.oldest (e : Evr) : Nat := max e.cleared (e.next - 16384)

/-- A record written to its circulating position, and copied to the permanent area while that has room (R475). -/
def Evr.commit (e : Evr) (r : Rec) : Evr :=
  { e with circ := Tab.put e.circ (r.rseq % 16384) r
           perm := if e.perm.length < 4096 then e.perm ++ [{ r with flags := setBit r.flags 0 }] else e.perm }

/-- The staged records that satisfy `p` committed. -/
def Evr.commitWhere (e : Evr) (p : Rec → Bool) : Evr :=
  { (e.staging.filter p).foldl Evr.commit e with staging := e.staging.filter (fun r => !p r) }

/-- A record of a clear in progress may not pass its CLEARED record (R484). -/
def Evr.held (e : Evr) (r : Rec) : Bool := match e.clear with | none => false | some c => decide (c.n < r.rseq)

/-- RECORD_COMMIT: the block of the oldest staged record is written (R477); when staging has room again one
RECORDS_DROPPED record is accepted. -/
def Blk.recordCommit (b : Blk) : Blk :=
  match b.evr.staging with
  | [] => b
  | r :: _ =>
    let b1 := b.modEvr (fun e => e.commitWhere (fun x => x.rseq / 4 == r.rseq / 4 && !e.held x))
    if 0 < b1.evr.dropped ∧ b1.evr.staging.length < 256 then
      (b1.modEvr (fun e => { e with dropped := 0 })).accept (b1.mkRec 0x0002 (leBytes 4 b1.evr.dropped))
    else b1

/-! ## Power loss and the scan (R477, R478) -/

/-- Power loss: staged records, reads and an uncommitted clear are lost; a block write it interrupts (`torn`) loses
the records of that block with it (R477). -/
def Evr.powerLost (torn : Bool) (e : Evr) : Evr :=
  let blk := match e.staging with | [] => none | r :: _ => if torn then some (r.rseq % 16384 / 4) else none
  let hit (i : Nat) : Bool := blk == some (i / 4)
  { perm := e.perm, permLost := e.permLost, circ := e.circ.filter (fun (q : Nat × Rec) => !hit q.1), cleared := e.cleared
    latched := e.latched
    bad := (e.circ.filter (fun (q : Nat × Rec) => hit q.1)).length
      + (if blk.isSome then ((e.staging.map (fun r => r.rseq / 4)).filter (fun k => some (k % 4096) == blk)).length else 0) }

/-- The valid records of the permanent area with their positions (R478, R482). -/
def Evr.permValid (e : Evr) : List (Rec × Nat) := e.perm.zipIdx.filter (fun q => !e.permLost.contains q.2)

/-- H of R478: one more than the highest RSEQ of a valid record, 0 where there is none. -/
def Evr.above (e : Evr) : Nat :=
  ((e.circ.map (fun (q : Nat × Rec) => q.2.rseq + 1)) ++ (e.permValid.map (fun (q : Rec × Nat) => q.1.rseq + 1))).foldl max 0

/-- The scan ends (R478): records below an interrupted clear are zeroed, numbering starts at H + 5, and the latched,
boot and POWER_UP records are accepted in this order. -/
def Blk.recorderScan (b : Blk) (wakeOff : Bool) : Blk :=
  let e := b.evr
  let h := e.above
  let b1 := (b.modEvr (fun e => { e with
      scanDone := true, next := h + 4, latched := [], boot := [], bootDropped := 0, bad := 0
      circ := e.circ.filter (fun (q : Nat × Rec) => decide (e.cleared ≤ q.2.rseq)) })).bump Reg.EVR_BAD_COUNT e.bad
  let b2 := (e.latched ++ e.boot).foldl Blk.accept b1
  let b3 := if e.bootDropped = 0 then b2 else b2.accept (b2.mkRec 0x0002 (leBytes 4 e.bootDropped))
  b3.accept (b3.mkRec 0x0001
    (leBytes 8 ((h + (2 ^ 64 - 1)) % 2 ^ 64) ++ leBytes 4 e.bad ++ leBytes 1 (b2n wakeOff)))

/-- A record latched by AON in sleep or off (R480). -/
def Blk.latchRecord (b : Blk) (code : Nat) (args : Bytes) : Blk :=
  b.modEvr (fun e => { e with latched := e.latched ++ [{ b.mkRec code args with flags := 4, ft := 0 }] })

/-! ## Reading (R482) -/

/-- EVR_READ begins: N is fixed. -/
def Blk.evrRead (d : Desc) (b : Blk) : Blk :=
  b.checked d [d.chk 0x18 1 (fun v => decide (v < 2)), d.gap 0x19 3,
      d.chk 0x1C 4 (fun v => decide (1 ≤ v ∧ v ≤ 16384)), d.aligned 0x28 64] (fun b =>
    if b.evr.scanDone then
      b.modEvr (fun e => { e with reads := e.reads ++
        [⟨d.id, d.op 0x18 1, d.op 0x20 8, d.op 0x1C 4, d.op 0x28 8, e.next⟩] })
    else b.complete d.id St.notReady 0)

/-- EVR_READ (R482, R485). -/
def execEvrRead (d : Desc) : State → Host.Outcome State Fault Refusal := onBlk (fun b => b.start d (Blk.evrRead d))

/-- The walk of the circulating area over `k` numbers from `r`: the records copied, and whether it was overtaken
(R482). -/
def walkCirc (e : Evr) (count : Nat) : Nat → Nat → List Rec → List Rec × Bool
  | 0, _, acc => (acc, false)
  | k + 1, r, acc =>
    if count ≤ acc.length ∨ e.staging.any (fun x => x.rseq == r) then (acc, false)
    else match e.circ.find? (fun q => q.1 == r % 16384) with
      | none => walkCirc e count k (r + 1) acc
      | some q =>
        if q.2.rseq = r then walkCirc e count k (r + 1) (acc ++ [q.2])
        else if r < q.2.rseq then (acc, true)
        else walkCirc e count k (r + 1) acc

/-- What a read copies. -/
def Evr.walk (e : Evr) (x : EvrRead) : List Rec × Bool :=
  if x.area = 0 then
    (((e.permValid.filter (fun q => decide (x.fromR ≤ q.2 ∧ q.2 < x.n))).map (fun q => q.1)).take x.count, false)
  else
    let lo := max x.fromR e.oldest
    walkCirc e x.count (x.n - lo) lo []

/-- EVR_READ_DONE: the oldest read writes its records and completes (R482, R486). -/
def Blk.evrReadDone (b : Blk) : Blk :=
  match b.evr.reads with
  | [] => b
  | x :: rest =>
    let w := b.evr.walk x
    let b1 := b.modEvr (fun e => { e with reads := rest })
    let b2 := if w.1 = [] then b1 else b1.emit (.hostWrite x.addr (w.1.flatMap recBytes))
    b2.complete x.id (if w.2 then 0x20 else St.done) w.1.length

/-- EVR_READ_DONE (R482). -/
def execEvrReadDone : State → Host.Outcome State Fault Refusal := onBlk Blk.evrReadDone

/-! ## Clearing (R483, R484) -/

/-- EVR_CLEAR (R483): without K_RA EVR_NO_KEY; a wrong response is recorded; an accepted clear reserves RSEQ N. -/
def Blk.evrClear (d : Desc) (b : Blk) : Blk :=
  match b.key.site with
  | none => b.complete d.id 0x22 0
  | some s =>
    let n := b.evr.next
    let ok := b.authentic 2 (b.kRa s) (b.u8 ++ beBytes 8 n) (slice d.bytes 0x18 16)
    let b1 := b.useChallenge 2
    if !ok then ((b1.record 0x0004 []).bump Reg.EVR_AUTH_FAIL_COUNT).complete d.id 0x21 0
    else if b1.evr.clear.isSome then b1.complete d.id St.busy 0
    else b1.modEvr (fun e => { e with clear := some ⟨d.id, n, e.oldest, false⟩, next := n + 1 })

/-- EVR_CLEAR (R483). -/
def execEvrClear (d : Desc) : State → Host.Outcome State Fault Refusal := onBlk (fun b => b.start d (Blk.evrClear d))

/-- CLEAR_START: once every read started before the clear is complete, the CLEARED record is committed and the other
positions of its block are 0 (R484). -/
def Blk.clearStart (b : Blk) : Blk :=
  match b.evr.clear with
  | none => b
  | some c =>
    if c.committed || b.evr.reads.any (fun x => decide (x.n ≤ c.n)) then b
    else
      let r : Rec := { b.mkRec 0x0003 (leBytes 8 c.oldestBefore ++ leBytes 4 (c.n - c.oldestBefore)) with rseq := c.n }
      b.modEvr (fun e0 =>
        let e := e0.commitWhere (fun x => decide (x.rseq < c.n))
        let e1 := ({ e with circ := e.circ.filter (fun (q : Nat × Rec) => q.1 / 4 != c.n % 16384 / 4) }).commit r
        { e1 with cleared := c.n, clear := some { c with committed := true } })

/-- CLEAR_START (R484). -/
def execClearStart : State → Host.Outcome State Fault Refusal := onBlk Blk.clearStart

/-- CLEAR_COMPLETE: the other circulating blocks are 0 and EVR_CLEAR completes (R484). -/
def Blk.clearComplete (b : Blk) : Blk :=
  match b.evr.clear with
  | none => b
  | some c =>
    if c.committed then
      (b.modEvr (fun e => { e with clear := none, circ := e.circ.filter (fun (q : Nat × Rec) => q.2.rseq == c.n) })).complete
        c.id St.done (c.n - c.oldestBefore)
    else b

/-- CLEAR_COMPLETE (R484). -/
def execClearComplete : State → Host.Outcome State Fault Refusal := onBlk Blk.clearComplete

end Sys2Proof.Machine
end

