-- ==== Sys2Proof/Machine/Mram.lean ====
section
/-! DEFINITION. Sys2Proof/Machine/Mram.lean: reads of MRAM that fail their CRC (R450, R451), what each owner loses with a
block, and the commit of records. -/

namespace Sys2Proof.Machine

open Sys2Proof

/-- A block of persistent settings lost (R524): the other one's MODE is the stored one where it is valid, else none is. -/
def Hst.loseSettings (h : Hst) (k : Nat) : Hst :=
  if k ≠ h.persistActive then { h with persistOlder := none }
  else match h.persistOlder with
    | some m => { h with storedPlanes := m, persistActive := 1 - k, persistGen := h.persistGen - 1, persistOlder := none }
    | none => { h with storedPlanes := false, persistValid := false }

/-- A block of fleet seconds lost (R406): the other one's seconds stand where it is valid, else they are a free value
(log 3). -/
def Blk.loseSeconds (b : Blk) (k : Nat) : Blk :=
  if k ≠ b.inv.secAt then b.modInv (fun i => { i with olderSec := none })
  else match b.inv.olderSec with
    | some s => b.modInv (fun i => { i with storedSec := s, secAt := 1 - k, olderSec := none })
    | none => b.free.2.modInv (fun i => { i with storedSec := b.free.1 })

/-- Records lost with their blocks count in EVR_BAD_COUNT, at the scan where it has not ended (R478). -/
def Blk.badRecords (b : Blk) (n : Nat) : Blk :=
  if b.evr.scanDone then b.bump Reg.EVR_BAD_COUNT n else b.modEvr (fun e => { e with bad := e.bad + n })

/-- Block `k` of the permanent area lost. -/
def Blk.losePerm (b : Blk) (k : Nat) : Blk :=
  let gone := (b.evr.permValid.map (fun q => q.2)).filter (fun i => i / 4 == k)
  (b.badRecords gone.length).modEvr (fun e => { e with permLost := e.permLost ++ gone })

/-- Block `k` of the circulating area lost. -/
def Blk.loseCirc (b : Blk) (k : Nat) : Blk :=
  (b.badRecords (b.evr.circ.filter (fun (q : Nat × Rec) => q.1 / 4 == k)).length).modEvr
    (fun e => { e with circ := e.circ.filter (fun (q : Nat × Rec) => q.1 / 4 != k) })

/-- A commit record of the key store lost (R461): the slot whose GEN it carries is not valid. -/
def StoreSlot.uncommit (s : StoreSlot) (k : Nat) : StoreSlot := if s.gen % 2 = k then { s with commit := false } else s

/-- Block `n` is lost to its owner (R450, R451, R459, R475, R509, R524): a slot is not valid, records, settings, seconds, a
survey's result or the entry record are gone; the manufacturing data have their mirror or their defaults (R550). -/
def Blk.loseBlock (b : Blk) (n : Nat) : Blk :=
  if 256 ≤ n ∧ n ≤ 288 then b.modKey (fun k => { k with slotA := { k.slotA with torn := !k.slotA.blank } })
  else if 320 ≤ n ∧ n ≤ 352 then b.modKey (fun k => { k with slotB := { k.slotB with torn := !k.slotB.blank } })
  else if n = 384 ∨ n = 385 then
    b.modKey (fun k => { k with slotA := k.slotA.uncommit (n - 384), slotB := k.slotB.uncommit (n - 384) })
  else if 512 ≤ n ∧ n < 1536 then b.losePerm (n - 512)
  else if 1536 ≤ n ∧ n < 5632 then b.loseCirc (n - 1536)
  else if n = 5632 ∨ n = 5633 then b.loseSeconds (n - 5632)
  else if n = 5634 ∨ n = 5635 then b.modHst (fun h => h.loseSettings (n - 5634))
  else if 5666 ≤ n ∧ n < 5714 then b.modPwr (fun p => { p with surveys := Tab.del p.surveys ((n - 5666) / 16) })
  else if n = 6176 ∨ n = 6177 then b.modPwr (fun p => { p with entry := none })
  else b

/-- A read of MRAM that did not match at first (R451): the further reads are counted; where none matches the block is bad,
which is counted and recorded, and lost to its owner. -/
def Blk.mramRead (b : Blk) (r : MramRead) : Blk :=
  let b1 := b.bump Reg.MEM_MRAM_REREAD_COUNT r.rereads
  if r.ok then b1 else ((b1.bump Reg.MEM_MRAM_BAD_COUNT).memError 4 10 0 r.block).loseBlock r.block

/-- RECORD_COMMIT (R477), with the reads of MRAM before the write that did not match at first (R451). -/
def execRecordCommit (reads : List MramRead) : State → Host.Outcome State Fault Refusal :=
  onBlk (fun b => (reads.foldl Blk.mramRead b).recordCommit)

end Sys2Proof.Machine
end

