-- ==== Sys2Proof/Machine/Survey.lean ====
section
/-! DEFINITION. Sys2Proof/Machine/Survey.lean: the survey (R502-R509): its items, statuses, result, storage, and the
commands SURVEY, SURVEY_COMPLETE and SURVEY_READ.  What is measured is operands (log 31). -/

namespace Sys2Proof.Machine

open Sys2Proof

/-! ## Statuses (R504) -/

/-- Status of an output measured off; `iref` marks a current reference. -/
def OutMeas.st (x : OutMeas) (iref : Bool) : Nat :=
  if x.mv < -1000 then 6 else if 33000 < x.mv then 7 else if 15000 < x.mv then 3
  else if x.ohm < 10 then 2
  else if x.ohm < (if iref then 1000 else 200) then 4
  else if (if iref then 1000000 else 100000) < x.ohm then 1 else 0

/-- Status of an input; `low` marks one active when low. -/
def InMeas.st (x : InMeas) (low : Bool) : Nat :=
  if x.mv < -1000 then 6 else if 33000 < x.mv then 7 else if x.on != low then 9 else 0

/-- Status of the set-point input. -/
def spSt (mv : Int) : Nat := if mv < -10500 ∨ 10500 < mv then 5 else 0

/-- Status of an encoder pair. -/
def PairMeas.st (x : PairMeas) : Nat := if x.low then 2 else if x.high then 3 else if x.isOpen then 1 else 0

/-- Status of an E-stop circuit. -/
def CircuitMeas.st (x : CircuitMeas) : Nat :=
  if x.limited then 2 else if x.high then 3 else if x.cross then 8
  else if 10000 < x.ohm then 1 else if 500 < x.ohm then 12 else 0

/-- Status of a rail (R504, R536): the logic supplies, the field supplies, the field grounds. -/
def railSt (rail : Nat) (mv : Int) : Nat :=
  let out (lo hi : Int) : Nat := if mv < lo ∨ hi < mv then 5 else 0
  match rail with
  | 0 => out 770 830
  | 1 => out 1710 1890
  | 2 => out 3135 3465
  | 3 | 4 => if mv < -1000 then 6 else if 33000 < mv then 7 else out 18000 32000
  | _ => out (-1000) 1000

/-- Status of the antenna by its state (R206): OFF is not tested, OPEN, SHORT to ground. -/
def antSt (state : Nat) : Nat := match state with | 0 => 10 | 1 => 0 | 2 => 1 | _ => 2

/-- A status that counts in N_FAULT (R503). -/
def faulty (st : Nat) : Bool := st != 0 && st != 10 && st != 9 && st != 11

/-! ## Sections (R503) -/

/-- An entry of a section: whether it counts in N_FAULT, and its bytes. -/
abbrev SEntry := Bool × Bytes

/-- Bytes that the spec leaves open in an entry that was not measured: part of one free value (log 3). -/
def openBytes (v i n : Nat) : Bytes := leBytes n (v / 256 ^ (32 * i))

/-- A resistance as uint16 Ω, 0xFFFF above 65 534. -/
def ohm16 (v : Nat) : Bytes := leBytes 2 (min v 0xFFFF)

/-- The SUPPLY entries. -/
def railEntry (v : Nat) (rails : List Int) (k : Nat) : SEntry :=
  match rails[k]? with
  | some mv => (faulty (railSt k mv), leBytes 1 k ++ leBytes 1 (railSt k mv) ++ zeros 2 ++ sleBytes 4 mv)
  | none => (false, leBytes 1 k ++ leBytes 1 10 ++ zeros 2 ++ openBytes v k 4)

/-- A FIELD entry. -/
def Blk.fieldEntry (b : Blk) (v : Nat) (ms : List FieldMeas) (n : Nat) : SEntry :=
  match ms.find? (fun m => m.axis.val == n) with
  | some m =>
    let pol (i : Nat) : Bool := b.flag (Reg.AXS_AX_IN_CFG n) i
    let sts := [m.stepO.st false, m.dirO.st false, m.enaO.st false, m.irefO.st true, spSt m.spMv, m.limp.st (pol 3),
      m.limn.st (pol 4), m.home.st (pol 5)]
    (sts.any faulty, leBytes 1 n ++ sts.flatMap (leBytes 1) ++ zeros 1 ++ ohm16 m.stepO.ohm
      ++ leBytes 2 (if m.irefO.st true = 1 then 0xFFFF else min (m.irefO.ohm / 10) 0xFFFF) ++ sleBytes 2 m.spMv)
  | none => (false, leBytes 1 n ++ List.replicate 8 10 ++ zeros 1 ++ openBytes v (7 + n) 6)

/-- An STO entry. -/
def stoEntry (v : Nat) (ms : List StoMeas) (g : Nat) : SEntry :=
  match ms.find? (fun m => m.group.val == g) with
  | some m => (faulty (m.a.st false) || faulty (m.b.st false), leBytes 1 g ++ leBytes 1 (m.a.st false)
      ++ leBytes 1 (m.b.st false) ++ zeros 1 ++ ohm16 m.a.ohm ++ ohm16 m.b.ohm)
  | none => (false, leBytes 1 g ++ leBytes 1 10 ++ leBytes 1 10 ++ zeros 1 ++ openBytes v (55 + g) 4)

/-- An ENC entry: with ENC = SSI the clock pair is tested and B is not. -/
def Blk.encEntry (b : Blk) (v : Nat) (ms : List EncMeas) (n : Nat) : SEntry :=
  match ms.find? (fun m => m.axis.val == n) with
  | some m =>
    let ssi := b.encKind n == 3
    let sts := [m.a.st, if ssi then 10 else m.b.st, m.z.st, if ssi then m.clk.st else 10]
    let diff := min (min m.a.diff m.z.diff) (if ssi then m.clk.diff else m.b.diff)
    (sts.any faulty, leBytes 1 n ++ sts.flatMap (leBytes 1) ++ zeros 1 ++ leBytes 2 (min diff 0xFFFF))
  | none => (false, leBytes 1 n ++ List.replicate 4 10 ++ zeros 1 ++ openBytes v (67 + n) 2)

/-- R_A or R_B of an E-stop circuit: 0xFFFF open. -/
def CircuitMeas.r (x : CircuitMeas) : Bytes := if x.st = 1 then leBytes 2 0xFFFF else ohm16 x.ohm

/-- An ESTOP entry: loops 0-3, contactor monitors 4 and 5. -/
def estopEntry (v : Nat) (ls : List EstopMeas) (cs : List CmonMeas) (k : Nat) : SEntry :=
  let blank : SEntry := (false, leBytes 1 k ++ leBytes 1 10 ++ leBytes 1 10 ++ zeros 1 ++ openBytes v (115 + k) 4)
  if k < 4 then
    match ls.find? (fun m => m.loop.val == k) with
    | some m => (faulty m.a.st || faulty m.b.st, leBytes 1 k ++ leBytes 1 m.a.st ++ leBytes 1 m.b.st ++ zeros 1 ++ m.a.r ++ m.b.r)
    | none => blank
  else
    match cs.find? (fun m => m.m.val + 4 == k) with
    | some m => (m.isOpen, leBytes 1 k ++ leBytes 1 (b2n m.isOpen) ++ leBytes 1 10 ++ zeros 1
        ++ (if m.isOpen then leBytes 2 0xFFFF else ohm16 m.ohm) ++ openBytes v (115 + k) 2)
    | none => blank

/-- The ANT entry. -/
def Blk.antEntry (b : Blk) (v : Nat) (pIn : Option Int) : SEntry :=
  let bias := leBytes 1 (b.fld Reg.GNS_ANT_CFG 1 0)
  match pIn with
  | some p =>
    (faulty (antSt b.gns.ant), leBytes 1 (antSt b.gns.ant) ++ bias ++ leBytes 1 b.gns.ant ++ leBytes 1 b.gns.j
      ++ leBytes 2 b.gns.iMeas ++ sleBytes 2 p ++ leBytes 1 b.gns.gain ++ leBytes 1 b.engaged.length ++ zeros 6)
  | none => (false, leBytes 1 10 ++ openBytes v 121 9 ++ zeros 6)

/-- The heads of the HEADS item (R505): UP or SUSPECT, EN in the head table. -/
def Blk.surveyHeads (b : Blk) : List Nat :=
  (List.range 8).filter (fun h => ((b.head h).state == .up || (b.head h).state == .suspect)
    && (match b.pos.heads with | some t => (t.getD h {}).en | none => false))

/-- The pairs of heads used (R505): between two heads of the item, of which at least 8 frames arrived. -/
def Blk.headPairs (b : Blk) (ms : List HeadMeas) : List HeadMeas :=
  ms.filter (fun m => m.i != m.j && decide (8 ≤ m.frames) && b.surveyHeads.contains m.i.val
    && b.surveyHeads.contains m.j.val)

/-- A pair joins head `h`. -/
def HeadMeas.has (m : HeadMeas) (h : Nat) : Bool := m.i.val == h || m.j.val == h

/-- The heads that pairs join to those of `hs`, after `n` pairs in a row. -/
def joinedHeads (ps : List HeadMeas) : Nat → List Nat → List Nat
  | 0, hs => hs
  | n + 1, hs => joinedHeads ps n ((List.range 8).filter (fun h => hs.contains h
      || ps.any (fun m => m.has h && hs.any m.has)))

/-- The corrections x_h (ps) by least squares over the pairs (R505): the normal equations of m_ij = x_i − x_j with
x_REF = 0, or with Σ x_h = 0 over the heads `hs` that have a pair; none where they do not fix every x_h. -/
def headFit (ps : List HeadMeas) (hs : List Nat) (ref : Option Nat) : Option (List Rat) :=
  let coef (m : HeadMeas) (h : Nat) : Rat := if m.i.val = h then 1 else if m.j.val = h then -1 else 0
  let row (h : Nat) : List Rat :=
    hs.map (fun g => (ps.map (fun m => coef m h * coef m g)).sum + (match ref with
      | some r => if h = r ∧ g = r then 1 else 0
      | none => 1)) ++ [(ps.map (fun m => coef m h * m.mean)).sum]
  (gauss hs.length 0 [] (hs.map row)).map (fun m => m.map (fun r => r.getD hs.length 0))

/-- The square root to the nearest whole number. -/
def rootNear (r : Rat) : Nat := (isqrt64 (4 * r).floor.toNat + 1) / 2

/-- RESID of head `h` (R505): the RMS residual of its pairs under the corrections `x`. -/
def headRms (ps : List HeadMeas) (hs : List Nat) (x : List Rat) (h : Nat) : Nat :=
  let at' (g : Nat) : Rat := x.getD (hs.idxOf g) 0
  let mine := ps.filter (fun m => m.has h)
  rootNear ((mine.map (fun m => let r : Rat := m.mean - (at' m.i.val - at' m.j.val); r * r)).sum / mine.length)

/-- The correction and residual of head `h` (R505); none where the measurements do not fix it. -/
def headFix (ps : List HeadMeas) (ref : Nat) (h : Nat) : Option (Int × Nat) :=
  let hs := (List.range 8).filter (fun g => ps.any (fun m => m.has g))
  let named := decide (ref < 8)
  -- With a reference the heads joined to it form the system; without one all heads with a pair.
  let group := if named then joinedHeads ps 8 [ref] else hs
  let whole := named || hs.all (joinedHeads ps 8 (hs.take 1)).contains
  let mine := ps.filter (fun m => group.contains m.i.val)
  if whole && group.contains h then
    (headFit mine group (if named then some ref else none)).map (fun x =>
      (roundR (x.getD (group.idxOf h) 0), headRms mine group x h))
  else none

/-- A HEADS entry (R505). -/
def Blk.headEntry (b : Blk) (v ref : Nat) (ms : List HeadMeas) (h : Nat) : SEntry :=
  let x := b.head h
  let fix (st pairs : Nat) (a r : Bytes) : SEntry :=
    (faulty st, leBytes 1 h ++ leBytes 1 x.state.code ++ leBytes 1 st ++ leBytes 1 pairs ++ sleBytes 4 x.delay
      ++ sleBytes 4 x.delayUp ++ a ++ r ++ zeros 4)
  if !x.joined then fix 11 0 (openBytes v (122 + h) 4) (openBytes v (130 + h) 4)
  else
    let ps := b.headPairs ms
    let n := (ps.filter (fun m => m.has h)).length
    match headFix ps ref h with
    | some (c, r) =>
      if n = 0 then fix 10 0 (openBytes v (122 + h) 4) (openBytes v (130 + h) 4)
      else fix 0 (min n 255) (sleBytes 4 (b.sfld (Reg.HDL_HEAD_ASYM h) 31 0 + 2 * c)) (leBytes 4 r)
    | none => fix (if n = 0 then 10 else 0) (min n 255) (openBytes v (122 + h) 4) (openBytes v (130 + h) 4)

/-- The entry of the largest magnitude, the first of equals. -/
def largest : List Int → Int
  | [] => 0
  | x :: rest => if x.natAbs < (largest rest).natAbs then largest rest else x

/-- A MEMBERS entry (R506). -/
def Blk.memEntry (b : Blk) (v : Nat) (ms : List MemMeas) (mix : Nat) : SEntry :=
  let st := (b.member mix).state
  let l := b.link mix
  let fix (s flags : Nat) (tail : Bytes) : SEntry :=
    (faulty s, leBytes 1 mix ++ leBytes 1 st.code ++ leBytes 1 s ++ leBytes 1 l.osc ++ leBytes 2 l.cap ++ leBytes 1 flags
      ++ zeros 1 ++ tail ++ zeros 2)
  if st = .absent then fix 11 0 (openBytes v (138 + mix) 6)
  else match ms.find? (fun m => m.mix.val == mix && !m.offs.isEmpty) with
    | some m =>
      let eMax := largest m.offs
      -- Without a POS_VALID solution no range corrects the acknowledgements.
      let err : Option Int := if (b.member mix).located then some (largest m.gaps) else none
      let osc := decide (l.osc * 1024 < eMax.natAbs * 10 ∨ 20480 < eMax.natAbs)
      let gap := match err with | some g => decide (1000 < g.natAbs) | none => false
      fix (if osc || gap then 12 else 0) (b2n osc + 2 * b2n gap + 4 * b2n err.isNone)
        (sleBytes 2 eMax ++ (match err with | some g => sleBytes 2 g | none => leBytes 2 0x8000)
          ++ leBytes 2 m.offs.length)
    | none => fix 10 0 (openBytes v (138 + mix) 4 ++ zeros 2)

/-! ## The result (R503) -/

/-- Bytes of the eight sections. -/
def sectionBytes : List Nat := [56, 768, 96, 384, 48, 16, 192, 2048]

/-- The item of each section (R502). -/
def sectionItem : List Nat := [0, 1, 1, 2, 3, 4, 5, 6]

/-- Section `k` is part of a result for `items`. -/
def hasSection (items k : Nat) : Bool := bitOf items (sectionItem.getD k 0)

/-- Length of a result for `items`. -/
def resultBytes (items : Nat) : Nat :=
  64 + (((List.range 8).filter (hasSection items)).map (fun k => sectionBytes.getD k 0)).sum

/-- Offset of section `k`; 0 if not requested. -/
def sectionOff (items k : Nat) : Nat :=
  if hasSection items k then
    64 + (((List.range k).filter (hasSection items)).map (fun j => sectionBytes.getD j 0)).sum
  else 0

/-- The entries of section `k`: an item that was not run is given no measurements. -/
def Blk.sectionEntries (b : Blk) (s : Survey) (v done : Nat) (x : SurveyIn) (k : Nat) : List SEntry :=
  let ran (i : Nat) : Bool := bitOf done i
  match k with
  | 0 => (List.range 7).map (railEntry v (if ran 0 then x.rails else []))
  | 1 => (List.range 48).map (b.fieldEntry v (if ran 1 then x.field else []))
  | 2 => (List.range 12).map (stoEntry v (if ran 1 then x.sto else []))
  | 3 => (List.range 48).map (b.encEntry v (if ran 2 then x.enc else []))
  | 4 => (List.range 6).map (estopEntry v (if ran 3 then x.estop else []) (if ran 3 then x.cmon else []))
  | 5 => [b.antEntry v (if ran 4 then some x.pIn else none)]
  | 6 => (List.range 8).map (b.headEntry v s.refHead (if ran 5 then x.heads else []))
  | _ => (List.range 128).map (b.memEntry v (if ran 6 then x.members else []))

/-- A survey's result: N_FAULT and its bytes with the header CRC. -/
def Blk.surveyResult (b : Blk) (s : Survey) (done seq v : Nat) (x : SurveyIn) : Nat × Bytes :=
  let entries := ((List.range 8).filter (hasSection s.items)).flatMap (b.sectionEntries s v done x)
  let nFault := (entries.filter (fun e => e.1)).length
  let head := leBytes 4 0x56534C54 ++ leBytes 2 1 ++ leBytes 1 s.items ++ leBytes 1 done ++ leBytes 4 (resultBytes s.items)
    ++ leBytes 4 nFault ++ leBytes 8 s.optime ++ leBytes 4 b.pwr.pcc ++ leBytes 1 (b2n s.op.isSome) ++ zeros 3
    ++ leBytes 8 s.ft ++ leBytes 4 seq ++ (List.range 8).flatMap (fun k => leBytes 2 (sectionOff s.items k))
  let body := entries.flatMap (fun e => e.2)
  (nFault, head ++ leBytes 4 (crc32c (head ++ zeros 4 ++ body)).toNat ++ body)

/-! ## SURVEY and SURVEY_COMPLETE -/

/-- The items whose condition holds (R502). -/
def Blk.surveyable (b : Blk) : Nat :=
  let en := b.flag Reg.AIR_CFG 0
  0x15 + 10 * b2n b.stopped + 32 * b2n (!en && b.pos.heads.isSome) + 64 * b2n en

/-- A survey frame (R505): a 14-byte PSDU of TYPE 15. -/
def Blk.surveyFrame (b : Blk) (i : Nat) : Bytes := withFcs (psduHeader 15 (i % 256) (b.fld Reg.AIR_ADDR_CFG 31 16) 0xFFFF 0 i)

/-- The 16 survey frames of each head, in index order, 1 ms apart (R505). -/
def Blk.sendSurveyFrames (b : Blk) : Blk :=
  let jobs := b.surveyHeads.flatMap (fun h => (List.range 16).map (fun i => (h, i)))
  (jobs.zip (List.range jobs.length)).foldl (fun (b' : Blk) q =>
    b'.txSend q.1.1 (b.now + 2000000 + q.2 * 1000000) 0 3 0 (zeros 16) (b.surveyFrame q.1.2)) b

/-- A survey begins (R502, R505, R508): the enabled loops' sources are held active during ESTOP. -/
def Blk.surveyStart (b : Blk) (op : Option OpId) (items ref addr : Nat) : Blk :=
  let done := items &&& b.surveyable
  let b1 := b.modPwr (fun p => { p with survey := some ⟨op, items, done, ref, addr, b.optime,
    if b.inv.state = .unset then 0 else b.nowFt64, false, false⟩ })
  let b2 := if bitOf done 3 then
      (List.range 4).foldl (fun b n =>
        if b.flag (Reg.CLP_ES_CFG n) 0 then (b.setLoop n { b.loopOf n with active := true }).srcActive n true else b) b1
    else b1
  if bitOf done 5 then b2.sendSurveyFrames else b2

/-- SURVEY (R502, R510, R512). -/
def Blk.survey (d : Desc) (b : Blk) : Blk :=
  b.checked d [d.chk 0x18 1 (fun v => decide (v < 128)), d.chk 0x19 1 (fun v => decide (v < 8) || v == 0xFF), d.gap 0x1A 2,
      d.aligned 0x20 64] (fun b =>
    let need := resultBytes (d.op 0x18 1)
    if b.pwr.survey.isSome then b.complete d.id 0x20 0
    else if d.op 0x1C 4 < need then b.complete d.id 0x22 need
    else b.surveyStart (some d.id) (d.op 0x18 1) (d.op 0x19 1) (d.op 0x20 8))

/-- SURVEY (R510). -/
def execSurvey (d : Desc) : State → Host.Outcome State Fault Refusal := onBlk (fun b => b.start d (Blk.survey d))

/-- The place of a result (R509): the host's is 2, those of power-up alternate between 0 and 1. -/
def Blk.surveyPlace (b : Blk) (host : Bool) : Nat := if host then 2 else b.pwr.surveyAlt % 2

/-- The items that a survey may have run, of those begun: a tamper ends all others, a release those that need a stop
(R502, R508). -/
def Survey.began (s : Survey) (begun : Nat) : Nat := if s.cut then begun else if s.fieldCut then begun ||| 0x75 else 0x7F

/-- SURVEY_COMPLETE (R503, R508, R509, R529): the result is stored, shown in MON, and for a host survey written. -/
def Blk.surveyComplete (x : SurveyIn) (b0 : Blk) : Blk :=
  match b0.pwr.survey with
  | none => b0
  | some s =>
    let f := b0.free
    let b := f.2
    let done := s.done &&& s.began x.begun
    let seq := b.pwr.surveySeq + 1
    let host := s.op.isSome
    let r := b.surveyResult s done seq f.1 x
    let b1 := b.modPwr (fun p => { p with
      survey := none, surveySeq := seq, surveyAlt := if host then p.surveyAlt else p.surveyAlt + 1
      surveys := Tab.put p.surveys (b.surveyPlace host) ⟨seq, r.2⟩ })
    let b2 := (b1.setReg Reg.MON_SURVEY (word (done * 2 ^ 24 + b2n host * 2 ^ 16 + min r.1 0xFFFF))).setReg
      Reg.MON_SURVEY_SEQ (word seq)
    match s.op with
    | none => b2
    | some id => (b2.emit (.hostWrite s.addr r.2)).done id r.1

/-- SURVEY_COMPLETE (R503). -/
def execSurveyComplete (x : SurveyIn) : State → Host.Outcome State Fault Refusal := onBlk (Blk.surveyComplete x)

/-- The stored result that SURVEY_READ names (R509): 0 the power-up result with the higher SEQ, 1 the other, 2 the
host result. -/
def Blk.storedSurvey (b : Blk) (n : Nat) : Option SurveyRec :=
  let at' (k : Nat) : Option SurveyRec := (b.pwr.surveys.find? (fun p => p.1 == k)).map (fun p => p.2)
  let newest : Nat := match at' 0, at' 1 with
    | some x, some y => if x.seq < y.seq then 1 else 0
    | none, _ => 1
    | _, none => 0
  if n = 2 then at' 2 else if n = 0 then at' newest else at' (1 - newest)

/-- SURVEY_READ (R509, R510, R512). -/
def Blk.surveyRead (d : Desc) (b : Blk) : Blk :=
  b.checked d [d.chk 0x18 1 (fun v => decide (v < 3)), d.gap 0x19 3, d.aligned 0x20 64] (fun b =>
    match b.storedSurvey (d.op 0x18 1) with
    | none => b.complete d.id 0x23 (d.op 0x18 1)
    | some r =>
      if d.op 0x1C 4 < r.data.length then b.complete d.id 0x22 r.data.length
      else (b.emit (.hostWrite (d.op 0x20 8) r.data)).done d.id r.data.length)

/-- SURVEY_READ (R510). -/
def execSurveyRead (d : Desc) : State → Host.Outcome State Fault Refusal := onBlk (fun b => b.start d (Blk.surveyRead d))

end Sys2Proof.Machine
end

