-- ==== Sys2Proof/Machine/Power.lean ====
section
/-! DEFINITION. Sys2Proof/Machine/Power.lean: power states, restarts, boot, wakes, supplies, tamper and the life-cycle
change: what the AON island does (R406, R466-R472, R480, R489-R500, R510-R512, R538, R539). -/

namespace Sys2Proof.Machine

open Sys2Proof

/-! ## Restarts (R496, R499, R523) -/

/-- What is left when every island but AON loses its state and the SRAM is not retained (R499): MRAM, the persistent
settings, the rotation of the banks, AON's counters and tamper latch, and time elapsed.  `torn` says that the loss
interrupts a recorder write. -/
def Blk.bare (b : Blk) (torn : Bool) : Blk :=
  { uid := b.uid, out := b.out, lastRead := b.lastRead, fresh := b.fresh
    hst := { storedPlanes := b.hst.storedPlanes, persistActive := b.hst.persistActive, persistGen := b.hst.persistGen
             persistValid := b.hst.persistValid, persistOlder := b.hst.persistOlder }
    mem := { banks := b.mem.banks.map (fun (q : Nat × Bank) => (q.1, { rot := q.2.rot })) }
    evr := b.evr.powerLost torn
    inv := { ft := b.inv.ft, jumped := b.inv.jumped, storedSec := b.inv.storedSec, secAt := b.inv.secAt
             olderSec := b.inv.olderSec }
    clp := { stopAt := b.elapsed }
    key := { slotA := b.key.slotA, slotB := b.key.slotB, latch := b.key.latch, live := b.key.live, first := b.key.first,
             phase := b.key.phase, count := b.key.count, lockout := b.key.lockout }
    pwr := { pcc := b.pwr.pcc, optime := b.pwr.optime, entry := b.pwr.entry, surveys := b.pwr.surveys,
             surveySeq := b.pwr.surveySeq, surveyAlt := b.pwr.surveyAlt, perstN := b.pwr.perstN, bootAt := b.elapsed } }

/-- A source that a channel asserts as it starts: its record and latch (R172, R175). -/
def Blk.startSource (b : Blk) (bit : Nat) : Blk := (b.latchSource bit).record 0x0201 (leBytes 1 bit ++ leBytes 1 0xFF ++ leBytes 1 0)

/-- POWER_UP, and TAMPER while the latch holds (R469, R498). -/
def Blk.startSources (b : Blk) : Blk :=
  let b1 := b.startSource 11
  if b.key.latch = 0 then b1 else (b1.srcActive 10 true).startSource 10

/-- A change of power state recorded (R481). -/
def Blk.recordPower (b : Blk) (old new : Nat) : Blk := if old = new then b else b.record 0x0006 (leBytes 1 old ++ leBytes 1 new)

/-- A boot from stage RESET with REASON, SOURCE and PREV_STATE of R511; `cycle` counts a power cycle, which ends a
lockout (R470, R496); `old` is the power state left. -/
def Blk.bootFrom (b : Blk) (reason source prev old : Nat) (cycle : Bool) : Blk :=
  let b1 := (b.bare false).modPwr (fun p => { p with
    reason := reason, source := source, prev := prev, pcc := if cycle then (p.pcc + 1) % 2 ^ 24 else p.pcc })
  let b2 := if cycle then b1.modKey (fun k => { k with lockout := false }) else b1
  (b2.recordPower old 1).startSources

/-- The staged records written to MRAM before an ordered loss of the SRAM (R477, R492). -/
def Blk.commitStaged (b : Blk) : Blk := b.modEvr (fun e => e.commitWhere (fun _ => true))

/-- SYSTEM_RESTART's and LC_CHANGE's restart (R467, R510): READY's fall, if it was high, is recorded in the boot that
follows (R500). -/
def Blk.restart (b : Blk) : Blk :=
  (b.commitStaged.bootFrom 3 4 b.pwr.pstate b.pwr.pstate false).modPwr (fun p => { p with ready := b.pwr.ready })

/-- POWER_UP: the supplies and REFCLK are up (R172, R496); READY is low and PERST_N active. -/
def Blk.powerUp (b : Blk) : Blk := (b.bootFrom 0 0 0 1 true).modPwr (fun p => { p with perstN := false })

/-- POWER_UP (R496). -/
def execPowerUp : State → Host.Outcome State Fault Refusal := onAon Blk.powerUp

/-- A supply below its brown-out level holds every island but AON in reset (R539); set-up values last until the
next boot. -/
def Blk.hold' (b : Blk) (torn : Bool) : Blk := { b.bare torn with regs := b.regs }.modPwr (fun p => { p with down := true })

/-- BROWN_OUT (R539); `torn` where it interrupts a recorder write (R477).  In OFF the logic supplies may be absent
(R537). -/
def execBrownOut (torn : Bool) : State → Host.Outcome State Fault Refusal :=
  onAon (fun b => if b.pwr.pstate = 4 then b else b.hold' torn)

/-- VANA_LOSS (R489, R539): AON stops and watches nothing. -/
def execVanaLoss (torn : Bool) : State → Host.Outcome State Fault Refusal :=
  onAon (fun b => (b.hold' torn).modKey (fun k => { k with live := 0 }))

/-! ## Wake from sleep (R492-R499) -/

/-- The device sleeps or is off. -/
def Blk.asleep (b : Blk) : Bool := b.pwr.pstate == 3 || b.pwr.pstate == 4

/-- Time passes to `ms` ms after t_e (R492, R493). -/
def Blk.sleepTo (b : Blk) (ms : Nat) : Blk :=
  let passed := b.optime - b.pwr.asleepAt
  b.modInv (fun i => { i with jumped := i.jumped - ((ms - passed : Nat) : Int) * 1000000 })

/-- An axis as it wakes (R499): IDLE, HOMED clear, position 0; loop parameters in use are set-up values. -/
def Axis.woken (x : Axis) : Axis := { loop := { use := x.loop.use } }

/-- The GNSS receiver on a warm start, as GNS_RESTART MODE 0 (R499). -/
def Gns.woken (g : Gns) : Gns :=
  { chans := g.chans.map (fun (q : Nat × GChan) => (q.1, if q.2.st = 0 then ({} : GChan)
      else { q.2 with st := 1, lock := 0, low := 0, weak := 0, inTrack := false }))
    timeValid := g.timeValid, clkOff := g.clkOff, clkDrift := g.clkDrift, seq := g.seq, nextSat := g.nextSat
    jPeak := g.jPeak }

/-- Clamp as it wakes (R498): the stop and its epoch go on, faults stay latched (R202), a loop is open until it
qualifies (R179). -/
def Blk.clampWoken (b : Blk) : Blk :=
  let chan : Chan := { stop := true, active := b.clp.a.active, latch := b.clp.a.latch }
  let c := b.clp
  let b1 := b.modClp (fun _ => {
    a := chan, b := chan, s := c.s, sr := c.sr, stopAt := b.elapsed, releaseAt := c.releaseAt, faultCode := c.faultCode
    faultArg := c.faultArg, faultCount := c.faultCount, cf14 := c.cf14, latchedFault := c.latchedFault
    cf05 := c.cf05, lastMix := c.lastMix, suppress := c.suppress
    groups := c.groups.filter (fun (q : Nat × GState) => q.2 == .offFault) })
  (List.range 4).foldl (fun b n =>
    if b.flag (Reg.CLP_ES_CFG n) 0 then (b.setLoop n { active := true }).srcActive n true else b) b1.syncInternal

/-- A wake from sleep at stage RESET (R496, R498, R499). -/
def Blk.wakeSleep (b0 : Blk) (source : Nat) : Blk :=
  let b := b0.clampWoken
  let regs := b.regs.filter (fun p => !decide (0x10000 ≤ p.1 ∧ p.1 < 0x20000))
  let b1 : Blk := { b.flr with
    regs := [], latch := [], heldLo := []
    evr := { b.evr with scanDone := false }
    inv := { ft := b.inv.ft, jumped := b.inv.jumped, storedSec := b.inv.storedSec, secAt := b.inv.secAt
             olderSec := b.inv.olderSec, lanQueue := b.inv.lanQueue }
    axs := { axes := b.axs.axes.map (fun (q : Nat × Axis) => (q.1, q.2.woken)), tables := b.axs.tables }
    air := { b.air with maps := [], next := none, posQueue := [], bcasts := [], waiters := [], sub := {} }
    hdl := { joins := b.hdl.joins, txid := b.hdl.txid }
    gns := b.gns.woken
    pos := { b.pos with filters := [], ready := [], solving := [] }
    pwr := { b.pwr with
      stage := 0, pstate := 1, ready := false, reason := 2, source := source, prev := 3, bootAt := b.elapsed
      wanted := none, saved := regs, keysDue := true, linkUp := false, survey := none, unlocked := 0, noRefclk := false, peakFresh := true } }
  (b1.recordPower 3 1).startSources

/-- A wake from a source takes effect (R493). -/
def Blk.wake (b : Blk) (source : Nat) : Blk :=
  if b.pwr.pstate = 3 then b.wakeSleep source else b.bootFrom 1 source 4 4 true

/-- WAKE_TIMER: WAKE_S s after t_e (R493). -/
def Blk.wakeTimer (b : Blk) : Blk :=
  if b.asleep && b.pwr.wakeS != 0 then (b.sleepTo (b.pwr.wakeS * 1000)).wake 2 else b

/-- WAKE_TIMER (R493). -/
def execWakeTimer : State → Host.Outcome State Fault Refusal := onAon Blk.wakeTimer

/-- PERST_N_DEASSERT, `ms` ms after t_e where the device sleeps (R493, R497). -/
def Blk.perst (b : Blk) (ms : Nat) : Blk :=
  let b1 := (if b.asleep then b.sleepTo ms else b).modPwr (fun p => { p with perstN := true })
  if b.asleep then
    if 20000 ≤ b1.optime - b1.pwr.asleepAt then b1.wake 1 else b1.modPwr (fun p => { p with wanted := some 1 })
  else if b.pwr.entering.isSome then b1.modPwr (fun p => { p with wanted := some (p.wanted.getD 1) })
  else if 3 ≤ b.pwr.stage then b1.modPwr (fun p => { p with linkUp := true })
  else b1

/-- PERST_N_DEASSERT (R493, R497). -/
def execPerstNDeassert (ms : Nat) : State → Host.Outcome State Fault Refusal := onAon (fun b => b.perst ms)

/-- DEFERRED_WAKE: a wake deferred to t_e + 20 s takes effect (R493). -/
def Blk.deferredWake (b : Blk) : Blk :=
  match b.pwr.wanted with
  | some src => if b.asleep then (b.sleepTo 20000).wake src else b
  | none => b

/-- DEFERRED_WAKE (R493). -/
def execDeferredWake : State → Host.Outcome State Fault Refusal := onAon Blk.deferredWake

/-! ## Boot (R495-R499, R507) -/

/-- Stage CLOCKS: PLLs locked; the SRAM cleared and every ROT incremented, unless it was retained (R448). -/
def Blk.bootClocks (b : Blk) : Blk :=
  let b1 := (b.modPwr (fun p => { p with stage := 1, unlocked := 0, noRefclk := false })).modInv (fun i => { i with rcClock := false })
  if b.pwr.reason = 2 then b1
  else b1.modMem (fun m => { m with
    clearDone := true
    banks := (List.range 16).foldl (fun t n => Tab.upd t n {} (fun (k : Bank) => { k with rot := (k.rot + 1) % 8 })) m.banks })

/-- Fleet time restarts at the stored seconds + 10 s (R406), elapsed time running on; OPTIME_WAKE and FT_START of
R511. -/
def Blk.restartTime (b : Blk) : Blk :=
  let ns := (b.inv.storedSec + 10) * 1000000000
  let b1 := b.modInv (fun i => { i with ft := ns * 2 ^ 32, jumped := (ns : Int) - (b.elapsed : Int) })
  b1.modPwr (fun p => { p with optWake := b1.optime, ftStart := b1.nowFt64 })

/-- Stage NVM of a wake from sleep: latched then boot records accepted (R476, R480), the set-up registers restored but
for AIR_CFG.EN and ASSOC_OPEN (R499), the keys of the restarted period held. -/
def Blk.nvmWake (b : Blk) : Blk :=
  let b1 := (b.evr.latched ++ b.evr.boot).foldl Blk.accept
    (b.modEvr (fun e => { e with scanDone := true, latched := [], boot := [], bootDropped := 0 }))
  let b2 : Blk := { b1 with regs := b.pwr.saved }.modPwr (fun p => { p with saved := [] })
  let b3 := (b2.clrFlag Reg.AIR_CFG 0).clrFlag Reg.AIR_CFG 1
  if b3.key.isSealed then b3 else b3.holdKeys

/-- Stage NVM (R406, R478, R480, R524). -/
def Blk.bootNvm (b : Blk) : Blk :=
  let b1 := (b.restartTime.modHst (fun h => { h with
    planes := h.storedPlanes, persistLost := !h.persistValid })).modPwr (fun p => { p with stage := 4 })
  Blk.fixPlanes (if b.pwr.reason = 2 then b1.nvmWake else b1.recorderScan (b.pwr.reason == 1))

/-- Stage UNSEAL: skipped while the tamper latch is set or LOCKOUT is 1, and on a wake from sleep (R496); the power-up
survey begins (R507). -/
def Blk.bootUnseal (i : Ident) (b : Blk) : Blk :=
  let b1 := b.modPwr (fun p => { p with stage := 5 })
  if b.pwr.reason = 2 then b1
  else
    let b2 := if b.key.latch = 0 ∧ b.key.lockout = false then b1.unseal i else b1
    b2.surveyStart none 0x1F 0xFF 0

/-- Stage SERVICE: what WAKE_INFO tells of it (R511), and the report of lost persistent settings (R524). -/
def Blk.bootService (i : Ident) (b : Blk) : Blk :=
  let b1 := b.modPwr (fun p => { p with stage := 7, bootMs := (b.elapsed - p.bootAt) / 1000000 })
  let b2 := b1.modPwr (fun p => { p with causeAtService := b1.readyCause i })
  if b.hst.persistLost then b2.report Reg.HST_MODE 0 0 5 0 (2 ^ 64 - 1) 0 else b2

/-- BOOT_STAGE_ADVANCE, `dt` ns after the last: the next stage's work completes and it is reached (R495, R496). -/
def Blk.bootAdvance (i : Ident) (dt : Nat) (b0 : Blk) : Blk :=
  let b := b0.modInv (fun i => { i with ft := i.ft + 2 ^ 32 * dt })
  match b.pwr.stage with
  | 0 => b.bootClocks
  | 1 => b.modPwr (fun p => { p with stage := 2 })
  | 2 => b.modPwr (fun p => { p with stage := 3, linkUp := p.perstN })
  | 3 => b.bootNvm
  | 4 => b.bootUnseal i
  | 5 => if b.pwr.reason = 2 then b.bootService i
         else if b.pwr.survey.isSome then b else b.modPwr (fun p => { p with stage := 6 })
  | 6 => b.bootService i
  | _ => b0

/-- BOOT_STAGE_ADVANCE (R495), with the reads of MRAM in the stage's work that did not match at first (R451). -/
def execBootStageAdvance (dt : Nat) (reads : List MramRead) : State → Host.Outcome State Fault Refusal :=
  onReadyI (fun i b => if b.pwr.stage = 7 then b else (reads.foldl Blk.mramRead b).bootAdvance i dt)

/-! ## POWER_STATE, SYSTEM_RESTART, WAKE_INFO (R489-R492, R510, R511) -/

/-- The failing conditions of R491. -/
def Blk.restRefusal (b : Blk) : Nat :=
  b2n (!b.stopped) + 2 * b2n (b.hst.ops.length != 1) + 4 * b2n b.pwr.survey.isSome + 8 * b2n b.key.update.isSome
    + 16 * b2n b.inv.step.isSome + 32 * b2n b.evr.clear.isSome + 64 * b2n b.key.lockout

/-- WAKE_S of R491. -/
def wakeSOk (v : Nat) : Bool := v == 0 || (decide (20 ≤ v) && decide (v ≤ 4000000))

/-- DONE with DETAIL, its entry written at once (R492). -/
def Blk.doneWritten (b : Blk) (id : OpId) (detail : Nat) : Blk := (b.done id detail).flushHeld (b.cqOf id.ring)

/-- POWER_STATE (R490-R492). -/
def Blk.powerState (d : Desc) (b : Blk) : Blk :=
  b.checked d [d.chk 0x18 1 (fun v => decide (1 ≤ v ∧ v ≤ 4)), d.gap 0x19 3, d.chk 0x1C 4 wakeSOk] (fun b =>
    let t := d.op 0x18 1
    let w := d.op 0x1C 4
    let rec' := b.recordPower b.pwr.pstate t
    if t ≤ 2 then
      let b1 := rec'.modPwr (fun p => { p with pstate := t })
      (if t = b.pwr.pstate then b1 else b1.degradeNow).done d.id
    else if b.restRefusal ≠ 0 then b.complete d.id 0x21 b.restRefusal
    else (rec'.modPwr (fun p => { p with
        entry := some ⟨t, b.nowFt64, b.optime⟩, entering := some (t, w), wanted := none })).doneWritten d.id w)

/-- POWER_STATE (R491). -/
def execPowerState (d : Desc) : State → Host.Outcome State Fault Refusal := onBlk (fun b => b.start d (Blk.powerState d))

/-- SLEEP_ENTRY_DONE at t_e (R492): staging is committed, the link is down, only AON is powered; a tamper that
qualified meanwhile wakes the device from sleep. -/
def Blk.sleepEntry (b0 : Blk) : Blk :=
  match b0.pwr.entering with
  | none => b0
  | some (t, w) =>
    let b := b0.commitStaged
    let b1 : Blk := if t = 3 then b else { b.bare false with regs := b.regs }
    let b2 := b1.modPwr (fun p => { p with
      stage := 0, pstate := t, ready := false, entering := none, wakeS := w, asleepAt := b.optime, linkUp := false
      perstN := false, wanted := b.pwr.wanted })
    if t = 3 ∧ b.pwr.wanted = some 3 then b2.wake 3 else b2

/-- SLEEP_ENTRY_DONE (R492). -/
def execSleepEntryDone : State → Host.Outcome State Fault Refusal := onAon Blk.sleepEntry

/-- SYSTEM_RESTART (R491, R510). -/
def Blk.sysRestart (d : Desc) (b : Blk) : Blk :=
  if b.restRefusal ≠ 0 then b.complete d.id 0x21 b.restRefusal else (b.doneWritten d.id 0).restart

/-- SYSTEM_RESTART (R510). -/
def execSystemRestart (d : Desc) : State → Host.Outcome State Fault Refusal := onReady (fun b => b.start d (Blk.sysRestart d))

/-- The 64 bytes of WAKE_INFO (R511). -/
def Blk.wakeInfoBytes (b : Blk) : Bytes :=
  let p := b.pwr
  let e : PEntry := p.entry.getD ⟨0, 0, 0⟩
  leBytes 1 p.reason ++ leBytes 1 p.source ++ leBytes 1 p.prev ++ zeros 1 ++ leBytes 4 p.pcc ++ leBytes 8 e.optime
    ++ leBytes 8 p.optWake ++ leBytes 8 e.ft ++ leBytes 8 p.ftStart ++ leBytes 4 p.causeAtService ++ leBytes 4 p.bootMs
    ++ zeros 16

/-- WAKE_INFO (R510, R511). -/
def Blk.wakeInfo (d : Desc) (b : Blk) : Blk :=
  b.checked d [d.gap 0x18 8, d.aligned 0x20 64] (fun b => (b.emit (.hostWrite (d.op 0x20 8) b.wakeInfoBytes)).done d.id)

/-- WAKE_INFO (R511). -/
def execWakeInfo (d : Desc) : State → Host.Outcome State Fault Refusal := onBlk (fun b => b.start d (Blk.wakeInfo d))

/-! ## Tamper (R468-R471) -/

/-- The phase in which a source qualifies (R470, R474): 0 start-up, 1 run, 2 night, 3 sleep, 4 off; between t0 and
t_e that of the target state (R492). -/
def Blk.tamperPhase (b : Blk) : Nat :=
  match b.pwr.entering with
  | some (t, _) => t
  | none =>
    if b.pwr.pstate = 3 then 3
    else if b.pwr.pstate = 4 ∨ b.pwr.down then 4
    else if !b.key.readyOnce then 0
    else b.pwr.pstate

/-- The store sealed, with the internal, air and head keys zeroised (R470, R471). -/
def Blk.sealKeys (b : Blk) : Blk :=
  (b.dropAirKeys.zeroise (fun _ _ => true)).modKey (fun k => { k with
    isSealed := true, site := none, holdAt := none, tampered := false })

/-- The key operations in progress end TAMPER (R470, R471). -/
def Blk.endKeyOps (b : Blk) : Blk :=
  let b1 := b.modKey (fun k => { k with running := [], update := none })
  let b2 := b.key.running.foldl (fun b r => b.keyDone r.d.id St.tamper 0) b1
  match b.key.update with
  | some u => b2.keyDone u.id St.tamper 0
  | none => b2

/-- The reaction in run or night to source `src` (R471): the host keys go at once, with ERASE the store too, the others
AIR_HOLD later. -/
def Blk.tamperRun (b : Blk) (src : Nat) : Blk :=
  let b1 := (b.assertLasting 10 0 0xFF).endKeyOps.zeroise (fun _ _ => true)
  let b2 := b1.modKey (fun k => { k with
    tampered := true, holdAt := if k.isSealed then k.holdAt else some (k.holdAt.getD b.elapsed) })
  let b3 := if bitOf (b.fld Reg.TMP_CFG 13 8) src then
      b2.modKey (fun k => { k with slotA := {}, slotB := {}, store := [] })
    else b2
  b3.modPwr (fun p => { p with survey := p.survey.map (fun s => { s with cut := true }) })

/-- A source is enabled (R468): MESH and ENV always. -/
def Blk.tamperEnabled (b : Blk) (src : Nat) : Bool := src == 0 || src == 5 || bitOf (b.fld Reg.TMP_CFG 5 0) src

/-- An enabled source qualifies (R468): an external one whose input stood at its active level under POL for FILT ms, of
the `held` µs for which it stood at the level `high`. -/
def Blk.tamperQualifies (b : Blk) (src : Nat) (high : Bool) (held : Nat) : Bool :=
  b.tamperEnabled src && (src == 0 || src == 5 ||
    (high != bitOf (b.fld Reg.TMP_EXT_CFG 19 16) (src - 1)
      && decide (b.fld Reg.TMP_EXT_CFG (4 * src - 1) (4 * src - 4) * 1000 ≤ held)))

/-- The latch, first source, phase and count of a qualified source, and its record (R468, R469, R480). -/
def Blk.tamperNoted (b : Blk) (src phase : Nat) : Blk :=
  let b1 := b.modKey (fun k => { k with
    latch := setBit k.latch src, live := setBit k.live src, count := min (k.count + 1) 0xFFFFFFFF
    phase := if k.first = 7 then phase else k.phase, first := if k.first = 7 then src else k.first })
  let args := leBytes 1 src ++ leBytes 1 phase
  if 3 ≤ phase then b1.latchRecord 0x0A01 args else b1.record 0x0A01 args

/-- TAMPER_QUALIFY of source `src`, `ms` ms after t_e where the device sleeps (R468-R471). -/
def Blk.tamperQualify (b0 : Blk) (src ms : Nat) (high : Bool) (held : Nat) : Blk :=
  let b := if b0.asleep then b0.sleepTo ms else b0
  if b.tamperQualifies src high held then
    let ph := b.tamperPhase
    let b1 := b.tamperNoted src ph
    match ph with
    | 0 => (b1.endKeyOps.sealKeys.modKey (fun k => { k with lockout := true })).assertLasting 10 0 0xFF
    | 3 =>
      let b2 := b1.endKeyOps.sealKeys
      if b.pwr.entering.isSome then b2.modPwr (fun p => { p with wanted := some 3 }) else b2.wake 3
    | 4 => b1
    | _ => b1.tamperRun src
  else b0

/-- TAMPER_QUALIFY (R469). -/
def execTamperQualify (src : Fin 6) (ms : Nat) (high : Bool) (held : Nat) : State → Host.Outcome State Fault Refusal :=
  onAon (fun b => b.tamperQualify src.val ms high held)

/-! ## LC_CHANGE (R466, R467) -/

/-- A change of the table of R467. -/
def lcAllowed (old new : LifeCycle) : Bool :=
  match old, new with
  | .scrapped, _ => false
  | _, .scrapped => true
  | .manuf, .field => true
  | .field, .field => true
  | .field, .rma => true
  | .rma, .field => true
  | _, _ => false

/-- The key that checks the response to a change; none where no response is checked (R467). -/
def Blk.lcKey (b : Blk) (i : Ident) (new : LifeCycle) : Option Bytes :=
  if new = .scrapped then none
  else if i.lc = .field ∧ new = .field then (b.entry0 i).map b.kTa
  else some (b.kLca i)

/-- What refuses an LC_CHANGE, as STATUS and DETAIL (R467); none where it is accepted. -/
def Blk.lcRefusal (b : Blk) (i : Ident) (d : Desc) : Option (Nat × Nat) :=
  let code := d.op 0x18 1
  if !b.stopped then some (St.denied, 0)
  else if b.key.update.isSome then some (St.busy, 0)
  else match LifeCycle.ofCode code with
    | none => some (St.keyLcTarget, i.lc.code)
    | some new =>
      if !lcAllowed i.lc new ∨ (i.lcCount = 63 ∧ new ≠ .scrapped) then some (St.keyLcTarget, i.lc.code)
      else match b.lcKey i new with
        | none => none
        | some k =>
          if b.authentic 0 k (b.u8 ++ leBytes 1 code ++ leBytes 1 i.lcCount) (slice d.bytes 0x20 16) then none
          else some (St.keyAuthFail, 0)

/-- A refused LC_CHANGE completes (R467). -/
def Blk.lcRefused (i : Ident) (d : Desc) : Blk → Blk :=
  Blk.keyOp i d [d.gap 0x19 7] (fun b =>
    match b.lcRefusal i d with
    | some (st, detail) => if st = St.keyAuthFail then b.authFail d.id 0 else b.keyDone d.id st detail
    | none => b)

/-- The LC_CHANGE runs now and is accepted: no FENCE holds it, it is well formed, KEY may run it, and R467 accepts it. -/
def Blk.lcAccepted (b : Blk) (i : Ident) (d : Desc) : Option LifeCycle :=
  if (b.enter d.id d.fence).fenceBlocked d || d.headerFault.isSome || !(d.gap 0x19 7).1
      || (b.keyBar i 0x080C).isSome || (b.lcRefusal i d).isSome then none
  else LifeCycle.ofCode (d.op 0x18 1)

/-- The fuses after a change (R467): SCRAPPED at LC_COUNT 63 leaves the count. -/
def Ident.change (i : Ident) (new : LifeCycle) : Ident :=
  { lc := new, lcCount := if i.lcCount = 63 then 63 else i.lcCount + 1 }

/-- An accepted LC_CHANGE (R467): DONE first, then every key destroyed, the record, and the restart; the tamper latch
clears (R468). -/
def Blk.lcDone (i : Ident) (d : Desc) (new : LifeCycle) (b : Blk) : Blk :=
  let b1 := b.start d (fun b => ((b.useChallenge 0).keyDone d.id St.done 0).flushHeld (b.cqOf d.id.ring))
  let b2 := b1.dropAirKeys.modKey (fun k => { k with
    slotA := {}, slotB := {}, store := [], site := none, cache := [], isSealed := true, latch := 0, first := 7, phase := 0
    holdAt := none })
  let b3 := b2.record 0x0A04 (leBytes 1 i.lc.code ++ leBytes 1 new.code ++ leBytes 1 (i.change new).lcCount)
  b3.restart

/-- LC_CHANGE (R467). -/
def execLcChange (d : Desc) (s : State) : Host.Outcome State Fault Refusal :=
  .next (if s.blk.powered then
      match s.blk.lcAccepted s.ident d with
      | some new =>
        { s with blk := (s.blk.lcDone s.ident d new).syncReady (s.ident.change new), ident := s.ident.change new }
      | none => { s with blk := (s.blk.lcRefused s.ident d).syncReady s.ident }
    else s)

end Sys2Proof.Machine
end

