-- ==== Sys2Proof/Machine/Queue.lean ====
section
/-! DEFINITION. Sys2Proof/Machine/Queue.lean: the commands of the internal queues (R429-R441): grants of
waiting reservations, pops, marks, binding and flushing. -/

namespace Sys2Proof.Machine

open Sys2Proof

/-! ## Waiting reservations (R432) -/

/-- The oldest open item of a list committed with what its producer wrote. -/
def commitOldestOpen : List Item → List Item
  | [] => []
  | i :: rest =>
    if i.isOpen then { i with isOpen := false, words := itemWords i.data.length, written := 0 } :: rest
    else i :: commitOldestOpen rest

/-- The first waiting reservation granted if it fits after committed items are discarded. -/
def Blk.grantOne (b : Blk) (n : Nat) : Blk :=
  let q := b.queue n
  let cap := b.queueCap n
  match q.waiting with
  | [] => b
  | w :: rest =>
    let r := makeRoom q.items.length q.items w.words cap
    let q1 := { q with items := r.1 }.moveRd r.2.2 cap
    let b1 := if r.2.1 = 0 then b else b.bump (Reg.QUE_Q_LOST_COUNT n) r.2.1
    if usedWords r.1 + w.words ≤ cap then
      b1.setQueue n ({ q1 with waiting := rest }.append w.typ w.flags w.data cap)
    else b1.setQueue n q1

/-- RESERVATION_GRANT: the oldest open item of the queue commits, and the waiting reservations are
granted in the order in which they were requested (R432). -/
def Blk.grantWaiting (b0 : Blk) (n : Nat) : Blk :=
  let b := b0.checkQueue n
  let q := b.queue n
  let b1 := b.setQueue n (q.packed (commitOldestOpen q.items) (b.queueCap n))
  (List.range q.waiting.length).foldl (fun b _ => b.grantOne n) b1

/-- RESERVATION_GRANT (R432). -/
def execReservationGrant (q : Queue64) : State → Host.Outcome State Fault Refusal :=
  onIsland .mem (fun b => b.grantWaiting q.val)

/-! ## The register pop (R434) -/

/-- A popped header word: LEN, TYPE and FLAGS (R452). -/
def popHeader (len typ flags : Nat) : Word := word (len * 2 ^ 16 + typ * 2 ^ 8 + flags)

/-- Queue `n` popped into the read window while its producers hold `opens` open (R433, R434): an open item holds back
every later one. -/
def Blk.pop (b0 : Blk) (n : Nat) (opens : List OpenItem) : Blk :=
  let b := (b0.checkQueue n).queueEdge n opens
  let q := b.queue n
  let idle (flags : Nat) : Blk :=
    { b with mem := { b.mem with popHdr := popHeader 0 0 flags, popSeq := q.nextSeq, popData := [] } }
  if q.bound.isSome then idle 1
  else match q.items with
    | i :: rest =>
      if i.isOpen then idle 0
      else
        let b1 := b.setQueue n ({ q with items := rest }.moveRd i.words (b.queueCap n))
        { b1 with mem := { b1.mem with
          popHdr := popHeader i.data.length i.typ i.flags, popSeq := i.seq
          popData := if i.typ = 0xFF then [] else i.data } }
    | [] => idle 0

/-- QUEUE_POP: a write of QUE_RD_CTL (R434). -/
def execQueuePop (w : Word) (opens : List OpenItem) : State → Host.Outcome State Fault Refusal :=
  onIsland .mem (fun b => if b.inSvc then b.pop (fieldOf w 5 0) opens else b)

/-! ## Marks (R439) -/

/-- The payload of a MARK item (R439). -/
def markPayload (e : Effect) (t : Nat) : Bytes :=
  leBytes 4 (le e.ops 0 4) ++ zeros 4 ++ leBytes 8 e.epoch ++ leBytes 8 t

/-- One mark applied: its item is written where the queue is enabled, and it counts as applied. -/
def Blk.applyMark (b : Blk) (e : Effect) : Blk :=
  (b.produce e.obj 0x30 (markPayload e b.nowFt64)).applied e false

/-- QUEUE_MARK_APPLY at instant `t`: every mark whose effect time has come, in epoch order (R43, R439). -/
def Blk.applyMarks (b0 : Blk) (t : Nat) : Blk :=
  let b := b0.moveTo t
  (b.fleet.effects.filter (fun e => e.dest == .mem && decide (e.t ≤ b.now))).foldl Blk.applyMark b

/-- QUEUE_MARK_APPLY (R439). -/
def execQueueMarkApply (t : Nat) : State → Host.Outcome State Fault Refusal := onIsland .mem (fun b => b.applyMarks t)

/-! ## Binding, unbinding and flushing (R440, R441) -/

/-- QUEUE_BIND (R440). -/
def Blk.queueBind (d : Desc) (b : Blk) : Blk :=
  let n := d.op 0x18 1
  let cq := d.op 0x19 1
  let log2 := d.op 0x1A 1
  let addr := d.op 0x20 8
  if 64 ≤ n then b.bad d.id 0x09 0x18
  else if 128 ≤ cq then b.bad d.id 0x09 0x19
  else if log2 < 12 ∨ 24 < log2 then b.bad d.id 0x0B 0x1A
  else if !allZero d.bytes 0x1B 5 then b.bad d.id 0x04 0x1B
  else if addr % 2 ^ log2 ≠ 0 then b.bad d.id 0x0B 0x20
  else match (b.queue n).bound with
    | some bd => b.complete d.id 0x20 bd.cq
    | none =>
      if !b.isCq cq || (b.ring cq).state != .run || (b.hst.planes && !([1, 3, 5].contains cq)) then
        b.complete d.id 0x22 cq
      else if !b.queueOn n then b.complete d.id 0x23 n
      else (b.setQueue n { b.queue n with bound := some { cq := cq, log2 := log2, addr := addr } }).done d.id

/-- QUEUE_BIND (R440). -/
def execQueueBind (d : Desc) : State → Host.Outcome State Fault Refusal :=
  onIsland .mem (fun b => b.start d (Blk.queueBind d))

/-- QUEUE_UNBIND (R440). -/
def Blk.queueUnbind (d : Desc) (b : Blk) : Blk :=
  let n := d.op 0x18 1
  if 64 ≤ n then b.bad d.id 0x09 0x18
  else match (b.queue n).bound with
    | none => b.complete d.id 0x21 0
    | some bd => (b.setQueue n { b.queue n with bound := none }).done d.id bd.delivered

/-- QUEUE_UNBIND (R440). -/
def execQueueUnbind (d : Desc) : State → Host.Outcome State Fault Refusal :=
  onIsland .mem (fun b => b.start d (Blk.queueUnbind d))

/-- QUEUE_FLUSH at an edge at which the producers hold `opens` open: the committed items of the queues in the mask are
discarded, summed in DETAIL (R435, R440). -/
def Blk.queueFlush (d : Desc) (opens : List QueueOpen) (b0 : Blk) : Blk :=
  let b := opens.foldl (fun (b' : Blk) o => b'.queueEdge o.q.val o.items) b0
  let qs := (List.range 64).filter (bitOf (d.op 0x18 8))
  let n := (qs.map (fun k => (committed (b.queue k).items).length)).sum
  (qs.foldl (fun b k => (b.checkQueue k).flushQueue k) b).done d.id (min n 0xFFFFFFFF)

/-- QUEUE_FLUSH (R435, R440). -/
def execQueueFlush (d : Desc) (opens : List QueueOpen) : State → Host.Outcome State Fault Refusal :=
  onIsland .mem (fun b => b.start d (Blk.queueFlush d opens))

end Sys2Proof.Machine
end

