-- ==== Sys2Proof/Machine/System.lean ====
section
/-! DEFINITION. Sys2Proof/Machine/System.lean: writes of the set-up registers field by field, with the conditions and
effects of each (R132, R168, R203, R288, R311, R341-R344, R363, R368, R429, R444, R468, R519), the two ways of reading a
register that change state (R516, R517), and the monitoring of supplies, temperatures and memory (R446, R527-R529,
R539). -/

namespace Sys2Proof.Machine

open Sys2Proof

/-! ## Fields with a condition -/

/-- The RW fields applied under one condition, and the W1C bits cleared. -/
def Blk.writeFields (b : Blk) (off : Nat) (w : Word) (fs : List FieldDesc) (cond : Blk → FieldDesc → Bool) : Blk :=
  (b.applyFields off w cond fs).clearW1c off w fs

/-- No condition. -/
def always (_ : Blk) (_ : FieldDesc) : Bool := true

/-- One whole field of 32 bits with a range of its own. -/
def wordField (rng : FieldRange) : List FieldDesc := [⟨31, 0, .rw, rng, ""⟩]

/-! ## HST (R132, R161, R168) -/

/-- The fields of a register that the ring's role leaves without meaning, stored (R168). -/
def Blk.storeFields (b : Blk) (off : Nat) (w : Word) (fs : List FieldDesc) : Blk :=
  (fs.filter (fun f => f.acc = .rw)).foldl (fun b f => b.storeField off f w) b

/-- A write of a register of ring `n`, `rel` from its first. -/
def Blk.writeRing (b : Blk) (n rel off : Nat) (w : Word) (fs : List FieldDesc) : Blk :=
  match rel with
  | 0x08 => b.writeRcfg n w
  | 0x0C =>
    if b.isCq n then b.storeFields off w fs
    else b.writeFields off w fs (fun b f =>
      f.hi != 14 || ((b.ring n).state == .off && !(b.hst.planes && decide (n < 6))))
  | 0x10 => if b.isCq n then b.writeFields off w fs always else b.storeFields off w fs
  | 0x1C => b.writeFields off (if b.isCq n then w &&& 0x10 else w) fs always
  | 0x00 => b.writeFields off w fs (fun b _ => (b.ring n).state == .off)
  | 0x04 => b.writeFields off w fs (fun b _ => (b.ring n).state == .off)
  | _ => b.writeFields off w fs always

/-- A write to the HST block. -/
def Blk.writeHst (b : Blk) (off : Nat) (w : Word) (fs : List FieldDesc) : Blk :=
  if off = Reg.HST_MODE then b.writeMode w
  else if 0x11000 ≤ off then b.writeRing ((off - 0x11000) / 0x40) ((off - 0x11000) % 0x40) off w fs
  else b.writeFields off w fs always

/-! ## CLP (R176, R178, R203) -/

/-- HB_EN and the loops' EN taken up after a write: the first heartbeat counts from HB_EN (R176), a loop enabled while a
circuit is open stops the site (R173). -/
def Blk.clpWritten (old b : Blk) (off : Nat) : Blk :=
  if off = Reg.CLP_SRC_CFG then
    if !old.flag off 2 && b.flag off 2 then b.modClp (fun c => { c with hbSeq := none, hbAt := b.elapsed }) else b
  else if 0x40040 ≤ off ∧ off < 0x40050 then
    let n := (off - 0x40040) / 4
    let l := b.loopOf n
    if !old.flag off 0 && b.flag off 0 && !(l.closedA && l.closedB) then b.loopSource n else b
  else if off = Reg.CLP_CMON_CFG 0 ∨ off = Reg.CLP_CMON_CFG 1 then b.noteCmonCfg old
  else b

/-- A register marked (S) (R203). -/
def stopOnly (off : Nat) : Bool :=
  decide (0x4001C ≤ off ∧ off < 0x4002C) || decide (0x40040 ≤ off ∧ off < 0x40050)
    || decide (0x40060 ≤ off ∧ off < 0x40080)

/-- A write to the CLP block. -/
def Blk.writeClp (b : Blk) (off : Nat) (w : Word) (fs : List FieldDesc) : Blk :=
  if off = Reg.CLP_STOP_REQ then b.writeStopReq w
  else if off = Reg.CLP_HB then b.writeHb w
  else b.clpWritten (b.writeFields off w fs (fun b _ => !stopOnly off || b.stopped)) off

/-! ## GNS, POS, AIR (R205, R266, R288, R291, R311, R499) -/

/-- A write to the GNS block: the configuration takes effect at the next update of what it configures (R219, R238). -/
def Blk.writeGns (b : Blk) (off : Nat) (w : Word) (fs : List FieldDesc) : Blk := b.writeFields off w fs always

/-- A write to the POS block: a member leaving MODE 0 and 2 loses its filter (R249); a change of RATE or MODE reaches it
in SCHED (R291). -/
def Blk.writePos (b : Blk) (off : Nat) (w : Word) (fs : List FieldDesc) : Blk :=
  let b1 := b.writeFields off w fs always
  if 0x61000 ≤ off then
    let mix := (off - 0x61000) / 4
    let b2 := if b.solved mix && !b1.solved mix then b1.clearFilter mix else b1
    if (b.posMode mix != b1.posMode mix || b.fld off 1 0 != b1.fld off 1 0) && (b.member mix).state != .absent
        && (b.member mix).state != .evicted then
      b2.sendSched mix
    else b2
  else b1

/-- KEY elements with the keys of the present and next periods to every associated member (R499). -/
def Blk.sendDueKeys (b : Blk) : Blk :=
  match b.keyElem [b.keyPeriod, (b.keyPeriod + 1) % 2 ^ 32] with
  | none => b
  | some e => (List.range 128).foldl (fun b mix =>
      if (b.member mix).state = .absent ∨ (b.member mix).state = .associating then b else b.pushElem mix e)
      (b.modPwr (fun p => { p with keysDue := false }))

/-- A write to the AIR block. -/
def Blk.writeAir (b : Blk) (off : Nat) (w : Word) (fs : List FieldDesc) : Blk :=
  if off = Reg.AIR_CFG then
    let b1 := b.writeFields off w fs always
    if b1.flag off 0 && b1.pwr.keysDue then b1.sendDueKeys else b1
  else if off = Reg.AIR_ADDR_CFG then
    b.writeFields off w fs (fun b _ => (List.range 128).all (fun m => (b.member m).state == .absent))
  else if off = Reg.AIR_SUB_CFG then b.writeFields off w fs (fun b _ => !b.flag Reg.AIR_CFG 0)
  else if 0x70040 ≤ off ∧ off < 0x70060 then
    b.writeFields off w fs (fun b f => f.hi == 15 || !b.flag off 15)
  else b.writeFields off w fs always

/-! ## AXS and CTL (R341-R344, R363, R368) -/

/-- The highest VMAX an axis with step outputs may have (R342): the step rate, the lower of 4 MHz and
1 / (2 × STEP_W), in axis units. -/
def Blk.vmaxLimit (b : Blk) (n : Nat) : Nat :=
  let sw := b.fld (Reg.AXS_AX_IO_CFG n) 31 24
  let r := Reg.AXS_AX_STEP_RATIO n
  match b.axMode n with
  | 1 => min 20000000 (min 4000000 (20000000 / sw))
  | 2 => max 1 (min 20000000
      (min (4000000 * b.fld r 15 0 / b.fld r 31 16) (20000000 * b.fld r 15 0 / (sw * b.fld r 31 16))))
  | _ => 20000000

/-- An SSI transfer fits in half a sample period (R344): `bits` + 1 clock periods, the period 4 µs / 2^`clk`. -/
def Blk.ssiFits (b : Blk) (n bits clk : Nat) : Bool :=
  decide (2 * (bits + 1) * (4000 / 2 ^ clk) ≤ b.axPeriod n)

/-- The condition of a field of IO_CFG (R341, R344): `w` is the word written. -/
def Blk.ioOk (b : Blk) (n : Nat) (w : Word) (f : FieldDesc) : Bool :=
  let off := Reg.AXS_AX_IO_CFG n
  b.axWritable n true &&
    (match f.hi with
    | 13 => b.ssiFits n (b.fld off 5 0) (fieldOf w 13 12)
    | 5 => b.ssiFits n (fieldOf w 5 0) (b.fld off 13 12)
    | _ => true)

/-- An input of axis `n` with EN 0 is inactive (R345). -/
def Blk.dropInputs (b : Blk) (n : Nat) : Blk :=
  (List.range 3).foldl (fun b w => if b.flag (Reg.AXS_AX_IN_CFG n) w then b else b.modIo n (fun i => i.setInput w false)) b

/-- A write of a register of axis `n`, `rel` from its first. -/
def Blk.writeAxis (b : Blk) (n rel off : Nat) (w : Word) (fs : List FieldDesc) : Blk :=
  let motion (rng : FieldRange) : Blk := b.writeFields off w (wordField rng) (fun b _ => b.axWritable n false)
  match rel with
  | 0x00 =>
    let fs' := if b.hst.planes && 16 ≤ n then fs.map (fun f => if f.lo = 0 then { f with rng := .num 0 0 } else f) else fs
    (b.writeFields off w fs' (fun b _ => b.axWritable n true)).modeChanged n (b.axMode n)
  | 0x04 => motion (.num 1 (b.vmaxLimit n))
  | 0x08 => b.writeFields off w fs (fun b _ => b.axWritable n false)
  | 0x0C => b.writeFields off w fs (fun b _ => b.axWritable n false)
  | 0x10 => b.writeFields off w fs (fun b _ => b.axWritable n false)
  | 0x1C => motion (.int (-2147483647) (b.reg (Reg.AXS_AX_SOFT_MAX n)).toInt)
  | 0x20 => motion (.int (b.reg (Reg.AXS_AX_SOFT_MIN n)).toInt 2147483647)
  | 0x24 => b.writeFields off w fs (fun b f => b.ioOk n w f)
  | 0x28 => (b.writeFields off w fs always).dropInputs n
  | 0x4C => b.writeFields off w fs (fun b _ => b.axWritable n true)
  | _ => b.writeFields off w fs always

/-- The source channel of master `m` is an encoder (R363). -/
def Blk.masterOk (b : Blk) (m : Nat) : Bool :=
  let k := b.encKind (b.fld (Reg.AXS_MASTER_CFG m) 5 0)
  k == 1 || k == 2

/-- A write of AXS_MASTERm_CFG: EN is clamped to 0 while the source is no encoder (R363). -/
def Blk.writeMaster (b : Blk) (m : Nat) (w : Word) : Blk :=
  let off := Reg.AXS_MASTER_CFG m
  let drop (b : Blk) : Blk := (b.clrFlag off 31).report off 31 31 3 0 1 0
  let b1 := if w.getLsbD 31 then (if b.masterOk m then b.setFlag off 31 else drop b) else b.clrFlag off 31
  let b2 := b1.applyField off ⟨5, 0, .rw, .num 0 47, "SRC"⟩ w true
  if b2.flag off 31 && !b2.masterOk m then drop b2 else b2

/-- The 48-bit mask of group `g` with the half at `off` replaced by `v`. -/
def Blk.maskWith (b : Blk) (g : Nat) (hiHalf : Bool) (v : Nat) : Nat :=
  if hiHalf then (b.reg (Reg.AXS_GRP_MASK_LO g)).toNat + v % 2 ^ 16 * 2 ^ 32
  else v + (b.reg (Reg.AXS_GRP_MASK_HI g)).toNat * 2 ^ 32

/-- A write to the AXS block. -/
def Blk.writeAxs (b : Blk) (off : Nat) (w : Word) (fs : List FieldDesc) : Blk :=
  if 0x91000 ≤ off ∧ off < 0x92800 then b.writeAxis ((off - 0x91000) / 0x80) ((off - 0x91000) % 0x80) off w fs
  else if 0x90040 ≤ off ∧ off < 0x90080 then
    let g := (off - 0x90040) / 8
    b.writeFields off w fs (fun b _ => b.maskOk g (b.maskWith g (off % 8 == 4) w.toNat))
  else if off = Reg.AXS_MASTER_CFG 0 then b.writeMaster 0 w
  else if off = Reg.AXS_MASTER_CFG 1 then b.writeMaster 1 w
  else b.writeFields off w fs always

/-- A write to the CTL block. -/
def Blk.writeCtl (b : Blk) (off : Nat) (w : Word) (fs : List FieldDesc) : Blk :=
  if 0xA1000 ≤ off ∧ (off - 0xA1000) % 0x80 = 0 then b.writeCtlCfg ((off - 0xA1000) / 0x80) w
  else b.writeFields off w fs always

/-! ## HDL, INV (R326, R405, R416, R419-R422) -/

/-- A write to the HDL block. -/
def Blk.writeHdl (b : Blk) (off : Nat) (w : Word) (fs : List FieldDesc) : Blk :=
  if 0x81000 ≤ off ∧ (off - 0x81000) % 0x40 = 0x1C then b.writeHeadCtl ((off - 0x81000) / 0x40) w
  else b.writeFields off w fs always

/-- A write to the INV block: the LO half of a pair applied on its HI write is held (R516). -/
def Blk.writeInv (b : Blk) (off : Nat) (w : Word) (fs : List FieldDesc) : Blk :=
  if off = Reg.INV_INC_LO ∨ off = Reg.INV_UTC_OFF_LO then b.holdLo off w
  else if off = Reg.INV_INC_HI then b.writeInc w
  else if off = Reg.INV_UTC_OFF_HI then b.writeUtc w
  else if off = Reg.INV_HOST_OFF then b.writeHostOff w
  else if off = Reg.INV_LAN_CFG 0 then b.writeLanCfg 0 w
  else if off = Reg.INV_LAN_CFG 1 then b.writeLanCfg 1 w
  else if 0xB0100 ≤ off ∧ (off - 0xB0100) % 0x10 = 0 then b.writeCmpCfg ((off - 0xB0100) / 0x10) w
  else b.writeFields off w fs always

/-! ## QUE and MEM (R429, R432, R444) -/

/-- A region of `size` KiB from `base` may be queue `n`'s (R429): inside the pool, clear of every other enabled one. -/
def Blk.regionFree (b : Blk) (n base size : Nat) : Bool :=
  decide (base + size ≤ 256) && (List.range 64).all (fun k =>
    k == n || !b.queueOn k ||
      (let c := Reg.QUE_Q_CFG k
       decide (base + size ≤ b.fld c 23 16 ∨ b.fld c 23 16 + b.fld c 6 0 ≤ base)))

/-- The condition of a field of QUE_Qn_CFG (R429). -/
def Blk.queueCfgOk (b : Blk) (n : Nat) (w : Word) (f : FieldDesc) : Bool :=
  let off := Reg.QUE_Q_CFG n
  let q := b.queue n
  q.bound.isNone && q.items.isEmpty && q.waiting.isEmpty &&
    (match f.hi with
    | 31 => !w.getLsbD 31 || b.regionFree n (b.fld off 23 16) (b.fld off 6 0)
    | 23 => b.regionFree n (fieldOf w 23 16) (b.fld off 6 0)
    | _ => b.regionFree n (b.fld off 23 16) (clampNat 1 64 (fieldOf w 6 0)))

/-- A write of QUE_Qn_CFG: it clears TOO_SMALL, and SEQ starts at 0 when the queue is enabled (R430, R453). -/
def Blk.writeQueueCfg (b : Blk) (n : Nat) (w : Word) (fs : List FieldDesc) : Blk :=
  let off := Reg.QUE_Q_CFG n
  let b1 := b.writeFields off w fs (fun b f => b.queueCfgOk n w f)
  let b2 := b1.setQueue n { b1.queue n with tooSmall := false }
  if !b.queueOn n && b2.queueOn n then b2.setQueue n {} else b2

/-- The regions may be written (R444): no map in service, AIR_CFG.EN 0, every axis DISABLED. -/
def Blk.regionsOpen (b : Blk) : Bool :=
  !b.inService && !b.flag Reg.AIR_CFG 0 && (List.range 48).all (fun n => b.axMode n == 0)

/-- A write to the QUE and MEM blocks: LAST is at least BASE (R453). -/
def Blk.writeQueMem (b : Blk) (off : Nat) (w : Word) (fs : List FieldDesc) : Blk :=
  if off = Reg.QUE_RD_CTL then b.pop (fieldOf w 5 0) (b.queue (fieldOf w 5 0)).opens
  else if 0xC8100 ≤ off then
    if (off - 0xC8100) % 8 = 4 then
      b.writeFields off w [⟨31, 31, .rw, .any, "R"⟩, ⟨30, 30, .rw, .any, "W"⟩,
        ⟨12, 0, .rw, .num (b.fld (off - 4) 12 0) 6143, "LAST"⟩] (fun b _ => b.regionsOpen)
    else b.writeFields off w fs (fun b _ => b.regionsOpen)
  else if 0xC0100 ≤ off ∧ off < 0xC0500 ∧ off % 0x10 = 0 then b.writeQueueCfg ((off - 0xC0100) / 0x10) w fs
  else b.writeFields off w fs always

/-! ## TMP (R468) -/

/-- A write of TMP_CFG: EN bits 0 and 5 are always 1, and with entry 0 of the store present no EN bit may be cleared. -/
def Blk.writeTmpCfg (b : Blk) (w : Word) : Blk :=
  let off := Reg.TMP_CFG
  let b1 := b.applyFields off w always [⟨31, 24, .rw, .num 20 255, "AIR_HOLD"⟩, ⟨13, 8, .rw, .any, "ERASE"⟩]
  let req := fieldOf w 5 0
  let old := b1.fld off 5 0
  if b1.key.store.any (fun p => p.1 == 0) && (old &&& req) != old then
    b1.report off 5 0 3 0 req old
  else
    let v := req ||| 0x21
    let b2 := b1.setReg off (setField (b1.reg off) 5 0 v)
    if v = req then b2 else b2.report off 5 0 1 0 req v

/-! ## REGISTER_WRITE (R514, R515, R517, R519) -/

/-- A write of word `w` to the register at `off`, by the block it lies in. -/
def Blk.writeReg (b : Blk) (off : Nat) (w : Word) : Blk :=
  match regDescAt off with
  | none => b
  | some (d, _) =>
    match off / 0x10000 with
    | 1 => b.writeHst off w d.fields
    | 4 => b.writeClp off w d.fields
    | 5 => b.writeGns off w d.fields
    | 6 => b.writePos off w d.fields
    | 7 => b.writeAir off w d.fields
    | 8 => b.writeHdl off w d.fields
    | 9 => b.writeAxs off w d.fields
    | 10 => b.writeCtl off w d.fields
    | 11 => b.writeInv off w d.fields
    | 12 => b.writeQueMem off w d.fields
    | 13 => if off = Reg.TMP_CFG then b.writeTmpCfg w else b.writeFields off w d.fields always
    | _ => b.writeFields off w d.fields always

/-- REGISTER_WRITE of one DW: nothing before SERVICE (R497); counted and ignored where a byte enable is clear (R515). -/
def Blk.registerWrite (b : Blk) (off : Nat) (w : Word) (full : Bool) : Blk :=
  if b.inSvc then (if full then b.writeReg off w else b.bump Reg.SYS_ACC_ERR_COUNT) else b

/-- REGISTER_WRITE (R519). -/
def execRegisterWrite (off : Nat) (w : Word) (full : Bool) : State → Host.Outcome State Fault Refusal :=
  onReady (fun b => b.registerWrite off w full)

end Sys2Proof.Machine
end

