-- ==== Sys2Proof/Machine/Flags.lean ====
section
/-! DEFINITION. Sys2Proof/Machine/Flags.lean: what every status register reads, from the field maps of the chapters (R67,
R120, R126, R165-R168, R204, R238, R267, R312, R337, R382, R402, R428, R453, R474, R488, R526, R528), and the levels of
the status lands (R171, R411, R489, R500, R501). -/

namespace Sys2Proof.Machine

open Sys2Proof

/-- A register word of fields, each a value with its lowest bit. -/
def pack (fs : List (Nat × Nat)) : Word := word ((fs.map (fun f => f.1 * 2 ^ f.2)).sum)

/-- The low `n` bits of a signed field. -/
def sbits (n : Nat) (v : Int) : Nat := (v % 2 ^ n).toNat

/-- The half at an offset whose bit 2 says LO (0) or HI (1) of a 48-bit mask over axes. -/
def axisMask (p : Nat → Bool) (hi : Bool) : Word :=
  let m := maskOf 48 p
  word (if hi then m / 2 ^ 32 else m)

/-! ## Lands -/

/-- The status lands follow CLP and INV in RUN and NIGHT; AON drives them otherwise (R489, R539). -/
def Blk.landStopped (b : Blk) : Bool := !b.powered || b.stopped
/-- READY (R500). -/
def Blk.landReady (b : Blk) : Bool := b.powered && b.pwr.ready
/-- FAULT_N: low is false (R171, R501). -/
def Blk.landFaultN (b : Blk) (i : Ident) : Bool :=
  !b.powered || (b.clp.faultCode == 0 && b.readyCause i &&& 0xF5 == 0)
/-- TQ (R411). -/
def Blk.landTq (b : Blk) : Bool := b.powered && b.tq

/-! ## SYS, HST -/

/-- SYS (R525, R526). -/
def Blk.readSys (b : Blk) (i : Ident) (off : Nat) : Word :=
  match off with
  | 0x08 => word b.uid.toNat
  | 0x0C => word (b.uid.toNat / 2 ^ 32)
  | 0x10 => pack [(b.pwr.reason, 16), (b.pwr.pstate, 8), (b.pwr.stage, 0)]
  | 0x14 => word (b.readyCause i)
  | 0x18 => word b.pwr.pcc
  | 0x1C => word b.optime
  | 0x34 => pack [(b2n b.hst.persistLost, 1), (b.hst.persistActive, 0)]
  | _ => b.reg off

/-- A status register of ring `n` (R168). -/
def Blk.readRing (b : Blk) (n rel off : Nat) : Word :=
  let r := b.ring n
  match rel with
  | 0x1C => b.reg off ||| pack [(b2n (b.isCq n && r.armed), 7), (b2n (b.isCq n && r.phase), 6),
      (b2n (r.partialNeed != 0), 5), (r.state.code, 0)]
  | 0x20 => word r.head
  | 0x24 => word r.tail
  | 0x28 => word (if b.isCq n then b.cqF n else (b.hst.ops.filter (fun o => o.id.ring == n)).length)
  | _ => b.reg off

/-- HST (R166-R168). -/
def Blk.readHst (b : Blk) (off : Nat) : Word :=
  if 0x11000 ≤ off then b.readRing ((off - 0x11000) / 0x40) ((off - 0x11000) % 0x40) off
  else match off with
    | 0x10000 =>
      let err := (List.range 128).any (fun n => (b.ring n).state == .error || b.flag (Reg.HST_RSTATUS n) 4)
      pack [(b2n err, 1), (b2n b.hst.planes, 0)]
    | 0x10004 => word (b2n b.hst.planes)
    | 0x10008 => word b.hst.ops.length
    | _ => b.reg off

/-! ## DVT, MAP, CLP -/

/-- DVT (R120, R126). -/
def Blk.readDvt (b : Blk) (off : Nat) : Word :=
  match off with
  | 0x20000 => pack [(b2n !b.dvt.deferred.isEmpty, 2), (b2n !b.dvt.admission.isEmpty, 1), (b2n b.dvt.frozen, 0)]
  | 0x2002C => pack [((b.dvt.waits.filter (fun w => w.onEpoch)).length, 16),
      ((b.dvt.waits.filter (fun w => !w.onEpoch)).length, 0)]
  | 0x20030 => word b.deferCount
  | _ => b.reg off

/-- MAP (R67). -/
def Blk.readMap (b : Blk) (off : Nat) : Word :=
  match off with
  | 0x30000 => pack [(b2n !b.fleet.snaps.isEmpty, 2), (b2n b.fleet.shadow.isSome, 1), (b2n b.inService, 0)]
  | 0x30004 => word (match b.fleet.map with | some m => m.id | none => 0)
  | 0x30008 => word b.fleet.gen
  | 0x30010 => word b.fleet.epoch
  | 0x3001C => word b.fleet.effects.length
  | _ => b.reg off

/-- CLP_STATUS (R204). -/
def Blk.clpStatus (b : Blk) : Word :=
  let c := b.clp
  pack [(c.lastMix, 24), (b2n c.suppress, 8), (b2n (c.faultCode != 0), 7), (b2n (b.stopped && b.releaseBlock == 0), 6),
    (b2n ((List.range 12).any (fun g => b.group g == .ramp)), 5),
    (b2n ((List.range 12).any (fun g => b.group g == .offFault)), 4), (b2n c.b.stop, 2), (b2n c.a.stop, 1),
    (b2n b.stopped, 0)]

/-- CLP (R204). -/
def Blk.readClp (b : Blk) (off : Nat) : Word :=
  let c := b.clp
  match off with
  | 0x40000 => b.clpStatus
  | 0x40004 => word (c.a.active ||| c.b.active)
  | 0x40008 => word (c.a.latch ||| c.b.latch)
  | 0x4000C => word c.s
  | 0x40018 => 0
  | 0x4002C => pack [(c.faultCount, 16), (if c.faultCode = 0 then 0 else c.faultArg, 8), (c.faultCode, 0)]
  | 0x40030 => pack ((List.range 12).map (fun g => ((b.group g).code, 2 * g)))
  | 0x40034 => pack [(c.stoB, 12), (c.stoA, 0)]
  | 0x40038 => word b.wc
  | _ =>
    if 0x40050 ≤ off ∧ off < 0x40060 then
      let l := b.loopOf ((off - 0x40050) / 4)
      b.reg off ||| pack [(b2n l.active, 2), (b2n l.closedB, 1), (b2n l.closedA, 0)]
    else b.reg off

/-! ## GNS, POS -/

/-- GNS_STATUS (R238). -/
def Blk.gnsStatus (b : Blk) : Word :=
  let g := b.gns
  pack [((g.chans.filter (fun p => p.2.st == 3)).length, 16), (b2n b.noOrbit, 5), (b2n b.pos.ref.isNone, 4),
    (b2n g.jam, 3), (b2n (g.notches.any (fun p => p.2.on)), 2), (b2n b.antFault, 1), (b2n g.timeValid, 0)]

/-- GNS (R238). -/
def Blk.readGns (b : Blk) (off : Nat) : Word :=
  let g := b.gns
  if 0x50100 ≤ off then
    let c := b.chan ((off - 0x50100) / 4)
    if c.st = 0 then 0 else pack [(c.st, 29), (c.sys, 27), (c.svid, 16), (c.cn0 / 100, 8), (c.elev, 0)]
  else if 0x50020 ≤ off ∧ off < 0x50030 then
    let n : Notch := Tab.val g.notches ((off - 0x50020) / 4) {}
    pack [(b2n n.on, 31), (n.depth, 16), (sbits 16 (n.freq / 1000), 0)]
  else match off with
    | 0x50000 => b.gnsStatus
    | 0x50008 => pack [(g.iMeas, 16), (g.ant, 0)]
    | 0x50010 => pack [(sbits 16 g.pIn, 16), (g.gain, 0)]
    | 0x50018 => pack [(g.jPeak, 8), (g.j, 0)]
    | 0x50048 => pack [((g.snaps.filter (fun s => s.running)).length, 16), (b.snapPlaces, 0)]
    | 0x5004C => sword g.clkOff
    | 0x50050 => sword g.clkDrift
    | _ => b.reg off

/-- POS_STATUS (R267); RUN from stage SERVICE on. -/
def Blk.posStatus (b : Blk) : Word :=
  let p := b.pos
  let refFault := match p.refs with | [] => false | r :: _ => r.bad
  pack [((p.filters.filter (fun q => q.2.fixed)).length, 16), (p.degrade, 8), (b2n (p.suspect != 0), 4),
    (b2n b.noOrbit, 3), (b2n p.ref.isNone, 2), (b2n refFault, 1), (b2n b.inSvc, 0)]

/-- POS (R267). -/
def Blk.readPos (b : Blk) (off : Nat) : Word :=
  match off with
  | 0x60000 => b.posStatus
  | 0x60020 => pack [(min b.pos.demand 0xFFFF, 16), (min b.pos.served 0xFFFF, 0)]
  | 0x60034 => word (match b.pos.orbit with | some s => s.id | none => 0)
  | _ => b.reg off

/-! ## AIR, HDL -/

/-- AIR_MSTATn (R312). -/
def Blk.airMstat (b : Blk) (n : Nat) : Word :=
  let l := b.link n
  pack [(sbits 16 l.e, 16), (l.head, 13), (b2n l.chan9, 12), (b2n (b.hprf n), 11), (min l.miss 3, 8)]

/-- AIR (R312). -/
def Blk.readAir (b : Blk) (off : Nat) : Word :=
  let a := b.air
  if 0x70100 ≤ off then b.airMstat ((off - 0x70100) / 4)
  else match off with
    | 0x70000 => pack [(b2n (keyChange b.now), 6), (b2n a.sub.orphan, 5), (b2n a.sub.locked, 4), (b2n a.large9, 3),
        (b2n a.large5, 2), (b2n b.beaconing, 0)]
    | 0x70018 => word a.sfn
    | 0x7001C => pack [(a.waiters.length, 24), ((b.onChan true).length, 8), ((b.onChan false).length, 0)]
    | _ => b.reg off

/-- A status register of head `h` (R337). -/
def Blk.readHead (b : Blk) (h rel off : Nat) : Word :=
  let x := b.head h
  match rel with
  | 0x00 => b.reg off ||| pack [(x.hflags, 8), (b2n x.linkUp, 7), (b2n x.capMissing, 5), (b2n x.tooFar, 4),
      (b2n x.frozen, 3), (x.state.code, 0)]
  | 0x0C => pack [(sbits 16 x.antDelay, 16), (x.cap, 0)]
  | 0x10 => sword x.delay
  | 0x14 => sword x.delayUp
  | 0x1C => b.reg off ||| word (b2n x.recal)
  | _ => b.reg off

/-- HDL (R337). -/
def Blk.readHdl (b : Blk) (off : Nat) : Word :=
  if 0x81000 ≤ off then b.readHead ((off - 0x81000) / 0x40) ((off - 0x81000) % 0x40) off
  else if off = Reg.HDL_STATUS then
    pack [(maskOf 8 (fun h => (b.head h).state == .suspect), 16),
      (maskOf 8 (fun h => (b.head h).state == .up || (b.head h).state == .suspect), 8),
      (maskOf 8 (fun h => (b.head h).joined), 0)]
  else b.reg off

/-! ## AXS, CTL -/

/-- AXS_TBLt_INFO (R382). -/
def Blk.tableInfo (b : Blk) (t : Nat) : Word :=
  let x := b.table t
  if !x.loading.isEmpty then pack [(1, 30)]
  else if x.valid then pack [(2, 30), (x.knots.length, 17), (x.first, 0)] else 0

/-- A status register of axis `n` (R382). -/
def Blk.readAxis (b : Blk) (n rel off : Nat) : Word :=
  match rel with
  | 0x60 => pack [((b.axis n).fault, 24), (b.axState n, 20), (b.axFlags n, 0)]
  | 0x64 => sword (b.axPos n)
  | 0x68 => sword ((b.mot n).sp / 65536)
  | 0x6C => sword (b.mot n).turn
  | 0x70 => sword (b.mot n).latch
  | _ => b.reg off

/-- AXS (R382). -/
def Blk.readAxs (b : Blk) (off : Nat) : Word :=
  if 0x91000 ≤ off then b.readAxis ((off - 0x91000) / 0x80) ((off - 0x91000) % 0x80) off
  else if 0x90100 ≤ off then b.tableInfo ((off - 0x90100) / 4)
  else match off with
    | 0x90000 => pack [(maskOf 12 b.standstill, 12), (maskOf 12 (fun g => b.group g == .ramp), 0)]
    | 0x90004 => axisMask (fun n => b.axState n == 8) false
    | 0x90008 => axisMask (fun n => b.axState n == 8) true
    | 0x9000C => axisMask (fun n => b.axisBusy n != 0) false
    | 0x90010 => axisMask (fun n => b.axisBusy n != 0) true
    | 0x90014 => word (65536 - (b.poolUse.map (fun p => p.2)).sum)
    | 0x90030 => sword (masterPos (b.masterCount 0) (b.reg (Reg.AXS_MASTER_MOD 0)).toNat)
    | 0x90034 => sword (masterPos (b.masterCount 1) (b.reg (Reg.AXS_MASTER_MOD 1)).toNat)
    | _ => b.reg off

/-- CTL_AXn_STATUS (R402). -/
def Blk.ctlStatus (b : Blk) (n : Nat) : Word :=
  let l := (b.axis n).loop
  let wrapped := b.flag (if n < 32 then Reg.CTL_WRAP_LO else Reg.CTL_WRAP_HI) (n % 32)
  let isOver := decide (b.fld (Reg.CTL_AX_FE_LIM n) 31 0 * 65536 < l.e.natAbs)
  pack [(b2n l.ceil, 7), (b2n (l.boost != 0), 6), (b2n isOver, 5), (b2n l.saturated, 4), (b2n wrapped, 3),
    (b2n l.ovr, 2), (b2n l.on, 1), (b2n (b.axis n).io.spRange, 0)]

/-- A register of the loop of axis `n` (R402). -/
def Blk.readLoop (b : Blk) (n rel off : Nat) : Word :=
  let x := b.axis n
  match rel with
  | 0x00 => b.reg off ||| pack [(b2n x.loop.applyAt.isSome, 8)]
  | 0x60 => b.ctlStatus n
  | 0x64 => sword (x.loop.e / 65536)
  | 0x68 => pack [(x.loop.boost / 32, 16), (x.loop.iref, 0)]
  | 0x6C => sword x.loop.i
  | 0x7C =>
    match b.fld (Reg.AXS_AX_CFG n) 5 4 with
    | 1 => sword (x.io.uf / 65536)
    | 2 => sword x.io.pulses
    | _ => 0
  | _ => b.reg off

/-- CTL (R402). -/
def Blk.readCtl (b : Blk) (off : Nat) : Word :=
  if 0xA1000 ≤ off then b.readLoop ((off - 0xA1000) / 0x80) ((off - 0xA1000) % 0x80) off
  else if off = Reg.CTL_STATUS then
    let any := match b.axs.ovrAt with | none => false | some t => decide (b.elapsed ≤ t + 100000000)
    pack [(b2n any, 8), (b.loopLoad, 0)]
  else b.reg off

/-! ## INV -/

/-- INV_STATUS (R428). -/
def Blk.invStatus (b : Blk) : Word :=
  pack [(b2n (b.lanPort 1).suspect, 23), (b2n (b.lanPort 0).suspect, 22), (b2n b.hostQ, 18), (b2n b.ppsQ, 17),
    (b2n b.gnssQ, 16), (b.inv.sel, 8), (b2n b.inv.step.isSome, 6), (b2n b.inv.rcClock, 5), (b2n b.tq, 4),
    (b.inv.state.code, 0)]

/-- INV_OFFSET: the offset of the selected reference, 0 with none (R428). -/
def Blk.offsetNow (b : Blk) : Int := if b.inv.sel = 0 then 0 else b.refOff b.inv.sel

/-- UTC in ns (R416). -/
def Blk.utcNow (b : Blk) : Int := (b.now : Int) - b.utcOff

/-- A register of a compare unit (R427, R428): TIME reads the target of a loaded unit. -/
def Blk.readCmp (b : Blk) (n rel off : Nat) : Word :=
  let u := b.cmp n
  match rel with
  | 0x4 => if u.state = .idle then b.reg off else word (u.target % 2 ^ 32).toNat
  | 0xC => pack [(match u.state with | .idle => 0 | .armed => 1 | .running => 2, 30), (b2n u.lateLast, 29), (u.fires, 0)]
  | _ => b.reg off

/-- INV (R427, R428). -/
def Blk.readInv (b : Blk) (off : Nat) : Word :=
  if 0xB0100 ≤ off then b.readCmp ((off - 0xB0100) / 0x10) ((off - 0xB0100) % 0x10) off
  else match off with
    | 0xB0000 => b.invStatus
    | 0xB0004 => word (b.now / 1000000000)
    | 0xB0038 => sword b.offsetNow
    | 0xB0040 => sword b.inv.ppsOff
    | 0xB0048 => if b.inv.state = .holdover then word (min b.holdErr 0xFFFFFFFF) else 0
    | 0xB0050 => word (cmpTime b.now)
    | 0xB005C => sword b.utcNow
    | 0xB0060 => b.reg off ||| pack [(b2n ((b.lanPort 0).recal != 0), 30)]
    | 0xB0080 => b.reg off ||| pack [(b2n ((b.lanPort 1).recal != 0), 30)]
    | 0xB0070 => sword (b.lanPort 0).mpd
    | 0xB0090 => sword (b.lanPort 1).mpd
    | _ => b.reg off

/-! ## QUE, MEM -/

/-- QUE_Qn_STATUS (R453). -/
def Blk.queueStatus (b : Blk) (n : Nat) : Word :=
  let q := b.queue n
  pack [(b2n q.bound.isSome, 31), (b2n (q.items.any (fun i => i.isOpen)), 30), (b2n q.tooSmall, 29),
    ((committed q.items).length, 16), (usedWords q.items, 0)]

/-- QUE and MEM (R452, R453). -/
def Blk.readQueMem (b : Blk) (off : Nat) : Word :=
  let m := b.mem
  if 0xC8040 ≤ off ∧ off < 0xC8080 then
    let k : Bank := Tab.val m.banks ((off - 0xC8040) / 4) {}
    pack [(k.rot, 8), (b2n k.laneValid, 7), (k.lane, 0)]
  else if 0xC1000 ≤ off ∧ off < 0xC2000 then word (le m.popData (off - 0xC1000) 4)
  else if 0xC0100 ≤ off ∧ off < 0xC0500 ∧ off % 0x10 = 4 then b.queueStatus ((off - 0xC0100) / 0x10)
  else if 0xC0100 ≤ off ∧ off < 0xC0500 ∧ off % 0x10 = 0xC then word (b.queue ((off - 0xC0100) / 0x10)).nextSeq
  else match off with
    | 0xC0000 => word (b2n m.ptrErr)
    | 0xC0004 => 0
    | 0xC0008 => m.popHdr
    | 0xC000C => word m.popSeq
    | 0xC8000 => word (b2n m.clearDone)
    | 0xC8024 => m.lastErr
    | _ => b.reg off

/-! ## KEY, TMP, EVR -/

/-- KEY_INSTALL would be accepted but for the stop (R463, R474). -/
def Blk.installOpen (b : Blk) (i : Ident) : Bool :=
  i.lc == .field && b.key.store.isEmpty && !b.key.isSealed && !b.key.lockout && b.key.latch == 0

/-- KEY and TMP (R474). -/
def Blk.readKey (b : Blk) (i : Ident) (off : Nat) : Word :=
  let k := b.key
  match off with
  | 0xD0000 => pack [(b2n i.lc.test, 8), (b2n (b.installOpen i), 7), (b2n k.lost, 6), (b2n k.update.isSome, 5),
      (b2n k.isSealed, 4), (b2n k.lockout, 3)]
  | 0xD0004 => pack [(i.lcCount, 8), (i.lc.code, 0)]
  | 0xD0008 => pack [(b2n k.repaired, 7), (b2n k.bValid, 4), (b2n k.aValid, 3), (k.active, 2)]
  | 0xD000C => word k.storeGen
  | 0xD0010 => word (maskOf 32 (fun n => k.store.any (fun p => p.1 == n)))
  | 0xD0014 => word ((k.cache.filter (fun p => decide (32 ≤ p.1) && p.2.used)).length)
  | 0xD8000 => pack [(k.latch, 16), (k.live, 0)]
  | 0xD800C => pack [(k.phase, 8), (k.first, 0)]
  | 0xD8010 => word k.count
  | _ => b.reg off

/-- EVR_NEXT as it reads: 0 until the scan has ended (R478). -/
def Blk.evrNext (b : Blk) : Nat := if b.evr.scanDone then b.evr.next else 0

/-- EVR_OLDEST as it reads (R478, R487). -/
def Blk.evrOldest (b : Blk) : Nat := if b.evr.scanDone then b.evr.oldest else 0

/-- EVR (R487, R488). -/
def Blk.readEvr (b : Blk) (off : Nat) : Word :=
  let e := b.evr
  match off with
  | 0xE0000 => pack [(b2n e.clear.isSome, 2), (b2n (e.perm.length == 4096), 1), (b2n e.scanDone, 0)]
  | 0xE0004 => word b.evrNext
  | 0xE000C => word b.evrOldest
  | 0xE0014 => word e.permValid.length
  | 0xE0018 => word e.staging.length
  | _ => b.reg off

/-! ## Any register -/

/-- The HI registers of the latched pairs, which read their holding copy (R516). -/
def latchedHi (off : Nat) : Bool :=
  [0x00020, 0x30014, 0x40010, 0x4003C, 0xB0008, 0xB000C, 0xB0010, 0xB003C, 0xB00A0, 0xE0008, 0xE0010].contains off
    || (decide (0xA1000 ≤ off ∧ off < 0xA2800) && (off - 0xA1000) % 0x80 == 0x70)

/-- The value a read of the register at `off` returns (R514, R517). -/
def Blk.readReg (b : Blk) (i : Ident) (off : Nat) : Word :=
  if (regDescAt off).isNone then 0
  else if latchedHi off then Tab.val b.latch off 0
  else match off / 0x10000 with
    | 0 => b.readSys i off
    | 1 => b.readHst off
    | 2 => b.readDvt off
    | 3 => b.readMap off
    | 4 => b.readClp off
    | 5 => b.readGns off
    | 6 => b.readPos off
    | 7 => b.readAir off
    | 8 => b.readHdl off
    | 9 => b.readAxs off
    | 10 => b.readCtl off
    | 11 => b.readInv off
    | 12 => b.readQueMem off
    | 13 => b.readKey i off
    | 14 => b.readEvr off
    | _ => b.reg off

end Sys2Proof.Machine
end

