-- ==== Sys2Proof/Machine/Monitor.lean ====
section
/-! DEFINITION. Sys2Proof/Machine/Monitor.lean: the two register reads that change state (R516, R517), the monitoring of
supplies, currents and temperatures (R527-R529, R539), the memory scrub (R446, R447), and a read of host data that
failed (R142). -/

namespace Sys2Proof.Machine

open Sys2Proof

/-! ## Reads (R516, R517) -/

/-- The HI registers that a read of the LO register at `off` captures, each with its value (R66, R203, R401, R427, R487,
R516, R525). -/
def Blk.captured (b : Blk) (off : Nat) : List (Nat × Word) :=
  match off with
  | 0x0001C => [(0x20, word (b.optime / 2 ^ 32))]
  | 0x30010 => [(0x30014, word (b.fleet.epoch / 2 ^ 32))]
  | 0x4000C => [(0x40010, word (b.clp.s / 2 ^ 32))]
  | 0x40038 => [(0x4003C, word (b.wc / 2 ^ 32))]
  | 0xB0004 => [(0xB0008, word (b.now / 1000000000 / 2 ^ 32 % 2 ^ 16)), (0xB000C, word (b.now % 1000000000)),
      (0xB0010, word (b.inv.ft % 2 ^ 32 / 2 ^ 16))]
  | 0xB0038 => [(0xB003C, sword (b.offsetNow / 2 ^ 32))]
  | 0xB005C => [(0xB00A0, sword (b.utcNow / 2 ^ 32))]
  | 0xE0004 => [(0xE0008, word (b.evrNext / 2 ^ 32))]
  | 0xE000C => [(0xE0010, word (b.evrOldest / 2 ^ 32))]
  | _ =>
    if 0xA1000 ≤ off ∧ off < 0xA2800 ∧ (off - 0xA1000) % 0x80 = 0x6C then
      [(off + 4, word (sbits 8 ((b.axis ((off - 0xA1000) / 0x80)).loop.i / 2 ^ 32)))]
    else []

/-- LATCHED_LO_READ: the LO register read, its HI registers captured (R516). -/
def Blk.latchedRead (b : Blk) (i : Ident) (off : Nat) : Blk :=
  { b with lastRead := b.readReg i off, latch := (b.captured off).foldl (fun t p => Tab.put t p.1 p.2) b.latch }

/-- LATCHED_LO_READ (R516). -/
def execLatchedLoRead (off : Nat) : State → Host.Outcome State Fault Refusal :=
  onBlkI (fun i b => b.latchedRead i off)

/-- The bits of a register's RC fields. -/
def rcMask (fs : List FieldDesc) : Nat :=
  fs.foldl (fun a f => if f.acc = .rc then a + (2 ^ (f.hi - f.lo + 1) - 1) * 2 ^ f.lo else a) 0

/-- READ_CLEAR_COUNTER: the register read, its RC fields cleared in the same access (R517). -/
def Blk.readClear (b : Blk) (i : Ident) (off : Nat) : Blk :=
  match regDescAt off with
  | none => b
  | some (d, _) =>
    let m := rcMask d.fields
    let b1 : Blk := { b with lastRead := b.readReg i off }
    if m = 0 then b
    else if off = Reg.GNS_JAM_STATUS then b1.modGns (fun g => { g with jPeak := 0 })
    else
      let b2 := b1.setReg off (b1.reg off &&& ~~~ word m)
      if off = Reg.MON_TEMP_PEAK then b2.modPwr (fun p => { p with peakFresh := true }) else b2

/-- READ_CLEAR_COUNTER (R517). -/
def execReadClearCounter (off : Nat) : State → Host.Outcome State Fault Refusal :=
  onBlkI (fun i b => b.readClear i off)

/-! ## Measurements (R527-R529) -/

/-- The extremes of the digital die's temperature since they were last read. -/
def Blk.tempPeak (b : Blk) (t : Int) : Blk :=
  let r := Reg.MON_TEMP_PEAK
  let lo := if b.pwr.peakFresh then t else min t (b.sfld r 31 16)
  let hi := if b.pwr.peakFresh then t else max t (b.sfld r 15 0)
  (b.setReg r (pack [(sbits 16 lo, 16), (sbits 16 hi, 0)])).modPwr (fun p => { p with peakFresh := false })

/-- TEMP_WARN: set at or above MON_TEMP_WARN, cleared once every die is 5.0 °C below it (R528). -/
def Blk.tempWarn (b : Blk) (ts : List Int) : Blk :=
  let w := b.sfld Reg.MON_TEMP_WARN 15 0
  if ts.any (fun t => decide (w ≤ t)) then b.setFlag Reg.MON_STATUS 9
  else if ts.all (fun t => decide (t ≤ w - 50)) then b.clrFlag Reg.MON_STATUS 9 else b

/-- The registers of a measurement, by offset (R527). -/
def monRegs (x : MonIn) : List (Nat × Word) :=
  [(0xF0004, word (min x.vcore 0xFFFF)), (0xF0008, word (min x.vio 0xFFFF)), (0xF000C, word (min x.vana 0xFFFF)),
    (0xF0010, word (sbits 16 x.vfield0)), (0xF0014, word (sbits 16 x.vfield1)),
    (0xF0018, word (sbits 16 x.fgnd0)), (0xF001C, word (sbits 16 x.fgnd1)),
    (0xF0020, word (min x.ifield0 0xFFFF)), (0xF0024, word (min x.ifield1 0xFFFF)),
    (0xF0028, word (sbits 16 x.tDig)), (0xF002C, word (sbits 16 x.tRf)),
    (0xF0030, word (sbits 16 x.tFio0)), (0xF0034, word (sbits 16 x.tFio1))]

/-- MON_MEASURE: every 1 ms from stage CLOCKS on (R527, R529). -/
def Blk.measure (x : MonIn) (b : Blk) : Blk :=
  if b.pwr.stage = 0 then b
  else
    let b1 := (monRegs x).foldl (fun b p => b.setReg p.1 p.2) b
    ((b1.tempPeak x.tDig).tempWarn [x.tDig, x.tRf, x.tFio0, x.tFio1]).setFlag Reg.MON_STATUS 0

/-- MON_MEASURE (R529). -/
def execMonMeasure (x : MonIn) : State → Host.Outcome State Fault Refusal := onBlk (Blk.measure x)

/-! ## Supplies (R539) -/

/-- SUPPLY_OUT_OF_RANGE: VCORE (0), VIO (1) or VANA (2) outside its operating range for 10 µs (R539). -/
def execSupplyOutOfRange (rail : Fin 3) : State → Host.Outcome State Fault Refusal :=
  onReady (fun b => b.setFlag Reg.MON_STATUS (rail.val + 1))

/-- SUPPLY_RECOVERED: the rail is back in its operating range (R539). -/
def execSupplyRecovered (rail : Fin 3) : State → Host.Outcome State Fault Refusal :=
  onReady (fun b => b.clrFlag Reg.MON_STATUS (rail.val + 1))

/-! ## Scrub (R446, R447) -/

/-- Words of a bank: 24 MiB in 16 banks of 64-bit words. -/
def bankWords : Nat := 196608

/-- The scrub position moved on by one word, through every bank. -/
def Mem.scrubNext (m : Mem) : Mem :=
  if m.scrubWord + 1 < bankWords then { m with scrubWord := m.scrubWord + 1 }
  else { m with scrubWord := 0, scrubBank := (m.scrubBank + 1) % 16 }

/-- SRAM_SCRUB: the next word read; a single-bit error in byte `err` is counted and its physical lane noted. -/
def Blk.scrub (err : Option (Fin 8)) (b : Blk) : Blk :=
  let b1 := match err with
    | none => b
    | some i => (b.bump Reg.MEM_ECC_CORR_COUNT).modMem (fun m => { m with
        banks := Tab.upd m.banks m.scrubBank {} (fun (k : Bank) =>
          { k with laneValid := true, lane := (i.val + m.scrubWord % 8 + k.rot) % 8 }) })
  b1.modMem Mem.scrubNext

/-! ## HST_DMA_ERR (R142) -/

/-- The reads of host data that an operation has in progress, given up: a map load leaves the shadow as it was (R58), a
table load its table EMPTY (R360). -/
def Blk.dropReads (b : Blk) (id : OpId) : Blk :=
  let b1 := b.modFleet (fun f => { f with loads := f.loads.filter (fun l => l.id ≠ id) })
  let b2 := b1.modAxs (fun x => { x with tables := x.tables.map (fun (q : Nat × SegTable) =>
    (q.1, { q.2 with loading := q.2.loading.filter (fun p => p.1 ≠ id) })) })
  let b3 := b2.modKey (fun k => { k with running := k.running.filter (fun r => r.d.id ≠ id) })
  { b3 with hst := { b3.hst with fenced := b3.hst.fenced.filter (fun d => d.id ≠ id) } }

/-- HST_DMA_ERR: a read of host data for the operation in flight with `tag` on ring `ring` has failed twice at bus address
`addr`.  A transaction reads no host data. -/
def Blk.dmaErr (b : Blk) (ring tag addr : Nat) : Blk :=
  match b.hst.ops.find? (fun o => o.id.ring == ring && o.id.tag == tag && o.done.isNone && o.id.cls != 0x01) with
  | none => b
  | some o =>
    if o.id.cls = 0x08 then (b.dropReads o.id).keyDone o.id 0x21 (addr % 2 ^ 32)
    else (b.dropReads o.id).complete o.id 0x21 (addr % 2 ^ 32)

/-- HST_DMA_ERR (R142). -/
def execHstDmaErr (ring : Ring128) (tag addr : Nat) : State → Host.Outcome State Fault Refusal :=
  onBlk (fun b => b.dmaErr ring.val tag addr)

end Sys2Proof.Machine
end

