-- ==== Sys2Proof/Machine/MemErr.lean ====
section
/-! DEFINITION. Sys2Proof/Machine/MemErr.lean: the masters' accesses to the SRAM that fail: regions, conflicts and the fabric
(R444, R445, R449), double-bit errors (R446), and what each master does about an error response (R442). -/

namespace Sys2Proof.Machine

open Sys2Proof

/-! ## Error responses (R442) -/

/-- The first entry that satisfies `p` changed. -/
def changeFirst {α : Type} (p : α → Bool) (f : α → α) : List α → List α
  | [] => []
  | x :: rest => if p x then f x :: rest else x :: changeFirst p f rest

/-- The epoch of a member in the solver becomes PREDICTED. -/
def Blk.epochLost (b : Blk) (mix : Nat) : Blk :=
  b.modPos (fun p => { p with
    solving := changeFirst (fun e => e.mix == mix && !e.refused) (fun e => { e with refused := true }) p.solving })

/-- The snapshot of a member (0xFF: of the host) in processing ends with CRC_FAIL. -/
def Blk.snapLost (b : Blk) (mix : Nat) : Blk :=
  match b.gns.snaps.find? (fun x => x.running && (if mix = 0xFF then x.host.isSome else x.host.isNone && x.mix == mix)) with
  | some x => (b.dropSnap x).endSnap x St.crcFail x.id 0 none
  | none => b

/-- KEY_MEM_ERR (R465). -/
def St.keyMemErr : Nat := 0x2A

/-- The key operation in progress, or else the store change, ends with KEY_MEM_ERR and no output (R465). -/
def Blk.keyLost (b : Blk) : Blk :=
  match b.key.running with
  | r :: rest => (b.modKey (fun k => { k with running := rest })).keyDone r.d.id St.keyMemErr 7
  | [] => match b.key.update with
    | some u => (b.modKey (fun k => { k with update := none })).keyDone u.id St.keyMemErr 7
    | none => b

/-- An axis whose access fails misses its sample of this instant, or else its next one (R442, R398). -/
def Blk.sampleLost (b : Blk) (n : Nat) : Blk :=
  if 48 ≤ n then b
  else if b.axDue b.now n then b.overrunAt b.now n
  else if (b.axis n).loop.ovr && decide (b.now ≤ (b.axis n).sampled.getD 0) then b
  else b.overrunAt ((b.now / b.axPeriod n + 1) * b.axPeriod n) n

/-- What a master does about an error response; AIR and HDL lose the frame, INV marks the time-stamp, and a debugger is
told, which change no state here. -/
def Blk.memReact (b : Blk) (m obj : Nat) : Blk :=
  match m with
  | 0 => b.passingFault 14 (fun c => { c with cf14 := true })
  | 1 => b.sampleLost obj
  | 5 => b.epochLost obj
  | 6 => b.snapLost obj
  | 7 => b.keyLost
  | 8 => if obj < 64 then b.resetQueue obj else b
  | 9 => b.free.2.dmaErr (obj / 65536) (obj % 65536) b.free.1
  | 10 => (b.bump Reg.MEM_MRAM_BAD_COUNT).loseBlock obj
  | _ => b

/-! ## Regions, conflicts and the fabric -/

/-- A region of master `m` grants the access: its page lies in the region, and the region has the grant (R444, R453). -/
def Blk.granted (b : Blk) (m page : Nat) (write : Bool) : Bool :=
  (List.range 4).any (fun r =>
    decide (b.fld (Reg.MEM_RGN_LO (4 * m + r)) 12 0 ≤ page) && decide (page ≤ b.fld (Reg.MEM_RGN_HI (4 * m + r)) 12 0)
      && b.flag (Reg.MEM_RGN_HI (4 * m + r)) (if write then 30 else 31))

/-- The 4 KiB page of a word: 384 pages of 512 words to a bank. -/
def MemAcc.page (a : MemAcc) : Nat := 384 * a.bank.val + a.word / 512

/-- A region violation (R444): counted, and recorded at most once a second for each master. -/
def Blk.violation (b : Blk) (a : MemAcc) : Blk :=
  let m := a.master.val
  let b1 := b.bump Reg.MEM_VIOL_COUNT
  let recent := b.mem.violAt.any (fun q => q.1 == m && decide (b.elapsed < q.2 + 1000000000))
  if recent then b1.modMem (fun x => { x with lastErr := errWord 1 m a.bank.val a.word })
  else (b1.modMem (fun x => { x with violAt := Tab.put x.violAt m b.elapsed })).memError 1 m a.bank.val a.word

/-- One access: repeats on the fabric counted; a fourth failure, or an access outside the regions, gets an error response;
else lost writes are counted, of which KEY bears two in an operation (R444, R445, R449, R465). -/
def Blk.memAcc (b : Blk) (a : MemAcc) : Blk :=
  let m := a.master.val
  let b1 := if a.crc = 0 then b else b.bump Reg.MEM_FABRIC_RETRY_COUNT (min a.crc 3)
  if 4 ≤ a.crc then ((b1.bump Reg.MEM_FABRIC_FAIL_COUNT).memError 3 m a.bank.val a.word).memReact m a.obj
  else if !b.granted m a.page a.write then (b1.violation a).memReact m a.obj
  else if a.write && decide (0 < a.lost) && m != 0 then
    let b2 := (b1.bump Reg.MEM_CONFLICT_COUNT a.lost).modMem (fun x => { x with lastErr := errWord 5 m a.bank.val a.word })
    if m = 7 ∧ 3 ≤ a.lost then b2.keyLost else b2
  else b1

/-- SRAM_SCRUB (R446), with the masters' accesses since the last one that did not go through at once. -/
def execSramScrub (err : Option (Fin 8)) (accs : List MemAcc) : State → Host.Outcome State Fault Refusal :=
  onBlk (fun b => Blk.scrub err (accs.foldl Blk.memAcc b))

/-! ## Double-bit errors (R446) -/

/-- ECC_UNCORRECTABLE: counted and recorded; in banks 0-1 it is CF14; the reader gets an error response. -/
def Blk.eccBad (b : Blk) (bank addr master obj : Nat) : Blk :=
  let b1 := (b.bump Reg.MEM_ECC_UNCORR_COUNT).memError 2 master bank addr
  if bank < 2 ∨ master = 0 then b1.passingFault 14 (fun c => { c with cf14 := true }) else b1.memReact master obj

/-- ECC_UNCORRECTABLE (R446, CF14). -/
def execEccUncorrectable (bank : Bank16) (wordAddr : Nat) (master : Master12) (obj : Nat) :
    State → Host.Outcome State Fault Refusal :=
  onBlk (fun b => b.eccBad bank.val wordAddr master.val obj)

end Sys2Proof.Machine
end

