-- ==== Sys2Proof/Machine/Dispatch.lean ====
section
/-! DEFINITION. Sys2Proof/Machine/Dispatch.lean: every command with its meaning. -/

namespace Sys2Proof.Machine

open Sys2Proof

/-- The effect of a command on everything but the queue. -/
def exec (i : Instr) (s : State) : Host.Outcome State Fault Refusal :=
  match i with
  | .sqDoorbellWrite ring value half => Sys2Proof.Machine.execSqDoorbellWrite ring value half s
  | .cqDoorbellWrite ring value half => Sys2Proof.Machine.execCqDoorbellWrite ring value half s
  | .descriptorFetch nslot => Sys2Proof.Machine.execDescriptorFetch nslot s
  | .slotsOnChip ring bytes refetch => Sys2Proof.Machine.execSlotsOnChip ring bytes refetch s
  | .hstFetchErr ring slot => Sys2Proof.Machine.execHstFetchErr ring slot s
  | .hstDmaErr ring tag addr => Sys2Proof.Machine.execHstDmaErr ring tag addr s
  | .moderationTimerExpiry t cq => Sys2Proof.Machine.execModerationTimerExpiry t cq s
  | .superframeBatchFlush => Sys2Proof.Machine.execSuperframeBatchFlush s
  | .coalescedPendingWrite => Sys2Proof.Machine.execCoalescedPendingWrite s
  | .queueItemCopy q opens => Sys2Proof.Machine.execQueueItemCopy q opens s
  | .functionLevelReset => Sys2Proof.Machine.execFunctionLevelReset s
  | .ringEnable ring w => Sys2Proof.Machine.execRingEnable ring w s
  | .ringDisable ring w => Sys2Proof.Machine.execRingDisable ring w s
  | .sqDrainDone ring => Sys2Proof.Machine.execSqDrainDone ring s
  | .hstModeWrite w => Sys2Proof.Machine.execHstModeWrite w s
  | .modePersist => Sys2Proof.Machine.execModePersist s
  | .txn d freeze => Sys2Proof.Machine.execTxn d freeze s
  | .waitCancel d => Sys2Proof.Machine.execWaitCancel d s
  | .waitsRead d => Sys2Proof.Machine.execWaitsRead d s
  | .waitRejudge => Sys2Proof.Machine.execWaitRejudge s
  | .afterEpochRelease => Sys2Proof.Machine.execAfterEpochRelease s
  | .waitLimitExpiry t => Sys2Proof.Machine.execWaitLimitExpiry t s
  | .afterLimitExpiry t => Sys2Proof.Machine.execAfterLimitExpiry t s
  | .airTxnJudge => Sys2Proof.Machine.execAirTxnJudge s
  | .deviceTxn mix cause => Sys2Proof.Machine.execDeviceTxn mix cause s
  | .quotaPeriodStart => Sys2Proof.Machine.execQuotaPeriodStart s
  | .mapLoad d => Sys2Proof.Machine.execMapLoad d s
  | .mapImageValidated image => Sys2Proof.Machine.execMapImageValidated image s
  | .mapSwitch d => Sys2Proof.Machine.execMapSwitch d s
  | .mapDiscard d => Sys2Proof.Machine.execMapDiscard d s
  | .snapshot d => Sys2Proof.Machine.execSnapshot d s
  | .snapshotAtEpoch => Sys2Proof.Machine.execSnapshotAtEpoch s
  | .snapshotWaitTimeout t => Sys2Proof.Machine.execSnapshotWaitTimeout t s
  | .snapshotWritten => Sys2Proof.Machine.execSnapshotWritten s
  | .estopLoopOpen loop circuitA circuitB => Sys2Proof.Machine.execEstopLoopOpen loop circuitA circuitB s
  | .estopTestPulse t loop obs => Sys2Proof.Machine.execEstopTestPulse t loop obs s
  | .estopDiscrepancy t loop => Sys2Proof.Machine.execEstopDiscrepancy t loop s
  | .estopLoopCleared loop => Sys2Proof.Machine.execEstopLoopCleared loop s
  | .clpStopReqWrite w => Sys2Proof.Machine.execClpStopReqWrite w s
  | .clpHbWrite w => Sys2Proof.Machine.execClpHbWrite w s
  | .heartbeatTimeout t => Sys2Proof.Machine.execHeartbeatTimeout t s
  | .stop d => Sys2Proof.Machine.execStop d s
  | .cmonMismatch m isOpen held t => Sys2Proof.Machine.execCmonMismatch m isOpen held t s
  | .channelCrossCheck disagree => Sys2Proof.Machine.execChannelCrossCheck disagree s
  | .clockDeviation which => Sys2Proof.Machine.execClockDeviation which s
  | .pllLockLoss island refclk => Sys2Proof.Machine.execPllLockLoss island refclk s
  | .freezeAckTimeout => Sys2Proof.Machine.execFreezeAckTimeout s
  | .windowConfirmTimeout t => Sys2Proof.Machine.execWindowConfirmTimeout t s
  | .periodKeyNotReady t => Sys2Proof.Machine.execPeriodKeyNotReady t s
  | .vfieldOutOfRange die rev => Sys2Proof.Machine.execVfieldOutOfRange die rev s
  | .vfieldRecovered t die held => Sys2Proof.Machine.execVfieldRecovered t die held s
  | .eccUncorrectable bank wordAddr master obj => Sys2Proof.Machine.execEccUncorrectable bank wordAddr master obj s
  | .dieOvertemp isOver => Sys2Proof.Machine.execDieOvertemp isOver s
  | .rampLimitExpiry t g => Sys2Proof.Machine.execRampLimitExpiry t g s
  | .stoDarkTest g chB followed => Sys2Proof.Machine.execStoDarkTest g chB followed s
  | .stoReadbackFault g chB readsOn => Sys2Proof.Machine.execStoReadbackFault g chB readsOn s
  | .stoDelayExpiry t => Sys2Proof.Machine.execStoDelayExpiry t s
  | .release d => Sys2Proof.Machine.execRelease d s
  | .groupRelease d => Sys2Proof.Machine.execGroupRelease d s
  | .resume d => Sys2Proof.Machine.execResume d s
  | .resumeTimeout t => Sys2Proof.Machine.execResumeTimeout t s
  | .stopWindow t => Sys2Proof.Machine.execStopWindow t s
  | .superframeStart t => Sys2Proof.Machine.execSuperframeStart t s
  | .rxplanSend => Sys2Proof.Machine.execRxplanSend s
  | .upFrameRx head frame => Sys2Proof.Machine.execUpFrameRx head frame s
  | .pollRx head frame => Sys2Proof.Machine.execPollRx head frame s
  | .assocReqRx head frame => Sys2Proof.Machine.execAssocReqRx head frame s
  | .assocTimeout t mix => Sys2Proof.Machine.execAssocTimeout t mix s
  | .waitListKeepExpiry t mix => Sys2Proof.Machine.execWaitListKeepExpiry t mix s
  | .waitListDrop t eui => Sys2Proof.Machine.execWaitListDrop t eui s
  | .downSlotTx mix => Sys2Proof.Machine.execDownSlotTx mix s
  | .downAckRx t head frame => Sys2Proof.Machine.execDownAckRx t head frame s
  | .downNoAck mix => Sys2Proof.Machine.execDownNoAck mix s
  | .expectedUplinkMissed mix => Sys2Proof.Machine.execExpectedUplinkMissed mix s
  | .posDlSlotTx chan slot => Sys2Proof.Machine.execPosDlSlotTx chan slot s
  | .bcastSlotTx chan => Sys2Proof.Machine.execBcastSlotTx chan s
  | .keyDeliveryStart => Sys2Proof.Machine.execKeyDeliveryStart s
  | .periodKeyDerive => Sys2Proof.Machine.execPeriodKeyDerive s
  | .bcopyRx port frame => Sys2Proof.Machine.execBcopyRx port frame s
  | .primaryBeaconMissed => Sys2Proof.Machine.execPrimaryBeaconMissed s
  | .airSend d data => Sys2Proof.Machine.execAirSend d data s
  | .airRxBind d => Sys2Proof.Machine.execAirRxBind d s
  | .airAdmit d => Sys2Proof.Machine.execAirAdmit d s
  | .airMembersRead d => Sys2Proof.Machine.execAirMembersRead d s
  | .helloRx head frame => Sys2Proof.Machine.execHelloRx head frame s
  | .hbDnTx t egress => Sys2Proof.Machine.execHbDnTx t egress s
  | .hbUpRx head frame t4 => Sys2Proof.Machine.execHbUpRx head frame t4 s
  | .syncIntervalEnd t => Sys2Proof.Machine.execSyncIntervalEnd t s
  | .suspectHoldExpiry t head => Sys2Proof.Machine.execSuspectHoldExpiry t head s
  | .headRecalHold head w => Sys2Proof.Machine.execHeadRecalHold head w s
  | .headRecalSet head w => Sys2Proof.Machine.execHeadRecalSet head w s
  | .txReportRx head frame => Sys2Proof.Machine.execTxReportRx head frame s
  | .headHbLoss t head => Sys2Proof.Machine.execHeadHbLoss t head s
  | .sgmiiLinkChange port up => Sys2Proof.Machine.execSgmiiLinkChange port up s
  | .stopwinReportMissing head => Sys2Proof.Machine.execStopwinReportMissing head s
  | .referenceEpoch t obs => Sys2Proof.Machine.execReferenceEpoch t obs s
  | .agcUpdate rms pIn => Sys2Proof.Machine.execAgcUpdate rms pIn s
  | .spectrumUpdate lines => Sys2Proof.Machine.execSpectrumUpdate lines s
  | .jamUpdate => Sys2Proof.Machine.execJamUpdate s
  | .antennaCurrentSample ma => Sys2Proof.Machine.execAntennaCurrentSample ma s
  | .antennaRetry t => Sys2Proof.Machine.execAntennaRetry t s
  | .channelReview t => Sys2Proof.Machine.execChannelReview t s
  | .acqSearchDone chan obs => Sys2Proof.Machine.execAcqSearchDone chan obs s
  | .trackingUpdate ins => Sys2Proof.Machine.execTrackingUpdate ins s
  | .navSymbolItem chan first nSym known gap sym => Sys2Proof.Machine.execNavSymbolItem chan first nSym known gap sym s
  | .snapFragmentTimeout t => Sys2Proof.Machine.execSnapFragmentTimeout t s
  | .snapProcessStart t => Sys2Proof.Machine.execSnapProcessStart t s
  | .snapResult t dets => Sys2Proof.Machine.execSnapResult t dets s
  | .gnsRestart d => Sys2Proof.Machine.execGnsRestart d s
  | .gnsSnapHost d data => Sys2Proof.Machine.execGnsSnapHost d data s
  | .gnsSpectrum d bins => Sys2Proof.Machine.execGnsSpectrum d bins s
  | .obsPayloadTimeout t mix => Sys2Proof.Machine.execObsPayloadTimeout t mix s
  | .posEpochAdmit => Sys2Proof.Machine.execPosEpochAdmit s
  | .searchDeadline t mix => Sys2Proof.Machine.execSearchDeadline t mix s
  | .solutionComplete t => Sys2Proof.Machine.execSolutionComplete t s
  | .degradeEvaluate t => Sys2Proof.Machine.execDegradeEvaluate t s
  | .orbitSetActivate t => Sys2Proof.Machine.execOrbitSetActivate t s
  | .posRefSet d => Sys2Proof.Machine.execPosRefSet d s
  | .orbitLoad d set => Sys2Proof.Machine.execOrbitLoad d set s
  | .headSet d tab => Sys2Proof.Machine.execHeadSet d tab s
  | .memberFilterReset d => Sys2Proof.Machine.execMemberFilterReset d s
  | .posOfferRead d => Sys2Proof.Machine.execPosOfferRead d s
  | .axisSample t ins => Sys2Proof.Machine.execAxisSample t ins s
  | .sampleOverrun t axis => Sys2Proof.Machine.execSampleOverrun t axis s
  | .limitInputEdge t axis which level => Sys2Proof.Machine.execLimitInputEdge t axis which level s
  | .zEdgeCapture t axis pos => Sys2Proof.Machine.execZEdgeCapture t axis pos s
  | .encoderQuadError axis => Sys2Proof.Machine.execEncoderQuadError axis s
  | .encoderOpenWire axis pair => Sys2Proof.Machine.execEncoderOpenWire axis pair s
  | .followErrorExpiry t axis => Sys2Proof.Machine.execFollowErrorExpiry t axis s
  | .stallExpiry t axis => Sys2Proof.Machine.execStallExpiry t axis s
  | .spRangeExpiry t axis => Sys2Proof.Machine.execSpRangeExpiry t axis s
  | .outputCurrentLimit axis => Sys2Proof.Machine.execOutputCurrentLimit axis s
  | .outputOvervoltage axis => Sys2Proof.Machine.execOutputOvervoltage axis s
  | .ctlApply axis w => Sys2Proof.Machine.execCtlApply axis w s
  | .axsTableLoad d => Sys2Proof.Machine.execAxsTableLoad d s
  | .tableValidated table image => Sys2Proof.Machine.execTableValidated table image s
  | .axsTableFree d => Sys2Proof.Machine.execAxsTableFree d s
  | .axsFaultClear d => Sys2Proof.Machine.execAxsFaultClear d s
  | .axsSetPos d => Sys2Proof.Machine.execAxsSetPos d s
  | .axsRead d => Sys2Proof.Machine.execAxsRead d s
  | .refclkLoss => Sys2Proof.Machine.execRefclkLoss s
  | .refclkRestore => Sys2Proof.Machine.execRefclkRestore s
  | .fleetSecondsStore t => Sys2Proof.Machine.execFleetSecondsStore t s
  | .timeStateEval t => Sys2Proof.Machine.execTimeStateEval t s
  | .holdoverBudgetExpiry t => Sys2Proof.Machine.execHoldoverBudgetExpiry t s
  | .ppsOutPulse t => Sys2Proof.Machine.execPpsOutPulse t s
  | .ppsInEdge t rising => Sys2Proof.Machine.execPpsInEdge t rising s
  | .ppsInLoss t => Sys2Proof.Machine.execPpsInLoss t s
  | .hostRefLoss t => Sys2Proof.Machine.execHostRefLoss t s
  | .invIncWrite w => Sys2Proof.Machine.execInvIncWrite w s
  | .invUtcOffWrite w => Sys2Proof.Machine.execInvUtcOffWrite w s
  | .invHostOffWrite w => Sys2Proof.Machine.execInvHostOffWrite w s
  | .timeStep d => Sys2Proof.Machine.execTimeStep d s
  | .timeStepApply => Sys2Proof.Machine.execTimeStepApply s
  | .lanFrameRx t port frame => Sys2Proof.Machine.execLanFrameRx t port frame s
  | .lanIntervalEnd t port => Sys2Proof.Machine.execLanIntervalEnd t port s
  | .lanRecal port w => Sys2Proof.Machine.execLanRecal port w s
  | .lanSend t d frame => Sys2Proof.Machine.execLanSend t d frame s
  | .lanRxBind d => Sys2Proof.Machine.execLanRxBind d s
  | .compareTargetLoad t => Sys2Proof.Machine.execCompareTargetLoad t s
  | .compareFire t unit => Sys2Proof.Machine.execCompareFire t unit s
  | .compareHostArm unit w => Sys2Proof.Machine.execCompareHostArm unit w s
  | .reservationGrant q => Sys2Proof.Machine.execReservationGrant q s
  | .queuePop w opens => Sys2Proof.Machine.execQueuePop w opens s
  | .queueMarkApply t => Sys2Proof.Machine.execQueueMarkApply t s
  | .queueBind d => Sys2Proof.Machine.execQueueBind d s
  | .queueUnbind d => Sys2Proof.Machine.execQueueUnbind d s
  | .queueFlush d opens => Sys2Proof.Machine.execQueueFlush d opens s
  | .sramScrub err accs => Sys2Proof.Machine.execSramScrub err accs s
  | .keyInstall d site => Sys2Proof.Machine.execKeyInstall d site s
  | .keyImport d blob => Sys2Proof.Machine.execKeyImport d blob s
  | .keyDelete d => Sys2Proof.Machine.execKeyDelete d s
  | .storeUpdateDone => Sys2Proof.Machine.execStoreUpdateDone s
  | .keyLoad d => Sys2Proof.Machine.execKeyLoad d s
  | .keyDerive d data => Sys2Proof.Machine.execKeyDerive d data s
  | .keyCipher d data aux => Sys2Proof.Machine.execKeyCipher d data aux s
  | .keyExportEnrol d => Sys2Proof.Machine.execKeyExportEnrol d s
  | .keyEvict d => Sys2Proof.Machine.execKeyEvict d s
  | .keyHash d data => Sys2Proof.Machine.execKeyHash d data s
  | .keyChallenge d => Sys2Proof.Machine.execKeyChallenge d s
  | .tamperAck d => Sys2Proof.Machine.execTamperAck d s
  | .lcChange d => Sys2Proof.Machine.execLcChange d s
  | .tamperQualify src ms high held => Sys2Proof.Machine.execTamperQualify src ms high held s
  | .airHoldExpiry t => Sys2Proof.Machine.execAirHoldExpiry t s
  | .recordCommit reads => Sys2Proof.Machine.execRecordCommit reads s
  | .evrRead d => Sys2Proof.Machine.execEvrRead d s
  | .evrClear d => Sys2Proof.Machine.execEvrClear d s
  | .clearStart => Sys2Proof.Machine.execClearStart s
  | .clearComplete => Sys2Proof.Machine.execClearComplete s
  | .powerUp => Sys2Proof.Machine.execPowerUp s
  | .bootStageAdvance dt reads => Sys2Proof.Machine.execBootStageAdvance dt reads s
  | .brownOut torn => Sys2Proof.Machine.execBrownOut torn s
  | .vanaLoss torn => Sys2Proof.Machine.execVanaLoss torn s
  | .supplyOutOfRange rail => Sys2Proof.Machine.execSupplyOutOfRange rail s
  | .perstNDeassert ms => Sys2Proof.Machine.execPerstNDeassert ms s
  | .wakeTimer => Sys2Proof.Machine.execWakeTimer s
  | .sleepEntryDone => Sys2Proof.Machine.execSleepEntryDone s
  | .powerState d => Sys2Proof.Machine.execPowerState d s
  | .systemRestart d => Sys2Proof.Machine.execSystemRestart d s
  | .survey d => Sys2Proof.Machine.execSurvey d s
  | .surveyComplete x => Sys2Proof.Machine.execSurveyComplete x s
  | .surveyRead d => Sys2Proof.Machine.execSurveyRead d s
  | .wakeInfo d => Sys2Proof.Machine.execWakeInfo d s
  | .monMeasure x => Sys2Proof.Machine.execMonMeasure x s
  | .registerWrite off w full => Sys2Proof.Machine.execRegisterWrite off w full s
  | .latchedLoRead off => Sys2Proof.Machine.execLatchedLoRead off s
  | .readClearCounter off => Sys2Proof.Machine.execReadClearCounter off s
  | .supplyRecovered rail => Sys2Proof.Machine.execSupplyRecovered rail s
  | .bitSyncFound chan => Sys2Proof.Machine.execBitSyncFound chan s
  | .preambleDecoded chan => Sys2Proof.Machine.execPreambleDecoded chan s
  | .msixTableEntryWrite vector dw value => Sys2Proof.Machine.execMsixTableEntryWrite vector dw value s
  | .deferredWake => Sys2Proof.Machine.execDeferredWake s
  | .tamperSourceInactive src => Sys2Proof.Machine.execTamperSourceInactive src s
  | .keyOperationDone => Sys2Proof.Machine.execKeyOperationDone s
  | .evrReadDone => Sys2Proof.Machine.execEvrReadDone s

end Sys2Proof.Machine
end

