-- ==== Sys2Proof/Machine/Idle.lean ====
section
/-! DEFINITION. Sys2Proof/Machine/Idle.lean: what happens with no command waiting: a descriptor that a FENCE held back
starts once its predecessors have completed (R104, R143), and fleet time moves on by one INV edge (R405, log 6). -/

namespace Sys2Proof.Machine

open Sys2Proof

/-- A held descriptor started, by its opcode.  One that reads host data at its start stays held: its command comes
again with the data (log 7). -/
def startHeld (d : Desc) (s : State) : Host.Outcome State Fault Refusal :=
  match d.opcode with
  | 0x0101 => execTxn d false s
  | 0x0102 => execWaitCancel d s
  | 0x0103 => execWaitsRead d s
  | 0x0201 => execMapLoad d s
  | 0x0202 => execMapSwitch d s
  | 0x0203 => execMapDiscard d s
  | 0x0210 => execSnapshot d s
  | 0x0302 => execAirRxBind d s
  | 0x0303 => execAirAdmit d s
  | 0x0304 => execAirMembersRead d s
  | 0x0401 => execGnsRestart d s
  | 0x0410 => execPosRefSet d s
  | 0x0413 => execMemberFilterReset d s
  | 0x0414 => execPosOfferRead d s
  | 0x0501 => execAxsTableLoad d s
  | 0x0502 => execAxsTableFree d s
  | 0x0503 => execAxsFaultClear d s
  | 0x0504 => execAxsSetPos d s
  | 0x0505 => execAxsRead d s
  | 0x0601 => execTimeStep d s
  | 0x0611 => execLanRxBind d s
  | 0x0701 => execQueueBind d s
  | 0x0702 => execQueueUnbind d s
  | 0x0703 => execQueueFlush d [] s
  | 0x0803 => execKeyDelete d s
  | 0x0804 => execKeyLoad d s
  | 0x0807 => execKeyExportEnrol d s
  | 0x0808 => execKeyEvict d s
  | 0x080A => execKeyChallenge d s
  | 0x080B => execTamperAck d s
  | 0x080C => execLcChange d s
  | 0x0901 => execEvrRead d s
  | 0x0902 => execEvrClear d s
  | 0x0B01 => execStop d s
  | 0x0B02 => execRelease d s
  | 0x0B03 => execResume d s
  | 0x0B04 => execGroupRelease d s
  | 0x0C01 => execSurvey d s
  | 0x0C02 => execSurveyRead d s
  | 0x0C03 => execPowerState d s
  | 0x0C04 => execSystemRestart d s
  | 0x0C05 => execWakeInfo d s
  | _ => .next s

/-- An opcode whose meaning needs no host data at its start. -/
def startsAlone (op : Nat) : Bool :=
  knownOpcode op && !([0x0301, 0x0402, 0x0403, 0x0411, 0x0412, 0x0610, 0x0801, 0x0802, 0x0805, 0x0806, 0x0809].contains op)

/-- The first held descriptor that may start. -/
def Blk.nextHeld (b : Blk) : Option Desc := b.hst.fenced.find? (fun d => startsAlone d.opcode && !b.fenceBlocked d)

/-- A step with no command waiting: one INV edge and the AIR effects that are due at it, then a held descriptor. -/
def idle (s : State) : Host.Outcome State Fault Refusal :=
  if s.blk.powered then
    let b := s.blk.invEdge.settleAir
    match b.nextHeld with
    | none => .next { s with blk := b }
    | some d => startHeld d { s with blk := b }
  else .next s

end Sys2Proof.Machine
end

