-- ==== Sys2Proof/Safety.lean ====
section
/-! DEFINITION. Sys2Proof/Safety.lean: the terms in which claims about the block are stated: what a command's answer
is, what it leaves unchanged, what a completion and a record show, and the life cycles that the fuses may show. -/

namespace Sys2Proof.Machine

open Sys2Proof

/-- The parts of the block's working state. -/
inductive Part where
  | uid | regs | latch | heldLo | out | lastRead | fresh | hst | mem | evr | inv | fleet | dvt | clp | axs | air | hdl | gns
  | pos | key | pwr
  deriving DecidableEq, Repr

/-- One part is as before. -/
def Blk.same (b b' : Blk) : Part → Prop
  | .uid => b'.uid = b.uid
  | .regs => b'.regs = b.regs
  | .latch => b'.latch = b.latch
  | .heldLo => b'.heldLo = b.heldLo
  | .out => b'.out = b.out
  | .lastRead => b'.lastRead = b.lastRead
  | .fresh => b'.fresh = b.fresh
  | .hst => b'.hst = b.hst
  | .mem => b'.mem = b.mem
  | .evr => b'.evr = b.evr
  | .inv => b'.inv = b.inv
  | .fleet => b'.fleet = b.fleet
  | .dvt => b'.dvt = b.dvt
  | .clp => b'.clp = b.clp
  | .axs => b'.axs = b.axs
  | .air => b'.air = b.air
  | .hdl => b'.hdl = b.hdl
  | .gns => b'.gns = b.gns
  | .pos => b'.pos = b.pos
  | .key => b'.key = b.key
  | .pwr => b'.pwr = b.pwr

/-- Nothing outside the parts `ps` has changed. -/
def Blk.onlyIn (ps : List Part) (b b' : Blk) : Prop := ∀ p, p ∉ ps → b.same b' p

/-- No register outside `offs` has changed. -/
def Blk.regsOnly (offs : List Nat) (b b' : Blk) : Prop := ∀ off, off ∉ offs → b'.reg off = b.reg off

/-- The command answers a next state with the fuses and the queue as they were and a working state that satisfies
`P`. -/
def Gives (c : Instr) (s : State) (P : Blk → Prop) : Prop :=
  ∃ b, exec c s = .next { s with blk := b } ∧ P b

/-- The counter register at `off` has gone up by `n`, saturating (R525). -/
def Blk.counts (b b' : Blk) (off : Nat) (n : Nat := 1) : Prop :=
  (b'.reg off).toNat = min ((b.reg off).toNat + n) 0xFFFFFFFF

/-- The counters that producing a queue item may raise (R432, R435, R436). -/
def itemRegs : List Nat :=
  (List.range 64).map Reg.QUE_Q_LOST_COUNT ++ [Reg.QUE_VOID_COUNT, Reg.QUE_PTR_ERR_COUNT, Reg.EVR_DROP_COUNT]

/-- The record `code` with `args` is the last one that the recorder took, or it was dropped because no room was
left (R476-R478). -/
def Recorded (b b' : Blk) (code : Nat) (args : Bytes) : Prop :=
  b'.evr = (b.record code args).evr

/-- The operation `id` has been completed with STATUS and DETAIL (R147): what went out since `b` holds its
completion. -/
def Ended (b b' : Blk) (id : OpId) (status detail : Nat) : Prop :=
  ∃ l e, b'.out = l ++ b.out ∧ Out.completion id e ∈ l ∧ e.status = status ∧ e.detail = detail % 2 ^ 32

/-- Entry `e` has been written to completion ring `cq`, or is held there until its moderation timer ends (R146, R157). -/
def Blk.entered (b' : Blk) (cq : Nat) (e : Entry) : Prop :=
  (∃ idx p, Out.entry cq idx p e ∈ b'.out) ∨ (e ∈ (b'.ring cq).held ∧ b'.fld (Reg.HST_RIRQ cq) 25 16 ≠ 0)

/-- Entry `e` has been written to completion ring `cq` (R146). -/
def Blk.written (b' : Blk) (cq : Nat) (e : Entry) : Prop := ∃ idx p, Out.entry cq idx p e ∈ b'.out

/-- The MSI-X message of vector `v` has gone out as the last thing, or is pending behind the vector's mask (R157). -/
def Blk.messaged (b b' : Blk) (v : Nat) : Prop :=
  if (Tab.val b.hst.msixTab (4 * v + 3) 1).getLsbD 0 then Tab.val b'.hst.msixPend v false = true ∧ b'.out = b.out
  else b'.out = .msix v :: b.out

/-- The operation of descriptor `d` has been completed with STATUS and DETAIL (R147). -/
def Completed (b b' : Blk) (d : Desc) (status detail : Nat) : Prop := Ended b b' d.id status detail

/-- A descriptor's meaning runs at once: it passes the header check and no FENCE holds it back (R104, R143). -/
def Blk.starts (b : Blk) (d : Desc) : Prop :=
  d.headerFault = none ∧ (b.enter d.id d.fence).fenceBlocked d = false

/-- The working state in which a started descriptor's meaning runs: its operation in flight, the descriptor no longer
held. -/
def Blk.started (b : Blk) (d : Desc) : Blk :=
  let b1 := b.enter d.id d.fence
  { b1 with hst := { b1.hst with fenced := b1.hst.fenced.filter (fun x => x ≠ d) } }

/-- Nothing but the transaction in hand is due in DVT: no AIR effect to apply, no transaction waiting, no segment just
freed, no member whose reassociation is to be settled (R116). -/
def Blk.quiet (b : Blk) : Prop :=
  b.airDue = none ∧ b.dvt.waits = [] ∧ b.dvt.freed = [] ∧ ∀ m, m < 128 → (b.link m).reassoc = false

/-- A descriptor whose meaning checks no header of its own class starts at once: no FENCE holds it back (R104). -/
def Blk.unfenced (b : Blk) (d : Desc) : Prop := (b.enter d.id d.fence).fenceBlocked d = false

/-- The parts that a stop may change: Clamp's own, what Dovetail and the axes do at a stop, its record, its report items
and the completions it brings. -/
def stopParts : List Part := [.air, .axs, .clp, .dvt, .evr, .fleet, .gns, .hdl, .hst, .inv, .mem, .out, .pos, .regs]

/-- The counters that a stop may raise. -/
def stopRegs : List Nat :=
  [Reg.AIR_EFFECT_DROP_COUNT, Reg.CLP_STOP_COUNT, Reg.DVT_ABORT_COUNT, Reg.DVT_COMMIT_COUNT, Reg.DVT_DEADLOCK_COUNT,
    Reg.MAP_LATE_COUNT] ++ itemRegs

/-- Both Clamp channels assert a stop and have latched the source `bit` (R169, R175). -/
def Blk.asserts (b : Blk) (bit : Nat) : Prop :=
  b.clp.a.stop = true ∧ b.clp.b.stop = true ∧ bitOf b.clp.a.latch bit = true ∧ bitOf b.clp.b.latch bit = true

/-! ## The life cycle (R466, R467) -/

/-- The fuses show a life cycle that transitions of R467 can reach: at most 63 of them, none while MANUF. -/
def Ident.legal (i : Ident) : Prop := i.lcCount ≤ 63 ∧ (i.lc = .manuf → i.lcCount = 0)

/-- One command leaves the life cycle or changes it along a transition of R467, which is counted, but for a change to
SCRAPPED at LC_COUNT 63. -/
def Ident.follows (i j : Ident) : Prop :=
  j = i ∨
    ((i.lc, j.lc) ∈ [(LifeCycle.manuf, LifeCycle.field), (.field, .field), (.field, .rma), (.rma, .field),
        (.manuf, .scrapped), (.field, .scrapped), (.rma, .scrapped)] ∧
      (if i.lcCount = 63 then j.lc = .scrapped ∧ j.lcCount = 63 else j.lcCount = i.lcCount + 1))

/-- READY and its cause word agree (R500): the device is READY exactly while no bit of the word is set. -/
def Blk.inLine (b : Blk) (i : Ident) : Prop := b.pwr.ready = (b.readyCause i == 0)

end Sys2Proof.Machine

namespace Sys2Proof

open Sys2Proof.Machine

/-! ## Commands -/

/-- The commands of the AON island, which act in every power state (R489). -/
def Instr.aon : Instr → Bool
  | .powerUp .. | .brownOut .. | .vanaLoss .. | .wakeTimer .. | .perstNDeassert .. | .deferredWake ..
  | .sleepEntryDone .. | .tamperQualify .. => true
  | _ => false

/-- The descriptor that a command brings, where the class of its opcode checks its header before its meaning runs (R74,
R104): all but TXN. -/
def Instr.desc : Instr → Option Desc
  | .waitCancel d | .waitsRead d | .mapLoad d | .mapSwitch d | .mapDiscard d | .snapshot d | .stop d | .release d
  | .groupRelease d | .resume d | .airSend d _ | .airRxBind d | .airAdmit d | .airMembersRead d | .gnsRestart d
  | .gnsSnapHost d _ | .gnsSpectrum d _ | .posRefSet d | .orbitLoad d _ | .headSet d _ | .memberFilterReset d
  | .posOfferRead d | .axsTableLoad d | .axsTableFree d | .axsFaultClear d | .axsSetPos d | .axsRead d | .timeStep d
  | .lanSend _ d _ | .lanRxBind d | .queueBind d | .queueUnbind d | .queueFlush d _ | .keyInstall d _
  | .keyImport d _ | .keyDelete d | .keyLoad d | .keyDerive d _ | .keyCipher d _ _ | .keyExportEnrol d | .keyEvict d
  | .keyHash d _ | .keyChallenge d | .tamperAck d | .lcChange d | .evrRead d | .evrClear d | .powerState d
  | .systemRestart d | .survey d | .surveyRead d | .wakeInfo d => some d
  | _ => none

/-- The parts of the working state that a command may change. -/
def Instr.touches : Instr → List Part
  | .sqDoorbellWrite .. | .cqDoorbellWrite ..
    => [.regs, .out, .hst, .mem]
  | .descriptorFetch .. | .superframeBatchFlush | .waitsRead .. | .airMembersRead .. | .gnsSpectrum ..
  | .posOfferRead .. | .axsRead .. | .surveyRead .. | .wakeInfo .. | .msixTableEntryWrite ..
    => [.out, .hst]
  | .slotsOnChip .. | .hstFetchErr .. | .coalescedPendingWrite | .keyExportEnrol ..
    => [.regs, .out, .hst]
  | .hstDmaErr ..
    => [.regs, .out, .hst, .fleet, .axs, .key]
  | .moderationTimerExpiry .. | .timeStep .. | .lanSend .. | .lanRxBind ..
    => [.out, .hst, .inv]
  | .queueItemCopy .. | .queueFlush ..
    => [.regs, .out, .hst, .mem, .evr]
  | .functionLevelReset
    => [.regs, .hst]
  | .ringEnable .. | .ringDisable .. | .hstModeWrite ..
    => [.regs, .hst, .mem, .evr]
  | .sqDrainDone .. | .modePersist
    => [.hst]
  | .txn .. | .waitCancel .. | .waitRejudge | .afterEpochRelease | .waitLimitExpiry .. | .afterLimitExpiry ..
  | .airTxnJudge | .deviceTxn .. | .assocTimeout .. | .expectedUplinkMissed .. | .solutionComplete .. | .clearStart
    => [.regs, .out, .hst, .mem, .evr, .inv, .fleet, .dvt, .air, .hdl, .gns, .pos]
  | .quotaPeriodStart
    => [.fleet, .dvt]
  | .mapLoad .. | .mapImageValidated .. | .mapDiscard ..
    => [.out, .hst, .fleet]
  | .mapSwitch ..
    => [.regs, .out, .fresh, .hst, .mem, .evr, .inv, .fleet, .dvt, .clp, .air, .hdl, .gns, .pos]
  | .snapshot .. | .snapshotAtEpoch | .snapshotWritten
    => [.regs, .out, .hst, .fleet, .air, .hdl]
  | .snapshotWaitTimeout ..
    => [.out, .hst, .inv, .fleet]
  | .estopLoopOpen .. | .estopTestPulse .. | .estopDiscrepancy .. | .clpStopReqWrite .. | .heartbeatTimeout ..
  | .stop .. | .cmonMismatch .. | .channelCrossCheck .. | .clockDeviation .. | .freezeAckTimeout
  | .periodKeyNotReady .. | .stoDarkTest .. | .stoReadbackFault .. | .upFrameRx .. | .pollRx ..
    => [.regs, .out, .hst, .mem, .evr, .inv, .fleet, .dvt, .clp, .axs, .air, .hdl, .gns, .pos]
  | .estopLoopCleared ..
    => [.clp]
  | .clpHbWrite ..
    => [.regs, .clp]
  | .pllLockLoss .. | .eccUncorrectable .. | .refclkLoss | .sramScrub ..
    => [.regs, .out, .fresh, .hst, .mem, .evr, .inv, .fleet, .dvt, .clp, .axs, .air, .hdl, .gns, .pos, .key, .pwr]
  | .windowConfirmTimeout ..
    => [.regs, .evr, .inv, .clp]
  | .vfieldOutOfRange .. | .dieOvertemp ..
    => [.regs, .out, .hst, .mem, .evr, .inv, .fleet, .dvt, .clp, .axs, .air, .hdl, .gns, .pos, .key, .pwr]
  | .vfieldRecovered ..
    => [.regs, .evr, .inv, .clp, .key, .pwr]
  | .rampLimitExpiry ..
    => [.out, .hst, .inv, .dvt, .clp, .axs]
  | .stoDelayExpiry ..
    => [.inv, .clp]
  | .release ..
    => [.regs, .out, .hst, .mem, .evr, .inv, .fleet, .dvt, .clp, .axs, .air, .hdl, .gns, .pos, .pwr]
  | .groupRelease ..
    => [.out, .hst, .clp]
  | .resume ..
    => [.out, .hst, .clp, .air]
  | .resumeTimeout ..
    => [.out, .hst, .inv, .clp, .air]
  | .stopWindow ..
    => [.out, .inv, .hdl]
  | .superframeStart ..
    => [.regs, .out, .hst, .inv, .dvt, .air, .hdl, .pos]
  | .rxplanSend
    => [.regs, .out, .air, .hdl]
  | .assocReqRx ..
    => [.regs, .out, .fresh, .hst, .mem, .evr, .inv, .fleet, .dvt, .air, .hdl, .gns, .pos]
  | .waitListKeepExpiry .. | .waitListDrop ..
    => [.inv, .air]
  | .downSlotTx .. | .posDlSlotTx .. | .bcastSlotTx .. | .keyDeliveryStart
    => [.out, .air, .hdl]
  | .downAckRx ..
    => [.regs, .out, .hst, .mem, .evr, .inv, .fleet, .dvt, .clp, .air, .hdl, .gns, .pos]
  | .downNoAck ..
    => [.regs, .out, .hst, .air]
  | .periodKeyDerive
    => [.air]
  | .bcopyRx .. | .primaryBeaconMissed
    => [.regs, .evr, .air]
  | .airSend .. | .airRxBind .. | .airAdmit ..
    => [.out, .hst, .air]
  | .helloRx ..
    => [.regs, .out, .fresh, .evr, .hdl]
  | .hbDnTx ..
    => [.regs, .out, .inv, .hdl]
  | .hbUpRx .. | .headHbLoss .. | .sgmiiLinkChange ..
    => [.regs, .evr, .inv, .clp, .air, .hdl]
  | .syncIntervalEnd ..
    => [.regs, .fresh, .evr, .inv, .hdl, .pos]
  | .suspectHoldExpiry ..
    => [.regs, .evr, .inv, .hdl]
  | .headRecalHold .. | .headRecalSet ..
    => [.regs, .fresh, .mem, .evr, .hdl]
  | .txReportRx ..
    => [.regs, .air, .hdl]
  | .stopwinReportMissing ..
    => [.regs, .evr, .clp, .air, .hdl]
  | .referenceEpoch ..
    => [.regs, .fresh, .mem, .evr, .inv, .air, .gns, .pos]
  | .agcUpdate .. | .acqSearchDone .. | .bitSyncFound ..
    => [.gns]
  | .spectrumUpdate .. | .jamUpdate | .antennaCurrentSample ..
    => [.regs, .evr, .gns]
  | .antennaRetry ..
    => [.regs, .evr, .inv, .gns]
  | .channelReview ..
    => [.inv, .gns]
  | .trackingUpdate ..
    => [.regs, .gns]
  | .navSymbolItem .. | .reservationGrant .. | .queuePop ..
    => [.regs, .mem, .evr]
  | .snapFragmentTimeout .. | .snapProcessStart .. | .snapResult ..
    => [.regs, .out, .hst, .mem, .evr, .inv, .air, .gns, .pos]
  | .gnsRestart ..
    => [.out, .hst, .gns]
  | .gnsSnapHost ..
    => [.regs, .out, .hst, .mem, .evr, .air, .gns, .pos]
  | .obsPayloadTimeout .. | .searchDeadline ..
    => [.regs, .inv, .pos]
  | .posEpochAdmit
    => [.regs, .pos]
  | .degradeEvaluate ..
    => [.regs, .evr, .inv, .pos]
  | .orbitSetActivate ..
    => [.out, .hst, .inv, .pos]
  | .posRefSet ..
    => [.out, .fresh, .hst, .pos]
  | .orbitLoad .. | .headSet ..
    => [.out, .hst, .pos]
  | .memberFilterReset ..
    => [.regs, .out, .hst, .pos]
  | .axisSample ..
    => [.regs, .out, .hst, .mem, .evr, .inv, .fleet, .dvt, .clp, .axs]
  | .sampleOverrun .. | .followErrorExpiry .. | .stallExpiry .. | .spRangeExpiry ..
    => [.regs, .out, .hst, .mem, .evr, .inv, .dvt, .clp, .axs]
  | .limitInputEdge ..
    => [.regs, .inv, .axs]
  | .zEdgeCapture ..
    => [.inv, .axs]
  | .encoderQuadError .. | .encoderOpenWire .. | .outputCurrentLimit .. | .outputOvervoltage ..
    => [.regs, .out, .hst, .mem, .evr, .dvt, .clp, .axs]
  | .ctlApply ..
    => [.regs, .mem, .evr, .axs]
  | .axsTableLoad .. | .tableValidated .. | .axsTableFree .. | .axsFaultClear .. | .axsSetPos ..
    => [.out, .hst, .axs]
  | .refclkRestore
    => [.regs, .mem, .evr, .inv, .key, .pwr]
  | .fleetSecondsStore .. | .compareTargetLoad ..
    => [.inv]
  | .timeStateEval .. | .holdoverBudgetExpiry .. | .ppsInEdge .. | .ppsInLoss .. | .hostRefLoss ..
  | .invHostOffWrite .. | .lanFrameRx .. | .lanIntervalEnd .. | .lanRecal ..
    => [.regs, .mem, .evr, .inv]
  | .ppsOutPulse ..
    => [.out, .inv]
  | .invIncWrite .. | .invUtcOffWrite ..
    => [.regs, .heldLo, .mem, .evr]
  | .timeStepApply
    => [.regs, .out, .hst, .mem, .evr, .inv, .fleet, .dvt, .hdl]
  | .compareFire .. | .compareHostArm .. | .queueMarkApply ..
    => [.regs, .mem, .evr, .inv, .fleet]
  | .queueBind .. | .queueUnbind ..
    => [.out, .hst, .mem]
  | .keyInstall .. | .keyImport .. | .keyDelete .. | .keyLoad .. | .keyDerive .. | .keyCipher .. | .keyEvict ..
  | .keyHash .. | .keyOperationDone
    => [.regs, .out, .hst, .key]
  | .storeUpdateDone
    => [.regs, .out, .hst, .evr, .air, .key, .pwr]
  | .keyChallenge ..
    => [.regs, .out, .fresh, .hst, .key]
  | .tamperAck ..
    => [.regs, .out, .hst, .evr, .clp, .air, .key, .pwr]
  | .lcChange .. | .tamperQualify .. | .powerUp | .brownOut .. | .vanaLoss .. | .perstNDeassert .. | .wakeTimer
  | .sleepEntryDone | .systemRestart .. | .deferredWake
    => [.regs, .latch, .heldLo, .out, .lastRead, .fresh, .hst, .mem, .evr, .inv,
      .fleet, .dvt, .clp, .axs, .air, .hdl, .gns, .pos, .key, .pwr]
  | .airHoldExpiry ..
    => [.regs, .evr, .inv, .axs, .air, .hdl, .key, .pwr]
  | .recordCommit ..
    => [.regs, .out, .fresh, .hst, .mem, .evr, .inv, .key, .pwr]
  | .evrRead .. | .clearComplete | .evrReadDone
    => [.out, .hst, .evr]
  | .evrClear ..
    => [.regs, .out, .hst, .evr, .key]
  | .bootStageAdvance ..
    => [.regs, .out, .fresh, .hst, .mem, .evr, .inv, .clp, .air, .hdl, .key, .pwr]
  | .supplyOutOfRange .. | .supplyRecovered ..
    => [.regs, .evr, .key, .pwr]
  | .powerState ..
    => [.regs, .out, .hst, .evr, .pos, .pwr]
  | .survey ..
    => [.out, .hst, .clp, .hdl, .pwr]
  | .surveyComplete ..
    => [.regs, .out, .fresh, .hst, .clp, .hdl, .pwr]
  | .monMeasure ..
    => [.regs, .pwr]
  | .registerWrite ..
    => [.regs, .heldLo, .out, .fresh, .hst, .mem, .evr, .inv, .fleet, .dvt,
      .clp, .axs, .air, .hdl, .gns, .pos, .key, .pwr]
  | .latchedLoRead ..
    => [.latch, .lastRead]
  | .readClearCounter ..
    => [.regs, .lastRead, .gns, .pwr]
  | .preambleDecoded ..
    => [.fresh, .gns]
  | .tamperSourceInactive ..
    => [.key]

/-- The island whose clock a command needs: without it the command does nothing (R10, R202). -/
def Instr.island : Instr → Option Island
  | .superframeStart .. | .rxplanSend | .upFrameRx .. | .pollRx .. | .assocReqRx .. | .assocTimeout ..
  | .waitListKeepExpiry .. | .waitListDrop .. | .downSlotTx .. | .downAckRx .. | .downNoAck ..
  | .expectedUplinkMissed .. | .posDlSlotTx .. | .bcastSlotTx .. | .keyDeliveryStart | .bcopyRx ..
  | .primaryBeaconMissed | .airSend .. | .airRxBind .. | .airAdmit .. | .airMembersRead .. => some .air
  | .axisSample .. | .sampleOverrun .. | .limitInputEdge .. | .zEdgeCapture .. | .encoderQuadError ..
  | .encoderOpenWire .. | .followErrorExpiry .. | .stallExpiry .. | .spRangeExpiry .. | .outputCurrentLimit ..
  | .outputOvervoltage .. | .ctlApply .. | .axsTableLoad .. | .tableValidated .. | .axsTableFree ..
  | .axsFaultClear .. | .axsSetPos .. | .axsRead .. => some .axs
  | .txn .. | .waitCancel .. | .waitsRead .. | .waitRejudge | .afterEpochRelease | .waitLimitExpiry ..
  | .afterLimitExpiry .. | .airTxnJudge | .deviceTxn .. | .quotaPeriodStart | .mapLoad .. | .mapImageValidated ..
  | .mapSwitch .. | .mapDiscard .. | .snapshot .. | .snapshotAtEpoch | .snapshotWaitTimeout .. | .snapshotWritten => some .dvt
  | .referenceEpoch .. | .agcUpdate .. | .spectrumUpdate .. | .jamUpdate | .antennaCurrentSample ..
  | .antennaRetry .. | .channelReview .. | .acqSearchDone .. | .trackingUpdate .. | .navSymbolItem ..
  | .snapFragmentTimeout .. | .snapProcessStart .. | .snapResult .. | .gnsRestart .. | .gnsSnapHost ..
  | .gnsSpectrum .. | .bitSyncFound .. | .preambleDecoded .. => some .gns
  | .stopWindow .. | .helloRx .. | .hbDnTx .. | .hbUpRx .. | .syncIntervalEnd .. | .suspectHoldExpiry ..
  | .headRecalHold .. | .headRecalSet .. | .txReportRx .. | .headHbLoss .. | .sgmiiLinkChange ..
  | .stopwinReportMissing .. => some .hdl
  | .sqDoorbellWrite .. | .cqDoorbellWrite .. | .descriptorFetch .. | .slotsOnChip .. | .hstFetchErr ..
  | .moderationTimerExpiry .. | .superframeBatchFlush | .coalescedPendingWrite | .queueItemCopy ..
  | .functionLevelReset | .ringEnable .. | .ringDisable .. | .sqDrainDone .. | .hstModeWrite .. | .modePersist
  | .msixTableEntryWrite .. => some .hst
  | .periodKeyDerive | .keyInstall .. | .keyImport .. | .keyDelete .. | .keyLoad .. | .keyDerive .. | .keyCipher ..
  | .keyExportEnrol .. | .keyEvict .. | .keyHash .. | .keyChallenge .. | .tamperSourceInactive .. | .keyOperationDone => some .key
  | .reservationGrant .. | .queuePop .. | .queueMarkApply .. | .queueBind .. | .queueUnbind .. | .queueFlush .. => some .mem
  | .obsPayloadTimeout .. | .posEpochAdmit | .searchDeadline .. | .solutionComplete .. | .degradeEvaluate ..
  | .orbitSetActivate .. | .posRefSet .. | .orbitLoad .. | .headSet .. | .memberFilterReset .. | .posOfferRead .. => some .pos
  | _ => none

end Sys2Proof
end

