-- ==== Sys2Proof/Certificates/Slice0/Obligations.lean ====
section
/-! DEFINITION. Sys2Proof/Certificates/Slice0/Obligations.lean: what is claimed of the block, one `Prop` each. -/

open Sys2Proof Sys2Proof.Machine

/-! ## Every command -/

/-- A step takes the command at the front of the queue and runs it on the state whose queue is the rest. -/
def Obligations.StepRunsTheFrontCommand : Prop :=
  ∀ (s : State) (c : Instr) (rest : List Instr),
    step { s with pending := c :: rest } = exec c { s with pending := rest }

/-- A step on an empty queue (the model's choice, log 6): without power nothing happens; with power it is one edge of INV,
at which fleet time goes on by INCVAL unless the RC oscillator runs it (R406, R408), then the AIR effects that are
due, then the first held descriptor that may start. -/
def Obligations.AnEmptyQueueIsOneEdge : Prop :=
  ∀ (s : State), s.pending = [] →
    (s.blk.powered = false → step s = .next s) ∧
    (s.blk.powered = true →
      (s.blk.invEdge.settleAir.nextHeld = none → step s = .next { s with blk := s.blk.invEdge.settleAir }) ∧
      (∀ d, s.blk.invEdge.settleAir.nextHeld = some d → step s = startHeld d { s with blk := s.blk.invEdge.settleAir }) ∧
      (s.blk.inv.rcClock = false → s.blk.invEdge.settleAir.inv.ft = s.blk.inv.ft + s.blk.incVal) ∧
      s.blk.onlyIn [.inv, .fresh, .air, .fleet, .hdl, .out, .regs] s.blk.invEdge.settleAir)

/-- Every command answers a next state and leaves the queue; all but LC_CHANGE leave the fuses; without power nothing but
a command of the AON island does anything (R489); a command of an island whose clock is lost does nothing (R10, R202;
which commands those are is `Instr.island`); and a command changes no part of the working state outside those that
`Instr.touches` names for it, and never the UID. -/
def Obligations.CommandsStayWithinTheirParts : Prop :=
  ∀ (c : Instr) (s : State), ∃ t : State, exec c s = .next t ∧ t.pending = s.pending ∧
    s.blk.onlyIn c.touches t.blk ∧ t.blk.uid = s.blk.uid ∧
    ((∀ d, c ≠ .lcChange d) → t.ident = s.ident) ∧
    (s.blk.powered = false → c.aon = false → t = s) ∧
    (∀ i, c.island = some i → s.blk.clocked i = false → t = s)

/-- A descriptor that a FENCE holds back is held, and nothing else happens (R104); one with a flag other than FENCE, or
with an NACT other than 0, completes ABORT_MALFORMED with the reason and the offset, and nothing else happens (R94,
R143). -/
def Obligations.DescriptorsAreHeldAndChecked : Prop :=
  ∀ (c : Instr) (s : State) (d : Desc), c.desc = some d → s.blk.powered = true →
    (∀ i, c.island = some i → s.blk.clocked i = true) → s.blk.inLine s.ident →
    ((s.blk.enter d.id d.fence).fenceBlocked d = true → Gives c s (fun b =>
      d ∈ b.hst.fenced ∧ s.blk.onlyIn [.hst] b)) ∧
    (s.blk.unfenced d → ∀ reason off, d.headerFault = some (reason, off) → Gives c s (fun b =>
      Completed s.blk b d St.malformed (malformed reason 0xFF off) ∧ s.blk.onlyIn [.hst, .out] b))

/-- Whatever the fuses show before a step, the life cycle goes on as R467 says: it stays or takes one transition of the
table, which is counted; so at most 63 transitions are ever counted, and none while MANUF. -/
def Obligations.TheLifeCycleFollowsItsTable : Prop :=
  ∀ (s t : State), s.ident.legal → step s = .next t → t.ident.legal ∧ s.ident.follows t.ident

/-- READY stays in line with its cause word over every step that leaves the device powered (R500). -/
def Obligations.ReadyFollowsItsConditions : Prop :=
  ∀ (s t : State), (s.blk.powered = true → s.blk.inLine s.ident) → step s = .next t →
    (t.blk.powered = true → t.blk.inLine t.ident)

/-- A stop ends by RELEASE alone (R169, R196, R197): a command after which neither channel asserts a stop that was
asserted before it is a RELEASE that names the stop's epoch, with no source active and no other precondition of R197
failing. -/
def Obligations.OnlyReleaseEndsAStop : Prop :=
  ∀ (c : Instr) (s t : State), exec c s = .next t → s.blk.stopped = true → t.blk.stopped = false →
    ∃ d, c = .release d ∧ s.blk.powered = true ∧ d.op 0x18 8 = s.blk.clp.s ∧
      s.blk.clp.a.active = 0 ∧ s.blk.clp.b.active = 0 ∧ s.blk.clp.faultCode = 0 ∧ s.blk.pwr.ready = true

/-- The device as delivered, right after reset (R500, R551; the fuses and the absent records as the log says): in MANUF
left for FIELD with one transition, READY low and in line with its cause word, both Clamp channels asserting a stop,
every ring OFF, no queue enabled and no map in service. -/
def Obligations.ResetLeavesTheDeviceStopped : Prop :=
  let b := State.reset.blk
  State.reset.pending = [] ∧ State.reset.ident.legal ∧ State.reset.ident.lc = .field ∧ b.inLine State.reset.ident ∧
  b.pwr.ready = false ∧ b.clp.a.stop = true ∧ b.clp.b.stop = true ∧ b.inService = false ∧
  (∀ n, n < 16 → (b.ring n).state = .off) ∧ (∀ n, n < 64 → b.flag (Reg.QUE_Q_CFG n) 0 = false)

/-! ## The host interface (R127-R168) -/

/-- R133: a doorbell is one 8-byte write, or a 4-byte write to its low half with the high half counting as 0; a write of
the high half alone is ignored; one to a ring in OFF is ignored and counted. Outside OFF a submission index in range
that does not go back becomes TAIL, and a completion index up to the device's TAIL becomes HEAD, with ARM arming the
ring; any other index is not taken but raises the flag and the count (R135, R137, R157). -/
def Obligations.DoorbellsAreTakenByTheirRings : Prop :=
  (∀ (s : State) (ring : Ring128) (value : DWord) (half : DbHalf),
     s.blk.runs .hst = true → s.blk.isCq ring.val = false →
     let r := s.blk.ring ring.val
     let n := s.blk.ringSize ring.val
     let cq := s.blk.cqOf ring.val
     (half = .high → Gives (.sqDoorbellWrite ring value half) s (fun b => b = s.blk)) ∧
     ∀ v, dbValue value half = some v →
       (r.state = .off → Gives (.sqDoorbellWrite ring value half) s (fun b =>
         s.blk.counts b Reg.HST_DB_ERR_COUNT ∧ s.blk.onlyIn [.regs] b ∧ s.blk.regsOnly [Reg.HST_DB_ERR_COUNT] b)) ∧
       (r.state ≠ .off → v % 2 ^ 16 < n → (r.tail + n - r.head) % n ≤ (v % 2 ^ 16 + n - r.head) % n →
         Gives (.sqDoorbellWrite ring value half) s (fun b =>
           (b.ring ring.val).tail = v % 2 ^ 16 ∧ (b.ring ring.val).head = r.head ∧ (b.ring ring.val).state = r.state ∧
           (∀ k, k ≠ ring.val → b.ring k = s.blk.ring k) ∧ s.blk.onlyIn [.hst] b)) ∧
       (r.state ≠ .off → ¬ (v % 2 ^ 16 < n ∧ (r.tail + n - r.head) % n ≤ (v % 2 ^ 16 + n - r.head) % n) →
         Gives (.sqDoorbellWrite ring value half) s (fun b =>
           b.flag (Reg.HST_RSTATUS ring.val) 4 = true ∧ s.blk.counts b Reg.HST_DB_ERR_COUNT ∧
           (s.blk.cqRoom2 cq = true → (s.blk.ring cq).state = .run →
             b.written cq ⟨0xC0F0, 0x22, ring.val, v % 2 ^ 32, s.blk.fleet.epoch, s.blk.nowFt64, 0⟩) ∧
           (∀ k, k ≠ cq → b.ring k = s.blk.ring k) ∧ s.blk.onlyIn [.regs, .hst, .out] b ∧
           s.blk.regsOnly [Reg.HST_DB_ERR_COUNT, Reg.HST_RSTATUS ring.val] b))) ∧
  (∀ (s : State) (ring : Ring128) (value : DWord) (half : DbHalf),
     s.blk.runs .hst = true → s.blk.isCq ring.val = true →
     let r := s.blk.ring ring.val
     let n := s.blk.ringSize ring.val
     (half = .high → Gives (.cqDoorbellWrite ring value half) s (fun b => b = s.blk)) ∧
     ∀ v, dbValue value half = some v →
       (r.state = .off → Gives (.cqDoorbellWrite ring value half) s (fun b =>
         s.blk.counts b Reg.HST_DB_ERR_COUNT ∧ s.blk.onlyIn [.regs] b ∧ s.blk.regsOnly [Reg.HST_DB_ERR_COUNT] b)) ∧
       (r.state ≠ .off → v % 2 ^ 16 < n → (v % 2 ^ 16 + n - r.head) % n ≤ (r.tail + n - r.head) % n →
         let due := 0 < min r.sinceMsg ((r.tail + n - v % 2 ^ 16) % n)
         Gives (.cqDoorbellWrite ring value half) s (fun b =>
           (b.ring ring.val).head = v % 2 ^ 16 ∧ (b.ring ring.val).tail = r.tail ∧
           (bitOf v 16 = false → (b.ring ring.val).armed = r.armed ∧ b.out = s.blk.out) ∧
           (bitOf v 16 = true → ¬ due → (b.ring ring.val).armed = true ∧ b.out = s.blk.out) ∧
           (bitOf v 16 = true → due → (b.ring ring.val).armed = false ∧
             s.blk.messaged b (s.blk.fld (Reg.HST_RIRQ ring.val) 6 0)) ∧
           (∀ k, k ≠ ring.val → b.ring k = s.blk.ring k) ∧ s.blk.onlyIn [.hst, .mem, .out] b)) ∧
       (r.state ≠ .off → ¬ (v % 2 ^ 16 < n ∧ (v % 2 ^ 16 + n - r.head) % n ≤ (r.tail + n - r.head) % n) →
         Gives (.cqDoorbellWrite ring value half) s (fun b =>
           b.flag (Reg.HST_RSTATUS ring.val) 4 = true ∧ s.blk.counts b Reg.HST_DB_ERR_COUNT ∧
           (b.ring ring.val).head = r.head ∧
           (s.blk.cqRoom2 ring.val = true → r.state = .run →
             b.written ring.val ⟨0xC0F0, 0x22, ring.val, v % 2 ^ 32, s.blk.fleet.epoch, s.blk.nowFt64, 0⟩) ∧
           (∀ k, k ≠ ring.val → b.ring k = s.blk.ring k) ∧ s.blk.onlyIn [.regs, .hst, .out] b ∧
           s.blk.regsOnly [Reg.HST_DB_ERR_COUNT, Reg.HST_RSTATUS ring.val] b)))

/-- Fetching (R138-R145): the fetcher reads the slot at the fetch index of the ring it serves, and of a descriptor whose
slots are all published every slot, else the ring waits; a descriptor that has arrived moves the fetch index past its
slots and is in flight, or is completed ABORT_MALFORMED for its opcode, flags or tag; a descriptor whose CRC fails is
fetched once more, and the second failure ends the ring in ERROR with CRC_FAIL; a slot that cannot be read is read
once more and puts the ring in ERROR; host data that cannot be read completes the operation with HST_DMA_ERR. -/
def Obligations.DescriptorsAreFetchedAndDispatched : Prop :=
  (∀ (s : State) (nslot n k : Nat), s.blk.runs .hst = true → s.blk.pickRing = some (n, k) →
    (s.blk.ring n).head < s.blk.ringSize n →
    Gives (.descriptorFetch nslot) s (fun b =>
      b.hst.fetchRing = n ∧ s.blk.onlyIn [.hst, .out] b ∧
      (1 ≤ nslot → nslot ≤ 5 → nslot ≤ s.blk.published n → b.hst.fetchCount = k ∧ (∀ j, b.ring j = s.blk.ring j) ∧
        ∃ l, b.out = l ++ s.blk.out ∧ l.length = nslot ∧
        ∀ i, i < nslot → Out.slotRead n (((s.blk.ring n).head + i) % s.blk.ringSize n) ∈ l) ∧
      (nslot ≤ 5 → s.blk.published n < nslot → (b.ring n).partialNeed = nslot ∧
        (b.ring n).head = (s.blk.ring n).head ∧ b.out = .slotRead n (s.blk.ring n).head :: s.blk.out) ∧
      (nslot = 0 ∨ 5 < nslot → b.hst.fetchCount = k ∧ (∀ j, b.ring j = s.blk.ring j) ∧
        b.out = .slotRead n (s.blk.ring n).head :: s.blk.out))) ∧
  (∀ (s : State) (ring : Ring128) (bytes : Bytes) (refetch : Bool), s.blk.runs .hst = true →
    (s.blk.ring ring.val).state = .run → s.blk.isCq ring.val = false → s.blk.flag (Reg.HST_RCFG ring.val) 2 = false →
    s.blk.hst.planes = false →
    let d : Desc := ⟨ring, bytes, s.blk.hst.flrs⟩
    let badTag := 1024 ≤ d.tagField ∨ s.blk.inFlight d.id = true
    1 ≤ d.nslot → d.nslot ≤ 5 → d.nslotOk false = true →
    Gives (.slotsOnChip ring bytes refetch) s (fun b =>
      s.blk.onlyIn [.regs, .hst, .out] b ∧ s.blk.regsOnly [Reg.HST_REFETCH_COUNT] b ∧
      (refetch = true → s.blk.counts b Reg.HST_REFETCH_COUNT) ∧ (refetch = false → b.regs = s.blk.regs) ∧
      (knownOpcode d.opcode = true → d.flagsBad = false → ¬ badTag →
        (b.ring ring.val).head = ((s.blk.ring ring.val).head + d.nslot) % s.blk.ringSize ring.val ∧
        b.hst.ops = s.blk.hst.ops ++ [⟨d.id, d.fence, none⟩]) ∧
      (knownOpcode d.opcode = false → ¬ badTag → Completed s.blk b d St.malformed (malformed 0x01 0xFF 0)) ∧
      (knownOpcode d.opcode = true → d.flagsBad = true → ¬ badTag →
        Completed s.blk b d St.malformed (malformed 0x04 0xFF 2)) ∧
      (knownOpcode d.opcode = true → d.flagsBad = false → badTag →
        Ended s.blk b (s.blk.tagless d.id) St.malformed (malformed 0x05 0xFF 4)))) ∧
  (∀ (s : State) (ring : Ring128) (bytes : Bytes), s.blk.runs .hst = true →
    (s.blk.ring ring.val).state = .run → s.blk.isCq ring.val = false → s.blk.flag (Reg.HST_RCFG ring.val) 2 = true →
    let n := (⟨ring, bytes, s.blk.hst.flrs⟩ : Desc).nslot
    1 ≤ n → n ≤ 5 → (crc32c (slice bytes 0 (64 * n - 4))).toNat ≠ le bytes (64 * n - 4) 4 →
    (s.blk.ring ring.val).refetched = false →
    Gives (.slotsOnChip ring bytes false) s (fun b => b.hst.ops = s.blk.hst.ops ∧
      (b.ring ring.val).refetched = true ∧ (b.ring ring.val).head = (s.blk.ring ring.val).head ∧
      s.blk.counts b Reg.HST_REFETCH_COUNT ∧
      Out.slotRead ring.val ((s.blk.ring ring.val).head % s.blk.ringSize ring.val) ∈ b.out ∧
      s.blk.onlyIn [.regs, .hst, .out] b ∧ s.blk.regsOnly [Reg.HST_REFETCH_COUNT] b)) ∧
  (∀ (s : State) (ring : Ring128) (bytes : Bytes), s.blk.runs .hst = true →
    (s.blk.ring ring.val).state = .run → s.blk.isCq ring.val = false → s.blk.flag (Reg.HST_RCFG ring.val) 2 = true →
    let n := (⟨ring, bytes, s.blk.hst.flrs⟩ : Desc).nslot
    1 ≤ n → n ≤ 5 → (crc32c (slice bytes 0 (64 * n - 4))).toNat ≠ le bytes (64 * n - 4) 4 →
    (s.blk.ring ring.val).refetched = true →
    Gives (.slotsOnChip ring bytes false) s (fun b => (b.ring ring.val).state = .error ∧
      b.flag (Reg.HST_RSTATUS ring.val) 3 = true ∧
      Ended s.blk b (s.blk.tagless ⟨ring.val, 0, 0, 0, s.blk.hst.flrs⟩) St.crcFail (s.blk.ring ring.val).head ∧
      s.blk.onlyIn [.regs, .hst, .out] b ∧ s.blk.regsOnly [Reg.HST_RSTATUS ring.val] b)) ∧
  (∀ (s : State) (ring : Ring128) (slot : Fin 5), s.blk.runs .hst = true → (s.blk.ring ring.val).state = .run →
    s.blk.isCq ring.val = false →
    let cq := s.blk.cqOf ring.val
    let idx (j : Nat) := ((s.blk.ring ring.val).head + j) % s.blk.ringSize ring.val
    Gives (.hstFetchErr ring slot) s (fun b => (b.ring ring.val).state = .error ∧
      b.flag (Reg.HST_RSTATUS ring.val) 2 = true ∧ s.blk.counts b Reg.HST_REFETCH_COUNT ∧
      (∀ j, j ≤ slot.val → Out.slotRead ring.val (idx j) ∈ b.out) ∧
      (s.blk.cqRoom2 cq = true → (s.blk.ring cq).state = .run →
        b.written cq ⟨0xC0F0, 0x20, ring.val, idx slot.val, s.blk.fleet.epoch, s.blk.nowFt64, 0⟩) ∧
      s.blk.onlyIn [.regs, .hst, .out] b ∧
      s.blk.regsOnly [Reg.HST_REFETCH_COUNT, Reg.HST_RSTATUS ring.val] b)) ∧
  (∀ (s : State) (d : Desc) (addr : Nat), s.blk.runs .hst = true →
    ⟨d.id, d.fence, none⟩ ∈ s.blk.hst.ops → d.cls ≠ 0x01 →
    (∀ o ∈ s.blk.hst.ops, o.id.ring = d.ring.val → o.id.tag = d.tagField % 1024 → o = ⟨d.id, d.fence, none⟩) →
    Gives (.hstDmaErr d.ring (d.tagField % 1024) addr) s (fun b =>
      Completed s.blk b d 0x21 (addr % 2 ^ 32) ∧
      (∀ l ∈ b.fleet.loads, l.id ≠ d.id) ∧ (∀ r ∈ b.key.running, r.d.id ≠ d.id) ∧
      s.blk.onlyIn [.regs, .hst, .fleet, .axs, .key, .out] b ∧ s.blk.regsOnly [Reg.KEY_OP_COUNT] b))

/-- Completions that wait (R153-R158): the moderation timer writes every held entry in order, with the ring's message
where it is armed; the superframe's end writes every batched completion, in planes mode every completion of the data
plane whose predecessors are complete; a pending coalesced entry is written where its ring has room, or dropped and
counted where it has none to go to; an item of a bound queue is written whole with its entry. -/
def Obligations.WaitingCompletionsAreWritten : Prop :=
  (∀ (s : State) (t : Nat) (cq : Ring128), s.blk.runs .hst = true →
    let r := s.blk.ring cq.val
    let n := s.blk.ringSize cq.val
    s.blk.fld (Reg.HST_RIRQ cq.val) 25 16 ≠ 0 →
    r.heldSince + s.blk.fld (Reg.HST_RIRQ cq.val) 25 16 * 1000 ≤ (s.blk.moveTo t).elapsed →
    r.held ≠ [] → r.tail < n → r.held.length ≤ n →
    Gives (.moderationTimerExpiry t cq) s (fun b => (b.ring cq.val).held = [] ∧
      (b.ring cq.val).tail = (r.tail + r.held.length) % n ∧
      (∀ i (h : i < r.held.length), Out.entry cq.val ((r.tail + i) % n)
        (if r.tail + i < n then r.phase else !r.phase) r.held[i] ∈ b.out) ∧
      (r.armed = true → (b.ring cq.val).armed = false ∧
        let v := s.blk.fld (Reg.HST_RIRQ cq.val) 6 0
        if (Tab.val s.blk.hst.msixTab (4 * v + 3) 1).getLsbD 0 then Tab.val b.hst.msixPend v false = true
        else Out.msix v ∈ b.out) ∧
      (∀ k, k ≠ cq.val → b.ring k = s.blk.ring k) ∧ s.blk.onlyIn [.inv, .hst, .out] b)) ∧
  (∀ s : State, s.blk.runs .hst = true → s.blk.hst.planes = false →
    (∀ o ∈ s.blk.hst.ops, ∀ p ∈ s.blk.hst.ops, sameOp o.id p.id = true → o = p) →
    Gives .superframeBatchFlush s (fun b => b.hst.batch = [] ∧
      (∀ id ∈ s.blk.hst.batch, b.inFlight id = false) ∧
      (∀ o ∈ s.blk.hst.ops, ∀ e, o.id ∈ s.blk.hst.batch → o.done = some e →
        (s.blk.ring (s.blk.cqOf o.id.ring)).state = .run → b.written (s.blk.cqOf o.id.ring) e) ∧
      s.blk.onlyIn [.hst, .out] b)) ∧
  (∀ (s : State) (l1 l2 : List Op) (o : Op) (e : Entry), s.blk.runs .hst = true → s.blk.hst.planes = true →
    s.blk.hst.ops = l1 ++ o :: l2 → o.id.ring = 2 → o.done = some e →
    (∀ p ∈ l1, p.id.ring = 2 → p.done.isSome = true) → (s.blk.ring 3).state = .run →
    Gives .superframeBatchFlush s (fun b =>
      (b.written 3 e ∨ e ∈ (b.ring 3).held) ∧ (batched true o.id = true → b.written 3 e) ∧
      s.blk.onlyIn [.hst, .out] b)) ∧
  (∀ (s : State) (c : Coal), s.blk.runs .hst = true → s.blk.hst.coal = some c →
    (s.blk.coalRing = none → Gives .coalescedPendingWrite s (fun b => b.hst.coal = none ∧
      s.blk.counts b Reg.HST_COAL_DROP_COUNT ∧ s.blk.onlyIn [.hst, .regs] b ∧
      s.blk.regsOnly [Reg.HST_COAL_DROP_COUNT] b)) ∧
    (∀ cq, s.blk.coalRing = some cq → s.blk.cqRoom2 cq = true →
      Gives .coalescedPendingWrite s (fun b => b.hst.coal = none ∧
        b.entered cq ⟨0xC000, St.done, b2n c.merged, c.mask % 2 ^ 32, c.epoch, ft64 c.time, c.mask / 2 ^ 32 % 2 ^ 16⟩ ∧
        s.blk.onlyIn [.hst, .out] b)) ∧
    (∀ cq, s.blk.coalRing = some cq → s.blk.cqRoom2 cq = false →
      Gives .coalescedPendingWrite s (fun b => b = s.blk))) ∧
  (∀ (s : State) (q : Queue64) (opens : List OpenItem) (bd : Binding) (i : Item) (rest : List Item) (off : Nat),
    s.blk.runs .hst = true → (s.blk.queue q.val).ptrBad = false →
    let x := (s.blk.queue q.val).atEdge opens (s.blk.queueCap q.val)
    x.bound = some bd → x.items = i :: rest → i.isOpen = false → i.typ ≠ 0xFF →
    (s.blk.ring bd.cq).state = .run → s.blk.cqRoom bd.cq = true → i.data.length ≤ 2 ^ bd.log2 →
    placeItem bd i.data.length = some off →
    let len := i.data.length
    Gives (.queueItemCopy q opens) s (fun b => (b.queue q.val).items = rest ∧
      (b.queue q.val).rd = ptrAdd x.rd i.words (s.blk.queueCap q.val) ∧
      (∃ bd', (b.queue q.val).bound = some bd' ∧ bd'.off = off + len ∧ bd'.delivered = bd.delivered + 1) ∧
      Out.hostWrite (bd.addr + off) i.data ∈ b.out ∧
      b.entered bd.cq ⟨0x8000 + q.val, St.done, 0, len % 2 ^ 16 * 2 ^ 16 + i.typ * 256, s.blk.fleet.epoch, s.blk.nowFt64,
        off + bd.delivered % 2 ^ 32 * 2 ^ 32⟩ ∧
      (∀ k, k ≠ q.val → b.queue k = s.blk.queue k) ∧ s.blk.onlyIn [.mem, .hst, .out] b))

/-- Enabling and disabling rings (R131, R132), in native mode: an OFF ring enabled starts at index 0 in RUN, a completion
ring with PHASE 1 and armed; a completion ring that nothing names goes OFF when disabled; a submission ring drains,
and is OFF once nothing of it is in flight. -/
def Obligations.RingsStartDrainAndStop : Prop :=
  (∀ (s : State) (ring : Ring128) (w : Word), s.blk.runs .hst = true → s.blk.inSvc = true → s.blk.hst.planes = false →
    (s.blk.ring ring.val).state = .off → s.blk.flag (Reg.HST_RCFG ring.val) 0 = false →
    fieldOf w 1 1 = 1 → 7 ≤ fieldOf w 8 4 → fieldOf w 8 4 ≤ 16 →
    Gives (.ringEnable ring w) s (fun b => b.ring ring.val = { state := .run, phase := true, armed := true } ∧
      b.isCq ring.val = true ∧ b.ringSize ring.val = 2 ^ fieldOf w 8 4 ∧
      (∀ k, k ≠ ring.val → b.ring k = s.blk.ring k) ∧ s.blk.onlyIn [.regs, .hst] b ∧
      s.blk.regsOnly [Reg.HST_RCFG ring.val] b)) ∧
  (∀ (s : State) (ring : Ring128) (w : Word), s.blk.runs .hst = true → s.blk.inSvc = true → s.blk.hst.planes = false →
    (s.blk.ring ring.val).state = .off → s.blk.flag (Reg.HST_RCFG ring.val) 0 = false →
    fieldOf w 1 1 = 0 → 6 ≤ fieldOf w 8 4 → fieldOf w 8 4 ≤ 16 →
    s.blk.cqOf ring.val ≠ ring.val → s.blk.isCq (s.blk.cqOf ring.val) = true →
    (s.blk.ring (s.blk.cqOf ring.val)).state = .run →
    Gives (.ringEnable ring w) s (fun b => b.ring ring.val = { state := .run } ∧
      b.isCq ring.val = false ∧ b.ringSize ring.val = 2 ^ fieldOf w 8 4 ∧
      (∀ k, k ≠ ring.val → b.ring k = s.blk.ring k) ∧ s.blk.onlyIn [.regs, .hst] b ∧
      s.blk.regsOnly [Reg.HST_RCFG ring.val] b)) ∧
  (∀ (s : State) (ring : Ring128) (w : Word), s.blk.runs .hst = true → s.blk.inSvc = true → s.blk.hst.planes = false →
    (s.blk.ring ring.val).state = .run → s.blk.flag (Reg.HST_RCFG ring.val) 0 = true →
    fieldOf w 1 1 = s.blk.fld (Reg.HST_RCFG ring.val) 1 1 → fieldOf w 8 4 = s.blk.fld (Reg.HST_RCFG ring.val) 8 4 →
    fieldOf w 2 2 = s.blk.fld (Reg.HST_RCFG ring.val) 2 2 →
    (s.blk.isCq ring.val = true → s.blk.cqNamed ring.val = false) →
    Gives (.ringDisable ring w) s (fun b =>
      (b.ring ring.val).state
        = (if s.blk.isCq ring.val = false ∧ s.blk.hst.ops.any (fun o => o.id.ring == ring.val) = true
           then .drain else .off) ∧
      b.flag (Reg.HST_RCFG ring.val) 0 = false ∧ (∀ k, k ≠ ring.val → b.ring k = s.blk.ring k) ∧
      s.blk.onlyIn [.regs, .hst] b ∧ s.blk.regsOnly [Reg.HST_RCFG ring.val] b)) ∧
  (∀ (s : State) (ring : Ring128), s.blk.runs .hst = true → (s.blk.ring ring.val).state = .drain →
    (∀ o ∈ s.blk.hst.ops, o.id.ring ≠ ring.val) →
    Gives (.sqDrainDone ring) s (fun b => b.ring ring.val = { s.blk.ring ring.val with state := .off } ∧
      (∀ k, k ≠ ring.val → b.ring k = s.blk.ring k) ∧ s.blk.onlyIn [.hst] b))

/-- A function-level reset turns every ring off, forgets every operation in flight and every register of HST, and leaves
everything else (R129); MODE switches only while every ring is OFF (R160); PERSIST keeps the present mode with the
next generation (R524); a written dword of the MSI-X table reads back, and unmasking sends a pending message (R157).
-/
def Obligations.HostResetModeAndVectors : Prop :=
  (∀ s : State, s.blk.runs .hst = true →
    Gives .functionLevelReset s (fun b => (∀ k, b.ring k = {}) ∧ b.hst.ops = [] ∧ b.hst.batch = [] ∧ b.hst.flrs = s.blk.hst.flrs + 1 ∧
      b.hst.planes = s.blk.hst.storedPlanes ∧
      (s.blk.hst.storedPlanes = false → ∀ off, 0x10000 ≤ off → off < 0x20000 → b.reg off = regReset off) ∧
      (∀ off, ¬ (0x10000 ≤ off ∧ off < 0x20000) → b.reg off = s.blk.reg off) ∧ s.blk.onlyIn [.regs, .hst] b)) ∧
  (∀ (s : State) (w : Word), s.blk.runs .hst = true → s.blk.inSvc = true → w.getLsbD 1 = false →
    (s.blk.allOff = true → Gives (.hstModeWrite w) s (fun b => b.hst.planes = w.getLsbD 0 ∧
      b.hst.storedPlanes = s.blk.hst.storedPlanes ∧ (∀ k, b.ring k = s.blk.ring k) ∧ s.blk.onlyIn [.regs, .hst] b)) ∧
    (s.blk.allOff = false → w.getLsbD 0 ≠ s.blk.hst.planes → Gives (.hstModeWrite w) s (fun b =>
      b.hst = s.blk.hst ∧ s.blk.counts b Reg.SYS_CLAMP_COUNT ∧ b.reg Reg.SYS_LAST_CLAMP = word Reg.HST_MODE ∧
      s.blk.onlyIn [.regs, .mem, .evr] b ∧
      s.blk.regsOnly ([Reg.SYS_CLAMP_COUNT, Reg.SYS_LAST_CLAMP] ++ itemRegs) b))) ∧
  (∀ s : State, s.blk.runs .hst = true → s.blk.inSvc = true →
    Gives .modePersist s (fun b => b.hst = { s.blk.hst with
        storedPlanes := s.blk.hst.planes, persistActive := 1 - s.blk.hst.persistActive,
        persistGen := s.blk.hst.persistGen + 1, persistValid := true,
        persistOlder := if s.blk.hst.persistValid then some s.blk.hst.storedPlanes else none } ∧
      s.blk.onlyIn [.hst] b)) ∧
  (∀ (s : State) (v : Mix) (dw : Fin 4) (x : Word), s.blk.runs .hst = true →
    Gives (.msixTableEntryWrite v dw x) s (fun b => Tab.val b.hst.msixTab (4 * v.val + dw.val) 0 = x ∧
      (∀ k, k ≠ 4 * v.val + dw.val → ∀ d, Tab.val b.hst.msixTab k d = Tab.val s.blk.hst.msixTab k d) ∧
      (dw.val = 3 → x.getLsbD 0 = false → Tab.val s.blk.hst.msixPend v.val false = true →
        b.out = .msix v.val :: s.blk.out ∧ Tab.val b.hst.msixPend v.val false = false) ∧
      s.blk.onlyIn [.hst, .out] b))

/-! ## Transactions (R88-R118) -/

/-- A host transaction commits whole or leaves no trace (R39, R91, R112, R113): while nothing else is due, it ends STOPPED
during a stop; else, unless it waits for an epoch, its judgement is carried out: an abort changes no coherent state, a
commit puts its working copy in force with its epoch, and a wait enters the pool. With a freeze between its judgement
and its commit the completion of a commit is kept for the stop epoch. -/
def Obligations.TransactionsCommitWholeOrLeaveNoTrace : Prop :=
  ∀ (s : State) (d : Desc) (freeze : Bool), s.blk.runs .dvt = true → s.blk.unfenced d → s.blk.quiet →
    s.blk.dvt.admission = [] →
    let b0 := s.blk.started d
    let b1 := b0.noteTurn false
    let t := txnOfDesc d (b0.flag (Reg.HST_RCFG d.ring.val) 2)
    (s.blk.stopped = true → Gives (.txn d freeze) s (fun b =>
      Completed s.blk b d St.stopped (s.blk.clp.s % 2 ^ 32) ∧ s.blk.counts b Reg.DVT_ABORT_COUNT ∧
      s.blk.onlyIn [.hst, .out, .regs] b ∧ s.blk.regsOnly [Reg.DVT_ABORT_COUNT] b)) ∧
    (s.blk.stopped = false → s.blk.fleet.map ≠ none → bitOf t.flags 2 = true → s.blk.fleet.epoch < t.after →
      Gives (.txn d freeze) s (fun b =>
        b.dvt = { s.blk.dvt with waits := [⟨t, s.blk.elapsed, s.blk.nowFt64, true, []⟩] } ∧
        s.blk.onlyIn [.hst, .dvt] b)) ∧
    (s.blk.stopped = false → (bitOf t.flags 2 = true → s.blk.fleet.map = none ∨ t.after ≤ s.blk.fleet.epoch) →
      (∀ st dt, b1.judge t false = .abort st dt → Gives (.txn d freeze) s (fun b =>
        Completed s.blk b d st dt ∧ s.blk.counts b Reg.DVT_ABORT_COUNT ∧ b.dvt = b1.dvt ∧
        s.blk.onlyIn [.hst, .out, .regs, .dvt] b ∧
        s.blk.regsOnly [Reg.DVT_ABORT_COUNT, Reg.DVT_DEADLOCK_COUNT] b)) ∧
      (∀ w, b1.judge t false = .commit w → Gives (.txn d freeze) s (fun b =>
        b.fleet.coh = w.coh ∧ b.fleet.epoch = w.epoch ∧ s.blk.counts b Reg.DVT_COMMIT_COUNT ∧
        (freeze = false → Completed s.blk b d (if w.clamp = 0 then St.done else St.doneClamped) (w.clamp * 2 ^ 16)) ∧
        (freeze = true → b.dvt.late = s.blk.dvt.late ++ [⟨d.id, w.clamp, w.epoch, s.blk.nowFt64⟩]) ∧
        s.blk.onlyIn [.hst, .out, .regs, .fleet, .dvt, .inv, .air, .hdl, .gns, .pos] b ∧
        s.blk.regsOnly [Reg.DVT_COMMIT_COUNT, Reg.AIR_EFFECT_DROP_COUNT] b)) ∧
      (∀ es, b1.judge t false = .wait es → Gives (.txn d freeze) s (fun b =>
        b.dvt = { b1.dvt with waits := [⟨t, s.blk.elapsed, s.blk.nowFt64, false, es⟩] } ∧
        s.blk.onlyIn [.hst, .dvt] b)))

/-- Waiting transactions (R99, R101, R102, R105): WAIT_CANCEL takes the one it names out of the pool, or completes with
DETAIL 1 where none waits; WAITS_READ writes the epoch, the number of edges and one entry for each, and changes no
state of DVT; a freed segment, or an epoch that is reached, brings the one transaction that waits for it to judgement,
and it commits and is answered. Waits end (R63, R100, R105): the transactions and snapshots that have waited longer
than their limit leave, those of a host ring complete TIMEOUT with their cause, and no coherent state changes. -/
def Obligations.WaitsEndOrAreCancelled : Prop :=
  ((∀ (s : State) (d : Desc) (id : OpId) (w : Wait), s.blk.runs .dvt = true → s.blk.starts d →
     d.op 0x18 1 < 128 → d.op 0x19 1 = 0 → d.op 0x1A 2 < 1024 →
     w.txn.src = .host id → id.ring = d.op 0x18 1 → id.tag = d.op 0x1A 2 → s.blk.dvt.waits = [w] →
     Gives (.waitCancel d) s (fun b => b.dvt = { s.blk.dvt with waits := [] } ∧ Completed s.blk b d St.done 0 ∧
       Ended s.blk b id 0x28 d.id.tag ∧
       s.blk.onlyIn [.hst, .out, .regs, .dvt] b ∧ s.blk.regsOnly [Reg.DVT_ABORT_COUNT] b)) ∧
   (∀ (s : State) (d : Desc), s.blk.runs .dvt = true → s.blk.starts d →
     d.op 0x18 1 < 128 → d.op 0x19 1 = 0 → d.op 0x1A 2 < 1024 →
     (∀ w ∈ s.blk.dvt.waits, ∀ id, w.txn.src = .host id → ¬ (id.ring = d.op 0x18 1 ∧ id.tag = d.op 0x1A 2)) →
     Gives (.waitCancel d) s (fun b => Completed s.blk b d St.done 1 ∧ s.blk.onlyIn [.hst, .out] b)) ∧
   (∀ (s : State) (d : Desc), s.blk.runs .dvt = true → s.blk.starts d → d.op 0x18 8 % 64 = 0 →
     16 + 16 * s.blk.edges.length ≤ d.op 0x20 4 →
     Gives (.waitsRead d) s (fun b => Completed s.blk b d St.done s.blk.edges.length ∧
       Out.hostWrite (d.op 0x18 8) (leBytes 8 s.blk.fleet.epoch ++ leBytes 2 s.blk.edges.length ++ zeros 6 ++
         s.blk.dvt.waits.flatMap (fun w => w.edges.flatMap (waitEntry w))) ∈ b.out ∧
       s.blk.onlyIn [.hst, .out] b)) ∧
   (∀ (s : State) (w : Wait) (k : Work), s.blk.runs .dvt = true → s.blk.dvt.waits = [w] → w.onEpoch = false →
     (∃ e ∈ w.edges, e.seg ∈ s.blk.dvt.freed) → (∀ m, m < 128 → (s.blk.link m).reassoc = false) →
     ∀ id, w.txn.src = .host id →
     Blk.judge { s.blk with dvt := { s.blk.dvt with freed := [] } } w.txn true = .commit k →
     Gives .waitRejudge s (fun b => b.dvt.waits = [] ∧ b.fleet.coh = k.coh ∧ b.fleet.epoch = k.epoch ∧
       s.blk.counts b Reg.DVT_COMMIT_COUNT ∧
       Ended s.blk b id (if k.clamp = 0 then St.done else St.doneClamped) (k.clamp * 2 ^ 16) ∧
       s.blk.onlyIn [.hst, .out, .regs, .fleet, .dvt, .inv, .air, .hdl, .gns, .pos] b)) ∧
   (∀ (s : State) (w : Wait) (k : Work), s.blk.runs .dvt = true → s.blk.dvt.waits = [w] → w.onEpoch = true →
     w.txn.after ≤ s.blk.fleet.epoch → s.blk.dvt.freed = [] → (∀ m, m < 128 → (s.blk.link m).reassoc = false) →
     s.blk.airDue = none → s.blk.dvt.admission = [] →
     ∀ id, w.txn.src = .host id →
     Blk.judge (Blk.noteTurn { s.blk with dvt := { s.blk.dvt with waits := [] } } false) w.txn false = .commit k →
     Gives .afterEpochRelease s (fun b => b.dvt.waits = [] ∧ b.fleet.coh = k.coh ∧ b.fleet.epoch = k.epoch ∧
       s.blk.counts b Reg.DVT_COMMIT_COUNT ∧
       Ended s.blk b id (if k.clamp = 0 then St.done else St.doneClamped) (k.clamp * 2 ^ 16) ∧
       s.blk.onlyIn [.hst, .out, .regs, .fleet, .dvt, .inv, .air, .hdl, .gns, .pos] b))) ∧
  ((∀ (s : State) (t : Nat), s.blk.runs .dvt = true → (∀ w ∈ s.blk.dvt.waits, ∃ id, w.txn.src = .host id) →
     let lim := s.blk.fld Reg.DVT_WAIT_CFG 15 0
     let isOver (w : Wait) : Prop := w.onEpoch = false ∧ w.since + lim * 1000000 < (s.blk.moveTo t).elapsed
     lim ≠ 0 →
     Gives (.waitLimitExpiry t) s (fun b => (∀ w ∈ b.dvt.waits, w ∈ s.blk.dvt.waits ∧ ¬ isOver w) ∧
       (∀ w ∈ s.blk.dvt.waits, (∀ v ∈ s.blk.dvt.waits, isOver v → v.txn.src ≠ w.txn.src) → w ∈ b.dvt.waits) ∧
       (∀ w ∈ s.blk.dvt.waits, isOver w → ∃ id, w.txn.src = .host id ∧
         Ended s.blk b id St.timeout (waitDetail 1 w)) ∧
       b.inv.ft = max s.blk.inv.ft (2 ^ 32 * t) ∧
       s.blk.onlyIn [.inv, .hst, .out, .regs, .dvt] b ∧ s.blk.regsOnly [Reg.DVT_ABORT_COUNT] b)) ∧
   (∀ (s : State) (t : Nat), s.blk.runs .dvt = true → (∀ w ∈ s.blk.dvt.waits, ∃ id, w.txn.src = .host id) →
     let lim := s.blk.fld Reg.DVT_WAIT_CFG 31 16
     let isOver (w : Wait) : Prop := w.onEpoch = true ∧ w.since + lim * 1000000 ≤ (s.blk.moveTo t).elapsed ∧
       s.blk.fleet.epoch < w.txn.after
     Gives (.afterLimitExpiry t) s (fun b => (∀ w ∈ b.dvt.waits, w ∈ s.blk.dvt.waits ∧ ¬ isOver w) ∧
       (∀ w ∈ s.blk.dvt.waits, (∀ v ∈ s.blk.dvt.waits, isOver v → v.txn.src ≠ w.txn.src) → w ∈ b.dvt.waits) ∧
       (∀ w ∈ s.blk.dvt.waits, isOver w → ∃ id, w.txn.src = .host id ∧
         Ended s.blk b id St.timeout (waitDetail 3 w)) ∧
       b.inv.ft = max s.blk.inv.ft (2 ^ 32 * t) ∧
       s.blk.onlyIn [.inv, .hst, .out, .regs, .dvt] b ∧ s.blk.regsOnly [Reg.DVT_ABORT_COUNT] b)) ∧
   (∀ (s : State) (t : Nat), s.blk.runs .dvt = true →
     let isOver (w : SnapWait) : Prop := w.copy = none ∧ s.blk.fleet.epoch < w.atEpoch ∧
       w.since + s.blk.fld Reg.DVT_WAIT_CFG 31 16 * 1000000 ≤ (s.blk.moveTo t).elapsed
     Gives (.snapshotWaitTimeout t) s (fun b =>
       (∀ w, w ∈ b.fleet.snapWaits ↔ w ∈ s.blk.fleet.snapWaits ∧ ¬ isOver w) ∧
       (∀ w ∈ s.blk.fleet.snapWaits, isOver w → Completed s.blk b w.d St.timeout (3 * 2 ^ 24)) ∧
       b.fleet.coh = s.blk.fleet.coh ∧ b.inv.ft = max s.blk.inv.ft (2 ^ 32 * t) ∧
       s.blk.onlyIn [.inv, .hst, .out, .fleet] b)))

/-- A member's request leaves its admission place and is answered by a REPLY element (R107, R113, R117): STOPPED during a
stop and QUOTA with no unit left, without any change of the member table; committed it uses one unit. A quota period
makes every member's units whole, at the first superframe after a power-up or a release and every PERIOD superframes
after. A transaction of the device itself commits, or is kept during a stop (R109, R114). -/
def Obligations.MemberRequestsUseTheirQuota : Prop :=
  (∀ (s : State) (mix : Nat) (t : Txn) (req : Nat), s.blk.runs .dvt = true → s.blk.quiet →
    s.blk.dvt.admission = [(mix, t)] → t.src = .air mix req →
    let b0 : Blk := Blk.noteTurn { s.blk with dvt := { s.blk.dvt with admission := [], lastMix := mix } } true
    let answer (status detail : Nat) := leBytes 1 req ++ leBytes 1 status ++ zeros 2 ++ leBytes 4 detail
    (s.blk.stopped = true → s.blk.flag Reg.DVT_EVQ_CFG 9 = false → Gives .airTxnJudge s (fun b =>
      b.dvt = b0.dvt ∧ s.blk.counts b Reg.DVT_ABORT_COUNT ∧
      (b.link mix).elems = (s.blk.link mix).elems ++
        [{ etype := 0x88, body := answer St.stopped (s.blk.clp.s % 2 ^ 32) ++ leBytes 8 s.blk.fleet.epoch }] ∧
      s.blk.onlyIn [.dvt, .air, .regs] b ∧ s.blk.regsOnly [Reg.DVT_ABORT_COUNT] b)) ∧
    (s.blk.stopped = false → s.blk.quotaLeft mix = 0 → s.blk.flag Reg.DVT_EVQ_CFG 9 = false →
      Gives .airTxnJudge s (fun b => b.dvt = b0.dvt ∧ s.blk.counts b Reg.DVT_ABORT_COUNT ∧
        (b.link mix).elems = (s.blk.link mix).elems ++
          [{ etype := 0x88, body := answer St.quota (s.blk.toQuota * 2 ^ 16 + mix) ++ leBytes 8 s.blk.fleet.epoch }] ∧
        s.blk.onlyIn [.dvt, .air, .regs] b ∧ s.blk.regsOnly [Reg.DVT_ABORT_COUNT] b)) ∧
    (∀ w, s.blk.stopped = false → s.blk.quotaLeft mix ≠ 0 → b0.judge t false = .commit w →
      Gives .airTxnJudge s (fun b => b.dvt.admission = [] ∧ b.dvt.lastMix = mix ∧ b.fleet.epoch = w.epoch ∧
        b.fleet.coh = w.coh.setMember mix { w.coh.member mix with used := (w.coh.member mix).used + 1 } ∧
        s.blk.counts b Reg.DVT_COMMIT_COUNT ∧
        { etype := 0x88, body := answer (if w.clamp = 0 then St.done else St.doneClamped) (w.clamp * 2 ^ 16)
            ++ leBytes 8 w.epoch : Elem } ∈ (b.link mix).elems ∧
        s.blk.onlyIn [.dvt, .fleet, .air, .regs, .inv, .hdl, .gns, .pos, .hst, .out, .mem, .evr] b))) ∧
  (∀ s : State, s.blk.runs .dvt = true → s.blk.dvt.quotaTick = true →
    (s.blk.dvt.quotaNew = true ∨
      (s.blk.air.sfn + 2 ^ 32 - s.blk.dvt.quotaSf) % 2 ^ 32 % s.blk.fld Reg.DVT_AIR_QUOTA 15 8 = 0) →
    Gives .quotaPeriodStart s (fun b => (∀ m, (b.member m).used = 0 ∧
        b.member m = { s.blk.member m with used := 0 }) ∧
      b.fleet.coh.mortise = s.blk.fleet.coh.mortise ∧ b.fleet.coh.tasks = s.blk.fleet.coh.tasks ∧
      b.dvt = { s.blk.dvt with quotaSf := s.blk.air.sfn, quotaNew := false, quotaTick := false } ∧
      s.blk.onlyIn [.fleet, .dvt] b)) ∧
  (∀ (s : State) (mix : Mix) (c : DevCause), s.blk.runs .dvt = true →
    (s.blk.stopped = true → Gives (.deviceTxn mix c) s (fun b =>
      Tab.val b.dvt.deferred mix.val {}
        = deferCause (s.blk.member mix.val).task (Tab.val s.blk.dvt.deferred mix.val {}) c ∧
      (∀ m, m ≠ mix.val → Tab.val b.dvt.deferred m {} = Tab.val s.blk.dvt.deferred m {}) ∧
      s.blk.onlyIn [.dvt] b)) ∧
    (s.blk.stopped = false → s.blk.quiet → s.blk.dvt.admission = [] →
      let b0 := s.blk.modDvt (fun v => { v with devRun := v.devRun + 1 })
      let t := deviceTxn mix.val (s.blk.causeActs mix.val c)
      (∀ w, b0.judge t false = .commit w →
        Gives (.deviceTxn mix c) s (fun b => b.fleet.coh = w.coh ∧ b.fleet.epoch = w.epoch ∧
          s.blk.counts b Reg.DVT_COMMIT_COUNT ∧
          s.blk.onlyIn [.dvt, .fleet, .air, .regs, .inv, .hdl, .gns, .pos, .hst, .out, .mem, .evr] b)) ∧
      (∀ st dt, b0.judge t false = .abort st dt →
        Gives (.deviceTxn mix c) s (fun b => b.fleet = s.blk.fleet ∧ b.dvt = b0.dvt ∧
          s.blk.counts b Reg.DVT_ABORT_COUNT ∧ s.blk.onlyIn [.dvt, .regs, .mem, .evr] b))))

/-- Maps (R56-R59): a load of a size in range is accepted; a valid image becomes the shadow and an invalid one leaves it;
MAP_DISCARD empties it; a switch with nothing in the way puts it in service at epoch 1 with every segment free (held
by Clamp during a stop) and every member's state kept. -/
def Obligations.MapsAreLoadedSwitchedAndDiscarded : Prop :=
  (∀ (s : State) (d : Desc), s.blk.runs .dvt = true → s.blk.starts d → d.op 0x18 8 % 8 = 0 →
    (0x80 ≤ d.op 0x20 4 → d.op 0x20 4 ≤ 0x60000 → Gives (.mapLoad d) s (fun b =>
      b.fleet = { s.blk.fleet with loads := s.blk.fleet.loads ++ [⟨d.id, d.op 0x18 8, d.op 0x20 4⟩] } ∧
      s.blk.onlyIn [.hst, .fleet] b)) ∧
    (¬ (0x80 ≤ d.op 0x20 4 ∧ d.op 0x20 4 ≤ 0x60000) → Gives (.mapLoad d) s (fun b =>
      Completed s.blk b d 0x20 8 ∧ s.blk.onlyIn [.hst, .out] b))) ∧
  (∀ (s : State) (image : Bytes) (l : MapLoad) (rest : List MapLoad), s.blk.runs .dvt = true →
    s.blk.fleet.loads = l :: rest →
    Gives (.mapImageValidated image) s (fun b => b.fleet.loads = rest ∧ b.fleet.map = s.blk.fleet.map ∧
      b.fleet.coh = s.blk.fleet.coh ∧ b.fleet.epoch = s.blk.fleet.epoch ∧
      (∀ m, validateImage s.blk.uid.toNat l.size (slice image 0 l.size) = .ok m → b.fleet.shadow = some m ∧
        Ended s.blk b l.id St.done m.id) ∧
      (∀ st dt, validateImage s.blk.uid.toNat l.size (slice image 0 l.size) = .error (st, dt) →
        b.fleet.shadow = s.blk.fleet.shadow ∧ Ended s.blk b l.id st dt) ∧
      s.blk.onlyIn [.fleet, .hst, .out] b)) ∧
  (∀ (s : State) (d : Desc), s.blk.runs .dvt = true → s.blk.starts d →
    Gives (.mapDiscard d) s (fun b => b.fleet = { s.blk.fleet with shadow := none } ∧ Completed s.blk b d St.done 0 ∧
      s.blk.onlyIn [.hst, .fleet, .out] b)) ∧
  (∀ (s : State) (d : Desc) (m : SiteMap), s.blk.runs .dvt = true → s.blk.starts d → s.blk.airDue = none →
    s.blk.fleet.shadow = some m → m.id = d.op 0x18 4 → s.blk.switchBusy = 0 → s.blk.clp.cf14 = false →
    s.blk.dvt.waits = [] → s.blk.fleet.snapWaits = [] →
    Gives (.mapSwitch d) s (fun b => b.fleet.map = some m ∧ b.fleet.shadow = none ∧ b.fleet.epoch = 1 ∧
      b.fleet.gen = s.blk.fleet.gen + 1 ∧
      b.fleet.coh.mortise = List.replicate m.segs.length
        { holder := if s.blk.stopped then 0xFF else 0, since := if s.blk.stopped then 1 else 0 } ∧
      (∀ k, (b.member k).state = (s.blk.member k).state ∧ (b.member k).task = noTask) ∧
      (∀ i, (Tab.val b.fleet.coh.tasks i {}).state = .free ∧ (b.fleet.coh.task i).gen = (s.blk.fleet.coh.task i).gen
        ∨ 4096 ≤ i) ∧
      s.blk.counts b Reg.DVT_COMMIT_COUNT ∧ Completed s.blk b d St.done 0 ∧
      b.clp.s = (if s.blk.stopped then 1 else s.blk.clp.s) ∧
      s.blk.onlyIn [.hst, .out, .regs, .fleet, .dvt, .clp, .air, .evr] b ∧
      s.blk.regsOnly [Reg.DVT_COMMIT_COUNT, Reg.EVR_DROP_COUNT] b))

/-- Snapshots (R50, R63, R64): one of the present epoch begins while fewer than four are in progress, of a past epoch it
is refused, of a later one it waits; a waiting one begins once its epoch has committed; written, its sections go out
before its header, and it completes. -/
def Obligations.SnapshotsAreTakenAndWritten : Prop :=
  (∀ (s : State) (d : Desc), s.blk.runs .dvt = true → s.blk.starts d → s.blk.airDue = none → s.blk.fleet.map ≠ none →
    d.op 0x18 8 % 64 = 0 → d.op 0x24 2 < 32 → d.op 0x26 2 = 0 →
    (d.op 0x28 8 = 0 ∨ d.op 0x28 8 = s.blk.fleet.epoch → s.blk.fleet.snaps.length < 4 →
      (s.blk.takeSnap d s.blk.view s.blk.fleet.epoch).total ≤ d.op 0x20 4 →
      Gives (.snapshot d) s (fun b =>
        b.fleet = { s.blk.fleet with snaps := s.blk.fleet.snaps ++ [s.blk.takeSnap d s.blk.view s.blk.fleet.epoch] } ∧
        s.blk.onlyIn [.hst, .fleet] b)) ∧
    (0 < d.op 0x28 8 → d.op 0x28 8 < s.blk.fleet.epoch → Gives (.snapshot d) s (fun b =>
      Completed s.blk b d 0x25 s.blk.fleet.epoch ∧ s.blk.onlyIn [.hst, .out] b)) ∧
    (s.blk.fleet.epoch < d.op 0x28 8 → s.blk.fleet.snapWaits.length < 16 → Gives (.snapshot d) s (fun b =>
      b.fleet = { s.blk.fleet with
        snapWaits := s.blk.fleet.snapWaits ++ [⟨d, d.op 0x28 8, s.blk.elapsed, none⟩] } ∧
      s.blk.onlyIn [.hst, .fleet] b))) ∧
  (∀ (s : State) (w : SnapWait), s.blk.runs .dvt = true → s.blk.fleet.snapWaits = [w] →
    w.atEpoch ≤ s.blk.fleet.epoch → s.blk.fleet.snaps.length < 4 →
    let k := s.blk.takeSnap w.d (w.copy.getD s.blk.view) w.atEpoch
    k.total ≤ w.d.op 0x20 4 →
    Gives .snapshotAtEpoch s (fun b =>
      b.fleet = { s.blk.fleet with snapWaits := [], snaps := s.blk.fleet.snaps ++ [k] } ∧
      s.blk.onlyIn [.fleet] b)) ∧
  (∀ (s : State) (k : Snap) (rest : List Snap), s.blk.runs .dvt = true → s.blk.fleet.snaps = k :: rest →
    s.blk.fleet.snapQueue = [] →
    Gives .snapshotWritten s (fun b =>
      b.fleet = { s.blk.fleet with snaps := rest, snapSeq := s.blk.fleet.snapSeq + 1 } ∧
      (∃ l e, b.out = l ++ (.hostWrite k.addr
          (slice k.header 0 4 ++ leBytes 4 (s.blk.fleet.snapSeq + 1) ++ k.header.drop 8) ::
        (k.secs.map (fun p => Out.hostWrite (k.addr + p.1) p.2)).reverse ++ s.blk.out) ∧
        Out.completion k.id e ∈ l ∧ e.status = St.done ∧ e.epoch = k.epoch) ∧
      s.blk.onlyIn [.fleet, .hst, .out] b))

/-! ## Clamp (R169-R202) -/

/-- A STOP with CAT 0 or 1 (R175, R186, R199): the first one asserts a stop in both channels, freezes Dovetail and
commits, with a map in service, as S the next epoch: FREE entries become 0xFF, ACTIVE and SLEEPING members STOPPED,
the tasks stay, no transaction and no RESUME waits on, no effect later than now is left; every pair that was on ramps,
in category 1 where its bit of CLP_GRP_CAT is 1, or is off. With no map in service the members alone change and no
epoch is committed (R111, R172), and under CF14 nothing commits (R35, R202). Of a stop already asserted it completes
with DETAIL 1 and commits nothing. Another CAT is malformed. -/
def Obligations.StopFreezesTheSite : Prop :=
  ∀ (s : State) (d : Desc), s.blk.powered = true → s.blk.starts d →
    let cat := d.op 0x18 1
    let e := s.blk.fleet.epoch + 1
    (1 < cat → Gives (.stop d) s (fun b => Completed s.blk b d St.malformed (malformed 0x0B 0xFF 0x18) ∧
      s.blk.onlyIn [.hst, .out] b)) ∧
    (cat ≤ 1 → s.blk.stopped = true → Gives (.stop d) s (fun b =>
      b.asserts 5 ∧ Completed s.blk b d St.done 1 ∧ b.fleet.epoch = s.blk.fleet.epoch ∧ b.clp.s = s.blk.clp.s ∧
      b.fleet.coh = s.blk.fleet.coh ∧ b.reg Reg.CLP_STOP_COUNT = s.blk.reg Reg.CLP_STOP_COUNT ∧
      (cat = 1 → ∀ g, b.group g = s.blk.group g) ∧ s.blk.onlyIn stopParts b ∧ s.blk.regsOnly stopRegs b)) ∧
    (cat ≤ 1 → s.blk.stopped = false → s.blk.inService = true → s.blk.clp.cf14 = false → Gives (.stop d) s (fun b =>
      b.asserts 5 ∧ b.dvt.frozen = true ∧ b.dvt.waits = [] ∧ b.clp.resumes = [] ∧
      b.clp.s = e ∧ b.fleet.epoch = e ∧
      b.fleet.coh.mortise = s.blk.fleet.coh.mortise.map (fun x =>
        if x.holder = 0 then { x with holder := 0xFF, since := e % 2 ^ 32 } else x) ∧
      (∀ m, (b.member m).state = (if (s.blk.member m).state = .active ∨ (s.blk.member m).state = .sleeping then .stopped
        else (s.blk.member m).state)) ∧
      b.fleet.coh.tasks = s.blk.fleet.coh.tasks ∧ (∀ x ∈ b.fleet.effects, x.t ≤ s.blk.now) ∧
      (∀ g, g < 12 → s.blk.group g = .on →
        b.group g = if cat = 1 ∧ s.blk.flag Reg.CLP_GRP_CAT g = true then .ramp else .off) ∧
      s.blk.counts b Reg.CLP_STOP_COUNT ∧ Completed s.blk b d St.done 0 ∧
      s.blk.onlyIn stopParts b ∧ s.blk.regsOnly stopRegs b)) ∧
    (cat ≤ 1 → s.blk.stopped = false → s.blk.inService = false ∨ s.blk.clp.cf14 = true → Gives (.stop d) s (fun b =>
      b.asserts 5 ∧ b.dvt.frozen = true ∧ b.dvt.waits = [] ∧ b.clp.resumes = [] ∧ b.fleet.epoch = s.blk.fleet.epoch ∧
      b.fleet.coh.mortise = s.blk.fleet.coh.mortise ∧ b.fleet.coh.tasks = s.blk.fleet.coh.tasks ∧
      (s.blk.inService = false → b.clp.s = 0 ∧ ∀ m, (b.member m).state =
        (if (s.blk.member m).state = .active ∨ (s.blk.member m).state = .sleeping then .stopped
          else (s.blk.member m).state)) ∧
      (s.blk.inService = true → b.clp.s = s.blk.clp.s ∧ b.fleet.coh.members = s.blk.fleet.coh.members) ∧
      s.blk.counts b Reg.CLP_STOP_COUNT ∧ Completed s.blk b d St.done 0 ∧
      s.blk.onlyIn stopParts b ∧ s.blk.regsOnly stopRegs b))

/-- A release (R172, R196, R197): named by its epoch, with no precondition failing and a map in service, it commits S_R:
both channels release and clear their latches, 0xFF entries become FREE, Dovetail thaws; with no map in service it
commits no epoch; else it completes with its refusal and the stop goes on. STO_DELAY later every pair without a group
stop is on. -/
def Obligations.ReleaseEndsTheStop : Prop :=
  (∀ (s : State) (d : Desc), s.blk.powered = true → s.blk.starts d →
    let e := s.blk.fleet.epoch + 1
    (s.blk.stopped = false → Gives (.release d) s (fun b => Completed s.blk b d 0x22 0 ∧ s.blk.onlyIn [.hst, .out] b)) ∧
    (s.blk.stopped = true → d.op 0x18 8 ≠ s.blk.clp.s → Gives (.release d) s (fun b =>
      Completed s.blk b d 0x21 s.blk.clp.s ∧ s.blk.onlyIn [.hst, .out] b)) ∧
    (s.blk.stopped = true → d.op 0x18 8 = s.blk.clp.s → s.blk.releaseBlock ≠ 0 → Gives (.release d) s (fun b =>
      Completed s.blk b d 0x20 s.blk.releaseBlock ∧ s.blk.onlyIn [.hst, .out] b)) ∧
    (s.blk.stopped = true → d.op 0x18 8 = s.blk.clp.s → s.blk.releaseBlock = 0 → s.blk.clp.cf14 = false →
      s.blk.dvt.deferred = [] → Gives (.release d) s (fun b =>
      b.clp.a.stop = false ∧ b.clp.b.stop = false ∧ b.clp.a.latch = 0 ∧ b.clp.b.latch = 0 ∧ b.dvt.frozen = false ∧
      b.clp.releaseAt = s.blk.elapsed ∧ b.dvt.quotaNew = true ∧ Completed s.blk b d St.done 0 ∧
      (s.blk.inService = true → b.clp.sr = e ∧ b.fleet.epoch = e ∧
        b.fleet.coh.members = s.blk.fleet.coh.members ∧ b.fleet.coh.tasks = s.blk.fleet.coh.tasks ∧
        b.fleet.coh.mortise = s.blk.fleet.coh.mortise.map (fun x => if x.holder = 0xFF then {} else x)) ∧
      (s.blk.inService = false → b.clp.sr = 0 ∧ b.fleet.epoch = s.blk.fleet.epoch ∧ b.fleet.coh = s.blk.fleet.coh) ∧
      s.blk.onlyIn (.pwr :: stopParts) b ∧ s.blk.regsOnly stopRegs b))) ∧
  (∀ (s : State) (t : Nat), s.blk.powered = true → s.blk.stopped = false →
    s.blk.clp.releaseAt + s.blk.fld Reg.CLP_REL_CFG 23 16 * 1000000 ≤ (s.blk.moveTo t).elapsed →
    Gives (.stoDelayExpiry t) s (fun b =>
      (∀ g, g < 12 → s.blk.groupAllowed g = true → s.blk.group g = .off → b.group g = .on) ∧
      (∀ g, s.blk.group g ≠ .off → b.group g = s.blk.group g) ∧ s.blk.onlyIn [.clp, .inv] b))

/-- Groups (R183, R184, R199): GROUP_RELEASE ends STOPPED during a stop, and else switches on the groups it names that may
be on, and only those; a ramp that reaches its limit turns both switches off. RESUME (R198): during a stop it ends
STOPPED; with no STOPPED member named it is done at once; else each of them gets its RESUME element and the command
waits; after RESUME_TO it completes CLP_RESUME_PARTIAL with the numbers, and the elements that no other RESUME needs
are withdrawn. -/
def Obligations.GroupsAndMembersFollowARelease : Prop :=
  ((∀ (s : State) (d : Desc), s.blk.powered = true → s.blk.starts d → d.op 0x18 2 < 2 ^ 12 →
     let on (g : Nat) : Prop := bitOf (d.op 0x18 2) g = true ∧ s.blk.groupMayStart g = true
     (s.blk.stopped = true → Gives (.groupRelease d) s (fun b =>
       Completed s.blk b d St.stopped s.blk.clp.s ∧ s.blk.onlyIn [.hst, .out] b)) ∧
     (s.blk.stopped = false → Gives (.groupRelease d) s (fun b =>
       (∀ g, g < 12 → on g → b.group g = .on) ∧ (∀ g, g < 12 → ¬ on g → b.group g = s.blk.group g) ∧
       (∃ m, (∀ g, g < 12 → (bitOf m g = true ↔ on g)) ∧ Completed s.blk b d St.done m) ∧
       s.blk.onlyIn [.clp, .hst, .out] b))) ∧
   (∀ (s : State) (t : Nat) (g : Group12), s.blk.powered = true → s.blk.group g.val = .ramp →
     Tab.val s.blk.clp.rampSince g.val 0 + s.blk.rampLimit g.val * 1000000 ≤ (s.blk.moveTo t).elapsed →
     Gives (.rampLimitExpiry t g) s (fun b => b.group g.val = .off ∧
       bitOf b.clp.stoA g.val = false ∧ bitOf b.clp.stoB g.val = false ∧
       (∀ k, k ≠ g.val → b.group k = s.blk.group k) ∧ s.blk.onlyIn [.axs, .clp, .dvt, .hst, .inv, .out] b))) ∧
  ((∀ (s : State) (d : Desc), s.blk.powered = true → s.blk.starts d → d.op 0x28 1 ≤ 1 →
     let named (m : Nat) : Prop := m < 128 ∧ bitOf (d.op 0x18 16) m = true ∧ (s.blk.member m).state = .stopped
     (s.blk.stopped = true → Gives (.resume d) s (fun b => Completed s.blk b d St.stopped s.blk.clp.s ∧
       s.blk.onlyIn [.hst, .out] b)) ∧
     (s.blk.stopped = false → (∀ m, ¬ named m) → Gives (.resume d) s (fun b => Completed s.blk b d St.done 0 ∧
       s.blk.onlyIn [.hst, .out] b)) ∧
     (s.blk.stopped = false → (∃ m, named m) → Gives (.resume d) s (fun b =>
       (∃ r, b.clp = { s.blk.clp with resumes := s.blk.clp.resumes ++ [r] } ∧ r.id = d.id ∧ r.resumed = 0 ∧
         r.since = s.blk.elapsed ∧ ∀ m, m < 128 → (bitOf r.mask m = true ↔ named m)) ∧
       (∀ m, named m → (b.link m).elems = (s.blk.link m).elems.filter (fun e => e.etype ≠ 0x85)
         ++ [s.blk.resumeElem (d.op 0x28 1) m]) ∧
       (∀ m, ¬ named m → b.link m = s.blk.link m) ∧ s.blk.onlyIn [.air, .clp, .hst] b))) ∧
   (∀ (s : State) (t : Nat), s.blk.powered = true →
     let isOver (r : Resume) : Prop := r.since + s.blk.fld Reg.CLP_REL_CFG 31 24 * 1000000000 ≤ (s.blk.moveTo t).elapsed
     Gives (.resumeTimeout t) s (fun b =>
       (∀ r, r ∈ b.clp.resumes ↔ r ∈ s.blk.clp.resumes ∧ ¬ isOver r) ∧
       (∀ r ∈ s.blk.clp.resumes, isOver r → Ended s.blk b r.id 0x23
         (popCount 128 r.mask * 2 ^ 16 + r.resumed)) ∧
       (∀ m, m < 128 →
         let ended := (∃ r ∈ s.blk.clp.resumes, isOver r ∧ bitOf r.mask m = true) ∧
           ∀ r ∈ s.blk.clp.resumes, ¬ isOver r → bitOf r.mask m = false
         (ended → (b.link m).elems = (s.blk.link m).elems.filter (fun e => e.etype ≠ 0x85)) ∧
         (¬ ended → b.link m = s.blk.link m)) ∧
       s.blk.onlyIn [.air, .clp, .hst, .inv, .out] b)))

/-- E-stop loops (R173, R178, R179): an open circuit of an enabled loop asserts the loop's source; a test pulse whose
read-back differs for longer than 20 µs, whose own input is not low within TP_WIDTH or at which the other circuit's
input goes low, and one circuit open alone for longer than DISC_TIME, set their status flag and assert it too, without
a latched fault; a correct pulse on closed circuits counts; with both circuits closed and two correct pulses in a row
on both the source ends and the flags stay. -/
def Obligations.EstopLoopsAssertAndClear : Prop :=
  (∀ (s : State) (n : Loop4) (a c : Bool), s.blk.powered = true →
    Gives (.estopLoopOpen n a c) s (fun b => (b.loopOf n.val).closedA = !a ∧ (b.loopOf n.val).closedB = !c ∧
      (s.blk.flag (Reg.CLP_ES_CFG n.val) 0 = true → (a || c) = true → bitOf s.blk.clp.a.active n.val = false →
        b.asserts n.val ∧ bitOf b.clp.a.active n.val = true ∧ bitOf b.clp.b.active n.val = true) ∧
      ((a || c) = true → (b.loopOf n.val).goodA = 0 ∧ (b.loopOf n.val).goodB = 0) ∧
      ((a || c) = false → s.blk.onlyIn [.clp] b ∧ b.clp.a = s.blk.clp.a ∧ b.clp.b = s.blk.clp.b) ∧
      s.blk.onlyIn stopParts b ∧ s.blk.regsOnly stopRegs b)) ∧
  (∀ (s : State) (t : Nat) (n : Loop4) (o : PulseObs), s.blk.powered = true →
    let cfg := Reg.CLP_ES_CFG n.val
    let l := s.blk.loopOf n.val
    let last := if o.circuitB then l.pulseB else l.pulseA
    let now := (s.blk.moveTo t).elapsed
    let output := 20000 < o.differs
    let own := ∀ x, o.lowAfter = some x → s.blk.fld cfg 21 13 * 1000 < x
    s.blk.flag cfg 0 = true → (∀ p, last = some p → p + s.blk.fld cfg 31 22 * 1000000 ≤ now) →
    Gives (.estopTestPulse t n o) s (fun b =>
      (if o.circuitB then (b.loopOf n.val).pulseB else (b.loopOf n.val).pulseA) = some now ∧
      (output → b.flag (Reg.CLP_ES_STATUS n.val) 7 = true) ∧
      (own → b.flag (Reg.CLP_ES_STATUS n.val) (if o.circuitB then 4 else 3) = true) ∧
      (o.crossed = true → b.flag (Reg.CLP_ES_STATUS n.val) 5 = true) ∧
      (output ∨ own ∨ o.crossed = true → (b.loopOf n.val).active = true ∧ (b.loopOf n.val).goodA = 0 ∧
        (b.loopOf n.val).goodB = 0 ∧ (bitOf s.blk.clp.a.active n.val = false → b.asserts n.val)) ∧
      (¬ (output ∨ own ∨ o.crossed = true) → s.blk.onlyIn [.clp, .inv] b ∧ b.clp.a = s.blk.clp.a ∧
        (l.closedA = true → l.closedB = true → (b.loopOf n.val).goodA = l.goodA + (if o.circuitB then 0 else 1) ∧
          (b.loopOf n.val).goodB = l.goodB + (if o.circuitB then 1 else 0))) ∧
      b.clp.faultCode = s.blk.clp.faultCode ∧
      s.blk.onlyIn stopParts b ∧ s.blk.regsOnly (Reg.CLP_ES_STATUS n.val :: stopRegs) b)) ∧
  (∀ (s : State) (t : Nat) (n : Loop4), s.blk.powered = true → s.blk.flag (Reg.CLP_ES_CFG n.val) 0 = true →
    (s.blk.loopOf n.val).closedA ≠ (s.blk.loopOf n.val).closedB →
    (s.blk.loopOf n.val).discAt + s.blk.fld (Reg.CLP_ES_CFG n.val) 12 4 * 1000000 < (s.blk.moveTo t).elapsed →
    Gives (.estopDiscrepancy t n) s (fun b => b.flag (Reg.CLP_ES_STATUS n.val) 6 = true ∧
      (b.loopOf n.val).active = true ∧
      (bitOf s.blk.clp.a.active n.val = false → b.asserts n.val) ∧ b.clp.faultCode = s.blk.clp.faultCode ∧
      s.blk.onlyIn stopParts b ∧ s.blk.regsOnly (Reg.CLP_ES_STATUS n.val :: stopRegs) b)) ∧
  (∀ (s : State) (n : Loop4), s.blk.powered = true →
    let l := s.blk.loopOf n.val
    (l.closedA = true → l.closedB = true → 2 ≤ l.goodA → 2 ≤ l.goodB →
      Gives (.estopLoopCleared n) s (fun b => b.loopOf n.val = { l with active := false } ∧
        bitOf b.clp.a.active n.val = false ∧ bitOf b.clp.b.active n.val = false ∧
        (∀ k, k ≠ n.val → b.loopOf k = s.blk.loopOf k) ∧ b.clp.a.stop = s.blk.clp.a.stop ∧
        b.clp.a.latch = s.blk.clp.a.latch ∧ s.blk.onlyIn [.clp] b)) ∧
    (¬ (l.closedA = true ∧ l.closedB = true ∧ 2 ≤ l.goodA ∧ 2 ≤ l.goodB) →
      Gives (.estopLoopCleared n) s (fun b => b = s.blk)))

/-- The register and the heartbeat sources (R173, R176): every write of REQ 1 asserts REG, which is active until REQ is
written 0; a valid CLP_HB write restarts the timer and ends the source, an invalid one is counted; HB_TIMEOUT without
one asserts HEARTBEAT. -/
def Obligations.HostSourcesAssertAndEnd : Prop :=
  (∀ (s : State) (w : Word), s.blk.powered = true → s.blk.inSvc = true →
    (w.getLsbD 0 = true → Gives (.clpStopReqWrite w) s (fun b =>
      b.asserts 4 ∧ bitOf b.clp.a.active 4 = true ∧ b.reg Reg.CLP_STOP_REQ = w &&& 3#32 ∧
      s.blk.onlyIn stopParts b ∧ s.blk.regsOnly (Reg.CLP_STOP_REQ :: stopRegs) b)) ∧
    (w.getLsbD 0 = false → Gives (.clpStopReqWrite w) s (fun b =>
      bitOf b.clp.a.active 4 = false ∧ bitOf b.clp.b.active 4 = false ∧ b.clp.a.stop = s.blk.clp.a.stop ∧
      b.reg Reg.CLP_STOP_REQ = w &&& 3#32 ∧ s.blk.onlyIn [.clp, .regs] b ∧
      s.blk.regsOnly [Reg.CLP_STOP_REQ] b))) ∧
  (∀ (s : State) (w : Word), s.blk.powered = true → s.blk.inSvc = true →
    (s.blk.flag Reg.CLP_SRC_CFG 2 = false → Gives (.clpHbWrite w) s (fun b => b = s.blk)) ∧
    (s.blk.flag Reg.CLP_SRC_CFG 2 = true → (∀ p, s.blk.clp.hbSeq = some p → fieldOf w 15 0 = (p + 1) % 65536) →
      Gives (.clpHbWrite w) s (fun b => b.clp.hbSeq = some (fieldOf w 15 0) ∧ b.clp.hbAt = s.blk.elapsed ∧
        bitOf b.clp.a.active 7 = false ∧ bitOf b.clp.b.active 7 = false ∧ s.blk.onlyIn [.clp] b)) ∧
    (∀ p, s.blk.flag Reg.CLP_SRC_CFG 2 = true → s.blk.clp.hbSeq = some p → fieldOf w 15 0 ≠ (p + 1) % 65536 →
      Gives (.clpHbWrite w) s (fun b => s.blk.counts b Reg.CLP_HB_BAD_COUNT ∧ s.blk.onlyIn [.regs] b ∧
        s.blk.regsOnly [Reg.CLP_HB_BAD_COUNT] b))) ∧
  (∀ (s : State) (t : Nat), s.blk.powered = true → s.blk.flag Reg.CLP_SRC_CFG 2 = true →
    s.blk.clp.hbAt + s.blk.fld Reg.CLP_SRC_CFG 31 16 * 1000000 ≤ (s.blk.moveTo t).elapsed →
    bitOf s.blk.clp.a.active 7 = false →
    Gives (.heartbeatTimeout t) s (fun b => b.asserts 7 ∧ bitOf b.clp.a.active 7 = true ∧
      b.clp.faultCode = s.blk.clp.faultCode ∧ s.blk.onlyIn stopParts b ∧ s.blk.regsOnly stopRegs b))

/-- The single faults that are latched with a site stop (R170, R185, R202): each takes its code into CLP_FAULT if none is
latched yet, counts it and keeps the site stopped, CF08 and CF10 suppress beacons as well, and so does CF09 without a
stop of its own. -/
def Obligations.LatchedFaultsStopTheSite : Prop :=
  ∀ (s : State), s.blk.powered = true → s.blk.clp.faultCode = 0 →
    let latched (b : Blk) (code arg : Nat) : Prop := b.clp.faultCode = code ∧ b.clp.faultArg = arg ∧
      b.clp.faultCount = min 0xFFFF (s.blk.clp.faultCount + 1)
    let stops (b : Blk) : Prop := bitOf b.clp.a.active 9 = true ∧ (bitOf s.blk.clp.a.active 9 = false → b.asserts 9) ∧
      s.blk.regsOnly stopRegs b
    Gives (.channelCrossCheck true) s (fun b => latched b 3 0xFF ∧ stops b ∧ s.blk.onlyIn stopParts b) ∧
    Gives (.channelCrossCheck false) s (fun b => b = s.blk) ∧
    (∀ w, Gives (.clockDeviation w) s (fun b => latched b 1 0xFF ∧ stops b ∧ s.blk.onlyIn stopParts b)) ∧
    (∀ (isl : Island) r, r = true ∨ isl.hasPll = true → Gives (.pllLockLoss isl r) s (fun b => latched b 2 0xFF ∧ stops b ∧
      (if r then b.pwr.noRefclk = true else bitOf b.pwr.unlocked isl.code = true) ∧
      (r = true ∨ isl = .inv → b.inv.rcClock = true) ∧ s.blk.onlyIn (.key :: .pwr :: stopParts) b)) ∧
    Gives .freezeAckTimeout s (fun b => latched b 8 0xFF ∧ stops b ∧ b.clp.suppress = true ∧
      s.blk.onlyIn stopParts b) ∧
    (∀ t, (s.blk.moveTo t).keyLate = true → Gives (.periodKeyNotReady t) s (fun b => latched b 10 0xFF ∧ stops b ∧ b.clp.suppress = true ∧
      s.blk.onlyIn stopParts b)) ∧
    (∀ t, (s.blk.moveTo t).keyLate = false → Gives (.periodKeyNotReady t) s (fun b => b = s.blk.moveTo t)) ∧
    (∀ t, let b0 := s.blk.moveTo t
      let late : Prop := s.blk.stopped = true ∧ b0.windowOpen = true ∧ s.blk.hdl.window.getD 0 * 1000000 + 328000 ≤ b0.now;
      (late → Gives (.windowConfirmTimeout t) s (fun b => latched b 9 0xFF ∧ b.clp.suppress = true ∧
        b.clp.a = s.blk.clp.a ∧ s.blk.onlyIn [.clp, .evr, .inv, .regs] b ∧ s.blk.regsOnly [Reg.EVR_DROP_COUNT] b)) ∧
      (¬ late → Gives (.windowConfirmTimeout t) s (fun b => b = b0))) ∧
    (∀ (m : Fin 2) (opn : Bool) (held t : Nat),
      let lim := s.blk.fld (Reg.CLP_CMON_CFG m.val) 31 16 * 1000000
      let cf07 := s.blk.flag (Reg.CLP_CMON_CFG m.val) 15 = true ∧ s.blk.fld (Reg.CLP_CMON_CFG m.val) 11 0 ≠ 0 ∧
        opn ≠ s.blk.cmonExpectOpen m.val ∧ lim < held ∧ (s.blk.cmonOf m.val).changed + lim < (s.blk.moveTo t).elapsed;
      Gives (.cmonMismatch m opn held t) s (fun b =>
        (¬ cf07 → (b.cmonOf m.val).isOpen = opn ∧ b.clp.a = s.blk.clp.a ∧ b.clp.b = s.blk.clp.b ∧
          b.clp.faultCode = s.blk.clp.faultCode ∧ s.blk.onlyIn [.clp, .inv] b) ∧
        (cf07 → latched b 7 m.val ∧ (bitOf s.blk.clp.a.active 8 = false → b.asserts 8) ∧
          bitOf b.clp.a.active 8 = true ∧ s.blk.onlyIn stopParts b ∧ s.blk.regsOnly stopRegs b))) ∧
    (∀ (g : Group12) (chB : Bool), s.blk.pairOn g.val = true →
      Gives (.stoDarkTest g chB true) s (fun b => b = s.blk) ∧
      Gives (.stoDarkTest g chB false) s (fun b => latched b 4 g.val ∧ stops b ∧
        bitOf (if chB then b.clp.stoB else b.clp.stoA) g.val = true ∧ s.blk.onlyIn stopParts b)) ∧
    (∀ (g : Group12) (chB : Bool), s.blk.pairOn g.val = true →
      Gives (.stoReadbackFault g chB false) s (fun b => latched b 5 g.val ∧ b.group g.val = .offFault ∧
        bitOf b.clp.cf05 g.val = true ∧ b.clp.a = s.blk.clp.a ∧ b.fleet = s.blk.fleet)) ∧
    (∀ (g : Group12) (chB : Bool), s.blk.pairOn g.val = false →
      Gives (.stoReadbackFault g chB true) s (fun b => latched b 4 g.val ∧ stops b ∧ s.blk.onlyIn stopParts b))

/-- The faults that pass (R202, R446, R528, R539): while a field supply, a die's temperature or DVT's memory is bad the
site stays stopped by INTERNAL and nothing is latched in CLP_FAULT; with the condition gone the source ends, unless
another fault holds it; a field supply counts as good again 100 ms after it came into range. -/
def Obligations.PassingFaultsHoldTheStop : Prop :=
  ∀ (s : State), s.blk.powered = true →
    let stops (b : Blk) : Prop := bitOf b.clp.a.active 9 = true ∧ (bitOf s.blk.clp.a.active 9 = false → b.asserts 9) ∧
      b.clp.faultCode = s.blk.clp.faultCode ∧ b.clp.faultCount = s.blk.clp.faultCount
    let ends (b : Blk) : Prop := bitOf b.clp.a.active 9 = b.clp.internal ∧ bitOf b.clp.b.active 9 = b.clp.internal ∧
      b.clp.a.stop = s.blk.clp.a.stop ∧ b.clp.a.latch = s.blk.clp.a.latch
    (∀ (die : Fin 2) (rev : Bool), Gives (.vfieldOutOfRange die rev) s (fun b => stops b ∧ b.clp.cf12 = true ∧
      b.flag Reg.MON_STATUS (5 + die.val) = true ∧
      Tab.val b.clp.vfBad die.val 0 = s.blk.elapsed ∧ (rev = true → b.flag Reg.MON_STATUS 7 = true) ∧
      s.blk.onlyIn (.key :: .pwr :: stopParts) b ∧ s.blk.regsOnly (Reg.MON_STATUS :: stopRegs) b)) ∧
    (∀ (t : Nat) (die : Fin 2) (held : Nat), 100000000 ≤ held →
      (∃ q ∈ s.blk.clp.vfBad, q.1 = die.val ∧ q.2 + held ≤ (s.blk.moveTo t).elapsed) →
      Gives (.vfieldRecovered t die held) s (fun b => ends b ∧ b.clp.vfBad = Tab.del s.blk.clp.vfBad die.val ∧
        (b.clp.cf12 = true ↔ b.clp.vfBad ≠ []) ∧ b.flag Reg.MON_STATUS (5 + die.val) = false ∧
        (b.clp.vfBad = [] → b.flag Reg.MON_STATUS 7 = false) ∧
        s.blk.onlyIn [.clp, .evr, .inv, .key, .pwr, .regs] b ∧
        s.blk.regsOnly [Reg.MON_STATUS, Reg.EVR_DROP_COUNT] b)) ∧
    Gives (.dieOvertemp true) s (fun b => stops b ∧ b.clp.cf15 = true ∧ b.flag Reg.MON_STATUS 8 = true ∧
      s.blk.onlyIn (.key :: .pwr :: stopParts) b ∧ s.blk.regsOnly (Reg.MON_STATUS :: stopRegs) b) ∧
    Gives (.dieOvertemp false) s (fun b => ends b ∧ b.clp.cf15 = false ∧ b.flag Reg.MON_STATUS 8 = false ∧
      s.blk.onlyIn [.clp, .evr, .key, .pwr, .regs] b) ∧
    (∀ (bank : Bank16) (a : Nat) (m : Master12) (obj : Nat), Gives (.eccUncorrectable bank a m obj) s (fun b =>
      s.blk.counts b Reg.MEM_ECC_UNCORR_COUNT ∧
      b.mem.lastErr = word (2 * 2 ^ 28 + m.val * 2 ^ 24 + bank.val * 2 ^ 20 + a % 2 ^ 20) ∧
      (bank.val < 2 ∨ m.val = 0 → stops b ∧ b.clp.cf14 = true ∧ s.blk.onlyIn stopParts b ∧
        s.blk.regsOnly (Reg.MEM_ECC_UNCORR_COUNT :: stopRegs) b) ∧
      (¬ bank.val < 2 → m.val ∈ [2, 3, 4, 11] → s.blk.onlyIn [.evr, .mem, .regs] b ∧
        s.blk.regsOnly [Reg.MEM_ECC_UNCORR_COUNT, Reg.EVR_DROP_COUNT] b) ∧
      (¬ bank.val < 2 → m.val ≠ 0 → b.clp.cf14 = s.blk.clp.cf14)))

/-! ## The air protocol (R266-R313) -/

/-- A superframe begins 90 µs after its start (R193, R256, R276, R290, R300): its number, start and drift regimes are
taken and head tables that wait come into force; with air service on the slot maps that RXPLAN prepared, or new ones
of 18 entries, are in force, without it none, and a beacon leaves through every head of a channel unless beacons are
suppressed. RXPLAN makes the maps of the coming superframe and tells every head with air service. Period keys and the
subordinate coordinator (R192, R307, R331, R334, R458): the keys of this and the next period, derived from K_SITE, are
held; they go to every joined head and a KEY element to every member; of a primary's beacon copies, authentic and with
a counter above the last, the third heard of superframes in a row ends ORPHAN; the third missed in a row makes the
subordinate ORPHAN; both are recorded. -/
def Obligations.SuperframesAndTheirKeysTurnOver : Prop :=
  ((∀ (s : State) (t : Nat), s.blk.runs .air = true →
     let n := t / 10000000
     let b0 := s.blk.moveTo (90000 + 10000000 * n)
     Gives (.superframeStart t) s (fun b => b.air.sfn = n % 2 ^ 32 ∧ b.air.sfStart = 10000000 * n ∧ b.air.next = none ∧
       b.air.large5 = s.blk.largeNow false ∧ b.air.large9 = s.blk.largeNow true ∧
       b.inv = b0.inv ∧ b.dvt.quotaTick = true ∧ b.pos.headsNext = [] ∧
       (∀ id hs l, s.blk.pos.headsNext = l ++ [(id, hs)] → b.pos.heads = some hs ∧ b.pos.suspect = 0) ∧
       (s.blk.flag Reg.AIR_CFG 0 = false → b.air.maps = []) ∧
       (∀ m, s.blk.flag Reg.AIR_CFG 0 = true → s.blk.air.next = some (n, m) → b.air.maps = m) ∧
       (s.blk.flag Reg.AIR_CFG 0 = true → s.blk.air.next = none →
         (b.slots false).length = 18 ∧ (b.slots true).length = 18) ∧
       (∀ h, h < 8 → b0.beaconing = true → b0.bcnKey (slotLaunch n 0) ≠ none → s.blk.headAir h = true →
         ∃ cnt body frame, Out.head h 0x05 cnt body frame ∈ b.out))) ∧
   (∀ s : State, s.blk.runs .air = true →
     let n := s.blk.sfIndex + 1
     (s.blk.flag Reg.AIR_CFG 0 = false → Gives .rxplanSend s (fun b => b = s.blk)) ∧
     (s.blk.flag Reg.AIR_CFG 0 = true → Gives .rxplanSend s (fun b => b.air.next = some (n, (s.blk.prepare n).1) ∧
       b.air.maps = s.blk.air.maps ∧ s.blk.onlyIn [.air, .hdl, .out, .regs] b ∧ s.blk.regsOnly [Reg.AIR_DEFER_COUNT] b ∧
       ∀ h, h < 8 → s.blk.headAir h = true → (b.head h).tx = (s.blk.head h).tx + 1 ∧
         ∃ rest frame, Out.head h 0x08 (s.blk.head h).tx (leBytes 4 (n % 2 ^ 32) ++ rest) frame ∈ b.out)))) ∧
  ((∀ (s : State) (site : Bytes), s.blk.runs .key = true → s.blk.key.site = some site →
     let p := s.blk.keyPeriod
     let p' := (p + 1) % 2 ^ 32
     Gives .periodKeyDerive s (fun b => Tab.val b.air.kp p [] = s.blk.kP site p ∧
       Tab.val b.air.kp p' [] = s.blk.kP site p' ∧ Tab.val b.air.kbcn p [] = s.blk.kBcn site p ∧
       Tab.val b.air.kbcn p' [] = s.blk.kBcn site p' ∧ b.air.links = s.blk.air.links ∧
       s.blk.onlyIn [.air] b)) ∧
   (∀ (s : State), s.blk.runs .air = true →
     let p := (s.blk.keyPeriod + 1) % 2 ^ 32
     (s.blk.air.kp.any (fun q => q.1 == p) = true → s.blk.air.kbcn.any (fun q => q.1 == p) = true →
       Gives .keyDeliveryStart s (fun b =>
         (∀ h, h < 8 → (s.blk.head h).joined = true →
           ∃ cnt frame, Out.head h 0x0A cnt (s.blk.keyEntries p) frame ∈ b.out) ∧
         (∀ m ∈ s.blk.onChan false ++ s.blk.onChan true,
           ∃ e, (b.link m).elems = (s.blk.link m).elems ++ [e] ∧ e.etype = 0x86 ∧ le e.body 4 4 = p) ∧
         s.blk.onlyIn [.air, .hdl, .out] b))) ∧
   (∀ (s : State) (port : Fin 2) (frame : Bytes), s.blk.runs .air = true →
     (s.blk.flag Reg.AIR_SUB_CFG 0 = false ∨ s.blk.fld Reg.AIR_SUB_CFG 1 1 ≠ port.val →
       Gives (.bcopyRx port frame) s (fun b => b = s.blk)) ∧
     (∀ site f, s.blk.flag Reg.AIR_SUB_CFG 0 = true → s.blk.fld Reg.AIR_SUB_CFG 1 1 = port.val →
       s.blk.key.site = some site → (s.blk.ethPayload frame).bind hlParse = some f → f.typ = 0x10 →
       let u := s.blk.air.sub
       match hlOpen (kCp site) Config.primaryUid.toNat 0 f with
         | none => Gives (.bcopyRx port frame) s (fun b => b = s.blk)
         | some p => p.length = 24 →
           (∀ c, u.rx = some c → f.cnt ≤ c → Gives (.bcopyRx port frame) s (fun b => b = s.blk)) ∧
           ((∀ c, u.rx = some c → c < f.cnt) →
             let sfn := le p 0 4
             let good := if u.lastSfn = some sfn then u.good
               else if u.lastSfn = some ((sfn + 2 ^ 32 - 1) % 2 ^ 32) then u.good + 1 else 1
             Gives (.bcopyRx port frame) s (fun b => b.air.sub.rx = some f.cnt ∧ b.air.sub.missed = 0 ∧
               b.air.sub.lastSfn = some sfn ∧ b.air.sub.locked = true ∧ b.air.sub.good = good ∧
               b.air.sub.orphan = (u.orphan && decide (good < 3)) ∧
               (u.orphan = true → 3 ≤ good → Recorded s.blk b 0x0502 (zeros 1)) ∧ b.air.links = s.blk.air.links ∧
               s.blk.onlyIn [.air, .evr, .regs] b ∧ s.blk.regsOnly [Reg.EVR_DROP_COUNT] b)))) ∧
   (∀ (s : State), s.blk.runs .air = true →
     let u := s.blk.air.sub
     let told := u.lastSfn = some ((s.blk.air.sfn + 2 ^ 32 - 1) % 2 ^ 32) ∨ u.lastSfn = some s.blk.air.sfn
     (s.blk.flag Reg.AIR_SUB_CFG 0 = false ∨ told → Gives .primaryBeaconMissed s (fun b => b = s.blk)) ∧
     (s.blk.flag Reg.AIR_SUB_CFG 0 = true → ¬ told → Gives .primaryBeaconMissed s (fun b =>
       b.air.sub.missed = u.missed + 1 ∧ b.air.sub.good = 0 ∧
       b.air.sub.orphan = (u.orphan || decide (2 ≤ u.missed)) ∧
       (u.orphan = false → 2 ≤ u.missed → b.air.sub.since = s.blk.elapsed ∧ Recorded s.blk b 0x0502 (leBytes 1 1)) ∧
       b.air.links = s.blk.air.links ∧ s.blk.onlyIn [.air, .evr, .regs] b ∧ s.blk.regsOnly [Reg.EVR_DROP_COUNT] b))))

/-- Slots are used by what they are for (R277, R282, R285, R290, R292, R296): in its DOWN slot a member is sent, through
the head that the slot names, its most urgent elements that fit one frame, under its next counter; a POS_DL slot
carries the oldest entries that may go in it through every head of the channel, a BCAST slot the oldest broadcast;
each uses its slot up, and without the slot, a head that may send, or anything to send nothing happens. -/
def Obligations.SlotsCarryWhatTheyAreFor : Prop :=
  (∀ (s : State) (mix : Mix), s.blk.runs .air = true →
    let l := s.blk.link mix.val
    (s.blk.downSlot mix.val = none → Gives (.downSlotTx mix) s (fun b => b = s.blk)) ∧
    ∀ k o, s.blk.downSlot mix.val = some (k, o) →
      (s.blk.canSend o = false → Gives (.downSlotTx mix) s (fun b => b = s.blk)) ∧
      (s.blk.canSend o = true → l.offer = none → (∀ e ∈ l.elems, e.etype ≠ 0x89) →
        Gives (.downSlotTx mix) s (fun b =>
          let fit := fitElems (payloadMax o.hprf) (byUrgency l.elems)
          let more := decide (fit.length < (byUrgency l.elems).length)
          let psdu := psduSeal l.kLink (5 + 32 + 64 * b2n more) l.seq s.blk.site (s.blk.short mix.val) 0 l.tx 0 true
            (fit.flatMap (fun e => elemBytes e.etype e.body))
          (b.link mix.val).tx = l.tx + 1 ∧ (b.link mix.val).seq = (l.seq + 1) % 256 ∧ (b.link mix.val).lastMore = more ∧
          (b.link mix.val).elems.filter (fun e => e.sent)
            = fit.map (fun e => { e with sent := true, tries := e.tries + 1 }) ∧
          (∀ m, m ≠ mix.val → b.link m = s.blk.link m) ∧
          (b.slots l.chan9).getD (k - 2) {} = ((s.blk.slots l.chan9).getD (k - 2) {}).without (· == o) ∧
          (∃ cnt pre frame, b.out = .head o.head 0x05 cnt (pre ++ psdu) frame :: s.blk.out) ∧
          s.blk.onlyIn [.air, .hdl, .out] b))) ∧
  (∀ (s : State) (c : Fin 2) (k : Nat), s.blk.runs .air = true →
    let slot := (s.blk.slots (c == 1)).getD (k - 2) {}
    let fit (q : PosEntry) : Bool := (s.blk.link q.mix).chan9 == (c == 1) &&
      decide (q.at' + 20000 ≤ slotStart s.blk.sfIndex k) && (!slot.hprf || bitOf (s.blk.link q.mix).cap 0)
    let qs := (s.blk.air.posQueue.filter fit).take (if slot.hprf then 10 else 2)
    let mayGo := slot.kind = 4 ∧ 2 ≤ k ∧ (slot.hprf = true → s.blk.chanHprf (c == 1) = true) ∧ qs ≠ [] ∧
      s.blk.bcnKey (slotLaunch s.blk.sfIndex k) ≠ none
    (¬ mayGo → Gives (.posDlSlotTx c k) s (fun b => b = s.blk)) ∧
    (mayGo → Gives (.posDlSlotTx c k) s (fun b =>
      b.air.posQueue = s.blk.air.posQueue.filter (fun q => !qs.contains q) ∧
      b.air.bcastCnt = s.blk.air.bcastCnt + 1 ∧ (b.slots (c == 1)).getD (k - 2) {} = {} ∧
      (∀ h ∈ s.blk.chanHeads (c == 1), ∃ cnt body frame, Out.head h 0x05 cnt body frame ∈ b.out) ∧
      s.blk.onlyIn [.air, .hdl, .out] b))) ∧
  (∀ (s : State) (c : Fin 2), s.blk.runs .air = true →
    ((∀ q ∈ s.blk.air.bcasts, q.chan9 ≠ (c == 1)) → Gives (.bcastSlotTx c) s (fun b => b = s.blk)) ∧
    ((∀ x ∈ s.blk.slots (c == 1), x.kind ≠ 5) → Gives (.bcastSlotTx c) s (fun b => b = s.blk)) ∧
    (∀ q i, s.blk.air.bcasts.find? (fun q => q.chan9 == (c == 1)) = some q →
      (s.blk.slots (c == 1)).findIdx? (fun x => x.kind == 5) = some i →
      (q.rsp = true → s.blk.key.site ≠ none) →
      (q.rsp = false → s.blk.bcnKey (slotLaunch s.blk.sfIndex (i + 2)) ≠ none) →
      Gives (.bcastSlotTx c) s (fun b => b.air.bcasts = s.blk.air.bcasts.erase q ∧
        (b.slots (c == 1)).getD i {} = {} ∧
        (∀ h ∈ s.blk.chanHeads (c == 1), ∃ cnt body frame, Out.head h 0x05 cnt body frame ∈ b.out) ∧
        s.blk.onlyIn [.air, .hdl, .out] b)))

/-- A member's UP and POLL frames (R275, R277, R278, R299, R301, R306): a frame of another type or of no member has no
effect; with a failed MIC it is counted and moves no counter of the link; with a good MIC, one whose counter is below
the last is counted and has no effect, and one heard by a further head only names that head; a fresh frame with no
element moves the link's counter on, clears its misses and names the head and, of a member awake and not in its
handshake, does nothing more unless its arrival gives a range. A sleeper's poll in a poll window sets its next poll
one interval on, the clock error that the regime gives, and counts one outside its own window. -/
def Obligations.MemberFramesAreChecked : Prop :=
  ∀ (s : State) (h : Head8) (frame : Bytes), s.blk.runs .air = true →
    let tells (typ : Nat) (b : Blk) : Prop := match s.blk.readRx h.val frame with
      | (none, b1) => b = b1
      | (some x, b1) =>
        (x.p.typ ≠ typ ∨ b1.senderOf x.p = none → b = b1) ∧
        ∀ mix, x.p.typ = typ → b1.senderOf x.p = some mix →
          let l := s.blk.link mix
          match psduOpen l.kLink 0 true x.p with
          | none => s.blk.counts b Reg.AIR_MIC_FAIL_COUNT ∧ (s.blk.fld Reg.AIR_SEC_CFG 7 0 = 0 →
              (b.link mix).rx = l.rx ∧ (b.link mix).micCount = l.micCount + 1 ∧
              s.blk.onlyIn [.air, .evr, .hdl, .regs] b)
          | some body =>
            (∀ last, l.rx = some last → x.p.fcnt < last → s.blk.counts b Reg.AIR_MIC_FAIL_COUNT ∧ b.air = s.blk.air) ∧
            (l.rx = some x.p.fcnt → (l.heard.headD []).contains x.head = false → b1.markOf x = [] →
              (b.link mix).heard = (l.heard.headD [] ++ [x.head]) :: l.heard.tail ∧ (b.link mix).miss = l.miss ∧
              s.blk.onlyIn [.air, .hdl] b) ∧
            (body = [] → (∀ last, l.rx = some last → last < x.p.fcnt) → l.handshake = false →
              ((b.link mix).rx = some x.p.fcnt ∧ (b.link mix).miss = 0 ∧ (b.link mix).more = x.p.more ∧
                (b.link mix).heard = [x.head] :: l.heard.take 9 ∧ s.blk.onlyIn [.air, .hdl, .pos, .regs] b) ∧
              (l.sleepy = false → (typ = 7 ∨ b1.markOf x = []) → s.blk.onlyIn [.air, .hdl] b) ∧
              (typ = 7 → l.sleepy = true → b1.inContention x = false →
                let own := x.slot = l.pollSlot ∧ (b1.rxSlot x).kind = 3 ∧ (b1.rxSlot x).owner = s.blk.short mix
                let o := x.start - l.predicted (s.blk.sfNear x.sfn)
                (b.link mix).pollSfn = (x.sfn + l.pollStep) % 2 ^ 32 ∧
                (b.link mix).e = (if s.blk.large l.chan9 then newError l.e x.fo o (max 1 l.interval) else 0) ∧
                (own → b.regs = s.blk.regs) ∧ (¬ own → s.blk.counts b Reg.AIR_COLLIDE_COUNT ∧
                  s.blk.regsOnly [Reg.AIR_COLLIDE_COUNT] b)))
    Gives (.upFrameRx h frame) s (tells 4) ∧ Gives (.pollRx h frame) s (tells 7)

/-- Association (R284-R289): a request is heard only while associations are open; a failed MIC, a counter not above the
last and an EUI that is not admitted are counted and change nothing; else the counter is kept, and an EUI that holds
no MIX takes the free one it names into its handshake under new keys (shown during a stop, when its ASSOCIATING is
kept for the release), or, with none free, waits or is told FULL; one that holds a MIX makes its handshake anew, or is
refused where that MIX is EVICTED; the answer is queued. A handshake that takes 1 s is given up (shown during a stop)
and its MIX, once ABSENT, kept for the first waiting partner, a kept MIX is given back after 1 s, a silent waiter
leaves after 3 s. -/
def Obligations.PartnersAssociateOrWait : Prop :=
  (∀ (s : State) (h : Head8) (frame site : Bytes), s.blk.runs .air = true → s.blk.key.site = some site →
    Gives (.assocReqRx h frame) s (fun b => match s.blk.readRx h.val frame with
      | (none, b1) => b = b1
      | (some x, b1) =>
        let p := x.p
        let eui := le p.body 0 8
        let answered (status : Nat) := ∃ a, b.air.bcasts = s.blk.air.bcasts ++ [a] ∧ a.eui = eui ∧ a.rsp = true ∧
          a.cnt = p.fcnt ∧ byteAt a.body 8 = status
        (s.blk.flag Reg.AIR_CFG 1 = false → b = b1) ∧
        (s.blk.flag Reg.AIR_CFG 1 = true → p.typ = 2 → p.src = 0xFFFE → p.dst = 0 →
          match psduOpen (upperHalf (kEnr site eui)) (eui % 2 ^ 16) false p with
          | none => s.blk.counts b Reg.AIR_MIC_FAIL_COUNT ∧ b.air = s.blk.air
          | some q =>
            (s.blk.air.enr.any (fun r => r.1 == eui) = true → p.fcnt ≤ Tab.val s.blk.air.enr eui 0 →
              s.blk.counts b Reg.AIR_MIC_FAIL_COUNT ∧ b.air = s.blk.air) ∧
            (s.blk.air.enr.any (fun r => r.1 == eui) = false →
              (s.blk.flag Reg.AIR_CFG 3 = false → s.blk.air.admitted.contains eui = false →
                s.blk.counts b Reg.AIR_REFUSE_COUNT ∧ b.air = s.blk.air) ∧
              (s.blk.flag Reg.AIR_CFG 3 = true → q.length = 0x18 → byteAt q 0x17 = 1 →
                Tab.val b.air.enr eui 0 = p.fcnt ∧
                (s.blk.mixOf eui = none → (∀ k, s.blk.mixFree eui k = false) → b.fleet = s.blk.fleet ∧
                  (s.blk.air.waiters = [] → b.air.waiters = [⟨eui, s.blk.elapsed⟩] ∧ answered 1) ∧
                  (32 ≤ s.blk.air.waiters.length → (∀ w ∈ s.blk.air.waiters, w.eui ≠ eui) →
                    b.air.waiters = s.blk.air.waiters ∧ answered 2)) ∧
                (s.blk.mixOf eui = none → s.blk.air.kept = [] → s.blk.mixFree eui (byteAt q 0x16) = true →
                  s.blk.stopped = true → s.blk.fleet.effects = [] →
                  let l := b.link (byteAt q 0x16)
                  l.eui = eui ∧ l.handshake = true ∧ l.rx = none ∧ l.tx = 0 ∧ answered 0 ∧
                  (Tab.val b.dvt.deferred (byteAt q 0x16) {}).change = some .associating ∧ b.fleet = s.blk.fleet) ∧
                (∀ mix, s.blk.mixOf eui = some mix → (s.blk.member mix).state = .evicted →
                  b.air.links = s.blk.air.links ∧ answered 3) ∧
                (∀ mix, s.blk.mixOf eui = some mix → (s.blk.member mix).state ≠ .evicted →
                  let l := b.link mix
                  l.eui = eui ∧ l.handshake = true ∧ l.rx = none ∧ l.tx = 0 ∧ b.fleet = s.blk.fleet ∧
                  answered 0)))))) ∧
  (∀ (s : State) (t : Nat) (mix : Mix), s.blk.runs .air = true →
    let b0 := s.blk.moveTo t
    let l := s.blk.link mix.val
    l.handshake = true → l.reassoc = false → l.acceptedAt + 1000000000 ≤ b0.elapsed → s.blk.stopped = true →
    ((s.blk.member mix.val).state = .absent → Gives (.assocTimeout t mix) s (fun b => b.link mix.val = {} ∧
      Tab.val b.dvt.deferred mix.val {}
        = deferCause (s.blk.member mix.val).task (Tab.val s.blk.dvt.deferred mix.val {}) .assocFailed ∧
      (∀ w ws, s.blk.air.waiters = w :: ws → s.blk.air.kept = [] → b.air.kept = [⟨mix.val, w.eui, b0.elapsed⟩]) ∧
      b.fleet = s.blk.fleet ∧ s.blk.onlyIn [.air, .dvt, .hdl, .inv, .out] b)) ∧
    ((s.blk.member mix.val).state ≠ .absent → Gives (.assocTimeout t mix) s (fun b =>
      (b.link mix.val).handshake = false ∧ b.fleet = s.blk.fleet ∧
      Tab.val b.dvt.deferred mix.val {} = deferCause (s.blk.member mix.val).task (Tab.val s.blk.dvt.deferred mix.val {})
        .assocFailed ∧ s.blk.onlyIn [.air, .dvt, .inv] b))) ∧
  (∀ (s : State) (t : Nat) (mix : Mix), s.blk.runs .air = true → Gives (.waitListKeepExpiry t mix) s (fun b =>
    (∀ k, k ∈ b.air.kept ↔ k ∈ s.blk.air.kept ∧ ¬ (k.mix = mix.val ∧ k.since + 1000000000 ≤ (s.blk.moveTo t).elapsed)) ∧
    b.air.links = s.blk.air.links ∧ s.blk.onlyIn [.air, .inv] b)) ∧
  (∀ (s : State) (t : Nat) (eui : DWord), s.blk.runs .air = true → Gives (.waitListDrop t eui) s (fun b =>
    (∀ w, w ∈ b.air.waiters ↔ w ∈ s.blk.air.waiters ∧
      ¬ (w.eui = eui.toNat ∧ w.heard + 3000000000 ≤ (s.blk.moveTo t).elapsed)) ∧
    b.air.links = s.blk.air.links ∧ s.blk.onlyIn [.air, .inv] b))

/-- Downlinks and uplinks (R281, R296, R303, R304, R309): a frame that acknowledges the last DOWN frame of its head and
slot delivers that frame's elements, which leave the link, but for KEY, and gives the member's clock offset; an
AIR_SEND element's operation is DONE with its number of sendings. Without an acknowledgement the frame is counted and
its elements stay, but an AIR_SEND beyond RETRY ends AIR_NO_ACK. A missed uplink is counted and the third in a row
makes the member UNHEARD (shown during a stop, when the change is kept for the release); an EVICTED member's
acknowledges the EVICT that was sent to it. -/
def Obligations.DownlinksAreDeliveredOrMissed : Prop :=
  (∀ (s : State) (t : Nat) (h : Head8) (frame : Bytes), s.blk.runs .air = true →
    match (s.blk.moveTo t).hlRx h.val 0x07 frame with
    | (none, b1) => Gives (.downAckRx t h frame) s (fun b => b = b1)
    | (some x, b1) =>
      let psdu := slice x 0x1C (le x 0x1A 2)
      (b1.ackedBy h.val (le x 0 4) (byteAt x 4) psdu = none → Gives (.downAckRx t h frame) s (fun b => b = b1)) ∧
      ∀ mix, b1.ackedBy h.val (le x 0 4) (byteAt x 4) psdu = some mix → s.blk.fleet.effects = [] →
        let l := s.blk.link mix
        ((∀ e ∈ l.elems, e.sent = true → e.eff = none ∧ e.op = none ∧ e.etype ≠ 0x85 ∧ e.etype ≠ 0x89) →
          Gives (.downAckRx t h frame) s (fun b => (b.link mix).clkOff = sle psdu 5 2 ∧
            (b.link mix).elems
              = (l.elems.filter (fun e => !e.sent || e.etype == 0x86)).map (fun e => { e with sent := false }) ∧
            s.blk.onlyIn [.air, .hdl, .inv] b)) ∧
        (∀ (e : Elem) (id : OpId), l.elems = [e] → e.etype = 0x8D → e.op = some id → e.eff = none →
          Gives (.downAckRx t h frame) s (fun b => (b.link mix).elems = [] ∧ (b.link mix).clkOff = sle psdu 5 2 ∧
            Ended s.blk b id St.done e.tries ∧ s.blk.onlyIn [.air, .hdl, .hst, .inv, .out] b))) ∧
  (∀ (s : State) (mix : Mix), s.blk.runs .air = true →
    let l := s.blk.link mix.val
    let isOver (e : Elem) : Prop := e.sent = true ∧ s.blk.fld Reg.AIR_CFG 19 16 < e.tries ∧ e.op.isSome = true
    ((∀ e ∈ l.elems, e.sent = false) → Gives (.downNoAck mix) s (fun b => b = s.blk)) ∧
    ((∃ e ∈ l.elems, e.sent = true) → Gives (.downNoAck mix) s (fun b =>
      s.blk.counts b Reg.AIR_NOACK_COUNT ∧
      (∀ e ∈ l.elems, ¬ isOver e → { e with sent := false } ∈ (b.link mix.val).elems) ∧
      (∀ e ∈ (b.link mix.val).elems, e.sent = false) ∧
      (∀ e ∈ l.elems, isOver e → ∃ id, e.op = some id ∧ Ended s.blk b id 0x20 e.tries) ∧
      s.blk.onlyIn [.air, .hst, .out, .regs] b ∧ s.blk.regsOnly [Reg.AIR_NOACK_COUNT] b))) ∧
  (∀ (s : State) (mix : Mix), s.blk.runs .air = true →
    let l := s.blk.link mix.val
    ((s.blk.member mix.val).state.served = true →
      (l.miss ≠ 2 → Gives (.expectedUplinkMissed mix) s (fun b =>
        (b.link mix.val).miss = min 3 (l.miss + 1) ∧ s.blk.counts b Reg.AIR_MISS_COUNT ∧
        s.blk.onlyIn [.air, .regs] b ∧ s.blk.regsOnly [Reg.AIR_MISS_COUNT] b)) ∧
      (l.miss = 2 → s.blk.stopped = true → Gives (.expectedUplinkMissed mix) s (fun b =>
        (b.link mix.val).miss = 3 ∧ s.blk.counts b Reg.AIR_MISS_COUNT ∧
        Tab.val b.dvt.deferred mix.val {} = deferCause (s.blk.member mix.val).task (Tab.val s.blk.dvt.deferred mix.val {})
          .unheard ∧ b.fleet = s.blk.fleet ∧ s.blk.onlyIn [.air, .dvt, .regs] b))) ∧
    (l.keepUplinks = true → (s.blk.member mix.val).state = .evicted →
      ((∀ e ∈ l.elems, e.etype = 0x84 → e.tries = 0) → Gives (.expectedUplinkMissed mix) s (fun b => b = s.blk)) ∧
      (∀ f : Effect, (∃ e ∈ l.elems, e.etype = 0x84 ∧ 0 < e.tries) → s.blk.fleet.effects = [f] → f.dest = .air →
        f.obj = mix.val → f.act = 0x43 → f.t ≤ s.blk.now → Gives (.expectedUplinkMissed mix) s (fun b =>
          b.fleet.effects = [] ∧ (b.link mix.val).keepUplinks = false ∧
          (∀ e ∈ (b.link mix.val).elems, e.etype ≠ 0x84) ∧ s.blk.onlyIn [.air, .fleet, .regs] b))))

/-- AIR's descriptors (R309): AIR_SEND to a served member queues its element and waits, to another member or with too many
bytes it completes so; AIR_RX_BIND names the queue; AIR_ADMIT changes the admission list of at most 256;
AIR_MEMBERS_READ writes 128 entries of 16 bytes. -/
def Obligations.AirDescriptorsServeMembers : Prop :=
  ∀ (s : State) (d : Desc), s.blk.runs .air = true → s.blk.starts d →
    (∀ data, d.op 0x18 1 < s.blk.nMix → d.op 0x19 1 = 0 → 1 ≤ d.op 0x1A 2 → d.op 0x1A 2 ≤ 615 → d.op 0x1C 4 = 0 →
      let mix := d.op 0x18 1
      let max := payloadMax (s.blk.hprf mix) - 3
      ((s.blk.member mix).state.served = false → Gives (.airSend d data) s (fun b =>
        Completed s.blk b d 0x21 (s.blk.member mix).state.code ∧ s.blk.onlyIn [.hst, .out] b)) ∧
      ((s.blk.member mix).state.served = true → max < d.op 0x1A 2 → Gives (.airSend d data) s (fun b =>
        Completed s.blk b d 0x22 max ∧ s.blk.onlyIn [.hst, .out] b)) ∧
      ((s.blk.member mix).state.served = true → d.op 0x1A 2 ≤ max → Gives (.airSend d data) s (fun b =>
        (b.link mix).elems = (s.blk.link mix).elems
          ++ [{ etype := 0x8D, body := slice data 0 (d.op 0x1A 2), op := some d.id }] ∧
        (∀ m, m ≠ mix → b.link m = s.blk.link m) ∧ s.blk.onlyIn [.air, .hst] b))) ∧
    (d.op 0x18 1 < 64 → Gives (.airRxBind d) s (fun b => b.air = { s.blk.air with rxQueue := d.op 0x18 1 } ∧
      Completed s.blk b d St.done 0 ∧ s.blk.onlyIn [.air, .hst, .out] b)) ∧
    ((d.op 0x20 1 = 0 → s.blk.air.admitted.contains (d.op 0x18 8) = true → Gives (.airAdmit d) s (fun b =>
        Completed s.blk b d St.done s.blk.air.admitted.length ∧ s.blk.onlyIn [.hst, .out] b)) ∧
      (d.op 0x20 1 = 0 → s.blk.air.admitted.contains (d.op 0x18 8) = false → s.blk.air.admitted.length < 256 →
        Gives (.airAdmit d) s (fun b => b.air = { s.blk.air with admitted := s.blk.air.admitted ++ [d.op 0x18 8] } ∧
          Completed s.blk b d St.done (s.blk.air.admitted.length + 1) ∧ s.blk.onlyIn [.air, .hst, .out] b)) ∧
      (d.op 0x20 1 = 0 → s.blk.air.admitted.contains (d.op 0x18 8) = false → 256 ≤ s.blk.air.admitted.length →
        Gives (.airAdmit d) s (fun b => Completed s.blk b d 0x23 0 ∧ s.blk.onlyIn [.hst, .out] b)) ∧
      (d.op 0x20 1 = 1 → Gives (.airAdmit d) s (fun b =>
        (∀ e, e ∈ b.air.admitted ↔ e ∈ s.blk.air.admitted ∧ e ≠ d.op 0x18 8) ∧ Completed s.blk b d St.done b.air.admitted.length ∧
        s.blk.onlyIn [.air, .hst, .out] b)) ∧
      (d.op 0x20 1 = 2 → Gives (.airAdmit d) s (fun b => b.air = { s.blk.air with admitted := [] } ∧
        Completed s.blk b d St.done 0 ∧ s.blk.onlyIn [.air, .hst, .out] b))) ∧
    (d.op 0x18 8 % 64 = 0 → Gives (.airMembersRead d) s (fun b => Completed s.blk b d St.done 0 ∧
      (∃ data, Out.hostWrite (d.op 0x18 8) data ∈ b.out ∧ data.length = 2048 ∧
        ∀ m, m < 128 → slice data (16 * m) 16 = s.blk.memberEntry m) ∧ s.blk.onlyIn [.hst, .out] b))

/-! ## The heads (R314-R337) -/

/-- Joining and loss of heads (R314, R319-R321, R328, R333): a HELLO on a joined port or of an EUI that is not admitted is
counted, one whose MIC fails or whose counter is not above the last is counted, and one that verifies makes the head
CALIBRATING with JOIN, KEYS and MEMBERS sent to it; without a heartbeat, with its link down, or with three stop
windows unreported a head is LOST: its members move to another head that hears them, and Clamp takes no action. -/
def Obligations.HeadsJoinAndAreLost : Prop :=
  (∀ (s : State) (h : Head8) (frame site p : Bytes) (f : HlRx), s.blk.runs .hdl = true → s.blk.inSvc = true →
    s.blk.ethPayload frame = some p → s.blk.key.site = some site →
    (hlParse p = none → Gives (.helloRx h frame) s (fun b => s.blk.counts b Reg.HDL_HCRC_ERR_COUNT ∧
      s.blk.onlyIn [.regs] b ∧ s.blk.regsOnly [Reg.HDL_HCRC_ERR_COUNT] b)) ∧
    (hlParse p = some f → f.typ = 1 →
      let eui := le (slice f.rest 0 0x18) 0 8
      let barred : Prop := (s.blk.head h.val).joined = true ∨ (s.blk.headEui h.val ≠ 0 ∧ s.blk.headEui h.val ≠ eui)
      (barred → Gives (.helloRx h frame) s (fun b => s.blk.counts b Reg.HDL_REFUSE_COUNT ∧
        (b.head h.val).state = (s.blk.head h.val).state ∧ (b.head h.val).eui = (s.blk.head h.val).eui ∧
        s.blk.onlyIn [.evr, .hdl, .regs] b ∧ s.blk.regsOnly [Reg.HDL_REFUSE_COUNT, Reg.EVR_DROP_COUNT] b)) ∧
      (¬ barred → (∀ q ∈ s.blk.hdl.joins, q.1 ≠ eui) → Gives (.helloRx h frame) s (fun b =>
        match hlOpen (upperHalf (kHl site eui)) eui 1 f with
        | none => s.blk.counts b Reg.HDL_MIC_ERR_COUNT ∧ s.blk.onlyIn [.regs] b
        | some pay => (b.head h.val).state = .calibrating ∧ (b.head h.val).eui = le pay 0 8 ∧
            (b.head h.val).need = 64 ∧ (b.head h.val).rx = none ∧
            (∃ body raw, Out.head h.val 0x02 f.cnt body raw ∈ b.out) ∧
            (∃ c body raw, Out.head h.val 0x0B c body raw ∈ b.out) ∧
            (s.blk.air.kp.any (fun q => q.1 == s.blk.keyPeriod) = true →
              ∃ c body raw, Out.head h.val 0x0A c body raw ∈ b.out) ∧
            (∀ k, k ≠ h.val → b.head k = s.blk.head k) ∧ s.blk.onlyIn [.evr, .fresh, .hdl, .out, .regs] b)) ∧
      (∀ q, ¬ barred → s.blk.hdl.joins.find? (fun q => q.1 == eui) = some q → f.cnt ≤ q.2 →
        Gives (.helloRx h frame) s (fun b => s.blk.counts b Reg.HDL_MIC_ERR_COUNT ∧ s.blk.onlyIn [.regs] b ∧
          s.blk.regsOnly [Reg.HDL_MIC_ERR_COUNT] b)))) ∧
  (∀ (s : State) (h : Head8), s.blk.runs .hdl = true → (s.blk.head h.val).joined = true →
    let lost (b : Blk) : Prop := (b.head h.val).state = .lost ∧ (∀ k, k ≠ h.val → b.head k = s.blk.head k) ∧
      (∀ m, (s.blk.link m).head ≠ h.val → b.link m = s.blk.link m) ∧
      (∀ m, s.blk.air.links.any (fun q => q.1 == m) = true → (s.blk.link m).head = h.val →
        (b.link m).head = s.blk.successor h.val (s.blk.link m)) ∧
      s.blk.onlyIn [.air, .evr, .hdl, .inv, .regs] b ∧ s.blk.regsOnly [Reg.EVR_DROP_COUNT] b
    (∀ t, (s.blk.head h.val).lastHb + s.blk.fld Reg.HDL_SYNC_CFG 1 0 * 125000 ≤ (s.blk.moveTo t).elapsed →
      Gives (.headHbLoss t h) s lost) ∧
    (3 ≤ (s.blk.head h.val).winMiss → Gives (.stopwinReportMissing h) s lost) ∧
    (∀ port : Fin 10, port.val = h.val → Gives (.sgmiiLinkChange port false) s lost)) ∧
  (∀ (s : State) (port : Fin 10) (up : Bool), s.blk.runs .hdl = true →
    (port.val < 8 → up = true → Gives (.sgmiiLinkChange port up) s (fun b =>
      b.head port.val = { s.blk.head port.val with linkUp := true } ∧ s.blk.onlyIn [.hdl] b)) ∧
    (8 ≤ port.val → Gives (.sgmiiLinkChange port up) s (fun b =>
      b.lanPort (port.val - 8) = { s.blk.lanPort (port.val - 8) with up := up } ∧ s.blk.onlyIn [.inv] b)))

/-- Heartbeats and mapping (R322, R323, R325): HB_DN goes to every joined head with the next HSEQ, and one without an
answer is counted; a head's answer to the last HSEQ is noted, and completes the exchange of the heartbeat before it,
whose delay is kept, or, too far from the last mean, counted as an outlier; each interval ends with the mean of its
delays kept and the mapping fitted anew, or a path step freezes the mapping and makes the head SUSPECT; SUSPECT_HOLD
later it has no air service. -/
def Obligations.HeadsKeepTime : Prop :=
  (∀ (s : State) (t : Nat) (egress : List Nat), s.blk.runs .hdl = true → Gives (.hbDnTx t egress) s (fun b =>
    (∀ h, h < 8 → (s.blk.head h).joined = true →
      (b.head h).hseq = ((s.blk.head h).hseq + 1) % 65536 ∧ (b.head h).answered = false ∧
      (b.head h).t1 = some (((t / 125000 * 125000 * 65536 + egress.getD h 0 : Nat) : Int)) ∧
      ((s.blk.head h).answered = false → s.blk.counts b (Reg.HDL_HEAD_HB_MISS_COUNT h)) ∧
      ∃ body raw, Out.head h 0x03 (s.blk.head h).tx body raw ∈ b.out) ∧
    (∀ h, (s.blk.head h).joined = false → b.head h = s.blk.head h) ∧
    s.blk.onlyIn [.hdl, .inv, .out, .regs] b)) ∧
  (∀ (s : State) (h : Head8) (frame : Bytes) (t4 : Nat), s.blk.runs .hdl = true →
    let b0 := s.blk.moveTo (t4 / 65536)
    Gives (.hbUpRx h frame t4) s (fun b => match b0.hlRx h.val 0x04 frame with
      | (none, b1) => b = b1
      | (some p, b1) => (le p 0 2 ≠ (s.blk.head h.val).hseq → (bitOf (byteAt p 2) 0 = true → b = b1) ∧
            (bitOf (byteAt p 2) 0 = false → (b.head h.val).state = .lost)) ∧
          (le p 0 2 = (s.blk.head h.val).hseq → (b.head h.val).lastHb = b0.elapsed ∧
            (b.head h.val).answered = true ∧ (b.head h.val).hflags = byteAt p 2 ∧
            (∀ e, (s.blk.head h.val).pend = some e →
              let x := s.blk.head h.val
              let d := x.line.delayOf { e with t3 := unwrapTick e.t2 (le p 0xC 8) }
              let far := ∃ m, x.mPrev = some m ∧ s.blk.fld Reg.HDL_SYNC_CFG 15 8 * 65536 < (d - m).natAbs
              (far → s.blk.counts b Reg.HDL_OUTLIER_COUNT ∧ (b.head h.val).ds = x.ds ∧
                (b.head h.val).outliers = x.outliers + 1) ∧
              (¬ far → (b.head h.val).ds = d :: x.ds ∧ (b.head h.val).need = x.need - 1)) ∧
            (bitOf (byteAt p 2) 0 = true → (b.head h.val).state = (s.blk.head h.val).state) ∧
            (bitOf (byteAt p 2) 0 = false → (b.head h.val).state = .lost) ∧
            s.blk.onlyIn [.air, .evr, .hdl, .inv, .regs] b))) ∧
  (∀ (s : State) (t : Nat), s.blk.runs .hdl = true → Gives (.syncIntervalEnd t) s (fun b =>
    (∀ h, h < 8 → (s.blk.head h).joined = true →
      let x := s.blk.head h
      let m : Option Int := if x.ds = [] then none else some (x.ds.sum / x.ds.length)
      (b.head h).ds = [] ∧ (b.head h).outliers = 0 ∧ (b.head h).mPrev = m ∧
      (x.recal = false → x.frozen = false →
        (s.blk.pathStep h m = true → (b.head h).frozen = true ∧ (b.head h).line = x.line ∧
          ((b.head h).state = .suspect ∨ (b.head h).state = .noAir)) ∧
        (s.blk.pathStep h m = false → x.need = 0 → (b.head h).frozen = false ∧
          (b.head h).line = (fitLine x.fitSet).getD x.line ∧ (b.head h).state
            = if s.blk.capMissing h = false ∧ (b.head h).tooFar = false then .up else .noAir))) ∧
    (∀ h, (s.blk.head h).joined = false → b.head h = s.blk.head h) ∧
    s.blk.onlyIn [.evr, .fresh, .hdl, .inv, .pos, .regs] b)) ∧
  (∀ (s : State) (t : Nat) (h : Head8), s.blk.runs .hdl = true →
    let isOver : Prop := (s.blk.head h.val).state = .suspect ∧
      (s.blk.head h.val).suspectAt + s.blk.fld Reg.HDL_SYNC_CFG 31 24 * 1000000000 ≤ (s.blk.moveTo t).elapsed
    (isOver → Gives (.suspectHoldExpiry t h) s (fun b => b.head h.val = { s.blk.head h.val with state := .noAir } ∧
      (∀ k, k ≠ h.val → b.head k = s.blk.head k) ∧ s.blk.onlyIn [.evr, .hdl, .inv, .regs] b ∧
      s.blk.regsOnly [Reg.EVR_DROP_COUNT] b)) ∧
    (¬ isOver → Gives (.suspectHoldExpiry t h) s (fun b => b = s.blk.moveTo t)))

/-- Recalibration, transmission reports and stop windows (R189, R326-R328): RECAL takes the asymmetry that MODE says and
asks for 64 new exchanges, HOLD outside SUSPECT is clamped and reported; a report other than SENT is counted; during a
stop every head that was asked for the window before is judged by its report, every head with air service is told the
window's positions that the stop met, and without a stop no window is kept. -/
def Obligations.HeadsAreRecalibratedAndReport : Prop :=
  (∀ (s : State) (h : Head8) (w : Word), s.blk.runs .hdl = true → s.blk.inSvc = true → w.getLsbD 0 = true →
    let x := s.blk.head h.val
    (w.getLsbD 1 = true → x.joined = true → Gives (.headRecalSet h w) s (fun b =>
      (b.head h.val).asym = (s.blk.reg (Reg.HDL_HEAD_ASYM h.val)).toInt ∧ (b.head h.val).recal = true ∧
      (b.head h.val).need = 64 ∧ (b.head h.val).fitSet = [] ∧ b.reg (Reg.HDL_HEAD_CTL h.val) = word 2 ∧
      (∀ k, k ≠ h.val → b.head k = s.blk.head k) ∧ s.blk.onlyIn [.hdl, .regs] b ∧
      s.blk.regsOnly [Reg.HDL_HEAD_CTL h.val] b)) ∧
    (∀ e, w.getLsbD 1 = false → x.state = .suspect → x.lastX = some e → Gives (.headRecalHold h w) s (fun b =>
      let a := unitsToPs (2 * (x.line.fleet e.t2 - e.t1)) - (2 * x.delay - x.asym)
      (b.head h.val).asym = a ∧ b.reg (Reg.HDL_HEAD_ASYM h.val) = sword a ∧ (b.head h.val).recal = true ∧
      (b.head h.val).need = 64 ∧ (∀ k, k ≠ h.val → b.head k = s.blk.head k) ∧ s.blk.onlyIn [.hdl, .regs] b ∧
      s.blk.regsOnly [Reg.HDL_HEAD_CTL h.val, Reg.HDL_HEAD_ASYM h.val] b)) ∧
    (w.getLsbD 1 = false → x.state ≠ .suspect → Gives (.headRecalHold h w) s (fun b =>
      b.hdl = s.blk.hdl ∧ s.blk.counts b Reg.SYS_CLAMP_COUNT ∧ s.blk.onlyIn [.evr, .mem, .regs] b))) ∧
  (∀ (s : State) (h : Head8) (frame : Bytes), s.blk.runs .hdl = true → Gives (.txReportRx h frame) s (fun b =>
    match s.blk.hlRx h.val 0x06 frame with
    | (none, b1) => b = b1
    | (some p, b1) => (byteAt p 4 ≠ 0 → b1.counts b Reg.HDL_LATE_COUNT ∧ b1.onlyIn [.regs] b) ∧
        (byteAt p 4 = 0 → 0xFFFFFF00 ≤ le p 0 4 →
          (b.head h.val).winSent = setBit (s.blk.head h.val).winSent (le p 0 4 % 2) ∧ b1.onlyIn [.hdl] b) ∧
        (byteAt p 4 = 0 → le p 0 4 < 0xFFFFFF00 →
          (∀ m, s.blk.air.links.any (fun q => q.1 == m) = true → (s.blk.link m).txid = le p 0 4 →
            (s.blk.link m).txHead = h.val →
            b.link m = { s.blk.link m with txAt := some ((s.blk.head h.val).line.toNs (le p 8 8)) }) ∧
          (∀ m, (s.blk.link m).txid ≠ le p 0 4 ∨ (s.blk.link m).txHead ≠ h.val → b.link m = s.blk.link m) ∧
          b1.onlyIn [.air] b))) ∧
  (∀ (s : State) (t : Nat), s.blk.runs .hdl = true →
    let g := t / 1000000 * 1000000
    let b0 := s.blk.moveTo (g - 48000)
    (s.blk.stopped = true → b0.windowMask g ≠ 0 → Gives (.stopWindow t) s (fun b =>
      b.hdl.window = some (t / 1000000 % 2 ^ 48) ∧ b.hdl.winMask = b0.windowMask g ∧
      (∀ h, h < 8 → s.blk.headAir h = true → (b.head h).winSent = 16 ∧ (b.head h).tx = (s.blk.head h).tx + 1 ∧
        ∃ rest raw, Out.head h 0x09 (s.blk.head h).tx (leBytes 6 (t / 1000000 % 2 ^ 48)
          ++ leBytes 1 (b0.windowMask g) ++ rest) raw ∈ b.out) ∧
      s.blk.onlyIn [.hdl, .inv, .out] b)) ∧
    (∀ h, h < 8 → s.blk.stopped = true → s.blk.hdl.window ≠ none → bitOf (s.blk.head h).winSent 4 = true →
      Gives (.stopWindow t) s (fun b => (b.head h).winMiss
        = if (s.blk.head h).winSent % 4 &&& s.blk.hdl.winMask = s.blk.hdl.winMask then 0
          else (s.blk.head h).winMiss + 1)) ∧
    (s.blk.stopped = false → Gives (.stopWindow t) s (fun b => b.hdl.window = none ∧ b.hdl.winMask = 0 ∧
      (∀ h, h < 8 → (b.head h).winMiss = 0) ∧ b.out = s.blk.out ∧ s.blk.onlyIn [.hdl, .inv] b)))

/-! ## The GNSS receiver (R205-R236) -/

/-- The front end (R206-R210): a current over I_SHORT shows SHORT at once, in RETRY after the 10 ms of supply, another
condition after 100 samples in a row; with BIAS 0 the antenna is OFF; SHORT is tried again after 1 s; the gain moves
one step towards its target unless held; the jamming flag is set at the threshold and cleared by ten updates 8 below
it; a line strong for ten spectra gets a free notch, and an engaged notch follows its line by at most 1 kHz. -/
def Obligations.FrontEndWatchesItsInput : Prop :=
  (∀ (s : State) (i : Nat), s.blk.runs .gns = true →
    let g := s.blk.gns
    let bias := s.blk.fld Reg.GNS_ANT_CFG 1 0
    let short : Prop := s.blk.fld Reg.GNS_ANT_CFG 31 24 * 10 ≤ i ∨ 1500 ≤ i
    let c := if i < s.blk.fld Reg.GNS_ANT_CFG 23 16 then 2 else 1
    (bias = 0 → Gives (.antennaCurrentSample i) s (fun b => b.gns.ant = 0 ∧ b.gns.iMeas = 0 ∧
      s.blk.onlyIn [.evr, .gns, .regs] b ∧ s.blk.regsOnly [Reg.EVR_DROP_COUNT] b)) ∧
    (bias ≠ 0 → g.ant = 3 → Gives (.antennaCurrentSample i) s (fun b => b.gns = { g with iMeas := min i 2000 } ∧
      s.blk.onlyIn [.gns] b)) ∧
    (bias ≠ 0 → g.ant ≠ 3 → short → (g.ant = 4 → 9 ≤ g.antTot) → Gives (.antennaCurrentSample i) s (fun b =>
      b.gns.ant = 3 ∧ b.gns.iMeas = min i 2000 ∧ b.gns.antAt = s.blk.elapsed ∧
      s.blk.onlyIn [.evr, .gns, .regs] b ∧ s.blk.regsOnly [Reg.EVR_DROP_COUNT] b)) ∧
    (bias ≠ 0 → g.ant = 4 → short → g.antTot < 9 → Gives (.antennaCurrentSample i) s (fun b =>
      b.gns.ant = 4 ∧ b.gns.iMeas = min i 2000 ∧ b.gns.antTot = g.antTot + 1 ∧ s.blk.onlyIn [.gns] b)) ∧
    (bias ≠ 0 → g.ant ≠ 3 → ¬ short → g.antCond = c → 99 ≤ g.antN → Gives (.antennaCurrentSample i) s (fun b =>
      b.gns.ant = c ∧ b.gns.iMeas = min i 2000 ∧ s.blk.onlyIn [.evr, .gns, .regs] b)) ∧
    (bias ≠ 0 → g.ant ≠ 3 → ¬ short → g.antCond ≠ c → Gives (.antennaCurrentSample i) s (fun b =>
      b.gns.ant = g.ant ∧ b.gns.antCond = c ∧ b.gns.antN = 1 ∧ b.gns.iMeas = min i 2000 ∧
      s.blk.onlyIn [.gns] b))) ∧
  (∀ (s : State) (t : Nat), s.blk.runs .gns = true →
    let due : Prop := s.blk.gns.ant = 3 ∧ s.blk.fld Reg.GNS_ANT_CFG 1 0 ≠ 0 ∧
      s.blk.gns.antAt + 1000000000 ≤ (s.blk.moveTo t).elapsed
    (due → Gives (.antennaRetry t) s (fun b => b.gns.ant = 4 ∧ b.gns.antN = 0 ∧ b.gns.antTot = 0 ∧ b.evr = s.blk.evr ∧
      s.blk.onlyIn [.gns, .inv] b)) ∧
    (¬ due → Gives (.antennaRetry t) s (fun b => b = s.blk.moveTo t))) ∧
  (∀ (s : State) (rms : Nat) (p : Int), s.blk.runs .gns = true → Gives (.agcUpdate rms p) s (fun b =>
    let target := s.blk.fld Reg.GNS_AGC_CFG 7 0
    b.gns = { s.blk.gns with
      pIn := p
      gain := if s.blk.flag Reg.GNS_AGC_CFG 8 = true ∨ rms = target then s.blk.gns.gain
        else if rms < target then min 120 (s.blk.gns.gain + 1) else s.blk.gns.gain - 1 } ∧ s.blk.onlyIn [.gns] b)) ∧
  (∀ s : State, s.blk.runs .gns = true →
    let j := jamOf s.blk.gns.pIn (s.blk.sfld Reg.GNS_JAM_CFG 31 16)
    let th := s.blk.fld Reg.GNS_JAM_CFG 7 0
    8 ≤ th →
    Gives .jamUpdate s (fun b => b.gns.j = j ∧ b.gns.jPeak = max j s.blk.gns.jPeak ∧
      (th ≤ j → b.gns.jam = true) ∧ (j ≤ th - 8 → 9 ≤ s.blk.gns.jamLow → b.gns.jam = false) ∧
      (j < th → ¬ (j ≤ th - 8 ∧ 9 ≤ s.blk.gns.jamLow) → b.gns.jam = s.blk.gns.jam) ∧
      (b.gns.jam ≠ s.blk.gns.jam → Recorded s.blk b 0x0303 (leBytes 1 (b2n b.gns.jam) ++ leBytes 1 j)) ∧
      s.blk.onlyIn [.evr, .gns, .regs] b ∧ s.blk.regsOnly [Reg.EVR_DROP_COUNT] b)) ∧
  (∀ (s : State) (l : SpecLine), s.blk.runs .gns = true → s.blk.fld Reg.GNS_NOTCH_CFG 15 8 ≤ l.level →
    let old := s.blk.gns.lines.find? (fun x => x.line == l.line)
    ((∀ n, n < 4 → (s.blk.notch n).on = false) → s.blk.flag Reg.GNS_NOTCH_CFG 16 = true →
      ((∃ o, old = some o ∧ 9 ≤ o.count) → Gives (.spectrumUpdate [l]) s (fun b =>
        b.notch 0 = { on := true, line := l.line, freq := l.freq, level := l.level, depth := min 60 l.depth } ∧
        Recorded s.blk b 0x0302 [1] ∧ s.blk.onlyIn [.evr, .gns, .regs] b)) ∧
      ((∀ o, old = some o → o.count < 9) → Gives (.spectrumUpdate [l]) s (fun b =>
        (∀ n, n < 4 → (b.notch n).on = false) ∧ s.blk.onlyIn [.gns] b))) ∧
    (∀ n, n < 4 → (s.blk.notch n).on = true → (s.blk.notch n).line = l.line →
      (∀ m, m < 4 → m ≠ n → (s.blk.notch m).on = false) → s.blk.flag Reg.GNS_NOTCH_CFG (16 + n) = true →
      Gives (.spectrumUpdate [l]) s (fun b => b.notch n
        = { s.blk.notch n with
            freq := clampInt ((s.blk.notch n).freq - 1000) ((s.blk.notch n).freq + 1000) l.freq, level := l.level
            depth := min 60 l.depth, quiet := 0 } ∧ s.blk.onlyIn [.gns] b)))

/-- Channels (R214, R217-R225): a review gives a free channel to a satellite in view and releases one that is 2° below the
mask, or, without an orbit set, puts a free channel on the next satellite; a search that finds its satellite is
tracked, and without an orbit set one that found nothing searches on; tracking locks, slips and is lost; bit
synchronisation and the preamble are noted; symbols of one second go to their queue; at a reference epoch the sequence
number moves on, four codes make the time valid, and in TRACK the phase is followed and the locks count up. -/
def Obligations.ChannelsSearchTrackAndTime : Prop :=
  (∀ (s : State) (t : Nat), s.blk.runs .gns = true →
    let b0 := s.blk.moveTo t
    (b0.noOrbit = false → b0.refPos ≠ none → Gives (.channelReview t) s (fun b =>
      ((∀ n, s.blk.chan n = {}) →
        (∀ q rest, b0.inView = q :: rest → b.chan 0 = { st := 1, sys := q.1.1, svid := q.1.2, elev := elevDeg q.2 }) ∧
        (b0.inView.length ≤ 1 → ∀ n, n ≠ 0 → b.chan n = {}) ∧ (b0.inView = [] → b.chan 0 = {})) ∧
      (b0.inView = [] → ∀ n e, n < 64 → (s.blk.chan n).st ≠ 0 →
        b0.elevOf (s.blk.chan n).sys (s.blk.chan n).svid = some e →
        b.chan n = if e + 2 < (s.blk.fld Reg.GNS_SYS_CFG 15 8 : Rat) then (s.blk.chan n).freed
          else { s.blk.chan n with elev := elevDeg e }) ∧ s.blk.onlyIn [.gns, .inv] b)) ∧
    (∀ n i q, b0.noOrbit = true → n < 64 → (∀ k, k < 64 → ((s.blk.chan k).st = 0 ↔ k = n)) →
      s.blk.nextSearch = some (i, q) → Gives (.channelReview t) s (fun b => b.gns.nextSat = i ∧
        b.chan n = { st := 1, sys := q.1, svid := q.2, last := (s.blk.chan n).last } ∧
        (∀ k, k ≠ n → b.chan k = s.blk.chan k) ∧ s.blk.onlyIn [.gns, .inv] b))) ∧
  (∀ (s : State) (n : Chan64) (o : AcqObs), s.blk.runs .gns = true →
    (s.blk.chan n.val).st = 1 ∨ (s.blk.chan n.val).st = 4 →
    let c := s.blk.chan n.val
    (s.blk.acqFound c o = true → Gives (.acqSearchDone n o) s (fun b =>
      b.chan n.val = { c with st := 2, low := 0, weak := 0, sync := false, half := false, coh := codeMs c.sys
                              loops := s.blk.fld Reg.GNS_TRK_CFG 31 8 } ∧
      (∀ k, k ≠ n.val → b.chan k = s.blk.chan k) ∧ s.blk.onlyIn [.gns] b)) ∧
    (s.blk.acqFound c o = false → s.blk.noOrbit = false → Gives (.acqSearchDone n o) s (fun b =>
      b.chan n.val = { c with st := 1 } ∧ (∀ k, k ≠ n.val → b.chan k = s.blk.chan k) ∧ s.blk.onlyIn [.gns] b)) ∧
    (∀ i q, s.blk.acqFound c o = false → s.blk.noOrbit = true → (s.blk.freeChan n.val).nextSearch = some (i, q) →
      Gives (.acqSearchDone n o) s (fun b => b.gns.nextSat = i ∧
        b.chan n.val = { st := 1, sys := q.1, svid := q.2, last := c.last } ∧
        (∀ k, k ≠ n.val → b.chan k = s.blk.chan k) ∧ s.blk.onlyIn [.gns] b))) ∧
  (∀ (s : State) (p q : List TrkIn) (x : TrkIn), s.blk.runs .gns = true → (∀ y ∈ p ++ q, y.chan ≠ x.chan) →
    let c := s.blk.chan x.chan.val
    let weakest := s.blk.fld Reg.GNS_TRK_CFG 7 0 * 100
    Gives (.trackingUpdate (p ++ x :: q)) s (fun b =>
      (c.st = 3 → weakest ≤ x.cn0 → 400 ≤ x.cos2 → b.chan x.chan.val
        = { c with cn0 := x.cn0, coh := s.blk.cohOf c, loops := s.blk.fld Reg.GNS_TRK_CFG 31 8, low := 0, weak := 0 }) ∧
      (c.st = 3 → weakest ≤ x.cn0 → x.cos2 < 400 → 1 ≤ c.low →
        (b.chan x.chan.val).st = 4 ∧ (b.chan x.chan.val).slip = true) ∧
      (c.st = 2 → weakest ≤ x.cn0 → 800 < x.cos2 → (b.chan x.chan.val).st = 3 ∧ (b.chan x.chan.val).lock = 0) ∧
      (c.st = 2 ∨ c.st = 3 → x.cn0 < weakest → 9 ≤ c.weak → b.chan x.chan.val = c.freed) ∧
      s.blk.onlyIn [.gns, .regs] b ∧ s.blk.regsOnly [Reg.GNS_SLIP_COUNT] b)) ∧
  (∀ (s : State) (n : Chan64), s.blk.runs .gns = true →
    ((s.blk.chan n.val).st = 2 ∨ (s.blk.chan n.val).st = 3 → Gives (.bitSyncFound n) s (fun b =>
      b.chan n.val = { s.blk.chan n.val with sync := true } ∧ (∀ k, k ≠ n.val → b.chan k = s.blk.chan k) ∧
      s.blk.onlyIn [.gns] b)) ∧
    ((s.blk.chan n.val).st = 3 → (s.blk.chan n.val).pilot = false → (s.blk.chan n.val).half = false →
      Gives (.preambleDecoded n) s (fun b =>
        (∃ k, k < 2 ∧ b.chan n.val
          = { s.blk.chan n.val with half := true, cp := (s.blk.chan n.val).cp + (k : Nat) * 2 ^ 31 }) ∧
        (∀ k, k ≠ n.val → b.chan k = s.blk.chan k) ∧ s.blk.onlyIn [.fresh, .gns] b))) ∧
  (∀ (s : State) (n : Chan64) (first nSym : Nat) (known gap : Bool) (sym : Bytes), s.blk.runs .gns = true →
    let q := s.blk.fld Reg.GNS_OUT_CFG 21 16
    let c := s.blk.chan n.val
    let goes := q ≠ 0 ∧ 1 ≤ nSym ∧ nSym ≤ (symbolsOf c.last.1).1 ∧
      first % 1000000000 + (nSym - 1) * (symbolsOf c.last.1).2 < 1000000000 ∧ c.last.2 ≠ 0 ∧ (c.st = 3 ∨ gap = true)
    (¬ goes → Gives (.navSymbolItem n first nSym known gap sym) s (fun b => b = s.blk)) ∧
    (goes → Gives (.navSymbolItem n first nSym known gap sym) s (fun b =>
      b = s.blk.produce q 0x42 (leBytes 1 c.last.1 ++ leBytes 1 c.last.2 ++ leBytes 1 (sigOf c.last.1) ++ leBytes 1 n
        ++ leBytes 2 nSym ++ leBytes 1 (b2n known + 2 * b2n gap) ++ zeros 1 ++ ft96Bytes (first * 2 ^ 32) ++ zeros 12
        ++ slice sym 0 32) ∧ s.blk.onlyIn [.evr, .mem, .regs] b))) ∧
  (∀ (s : State) (t : Nat) (obs : List RefObs), s.blk.runs .gns = true →
    (t % 50000000 ≠ 0 → Gives (.referenceEpoch t obs) s (fun b => b = s.blk.moveTo t)) ∧
    (t % 50000000 = 0 →
      let b1 := (List.range 64).foldl (Blk.epochChan t obs) (s.blk.moveTo t).takeRef
      let sats := b1.recorded.map (b1.refSat t obs)
      let b2 := b1.estimateSelf t sats
      Gives (.referenceEpoch t obs) s (fun b =>
        b.gns.seq = (s.blk.gns.seq + 1) % 2 ^ 32 ∧ b.inv.ft = (s.blk.moveTo t).inv.ft ∧
        (∀ p, b2.refPos = some p → 4 ≤ (b2.timeResid t p sats).length → b.gns.timeValid = true ∧ b.inv.gnssOk = true ∧
          b.inv.gnssOff = (Config.timing (b2.timeResid t p sats)).1.floor) ∧
        (b2.refPos = none → s.blk.gns.timeValid = false → b.gns.timeValid = false ∧ b.inv.gnssOk = false) ∧
        (∀ n, n < 64 → (s.blk.chan n).st = 3 → s.blk.flag Reg.GNS_SYS_CFG ((s.blk.chan n).sys % 4) = true →
          (s.blk.chan n).inTrack = true → (b.chan n).slip = false ∧
          (obsOf obs n = none → (b.chan n).lock = min 65535 ((s.blk.chan n).lock + 1)) ∧
          (∀ o, obsOf obs n = some o → (o.phase - (s.blk.chan n).phase - o.turn).natAbs ≤ 2 ^ 30 →
            (b.chan n).lock = min 65535 ((s.blk.chan n).lock + 1) ∧
            (b.chan n).cp = (s.blk.chan n).cp + (o.phase - (s.blk.chan n).phase)) ∧
          (∀ o, obsOf obs n = some o → 2 ^ 30 < (o.phase - (s.blk.chan n).phase - o.turn).natAbs →
            (b.chan n).lock = 0)) ∧
        s.blk.onlyIn [.air, .evr, .fresh, .gns, .inv, .mem, .pos, .regs] b ∧
        s.blk.regsOnly (Reg.GNS_SLIP_COUNT :: Reg.POS_FIX_LOSS_COUNT :: itemRegs) b)))

/-- Member snapshots (R229, R231-R234): one whose fragments are late ends INCOMPLETE; on the 25 ms grid, once an instant,
the one complete longest is processed with the orbit set of that instant while fewer than nine are, and ends NO_ORBIT
without one; a result ends the one in processing longest, DONE or with too few satellites, a member's DONE position is
kept for its filter, and of one whose processing lost the clock nothing is delivered. -/
def Obligations.SnapshotsAreProcessedInTurn : Prop :=
  (∀ (s : State) (t : Nat) (x : GSnap), s.blk.runs .gns = true → s.blk.gns.snaps = [x] → x.doneAt = none →
    x.host = none → x.orphan = false →
    (x.at' + s.blk.fld Reg.GNS_SNAP_CFG 31 16 * 1000000 ≤ (s.blk.moveTo t).elapsed →
      Gives (.snapFragmentTimeout t) s (fun b => b.gns.snaps = [] ∧
        (∃ e, (b.link x.mix).elems = (s.blk.link x.mix).elems ++ [e] ∧ e.etype = 0x8A ∧
          slice e.body 0 4 = leBytes 1 0x21 ++ leBytes 1 x.mix ++ leBytes 2 x.id) ∧
        s.blk.onlyIn [.air, .evr, .gns, .inv, .mem, .regs] b)) ∧
    ((s.blk.moveTo t).elapsed < x.at' + s.blk.fld Reg.GNS_SNAP_CFG 31 16 * 1000000 →
      Gives (.snapFragmentTimeout t) s (fun b => b = s.blk.moveTo t))) ∧
  (∀ (s : State) (t : Nat), s.blk.runs .gns = true →
    let full := 9 ≤ (s.blk.gns.snaps.filter (fun y => y.running)).length
    (t % 25000000 ≠ 0 ∨ s.blk.gns.lastStart = some t ∨ (s.blk.moveTo t).nextSnap = none ∨ full →
      Gives (.snapProcessStart t) s (fun b => b = s.blk.moveTo t)) ∧
    ∀ x, t % 25000000 = 0 → s.blk.gns.lastStart ≠ some t → (s.blk.moveTo t).nextSnap = some x → ¬ full →
      ((s.blk.moveTo t).noOrbit = false → Gives (.snapProcessStart t) s (fun b =>
        b.gns = { s.blk.gns with
          lastStart := some t
          snaps := s.blk.gns.snaps.erase x ++ [{ x with
            running := true, set := (s.blk.pos.orbit.getD ⟨0, []⟩).id, recs := (s.blk.pos.orbit.getD ⟨0, []⟩).recs }] } ∧
        s.blk.onlyIn [.gns, .inv] b)) ∧
      ((s.blk.moveTo t).noOrbit = true → Gives (.snapProcessStart t) s (fun b =>
        b.gns.snaps = s.blk.gns.snaps.erase x ∧ b.gns.lastStart = some t ∧
        (∀ id, x.host = some id → Ended s.blk b id 0x24 0) ∧
        (x.host = none → x.orphan = false → ∃ e, (b.link x.mix).elems = (s.blk.link x.mix).elems ++ [e] ∧
          e.etype = 0x8A ∧ slice e.body 0 4 = leBytes 1 0x24 ++ leBytes 1 x.mix ++ leBytes 2 x.id)))) ∧
  (∀ (s : State) (t : Nat) (dets : List SnapDet), s.blk.runs .gns = true →
    ((∀ y ∈ s.blk.gns.snaps, y.running = false) → Gives (.snapResult t dets) s (fun b => b = s.blk.moveTo t)) ∧
    ∀ x, s.blk.gns.snaps.find? (fun y => y.running) = some x →
      let sol := (s.blk.moveTo t).snapSolution x dets
      let few : Prop := sol.nSv < s.blk.fld Reg.GNS_SNAP_CFG 7 4
      (x.void = true → Gives (.snapResult t dets) s (fun b =>
        b.gns = { s.blk.gns with snaps := s.blk.gns.snaps.erase x } ∧ s.blk.onlyIn [.gns, .inv] b)) ∧
      (x.void = false → Gives (.snapResult t dets) s (fun b =>
        b.gns = { s.blk.gns with snaps := s.blk.gns.snaps.erase x } ∧
        (∀ id, x.host = some id → (few → Ended s.blk b id 0x23 (sol.nSv % 256)) ∧
          (¬ few → Ended s.blk b id St.done (sol.nSv % 256 * 2 ^ 24 + x.id))) ∧
        (x.host = none → x.orphan = false → (∃ e, (b.link x.mix).elems = (s.blk.link x.mix).elems ++ [e] ∧
            e.etype = 0x8A ∧ (few → byteAt e.body 0 = 0x23) ∧ (¬ few → byteAt e.body 0 = St.done)) ∧
          (¬ few → (b.filterOf x.mix).snap
            = some ((s.blk.moveTo t).elapsed, ⟨sol.fix.x, sol.fix.y, sol.fix.z⟩, sol.fix.hUnc))))))

/-- The GNSS descriptors (R235): GNS_RESTART puts every channel back to the search, cold to IDLE with the time invalid; a
host snapshot with a good header, size and CRC waits for processing, else it ends with what failed, and with no place
BUSY; GNS_SPECTRUM writes 2048 bytes. POS's descriptors (R239, R242, R243, R256, R264): good orbit sets wait for the
next reference epoch, the last of them is active from it and each command completes; a reference position within range
is taken at the next reference epoch, and its completion says whether filters will be initialised; a head table waits
for a superframe; MEMBER_FILTER_RESET initialises the filters it names; POS_OFFER_READ writes 128 rates. -/
def Obligations.GnssAndPositioningDescriptorsAct : Prop :=
  (∀ (s : State) (d : Desc), s.blk.runs .gns = true → s.blk.starts d →
     (d.op 0x18 1 = 0 → Gives (.gnsRestart d) s (fun b =>
       (∀ n, (s.blk.chan n).st ≠ 0 → b.chan n
         = { s.blk.chan n with st := 1, lock := 0, low := 0, weak := 0, inTrack := false }) ∧
       b.gns.timeValid = s.blk.gns.timeValid ∧ Completed s.blk b d St.done 0 ∧ s.blk.onlyIn [.gns, .hst, .out] b)) ∧
     (d.op 0x18 1 = 1 → Gives (.gnsRestart d) s (fun b => (∀ n, b.chan n = {}) ∧ b.gns.timeValid = false ∧
       Completed s.blk b d St.done 0 ∧ s.blk.onlyIn [.gns, .hst, .out] b)) ∧
     (∀ data, d.op 0x18 8 % 8 = 0 →
       let h := slice data 0 48
       let n := snapBytes (byteAt h 1)
       let crcOk := (crc32c (slice data 48 n)).toNat = le h 0x28 4
       (s.blk.flag Reg.GNS_SNAP_CFG 0 = false → Gives (.gnsSnapHost d data) s (fun b => Completed s.blk b d 0x26 0 ∧
         b.gns.snaps = s.blk.gns.snaps)) ∧
       (∀ o, s.blk.flag Reg.GNS_SNAP_CFG 0 = true → snapHeaderBad h true = some o →
         Gives (.gnsSnapHost d data) s (fun b => Completed s.blk b d 0x20 o ∧ b.gns.snaps = s.blk.gns.snaps)) ∧
       (s.blk.flag Reg.GNS_SNAP_CFG 0 = true → snapHeaderBad h true = none →
         (d.op 0x20 4 ≠ 48 + n → Gives (.gnsSnapHost d data) s (fun b => Completed s.blk b d 0x20 0xFFFFFFFF ∧
           s.blk.onlyIn [.hst, .out] b)) ∧
         (d.op 0x20 4 = 48 + n → ¬ crcOk → Gives (.gnsSnapHost d data) s (fun b =>
           Completed s.blk b d St.crcFail (le h 0x26 2) ∧ b.gns.snaps = s.blk.gns.snaps)) ∧
         (d.op 0x20 4 = 48 + n → crcOk → s.blk.snapPlaces < 160 →
           Gives (.gnsSnapHost d data) s (fun b => (∃ x, b.gns = { s.blk.gns with snaps := s.blk.gns.snaps ++ [x] } ∧
             x.host = some d.id ∧ x.header = h ∧ x.doneAt = some s.blk.elapsed ∧ x.running = false) ∧
             s.blk.onlyIn [.gns, .hst] b)) ∧
         (d.op 0x20 4 = 48 + n → crcOk → 160 ≤ s.blk.snapPlaces →
           Gives (.gnsSnapHost d data) s (fun b => Completed s.blk b d St.busy 0 ∧
             s.blk.counts b Reg.GNS_SNAP_BUSY_COUNT ∧ s.blk.onlyIn [.hst, .out, .regs] b)))) ∧
     (∀ bins, d.op 0x18 8 % 64 = 0 →
       (d.op 0x20 4 < 2048 → Gives (.gnsSpectrum d bins) s (fun b => Completed s.blk b d 0x25 2048 ∧
         s.blk.onlyIn [.hst, .out] b)) ∧
       (2048 ≤ d.op 0x20 4 → Gives (.gnsSpectrum d bins) s (fun b => Completed s.blk b d St.done 0 ∧
         Out.hostWrite (d.op 0x18 8) (slice bins 0 2048) ∈ b.out ∧ s.blk.onlyIn [.hst, .out] b)))) ∧
  ((∀ (s : State) (t : Nat), s.blk.runs .pos = true →
     (s.blk.pos.orbitNext = [] → Gives (.orbitSetActivate t) s (fun b => b = s.blk.moveTo t)) ∧
     (∀ l id o a, s.blk.pos.orbitNext = l ++ [(id, o, a)] → Gives (.orbitSetActivate t) s (fun b =>
       b.pos.orbit = some o ∧ b.pos.orbitNext = [] ∧
       b.pos.orbitPrev = s.blk.pos.orbit.map (fun p => (p, (s.blk.moveTo t).now, (s.blk.moveTo t).elapsed)) ∧
       (∀ q ∈ s.blk.pos.orbitNext, Ended s.blk b q.1 St.done q.2.1.id) ∧
       s.blk.onlyIn [.hst, .inv, .out, .pos] b))) ∧
   (∀ (s : State) (d : Desc), s.blk.runs .pos = true → s.blk.starts d →
     (let p := slice d.bytes 0x18 24;
       (posFinite p = false → Gives (.posRefSet d) s (fun b => (∃ n, Completed s.blk b d 0x31 n) ∧
         s.blk.onlyIn [.fresh, .hst, .out] b)) ∧
       (posFinite p = true →
         let q := distSq (coords p) earthCentre
         let far : Prop := q.1 < 6340000 * 6340000 * q.2 ∨ 6400000 * 6400000 * q.2 < q.1
         let moves : Bool := match s.blk.pos.ref with
           | none => false
           | some o => let m := distSq (coords p) (coords o); decide (m.2 < m.1 * 100)
         (far → Gives (.posRefSet d) s (fun b => Completed s.blk b d 0x31 (isqrt64 (q.1 / q.2 / 1000000)) ∧
           s.blk.onlyIn [.hst, .out] b)) ∧
         (¬ far → Gives (.posRefSet d) s (fun b =>
           b.pos = { s.blk.pos with refNext := some p, refInit := moves } ∧ Completed s.blk b d St.done (b2n moves) ∧
           s.blk.onlyIn [.hst, .out, .pos] b)))) ∧
     (∀ set, d.op 0x18 8 % 8 = 0 →
       let busy := ∃ q ∈ s.blk.pos.orbitNext, q.2.2 = s.blk.elapsed
       (busy → Gives (.orbitLoad d set) s (fun b => Completed s.blk b d 0x33 0 ∧ s.blk.onlyIn [.hst, .out] b)) ∧
       (∀ o, ¬ busy → checkOrbit (d.op 0x20 4) set = .ok o → Gives (.orbitLoad d set) s (fun b =>
         b.pos = { s.blk.pos with orbitNext := s.blk.pos.orbitNext ++ [(d.id, o, s.blk.elapsed)] } ∧
         s.blk.onlyIn [.hst, .pos] b)) ∧
       (∀ k, ¬ busy → checkOrbit (d.op 0x20 4) set = .error k →
         Gives (.orbitLoad d set) s (fun b => Completed s.blk b d 0x30 k ∧ s.blk.onlyIn [.hst, .out] b))) ∧
     (∀ tab, d.op 0x18 8 % 8 = 0 →
       (d.op 0x20 4 ≠ 128 → Gives (.headSet d tab) s (fun b => Completed s.blk b d 0x32 0xFFFFFFFF ∧
         s.blk.onlyIn [.hst, .out] b)) ∧
       (∀ hs, d.op 0x20 4 = 128 → parseHeads tab = .ok hs → Gives (.headSet d tab) s (fun b =>
         b.pos = { s.blk.pos with headsNext := s.blk.pos.headsNext ++ [(d.id, hs)] } ∧
         s.blk.onlyIn [.hst, .pos] b)) ∧
       (∀ k, d.op 0x20 4 = 128 → parseHeads tab = .error k → Gives (.headSet d tab) s (fun b =>
         Completed s.blk b d 0x32 k ∧ s.blk.onlyIn [.hst, .out] b))) ∧
     Gives (.memberFilterReset d) s (fun b =>
       let named (m : Nat) : Bool := bitOf (d.op 0x18 16) m && (s.blk.filterOf m).on
       (∀ m, m < 128 → named m = true → b.filterOf m = { s.blk.filterOf m with
         on := true, est := none, mode := 0, fixed := false, held := [], cand := [], agree := 0, bad := 0, updAt := none
         gnssAt := s.blk.elapsed, ratio := 0, tracks := [], searchSet := [] }) ∧
       (∀ m, m < 128 → named m = false → b.filterOf m = s.blk.filterOf m) ∧
       Completed s.blk b d St.done ((List.range 128).filter named).length ∧
       s.blk.onlyIn [.hst, .out, .pos, .regs] b ∧ s.blk.regsOnly [Reg.POS_FIX_LOSS_COUNT] b) ∧
     (d.op 0x18 8 % 64 = 0 → Gives (.posOfferRead d) s (fun b => Completed s.blk b d St.done 0 ∧
       (∃ data, Out.hostWrite (d.op 0x18 8) data ∈ b.out ∧ data.length = 128 ∧
         ∀ m, m < 128 → byteAt data m = if m ∈ s.blk.demanding then s.blk.servedHz s.blk.pos.degrade m else 0) ∧
       s.blk.onlyIn [.hst, .out] b))))

/-! ## Fleet positioning (R239-R267) -/

/-- Epochs (R240, R248, R253, R255, R259-R262, R266): a payload whose fragments take over 10 ms is dropped and counted,
and a filter goes on without it; the next epoch in turn enters the solver with the registers of that instant while it
holds fewer than four, unless its member is decimated off its grid, and in step 5 beyond the capacity without its
GNSS; a search still running 1.8 ms after its epoch is abandoned and counted; a complete solution goes to the position
downlink, its mode says what updated the filter, without anything new it predicts from the last update, and a cleared
filter gives NONE; a demand above the capacity raises the step at once. -/
def Obligations.EpochsAreAdmittedAndSolved : Prop :=
  (∀ (s : State) (t : Nat) (mix : Mix), s.blk.runs .pos = true →
    let f := s.blk.filterOf mix.val
    (f.asm = none → Gives (.obsPayloadTimeout t mix) s (fun b => b = s.blk.moveTo t)) ∧
    ∀ p : Payload, f.asm = some p →
      (p.at' + 10000000 < (s.blk.moveTo t).elapsed → Gives (.obsPayloadTimeout t mix) s (fun b =>
        b.filterOf mix.val = { f with asm := none } ∧
        (∀ k, k ≠ mix.val → b.filterOf k = s.blk.filterOf k) ∧ s.blk.counts b Reg.POS_OBS_DROP_COUNT ∧
        (s.blk.solved mix.val = false ∨ f.on = false → b.pos.ready = s.blk.pos.ready) ∧
        (s.blk.solved mix.val = true → f.on = true →
          ∃ e, b.pos.ready = s.blk.pos.ready ++ [e] ∧ e.mix = mix.val ∧ e.data = [] ∧ e.marks = []) ∧
        s.blk.onlyIn [.inv, .pos, .regs] b ∧ s.blk.regsOnly [Reg.POS_OBS_DROP_COUNT] b)) ∧
      ((s.blk.moveTo t).elapsed ≤ p.at' + 10000000 → Gives (.obsPayloadTimeout t mix) s (fun b =>
        b = s.blk.moveTo t))) ∧
  (∀ s : State, s.blk.runs .pos = true →
    (s.blk.nextEpoch = none ∨ 4 ≤ s.blk.pos.solving.length → Gives .posEpochAdmit s (fun b => b = s.blk)) ∧
    ∀ e, s.blk.nextEpoch = some e → s.blk.pos.solving.length < 4 →
      let e1 := { e with cfg := s.blk.posCfg e.mix }
      let full := s.blk.pos.degrade = 5 ∧ s.blk.posMax.1 ≤ s.blk.pos.counting
      let skip := s.blk.decimated e.mix = true ∧ s.blk.onGrid e = false
      Gives .posEpochAdmit s (fun b => b.pos.ready = s.blk.pos.ready.erase e ∧
        (s.blk.solved e.mix = false → b.pos.solving = s.blk.pos.solving ∧ s.blk.counts b Reg.POS_OBS_DROP_COUNT) ∧
        (s.blk.solved e.mix = true → skip → b.pos.solving = s.blk.pos.solving ∧ b.regs = s.blk.regs) ∧
        (s.blk.solved e.mix = true → ¬ skip → full →
          b.pos.solving = s.blk.pos.solving ++ [{ e1 with refused := true }] ∧ s.blk.counts b Reg.POS_SKIP_COUNT) ∧
        (s.blk.solved e.mix = true → ¬ skip → ¬ full → b.pos.solving = s.blk.pos.solving ++ [e1] ∧
          b.pos.counting = s.blk.pos.counting + 1 ∧ b.regs = s.blk.regs) ∧
        s.blk.onlyIn [.pos, .regs] b ∧ s.blk.regsOnly [Reg.POS_OBS_DROP_COUNT, Reg.POS_SKIP_COUNT] b)) ∧
  (∀ (s : State) (t : Nat) (mix : Mix), s.blk.runs .pos = true →
    let hit (e : Epoch) : Prop := e.mix = mix.val ∧ e.aborted = false ∧ e.refused = false ∧
      e.t0 + 1800000 ≤ (s.blk.moveTo t).now
    ((∃ e ∈ s.blk.pos.solving, hit e) → Gives (.searchDeadline t mix) s (fun b =>
      b.pos.solving.length = s.blk.pos.solving.length ∧
      (∀ e ∈ s.blk.pos.solving, hit e → { e with aborted := true } ∈ b.pos.solving) ∧
      (∀ e ∈ s.blk.pos.solving, ¬ hit e → e ∈ b.pos.solving) ∧ s.blk.counts b Reg.POS_SEARCH_ABORT_COUNT ∧
      s.blk.onlyIn [.inv, .pos, .regs] b ∧ s.blk.regsOnly [Reg.POS_SEARCH_ABORT_COUNT] b)) ∧
    ((∀ e ∈ s.blk.pos.solving, ¬ hit e) → Gives (.searchDeadline t mix) s (fun b => b = s.blk.moveTo t))) ∧
  (∀ (s : State) (t : Nat), s.blk.runs .pos = true →
    (s.blk.pos.solving = [] → Gives (.solutionComplete t) s (fun b => b = s.blk.moveTo t)) ∧
    ∀ e rest, s.blk.pos.solving = e :: rest → (s.blk.link e.mix).reassoc = false →
      let f := s.blk.filterOf e.mix
      let now := s.blk.moveTo t
      let here := (s.blk.member e.mix).state ≠ .evicted ∧ (s.blk.member e.mix).state ≠ .absent
      let sent (b : Blk) (mode : Nat) := here → ∃ q ∈ b.air.posQueue, q.mix = e.mix ∧ q.at' = now.now ∧
        byteAt q.sol 0 = mode
      Gives (.solutionComplete t) s (fun b => b.pos.solving = rest ∧ b.fleet.epoch = s.blk.fleet.epoch ∧
        (∀ m, m ≠ e.mix → b.member m = s.blk.member m) ∧ (b.member e.mix).state = (s.blk.member e.mix).state ∧
        (f.on = false → sent b 0) ∧
        (∀ x u0, f.on = true → f.est = some x → f.updAt = some u0 → now.elapsed ≤ u0 + e.predMax →
          let g := b.filterOf e.mix
          sent b g.mode ∧ 1 ≤ g.mode ∧ g.mode ≤ 5 ∧ (g.mode = 3 → g.fixed = true) ∧ (g.mode = 2 → g.fixed = false) ∧
          (g.mode ≤ 4 → g.updAt = some now.elapsed) ∧ (g.mode = 5 → g.updAt = some u0) ∧
          (s.blk.pos.ref = none → g.mode ≠ 2 ∧ g.mode ≠ 3) ∧ (e.data = [] → e.marks = [] → g.mode = 5)) ∧
        s.blk.onlyIn [.air, .evr, .fleet, .inv, .mem, .pos, .regs] b)) ∧
  (∀ (s : State) (t : Nat), s.blk.runs .pos = true → s.blk.pos.degrade ≤ 5 →
    Gives (.degradeEvaluate t) s (fun b => b.pos.demand = s.blk.demandNow ∧ b.pos.served = s.blk.pos.counting ∧
      b.pos.counting = 0 ∧
      (s.blk.pos.degrade < 5 → s.blk.posMax.1 < s.blk.plannedLoad s.blk.pos.degrade →
        s.blk.pos.degrade < b.pos.degrade) ∧
      (s.blk.plannedLoad s.blk.pos.degrade ≤ s.blk.posMax.1 → b.pos.degrade ≤ s.blk.pos.degrade ∧
        s.blk.pos.degrade ≤ b.pos.degrade + 1) ∧
      s.blk.onlyIn [.evr, .inv, .pos, .regs] b ∧ s.blk.regsOnly [Reg.EVR_DROP_COUNT] b))

/-! ## Axes and control loops (R338-R402) -/

/-- A sample (R353-R356, R376, R383, R398): a STEP_OPEN axis in a move that has not ended takes the set-point and speed of
its profile at the sample, reports to Dovetail, and touches nothing but its own state and the load peak; a missed
sample is counted and repeats its steps, and a second one in a row is fault OVERRUN. -/
def Obligations.AxesFollowTheirProfiles : Prop :=
  (∀ (s : State) (t n : Nat) (c : Curve), s.blk.runs .axs = true → n < 48 →
    let x := s.blk.axis n
    let b0 := s.blk.moveTo t
    let at' := ((t : Int) - b0.inv.jumped).toNat * 65536
    (∀ k, k < 48 → k ≠ n → s.blk.axMode k = 0) → s.blk.axMode n = 1 → s.blk.encKind n = 0 →
    s.blk.fld (Reg.AXS_AX_CFG n) 5 4 ≠ 1 → t % s.blk.axPeriod n = 0 → x.sampled ≠ some t →
    x.mot.plan = .move ⟨c, none⟩ → x.mot.arm = none → x.fault = 0 → x.io.inbox = [] →
    x.loop.reset = false → x.loop.ena = true → x.loop.applyAt = none → s.blk.group (n / 4) = .on →
    (∀ g, g < 12 → s.blk.group g ≠ .ramp) → s.blk.fld (Reg.AXS_AX_INPOS n) 31 16 ≠ 0 → s.blk.axs.groups = [] → s.blk.axs.completed = 0 → s.blk.fleet.effects = [] → c.isOver at' = false →
    Gives (.axisSample t []) s (fun b =>
      (b.mot n).sp = (c.at at').1 ∧ (b.mot n).v = (c.at at').2.1 ∧ (b.mot n).a = (c.at at').2.2 ∧
      (b.mot n).plan = .move ⟨c, none⟩ ∧ (b.mot n).effs = x.mot.effs ∧ (b.axis n).sampled = some t ∧
      (Tab.val b.dvt.reports n {}).pos = (c.at at').1 / 65536 ∧
      (∀ k, k ≠ n → (b.axis k).mot = (s.blk.axis k).mot) ∧
      s.blk.onlyIn [.axs, .dvt, .inv, .out, .regs] b ∧ s.blk.regsOnly [Reg.CTL_LOAD_PEAK] b)) ∧
  (∀ (s : State) (t : Nat) (n : Axis48), s.blk.runs .axs = true →
    let x := s.blk.axis n.val
    (s.blk.axMode n.val = 0 → Gives (.sampleOverrun t n) s (fun b => b = s.blk.moveTo t)) ∧
    (s.blk.axMode n.val ≠ 0 → x.loop.ovr = false → Gives (.sampleOverrun t n) s (fun b =>
      (b.axis n.val).sampled = some t ∧ (b.axis n.val).loop.ovr = true ∧
      (b.axis n.val).loop.emitted = x.loop.emitted + x.loop.nOut ∧ (b.axis n.val).fault = x.fault ∧
      s.blk.counts b (Reg.CTL_AX_OVR_COUNT n.val) ∧
      b.flag (if n.val < 32 then Reg.CTL_OVR_LO else Reg.CTL_OVR_HI) (n.val % 32) = true ∧
      s.blk.onlyIn [.axs, .inv, .out, .regs] b)) ∧
    (s.blk.axMode n.val ≠ 0 → x.loop.ovr = true → x.fault = 0 → Gives (.sampleOverrun t n) s (fun b =>
      (b.axis n.val).fault = 0x12 ∧ b.group (n.val / 4) = .offFault ∧
      s.blk.onlyIn [.axs, .clp, .dvt, .evr, .hst, .inv, .mem, .out, .regs] b)))

/-- Inputs, encoders, supervisors and outputs (R343-R347, R350, R390, R391, R395-R397, R541): a qualified edge is counted
and waits for the sample, too many are CHATTER; an encoder error, an open wire, a supervisor's expiry and an output
fault raise the fault of their kind with its flag and reaction on an axis that has none. -/
def Obligations.AxisFaultsAreRaised : Prop :=
  (∀ (s : State) (t : Nat) (n : Axis48) (w : Fin 3) (level : Bool), s.blk.runs .axs = true →
    let b0 := s.blk.moveTo t
    let x := s.blk.axis n.val
    let active := level != s.blk.flag (Reg.AXS_AX_IN_CFG n.val) (3 + w.val)
    let win := s.blk.fld (Reg.AXS_AX_IN_CFG n.val) 23 16 * 1000000
    let count := ((x.io.edges.filter (fun e => decide (b0.elapsed < e.2 + win))).filter (fun e => e.1 == w.val)).length + 1
    let lim := s.blk.fld (Reg.AXS_AX_IN_CFG n.val) 31 24
    s.blk.flag (Reg.AXS_AX_IN_CFG n.val) w.val = true → x.io.input w.val ≠ active →
    Gives (.limitInputEdge t n w level) s (fun b =>
      (b.axis n.val).io.input w.val = active ∧ s.blk.counts b (Reg.AXS_AX_CHAT_COUNT n.val) ∧
      (count < lim → (b.axis n.val).io.inbox = x.io.inbox ++ [.input w.val active (b0.edgeDate n.val)]) ∧
      (count = lim → (b.axis n.val).io.inbox = x.io.inbox ++ [.fault 0x04]) ∧
      (lim < count → (b.axis n.val).io.inbox = x.io.inbox) ∧
      (b.axis n.val).mot = x.mot ∧ (∀ k, k ≠ n.val → b.axis k = s.blk.axis k) ∧ s.blk.onlyIn [.axs, .inv, .regs] b)) ∧
  (∀ (s : State) (t : Nat) (n : Axis48) (pos : Int), s.blk.runs .axs = true →
    (s.blk.encKind n.val = 2 → Gives (.zEdgeCapture t n pos) s (fun b => (b.mot n.val).zSeen = true ∧
      (b.axis n.val).io.inbox = (s.blk.axis n.val).io.inbox ++ [.z pos] ∧
      (∀ k, k ≠ n.val → b.axis k = s.blk.axis k) ∧ s.blk.onlyIn [.axs, .inv] b)) ∧
    (s.blk.encKind n.val ≠ 2 → Gives (.zEdgeCapture t n pos) s (fun b => b = s.blk.moveTo t))) ∧
  (∀ (s : State) (n : Axis48), s.blk.runs .axs = true → (s.blk.axis n.val).fault = 0 → s.blk.axMode n.val ≠ 0 →
    let fault (b : Blk) (code : Nat) : Prop := (b.axis n.val).fault = code ∧
      (b.axis n.val).severity = s.blk.faultSeverity n.val code ∧
      (s.blk.faultSeverity n.val code = 3 → b.group (n.val / 4) = .offFault) ∧
      s.blk.onlyIn [.axs, .clp, .dvt, .evr, .hst, .inv, .mem, .out, .regs] b
    (s.blk.axFeedback n.val = true → s.blk.encKind n.val = 1 ∨ s.blk.encKind n.val = 2 →
      Gives (.encoderQuadError n) s (fun b => fault b 0x06 ∧ b.flag (Reg.AXS_AX_WIRE n.val) 4 = true ∧
        s.blk.counts b (Reg.AXS_AX_QERR_COUNT n.val))) ∧
    (∀ p : Fin 3, s.blk.axFeedback n.val = true →
      s.blk.encKind n.val = 2 ∨ (s.blk.encKind n.val = 1 ∧ p.val < 2) →
      Gives (.encoderOpenWire n p) s (fun b => fault b 0x05 ∧ b.flag (Reg.AXS_AX_WIRE n.val) (1 + p.val) = true ∧
        bitOf (b.axis n.val).io.openMask p.val = true)) ∧
    Gives (.outputCurrentLimit n) s (fun b => fault b 0x08 ∧ b.flag (Reg.AXS_AX_WIRE n.val) 6 = true ∧
      (b.axis n.val).io.outOff = true) ∧
    Gives (.outputOvervoltage n) s (fun b => fault b 0x08 ∧ b.flag (Reg.AXS_AX_WIRE n.val) 6 = true ∧
      (b.axis n.val).io.outOff = (s.blk.axis n.val).io.outOff) ∧
    (∀ t, (s.blk.moveTo t).stallDue n.val = true → Gives (.stallExpiry t n) s (fun b => fault b 0x11)) ∧
    (∀ t, (s.blk.moveTo t).stallDue n.val = false → (s.blk.moveTo t).feDue n.val = true →
      Gives (.followErrorExpiry t n) s (fun b => fault b 0x10)) ∧
    (∀ t since, (s.blk.axis n.val).io.spSince = some since → (s.blk.mot n.val).plan.followed = true →
      since + 10000000 ≤ (s.blk.moveTo t).elapsed → Gives (.spRangeExpiry t n) s (fun b => fault b 0x13))) ∧
  (∀ (s : State) (n : Axis48) (w : Word), s.blk.runs .axs = true → s.blk.inSvc = true →
    Gives (.ctlApply n w) s (fun b =>
      (b.axis n.val).loop.applyAt = some ((s.blk.axis n.val).loop.applyAt.getD (s.blk.elapsed + 1000)) ∧
      (b.axis n.val).mot = s.blk.mot n.val ∧ (∀ k, k ≠ n.val → b.axis k = s.blk.axis k) ∧
      s.blk.onlyIn [.axs, .evr, .mem, .regs] b))

/-- AXS's descriptors (R351, R358-R360, R379): a table in use by an unfinished effect is not loaded or freed; a load ends
with the image's fault, without room, or as a valid table at the first run that fits; AXS_FAULT_CLEAR clears the
faults whose causes have ended; AXS_SET_POS moves an IDLE axis's position; AXS_READ writes 48 records. -/
def Obligations.AxisDescriptorsAct : Prop :=
  (∀ (s : State) (i : Table256) (img : Bytes) (id : OpId) (size : Nat) (rest : List (OpId × Nat)), s.blk.runs .axs = true →
    (s.blk.table i.val).loading = (id, size) :: rest →
    let use := (s.blk.setTable i.val { loading := rest }).poolUse
    let ends (b : Blk) (st dt : Nat) : Prop := Ended s.blk b id st dt
    (∀ o, tableFault img size = some o → Gives (.tableValidated i img) s (fun b =>
      b.table i.val = { loading := rest } ∧ ends b 0x20 o ∧ s.blk.onlyIn [.axs, .hst, .out] b)) ∧
    (tableFault img size = none → firstFit use (imageKnots img).length = none →
      Gives (.tableValidated i img) s (fun b => b.table i.val = { loading := rest } ∧ ends b 0x22 (longestRun use) ∧
        s.blk.onlyIn [.axs, .hst, .out] b)) ∧
    (∀ f, tableFault img size = none → firstFit use (imageKnots img).length = some f →
      Gives (.tableValidated i img) s (fun b => (b.table i.val).valid = true ∧ (b.table i.val).first = f ∧
        (b.table i.val).knots = imageKnots img ∧ (b.table i.val).loading = rest ∧ ends b St.done f ∧
        (∀ k, k ≠ i.val → b.table k = s.blk.table k) ∧ s.blk.onlyIn [.axs, .hst, .out] b))) ∧
  (∀ (s : State) (d : Desc), s.blk.runs .axs = true → s.blk.starts d →
    (d.op 0x18 8 % 8 = 0 → d.op 0x24 2 < 256 →
      (∀ n, s.blk.tableUser (d.op 0x24 2) = some n → Gives (.axsTableLoad d) s (fun b =>
        Completed s.blk b d 0x21 n ∧ s.blk.onlyIn [.hst, .out] b)) ∧
      (s.blk.tableUser (d.op 0x24 2) = none → Gives (.axsTableLoad d) s (fun b =>
        b.table (d.op 0x24 2) = { loading := (s.blk.table (d.op 0x24 2)).loading ++ [(d.id, d.op 0x20 4)] } ∧
        (∀ k, k ≠ d.op 0x24 2 → b.table k = s.blk.table k) ∧ s.blk.onlyIn [.axs, .hst] b))) ∧
    (d.op 0x18 2 < 256 →
      (∀ n, s.blk.tableUser (d.op 0x18 2) = some n → Gives (.axsTableFree d) s (fun b =>
        Completed s.blk b d 0x21 n ∧ s.blk.onlyIn [.hst, .out] b)) ∧
      (s.blk.tableUser (d.op 0x18 2) = none → Gives (.axsTableFree d) s (fun b =>
        (b.table (d.op 0x18 2)).valid = false ∧ (b.table (d.op 0x18 2)).knots = [] ∧ Completed s.blk b d St.done 0 ∧
        (∀ k, k ≠ d.op 0x18 2 → b.table k = s.blk.table k) ∧ s.blk.onlyIn [.axs, .hst, .out] b))) ∧
    (d.op 0x18 8 < 2 ^ 48 → Gives (.axsFaultClear d) s (fun b =>
      let named (n : Nat) : Bool := bitOf (d.op 0x18 8) n && (s.blk.axis n).fault != 0 && s.blk.causeEnded n
      (∀ n, n < 48 → named n = true → (b.axis n).fault = 0 ∧ (b.axis n).io.outOff = false ∧
        (b.axis n).mot = s.blk.mot n) ∧
      (∀ n, n < 48 → named n = false → b.axis n = s.blk.axis n) ∧
      Completed s.blk b d St.done ((List.range 48).filter named).length ∧
      s.blk.onlyIn [.axs, .hst, .out] b)) ∧
    (d.op 0x18 1 < s.blk.nAxes → d.op 0x19 3 = 0 →
      let n := d.op 0x18 1
      let bound : Prop := ∃ m, s.blk.fleet.map = some m ∧ m.swings.any (fun x => x.axis == n) = true
      (s.blk.axIdle n = false ∨ s.blk.axisBusy n ≠ 0 → Gives (.axsSetPos d) s (fun b => Completed s.blk b d 0x23 n ∧
        s.blk.onlyIn [.hst, .out] b)) ∧
      (s.blk.axIdle n = true → s.blk.axisBusy n = 0 → bound → Gives (.axsSetPos d) s (fun b =>
        Completed s.blk b d 0x24 n ∧ s.blk.onlyIn [.hst, .out] b)) ∧
      (s.blk.axIdle n = true → s.blk.axisBusy n = 0 → ¬ bound → s.blk.axMode n = 1 → Gives (.axsSetPos d) s (fun b =>
        b.axPos n = sle d.bytes 0x1C 4 ∧ (b.mot n).homed = false ∧ Completed s.blk b d St.done 0 ∧
        (∀ k, k ≠ n → b.axis k = s.blk.axis k) ∧ s.blk.onlyIn [.axs, .hst, .out] b))) ∧
    (d.op 0x18 8 % 64 = 0 → Gives (.axsRead d) s (fun b => Completed s.blk b d St.done 0 ∧
      (∃ data, Out.hostWrite (d.op 0x18 8) data ∈ b.out ∧ data.length = 48 * 32 ∧
        ∀ n, n < 48 → slice data (32 * n) 32 = s.blk.axRecord n) ∧ s.blk.onlyIn [.hst, .out] b)))

/-! ## Fleet time (R403-R416) -/

/-- The time state (R407, R410-R413): each evaluation selects the qualified reference highest in the order GNSS, PPS_IN,
HOST and sets the state from R411's table; HOLDOVER ends when its estimate passes the budget; on the RC oscillator the
state is FREE; no evaluation moves fleet time or INC; seconds are stored for the next power-up. -/
def Obligations.TimeStateFollowsTheReferences : Prop :=
  (∀ (s : State) (t : Nat), s.blk.powered = true →
    let b0 := s.blk.moveTo t
    let sel := if b0.gnssQ then 1 else if b0.ppsQ then 2 else if b0.hostQ then 3 else 0
    let near : Prop := sel ≠ 0 ∧ (b0.refOff sel).natAbs ≤ s.blk.fld Reg.INV_TQ_CFG 15 0
    let unset : Prop := s.blk.inv.state = .unset ∧ s.blk.inv.stepped = false
    let budget : Prop := s.blk.inv.holdOff.natAbs * 10000000000
      + s.blk.fld Reg.INV_HOLD_CFG 31 16 * (b0.elapsed - s.blk.inv.holdAt) ≤ s.blk.fld Reg.INV_HOLD_CFG 15 0 * 100000000000
    let stays (b : Blk) : Prop := b.inv.ft = b0.inv.ft ∧ s.blk.onlyIn [.evr, .inv, .mem, .regs] b ∧ s.blk.regsOnly itemRegs b
    Gives (.timeStateEval t) s (fun b => b.inv.sel = sel ∧ stays b ∧
      (unset → ¬ near → b.inv.state = .unset) ∧
      (¬ (unset ∧ ¬ near) → s.blk.inv.rcClock = true → b.inv.state = .free) ∧
      (s.blk.inv.rcClock = false → near → b.inv.state = .tracking) ∧
      (¬ unset → s.blk.inv.rcClock = false → sel ≠ 0 → ¬ near → b.inv.state = .offset) ∧
      (sel = 0 → s.blk.inv.rcClock = false → s.blk.inv.state = .holdover → budget → b.inv.state = .holdover ∧
        b.inv.holdOff = s.blk.inv.holdOff ∧ b.inv.holdAt = s.blk.inv.holdAt) ∧
      (sel = 0 → s.blk.inv.state = .holdover → ¬ budget → b.inv.state = .free) ∧
      (sel = 0 → s.blk.inv.rcClock = false → s.blk.inv.state = .tracking →
        s.blk.inv.lastOff.natAbs ≤ s.blk.fld Reg.INV_HOLD_CFG 15 0 * 10 →
        b.inv.state = .holdover ∧ b.inv.holdAt = b0.elapsed ∧ b.inv.holdOff = s.blk.inv.lastOff) ∧
      (s.blk.flag Reg.INV_EVQ_CFG 8 = false → b.inv.state ≠ s.blk.inv.state →
        Recorded { b0 with inv := b.inv } b 0x0801
          (leBytes 1 s.blk.inv.state.code ++ leBytes 1 b.inv.state.code ++ zeros 2 ++ sleBytes 8 b.inv.lastOff)) ∧
      (b.inv.state = s.blk.inv.state → s.blk.flag Reg.INV_EVQ_CFG 8 = false → b.evr = s.blk.evr)) ∧
    (s.blk.inv.state = .holdover → ¬ budget → sel = 0 → Gives (.holdoverBudgetExpiry t) s (fun b =>
      b.inv.state = .free ∧ b.tq = false ∧ stays b)) ∧
    (s.blk.inv.state ≠ .holdover ∨ budget → Gives (.holdoverBudgetExpiry t) s (fun b => b = b0)) ∧
    (∀ at', s.blk.inv.hostAt = some at' → at' + s.blk.fld Reg.INV_REF_CFG 31 24 * 1000000000 < b0.elapsed →
      Gives (.hostRefLoss t) s (fun b => b.inv.sel ≠ 3 ∧ stays b)) ∧
    (t % 8000000000 = 0 → Gives (.fleetSecondsStore t) s (fun b => b = { b0 with inv := { b0.inv with
      storedSec := b0.now / 1000000000, secAt := 1 - s.blk.inv.secAt, olderSec := some s.blk.inv.storedSec } })) ∧
    (t % 8000000000 ≠ 0 → Gives (.fleetSecondsStore t) s (fun b => b = s.blk))) ∧
  (∀ s : State, s.blk.powered = true →
    let changed (b : Blk) : Prop := b.inv.ft = s.blk.inv.ft ∧ s.blk.onlyIn [.evr, .inv, .key, .mem, .pwr, .regs] b ∧
      s.blk.regsOnly itemRegs b
    (s.blk.pwr.noRefclk = true → ∃ b, exec .refclkLoss s = .next { s with blk := b } ∧ b.inv = s.blk.inv) ∧
    (s.blk.pwr.noRefclk = false → Gives .refclkLoss s (fun b => b.inv.rcClock = true ∧ b.stamps = false ∧
      b.tq = false ∧ b.pwr.noRefclk = true ∧
      (s.blk.inv.rcClock = false → -42949672 ≤ b.inv.rcErr ∧ b.inv.rcErr ≤ 42949672) ∧ (s.blk.inv.state ≠ .unset → b.inv.state = .free))) ∧
    Gives .refclkRestore s (fun b => b.inv.rcClock = false ∧ b.stamps = true ∧ b.pwr.unlocked = 0 ∧
      b.pwr.noRefclk = false ∧ changed b))

/-- PPS, INC and UTC (R405, R410, R414-R416): a pulse goes out once for each whole second that fleet time passes; the
input is a reference after three regular edges in a row and until 1.5 s without one; INC is applied as a pair within
±200 ppm; U is applied as a pair and moves nothing but UTC; a host offset is a reference from its write on. -/
def Obligations.PulsesRatesAndOffsetsAreTaken : Prop :=
  (∀ (s : State) (t : Nat), s.blk.powered = true →
    let b0 := s.blk.moveTo t
    (b0.now / 1000000000 ≤ s.blk.inv.ppsSecond → Gives (.ppsOutPulse t) s (fun b => b = b0)) ∧
    (s.blk.inv.ppsSecond < b0.now / 1000000000 → Gives (.ppsOutPulse t) s (fun b =>
      b.inv.ppsSecond = b0.now / 1000000000 ∧ b.inv.ft = b0.inv.ft ∧
      b.out = (if s.blk.flag Reg.INV_PPS_CFG 31 then [Out.pps (b0.now / 1000000000) (s.blk.fld Reg.INV_PPS_CFG 23 16)
        (!s.blk.flag Reg.INV_PPS_CFG 30) (s.blk.fld Reg.INV_PPS_CFG 15 0)] else []) ++ s.blk.out ∧
      s.blk.onlyIn [.inv, .out] b)) ∧
    (∀ rising, s.blk.inv.rcClock = true ∨ rising = s.blk.flag Reg.INV_PPS_CFG 29 →
      Gives (.ppsInEdge t rising) s (fun b => b = b0)) ∧
    (s.blk.inv.rcClock = false → Gives (.ppsInEdge t (!s.blk.flag Reg.INV_PPS_CFG 29)) s (fun b =>
      b.inv.ppsLast = some b0.now ∧ b.inv.ft = b0.inv.ft ∧
      (∃ k : Int, b.inv.ppsOff + k * 1000000000 = ((b0.now * 1000 : Nat) - ((s.blk.reg Reg.INV_PPS_IN_DLY).toNat : Int)) / 1000 ∧
        -500000000 ≤ b.inv.ppsOff ∧ b.inv.ppsOff < 500000000) ∧
      (∀ l, s.blk.inv.ppsLast = some l → l + 999990000 ≤ b0.now → b0.now ≤ l + 1000010000 →
        b.inv.ppsGood = s.blk.inv.ppsGood + 1 ∧ (b.inv.ppsOk = true ↔ 3 ≤ s.blk.inv.ppsGood + 1)) ∧
      (∀ l, s.blk.inv.ppsLast = some l → ¬ (l + 999990000 ≤ b0.now ∧ b0.now ≤ l + 1000010000) → b.inv.ppsOk = false) ∧
      s.blk.onlyIn [.evr, .inv, .mem, .regs] b ∧ s.blk.regsOnly itemRegs b)) ∧
    (∀ l, s.blk.inv.ppsLast = some l → b0.now < l + 1500000000 → Gives (.ppsInLoss t) s (fun b => b = b0)) ∧
    (∀ l, s.blk.inv.ppsLast = some l → l + 1500000000 ≤ b0.now → Gives (.ppsInLoss t) s (fun b =>
      b.inv.ppsOk = false ∧ b.inv.ppsLast = none ∧ b.inv.sel ≠ 2 ∧ s.blk.onlyIn [.evr, .inv, .mem, .regs] b ∧
      s.blk.regsOnly itemRegs b))) ∧
  (∀ (s : State) (w : Word), s.blk.powered = true → s.blk.inSvc = true →
    let clampRegs := [Reg.SYS_CLAMP_COUNT, Reg.SYS_LAST_CLAMP] ++ itemRegs
    (let req := w.toNat % 4 * 2 ^ 32 + (Tab.val s.blk.heldLo Reg.INV_INC_LO (s.blk.reg Reg.INV_INC_LO)).toNat;
      Gives (.invIncWrite w) s (fun b =>
        b.incVal = max 8588216606 (min 8591652578 req) ∧ b.inv = s.blk.inv ∧
        (8588216606 ≤ req → req ≤ 8591652578 → b.reg Reg.SYS_CLAMP_COUNT = s.blk.reg Reg.SYS_CLAMP_COUNT) ∧
        s.blk.onlyIn [.evr, .heldLo, .mem, .regs] b ∧
        s.blk.regsOnly ([Reg.INV_INC_LO, Reg.INV_INC_HI] ++ clampRegs) b)) ∧
    (let req := toSigned 64 (w.toNat * 2 ^ 32 + (Tab.val s.blk.heldLo Reg.INV_UTC_OFF_LO (s.blk.reg Reg.INV_UTC_OFF_LO)).toNat);
      Gives (.invUtcOffWrite w) s (fun b =>
        b.utcOff = max (-(2 ^ 62)) (min (2 ^ 62) req) ∧ b.inv = s.blk.inv ∧
        s.blk.onlyIn [.evr, .heldLo, .mem, .regs] b ∧
        s.blk.regsOnly ([Reg.INV_UTC_OFF_LO, Reg.INV_UTC_OFF_HI] ++ clampRegs) b)) ∧
    Gives (.invHostOffWrite w) s (fun b =>
      b.sfld Reg.INV_HOST_OFF 31 0 = max (-2000000000) (min 2000000000 w.toInt) ∧
      b.inv.hostAt = (if (s.blk.lanPort (s.blk.fld Reg.INV_REF_CFG 8 8)).suspect then s.blk.inv.hostAt else some s.blk.elapsed) ∧
      b.inv.ft = s.blk.inv.ft ∧
      (s.blk.gnssQ = false → s.blk.ppsQ = false → s.blk.flag Reg.INV_REF_CFG 2 = true →
        (s.blk.lanPort (s.blk.fld Reg.INV_REF_CFG 8 8)).suspect = false →
        b.inv.sel = 3 ∧ b.inv.lastOff = max (-2000000000) (min 2000000000 w.toInt)) ∧
      s.blk.onlyIn [.evr, .inv, .mem, .regs] b ∧ s.blk.regsOnly ([Reg.INV_HOST_OFF] ++ clampRegs) b))

/-- Steps (R19, R323, R408, R409): TIME_STEP takes only a forward step, while a site stop is asserted and no other is
pending; at the first multiple of 10 ms at least 100 µs after it fleet time becomes t_j + DELTA, heads' mappings move
by DELTA, what the step passes is late, the seconds are stored, UNSET ends and the operation completes DONE. -/
def Obligations.FleetTimeStepsForward : Prop :=
  (∀ (s : State) (d : Desc), s.blk.powered = true → s.blk.starts d →
    let delta := d.op 0x18 8
    let tj := (s.blk.now + 100000 + 10000000 - 1) / 10000000 * 10000000
    let fits : Prop := 1 ≤ delta ∧ delta < 2 ^ 63 ∧ tj + delta < 2 ^ 48 * 1000000000
    let period (x : Nat) : Nat := x / 1000000 % 2 ^ 48 / 2 ^ 16
    (¬ fits → Gives (.timeStep d) s (fun b => (∃ dt, Completed s.blk b d St.malformed dt) ∧ b.inv = s.blk.inv ∧
      s.blk.onlyIn [.hst, .out] b)) ∧
    (fits → s.blk.stopped = false → Gives (.timeStep d) s (fun b => Completed s.blk b d 0x20 0 ∧ s.blk.onlyIn [.hst, .out] b)) ∧
    (fits → s.blk.stopped = true → s.blk.flag Reg.AIR_CFG 0 = true → period (tj + delta) ≠ period tj →
      Gives (.timeStep d) s (fun b => Completed s.blk b d 0x21 (period (tj + delta)) ∧ s.blk.onlyIn [.hst, .out] b)) ∧
    (fits → s.blk.stopped = true → s.blk.flag Reg.AIR_CFG 0 = false ∨ period (tj + delta) = period tj →
      (∀ p, s.blk.inv.step = some p → Gives (.timeStep d) s (fun b => Completed s.blk b d St.busy 0 ∧
        s.blk.onlyIn [.hst, .out] b)) ∧
      (s.blk.inv.step = none → Gives (.timeStep d) s (fun b =>
        b.inv = { s.blk.inv with step := some ⟨d.id, delta, tj⟩ } ∧ b.out = s.blk.out ∧ s.blk.onlyIn [.hst, .inv] b)))) ∧
  (∀ s : State, s.blk.powered = true →
    (s.blk.inv.step = none → Gives .timeStepApply s (fun b => b = s.blk)) ∧
    (∀ p, s.blk.inv.step = some p → s.blk.now ≤ p.tj → Gives .timeStepApply s (fun b =>
      b.inv.ft = (p.tj + p.delta) * 2 ^ 32 ∧ b.inv.jumped = s.blk.inv.jumped + p.delta ∧ b.inv.step = none ∧
      b.inv.storedSec = (p.tj + p.delta) / 1000000000 ∧ b.inv.ppsSecond = (p.tj + p.delta) / 1000000000 ∧
      b.elapsed = (s.blk.moveTo p.tj).elapsed ∧ b.inv.state ≠ .unset ∧
      (s.blk.inv.state ≠ .unset → b.inv.state = s.blk.inv.state) ∧ b.inv.holdOff = s.blk.inv.holdOff ∧
      b.hdl.heads.map (·.1) = s.blk.hdl.heads.map (·.1) ∧
      (∀ h, (b.head h).state = (s.blk.head h).state) ∧
      (∀ e ∈ b.fleet.effects, p.tj < e.t → e.t ≤ p.tj + p.delta → e.late = true) ∧
      b.fleet.effects.map (·.t) = s.blk.fleet.effects.map (·.t) ∧
      (∃ l e, b.out = l ++ s.blk.out ∧ Out.completion p.id e ∈ l ∧ e.status = St.done ∧ e.detail = 0 ∧ e.time = ft64 (p.tj + p.delta)) ∧
      s.blk.onlyIn [.dvt, .evr, .fleet, .hdl, .hst, .inv, .mem, .out, .regs] b ∧ s.blk.regsOnly itemRegs b)))

/-! ## LAN ports and compare units (R417-R422) -/

/-- LAN ports (R417-R419, R424): an enabled port delivers what is addressed to it to the bound queue or counts it; an
exchange with its parent joins the running interval; at the interval's end the mean is taken, a step over STEP makes
the path suspect, and RECAL clears it at the end of the first complete interval within STEP; LAN_SEND sends over an
enabled port with link; LAN_RX_BIND binds a queue. -/
def Obligations.LanPortsMeasureSendAndDeliver : Prop :=
  (∀ (s : State) (t : Nat) (port : Fin 2) (frame : Bytes), s.blk.powered = true →
    let b0 := s.blk.moveTo t
    let p := port.val
    let l := s.blk.lanPort p
    let cfg := Reg.INV_LAN_CFG p
    let mine : Prop := (be frame 0 6 = macOf s.blk.uid.toNat (8 + p) ∨ byteAt frame 0 % 2 = 1) ∧
      ¬ (be frame 12 2 = s.blk.fld Reg.HDL_CFG 31 16 ∧ byteAt frame 15 = 0x10)
    let takes (m : PtpMsg) : Prop := ptpMsg frame = some m ∧ s.blk.inv.rcClock = false ∧ s.blk.fromParent p m = true
    (s.blk.flag cfg 31 = false → Gives (.lanFrameRx t port frame) s (fun b => b = b0)) ∧
    (s.blk.flag cfg 31 = true → ¬ mine → Gives (.lanFrameRx t port frame) s (fun b => b = b0.ptpRx p frame)) ∧
    (s.blk.flag cfg 31 = true → mine → s.blk.inv.lanQueue = 0 → Gives (.lanFrameRx t port frame) s
      (fun b => s.blk.counts b Reg.INV_LAN_DROP_COUNT ∧ b.inv = (b0.ptpRx p frame).inv ∧ s.blk.onlyIn [.inv, .regs] b ∧
        s.blk.regsOnly [Reg.INV_LAN_DROP_COUNT] b)) ∧
    (s.blk.flag cfg 31 = true → mine → s.blk.inv.lanQueue ≠ 0 → Gives (.lanFrameRx t port frame) s
      (fun b => b = (b0.ptpRx p frame).produce s.blk.inv.lanQueue 0x61
          (leBytes 1 p ++ leBytes 1 (b2n b0.stamps) ++ leBytes 2 frame.length
          ++ (if b0.stamps then ft96Bytes b0.inv.ft else zeros 12) ++ zeros 4 ++ frame) ∧
        s.blk.onlyIn [.evr, .inv, .mem, .regs] b)) ∧
    (s.blk.flag cfg 31 = true → Gives (.lanFrameRx t port frame) s (fun b =>
      (∀ k, k ≠ p → b.lanPort k = s.blk.lanPort k) ∧ b.inv.ft = b0.inv.ft ∧
      ((∀ m, ¬ takes m) → b.lanPort p = l) ∧
      (∀ m x q t1, takes m → s.blk.flag cfg 0 = false → m.kind = 9 → l.sync = some x → x.t1 = some t1 →
        l.req = some q → q.seq = m.seq → q.port = m.asker →
        let d := ((x.t2 - t1) + (m.time - q.sent) - x.corr - m.corr) / 2;
        (b.lanPort p).sum = l.sum + d * 1000 / 65536 ∧ (b.lanPort p).num = l.num + 1) ∧
      (∀ m q x, takes m → s.blk.flag cfg 0 = true → m.kind = 10 → l.pdReq = some q → l.pdResp = some x →
        q.seq = m.seq → q.port = m.asker →
        let d := ((x.t4 - q.sent) - (m.time - x.t2) - x.corr - m.corr) / 2;
        (b.lanPort p).sum = l.sum + d * 1000 / 65536 ∧ (b.lanPort p).num = l.num + 1) ∧
      (∀ m, takes m → m.kind ≠ 9 → m.kind ≠ 10 → (b.lanPort p).sum = l.sum ∧ (b.lanPort p).num = l.num) ∧
      s.blk.onlyIn [.evr, .inv, .mem, .regs] b ∧ s.blk.regsOnly ([Reg.INV_LAN_DROP_COUNT] ++ itemRegs) b)) ∧
    (let mean := l.sum / l.num
      let step := s.blk.fld cfg 23 16 * 1000
      let recal := if l.recal = 1 then 2 else l.recal;
      Gives (.lanIntervalEnd t port) s (fun b =>
        (b.lanPort p).sum = 0 ∧ (b.lanPort p).num = 0 ∧ (∀ k, k ≠ p → b.lanPort k = s.blk.lanPort k) ∧
        b.inv.ft = b0.inv.ft ∧
        (l.num = 0 → (b.lanPort p).mpd = l.mpd ∧ (b.lanPort p).suspect = l.suspect) ∧
        (l.num ≠ 0 → (b.lanPort p).mpd = mean ∧ (b.lanPort p).mpdValid = true) ∧
        (l.num ≠ 0 → l.mpdValid = true → step < (mean - l.mpd).natAbs →
          (b.lanPort p).suspect = true ∧ (b.lanPort p).recal = recal) ∧
        (l.num ≠ 0 → l.mpdValid = true → (mean - l.mpd).natAbs ≤ step → l.recal = 2 →
          (b.lanPort p).suspect = false ∧ (b.lanPort p).recal = 0) ∧
        (l.num ≠ 0 → l.mpdValid = true → (mean - l.mpd).natAbs ≤ step → l.recal ≠ 2 →
          (b.lanPort p).suspect = l.suspect ∧ (b.lanPort p).recal = recal) ∧
        s.blk.onlyIn [.evr, .inv, .mem, .regs] b ∧ s.blk.regsOnly itemRegs b)) ∧
    (∀ w, s.blk.inSvc = true → Gives (.lanRecal port w) s (fun b =>
      (b.lanPort p).recal = (if l.recal = 0 then 1 else l.recal) ∧ (b.lanPort p).suspect = l.suspect ∧
      (∀ k, k ≠ p → b.lanPort k = s.blk.lanPort k) ∧ s.blk.onlyIn [.evr, .inv, .mem, .regs] b ∧
      s.blk.regsOnly ([cfg, Reg.SYS_CLAMP_COUNT, Reg.SYS_LAST_CLAMP] ++ itemRegs) b))) ∧
  (∀ (s : State) (t : Nat) (d : Desc) (frame : Bytes), s.blk.powered = true → s.blk.starts d →
    let p := d.op 0x18 1
    let len := d.op 0x1A 2
    let b0 := s.blk.moveTo t
    (p < 2 → d.op 0x19 1 = 0 → 60 ≤ len → len ≤ 1518 →
      (s.blk.flag (Reg.INV_LAN_CFG p) 31 = false → Gives (.lanSend t d frame) s (fun b =>
        Completed s.blk b d 0x23 p ∧ s.blk.onlyIn [.hst, .out] b)) ∧
      (s.blk.flag (Reg.INV_LAN_CFG p) 31 = true → (s.blk.lanPort p).up = false → Gives (.lanSend t d frame) s (fun b =>
        Completed s.blk b d 0x22 p ∧ s.blk.onlyIn [.hst, .out] b)) ∧
      (s.blk.flag (Reg.INV_LAN_CFG p) 31 = true → (s.blk.lanPort p).up = true → s.blk.inv.rcClock = false →
        Gives (.lanSend t d frame) s (fun b => Out.lan p (slice frame 0 len) ∈ b.out ∧
          Completed s.blk b d St.done (b0.inv.ft % 2 ^ 32 / 2 ^ 16) ∧
          (∃ l e, b.out = l ++ s.blk.out ∧ Out.completion d.id e ∈ l ∧ e.time = ft64 b0.now) ∧
          b.inv = (b0.ptpTx p (slice frame 0 len)).inv ∧
          (∀ m, ptpMsg (slice frame 0 len) = some m → s.blk.inDomain p m = true → m.kind = 1 →
            (b.lanPort p).req = some ⟨m.seq, m.port, b0.stampNow⟩) ∧
          (∀ m, ptpMsg (slice frame 0 len) = some m → s.blk.inDomain p m = true → m.kind = 2 →
            (b.lanPort p).pdReq = some ⟨m.seq, m.port, b0.stampNow⟩) ∧ s.blk.onlyIn [.hst, .inv, .out] b))) ∧
    (2 ≤ p → Gives (.lanSend t d frame) s (fun b => Completed s.blk b d St.malformed (malformed 0x09 0xFF 0x18) ∧
      s.blk.onlyIn [.hst, .out] b)) ∧
    (d.op 0x18 1 < 64 → Gives (.lanRxBind d) s (fun b => b.inv = { s.blk.inv with lanQueue := d.op 0x18 1 } ∧
      Completed s.blk b d St.done 0 ∧ s.blk.onlyIn [.hst, .inv, .out] b)) ∧
    (64 ≤ d.op 0x18 1 → Gives (.lanRxBind d) s (fun b => Completed s.blk b d St.malformed (malformed 0x0B 0xFF 0x18) ∧
      s.blk.onlyIn [.hst, .out] b)))

/-- Compare units (R420-R422): a target is loaded when its effect lies less than 2^30 counts ahead; a unit fires when its
target has come, once, becomes IDLE or goes on with the first target of its grid that lies ahead, and the arming
effect is applied; it is late only when its target had passed; the host arms a unit that it owns. -/
def Obligations.CompareUnitsFireAtTheirTargets : Prop :=
  (∀ (s : State) (t : Nat), s.blk.powered = true →
    let b0 := s.blk.moveTo t
    Gives (.compareTargetLoad t) s (fun b =>
      (∀ n, (s.blk.cmp n).state ≠ .idle → b.cmp n = s.blk.cmp n) ∧
      (∀ n, 32 ≤ n → b.cmp n = s.blk.cmp n) ∧
      (∀ (n : Nat) (e : Effect), n < 32 → (s.blk.cmp n).state = .idle → s.blk.cmpEffect n = some e →
        byteAt e.ops 0 ≠ 0 → e.t < b0.now + 2 ^ 31 → (b.cmp n).state = .armed ∧ (b.cmp n).target = ((e.t + 1) / 2 : Nat) ∧
          (b.cmp n).periodic = (byteAt e.ops 0 == 2) ∧ (b.cmp n).hostArmed = false ∧ (b.cmp n).epoch = e.epoch ∧
          (b.cmp n).lateLoad = decide ((e.t + 1) / 2 < b0.now / 2)) ∧
      (∀ (n : Nat) (e : Effect), s.blk.cmpEffect n = some e → byteAt e.ops 0 = 0 ∨ b0.now + 2 ^ 31 ≤ e.t →
        b.cmp n = s.blk.cmp n) ∧
      b.inv.ft = b0.inv.ft ∧ s.blk.onlyIn [.inv] b)) ∧
  (∀ (s : State) (t : Nat) (n : Cmp32), s.blk.powered = true → s.blk.fleet.effects = [] →
    let b0 := s.blk.moveTo t
    let x := s.blk.cmp n.val
    let now := b0.now / 2
    let per := (s.blk.reg (Reg.INV_CMP_PERIOD n.val)).toNat
    (x.state = .idle ∨ (now : Int) < x.target → Gives (.compareFire t n) s (fun b => b = b0)) ∧
    (x.state ≠ .idle → x.target ≤ now → x.periodic = false → Gives (.compareFire t n) s (fun b =>
      (b.cmp n.val).state = .idle ∧ (b.cmp n.val).lateLast = x.lateLoad ∧ (b.cmp n.val).fires = (x.fires + 1) % 2 ^ 16 ∧
      s.blk.counts b Reg.INV_CMP_LATE_COUNT (if x.lateLoad then 1 else 0) ∧ (∀ k, k ≠ n.val → b.cmp k = s.blk.cmp k) ∧
      s.blk.onlyIn [.evr, .inv, .mem, .regs] b ∧ s.blk.regsOnly ([Reg.INV_CMP_LATE_COUNT] ++ itemRegs) b)) ∧
    (x.state ≠ .idle → x.target ≤ now → x.periodic = true → 500 ≤ per → Gives (.compareFire t n) s (fun b =>
      (b.cmp n.val).state = .running ∧ (now : Int) < (b.cmp n.val).target ∧ (b.cmp n.val).target ≤ now + per ∧
      (∃ k : Nat, 1 ≤ k ∧ (b.cmp n.val).target = x.target + k * per ∧
        ((b.cmp n.val).lateLast = true ↔ x.lateLoad = true ∨ 1 < k)) ∧
      (b.cmp n.val).lateLoad = false ∧ (∀ k, k ≠ n.val → b.cmp k = s.blk.cmp k) ∧
      s.blk.onlyIn [.evr, .inv, .mem, .regs] b ∧ s.blk.regsOnly ([Reg.INV_CMP_LATE_COUNT] ++ itemRegs) b))) ∧
  (∀ (s : State) (t : Nat) (n : Cmp32) (e : Effect), s.blk.powered = true → s.blk.fleet.effects = [e] → e.dest = .inv →
    e.obj = n.val → (s.blk.cmp n.val).state = .idle →
    let b0 := s.blk.moveTo t
    (byteAt e.ops 0 = 0 → e.t ≤ b0.now → Gives (.compareFire t n) s (fun b => b.fleet.effects = [] ∧
      (b.cmp n.val).state = .idle ∧ s.blk.onlyIn [.fleet, .inv, .regs] b ∧ s.blk.regsOnly [Reg.MAP_LATE_COUNT] b)) ∧
    (byteAt e.ops 0 = 1 → e.t + 1 ≤ b0.now → Gives (.compareFire t n) s (fun b => b.fleet.effects = [] ∧
      (b.cmp n.val).state = .idle ∧ (b.cmp n.val).fires = 1 ∧ (b.cmp n.val).epoch = e.epoch ∧
      s.blk.onlyIn [.evr, .fleet, .inv, .mem, .regs] b))) ∧
  (∀ (s : State) (n : Cmp32) (w : Word), s.blk.powered = true → s.blk.inSvc = true →
    let cfg := Reg.INV_CMP_CFG n.val
    let mode := if w.toNat % 4 = 3 then 0 else w.toNat % 4
    Gives (.compareHostArm n w) s (fun b =>
      b.fld cfg 1 0 = mode ∧ (∀ k, k ≠ n.val → b.cmp k = s.blk.cmp k) ∧
      (s.blk.flag cfg 8 = false → b.cmp n.val = s.blk.cmp n.val ∧ (b.reg Reg.SYS_LAST_CLAMP).toNat = cfg) ∧
      (s.blk.flag cfg 8 = true → mode = 0 → (b.cmp n.val).state = .idle) ∧
      (s.blk.flag cfg 8 = true → mode ≠ 0 → (b.cmp n.val).hostArmed = true ∧
        (b.cmp n.val).periodic = decide (mode = 2) ∧
        ∃ x : Int, x % 2 ^ 32 = ((s.blk.reg (Reg.INV_CMP_TIME n.val)).toNat : Int) ∧ -2 ^ 31 ≤ x - (s.blk.now / 2 : Nat) ∧
          x - (s.blk.now / 2 : Nat) < 2 ^ 31 ∧
          ((s.blk.now / 2 : Nat) < x → (b.cmp n.val).state = .armed ∧ (b.cmp n.val).target = x ∧
            (b.cmp n.val).lateLoad = false) ∧
          (x ≤ (s.blk.now / 2 : Nat) → (b.cmp n.val).state = (if mode = 2 then .running else .idle) ∧
            (b.cmp n.val).fires = 1 ∧ (x < (s.blk.now / 2 : Nat) → (b.cmp n.val).lateLast = true))) ∧
      s.blk.onlyIn [.evr, .inv, .mem, .regs] b ∧
      s.blk.regsOnly ([cfg, Reg.INV_CMP_LATE_COUNT, Reg.SYS_CLAMP_COUNT, Reg.SYS_LAST_CLAMP] ++ itemRegs) b))

/-! ## Internal queues and memory (R429-R447) -/

/-- Queues (R430-R435, R439, R440): waiting reservations are granted in their order; a pop takes the oldest committed item
into the window and never passes an open one; a mark is written behind what is there and counts as applied; a bind and
an unbind name the consumer; a flush discards the committed items of the queues named and no other queue. -/
def Obligations.QueuesGrantPopMarkAndFlush : Prop :=
  (∀ (s : State) (n : Queue64), s.blk.runs .mem = true →
    let q := s.blk.queue n.val
    q.nextSeq < 2 ^ 32 → q.ptrBad = false → Gives (.reservationGrant n) s (fun b =>
      (∃ k, k ≤ q.waiting.length ∧ (b.queue n.val).waiting = q.waiting.drop k ∧
        (b.queue n.val).nextSeq = (q.nextSeq + k) % 2 ^ 32 ∧
        ((q.items.filter (·.isOpen)).length ≤ 1 → (∀ w ∈ q.waiting, w.words ≤ s.blk.queueCap n.val) →
          k = q.waiting.length)) ∧
      (∀ k, k ≠ n.val → b.queue k = s.blk.queue k) ∧ s.blk.onlyIn [.mem, .regs] b ∧
      s.blk.regsOnly [Reg.QUE_Q_LOST_COUNT n.val] b)) ∧
  (∀ (s : State) (w : Word) (opens : List OpenItem), s.blk.runs .mem = true → s.blk.inSvc = true →
    let n := w.toNat % 64
    let q := (s.blk.queue n).atEdge opens (s.blk.queueCap n)
    let kept (b : Blk) : Prop := b.queue n = q ∧ (∀ k, k ≠ n → b.queue k = s.blk.queue k) ∧ s.blk.onlyIn [.mem] b
    (s.blk.queue n).ptrBad = false →
    (∀ bd, q.bound = some bd → Gives (.queuePop w opens) s (fun b => b.mem.popHdr = 1 ∧ b.mem.popSeq = q.nextSeq ∧
      b.mem.popData = [] ∧ kept b)) ∧
    (q.bound = none → q.items.head?.all (·.isOpen) = true → Gives (.queuePop w opens) s (fun b => b.mem.popHdr = 0 ∧
      b.mem.popSeq = q.nextSeq ∧ b.mem.popData = [] ∧ kept b)) ∧
    (∀ i rest, q.bound = none → q.items = i :: rest → i.isOpen = false → Gives (.queuePop w opens) s (fun b =>
      b.mem.popHdr = word (i.data.length * 2 ^ 16 + i.typ * 2 ^ 8 + i.flags) ∧ b.mem.popSeq = i.seq ∧
      (i.typ ≠ 0xFF → b.mem.popData = i.data) ∧ (b.queue n).items = rest ∧ (b.queue n).nextSeq = q.nextSeq ∧
      (∀ k, k ≠ n → b.queue k = s.blk.queue k) ∧ s.blk.onlyIn [.mem] b))) ∧
  (∀ (s : State) (t : Nat), s.blk.runs .mem = true →
    let b0 := s.blk.moveTo t
    let due (e : Effect) : Bool := e.dest == .mem && decide (e.t ≤ b0.now)
    Gives (.queueMarkApply t) s (fun b =>
      b.fleet.effects = s.blk.fleet.effects.filter (fun e => !due e) ∧ b.inv = b0.inv ∧
      s.blk.counts b Reg.MAP_LATE_COUNT ((s.blk.fleet.effects.filter (fun e => due e && e.late)).length) ∧
      (∀ e, s.blk.fleet.effects = [e] → due e = true → s.blk.queueOn e.obj = false → b.mem = s.blk.mem) ∧
      (∀ e, s.blk.fleet.effects = [e] → due e = true → s.blk.queueOn e.obj = true → (s.blk.queue e.obj).ptrBad = false →
        (s.blk.queue e.obj).waiting = [] → usedWords (s.blk.queue e.obj).items + 4 ≤ s.blk.queueCap e.obj →
        (b.queue e.obj).items = (s.blk.queue e.obj).items ++
          [⟨false, 4, 0x30, 0, (s.blk.queue e.obj).nextSeq, markPayload e b0.nowFt64, 0⟩]) ∧
      s.blk.onlyIn [.evr, .fleet, .inv, .mem, .regs] b)) ∧
  (∀ (s : State) (d : Desc), s.blk.runs .mem = true → s.blk.starts d →
    let n := d.op 0x18 1
    let cq := d.op 0x19 1
    let log2 := d.op 0x1A 1
    let addr := d.op 0x20 8
    let bindOk : Prop := n < 64 ∧ cq < 128 ∧ 12 ≤ log2 ∧ log2 ≤ 24 ∧ allZero d.bytes 0x1B 5 = true ∧ addr % 2 ^ log2 = 0
    let cqOk : Prop := s.blk.isCq cq = true ∧ (s.blk.ring cq).state = .run ∧ (s.blk.hst.planes = true → cq = 1 ∨ cq = 3 ∨ cq = 5)
    (∀ bd, bindOk → (s.blk.queue n).bound = some bd → Gives (.queueBind d) s (fun b => Completed s.blk b d 0x20 bd.cq ∧
      s.blk.onlyIn [.hst, .out] b)) ∧
    (bindOk → (s.blk.queue n).bound = none → ¬ cqOk → Gives (.queueBind d) s (fun b => Completed s.blk b d 0x22 cq ∧
      s.blk.onlyIn [.hst, .out] b)) ∧
    (bindOk → (s.blk.queue n).bound = none → cqOk → s.blk.queueOn n = false → Gives (.queueBind d) s (fun b =>
      Completed s.blk b d 0x23 n ∧ s.blk.onlyIn [.hst, .out] b)) ∧
    (bindOk → (s.blk.queue n).bound = none → cqOk → s.blk.queueOn n = true → Gives (.queueBind d) s (fun b =>
      b.queue n = { s.blk.queue n with bound := some { cq := cq, log2 := log2, addr := addr } } ∧
      Completed s.blk b d St.done 0 ∧ (∀ k, k ≠ n → b.queue k = s.blk.queue k) ∧ s.blk.onlyIn [.hst, .mem, .out] b)) ∧
    (n < 64 → (s.blk.queue n).bound = none → Gives (.queueUnbind d) s (fun b => Completed s.blk b d 0x21 0 ∧
      s.blk.onlyIn [.hst, .out] b)) ∧
    (∀ bd, n < 64 → (s.blk.queue n).bound = some bd → Gives (.queueUnbind d) s (fun b =>
      b.queue n = { s.blk.queue n with bound := none } ∧ Completed s.blk b d St.done bd.delivered ∧
      (∀ k, k ≠ n → b.queue k = s.blk.queue k) ∧ s.blk.onlyIn [.hst, .mem, .out] b)) ∧
    (∀ opens : List QueueOpen,
      let named (k : Nat) : Prop := k < 64 ∧ bitOf (d.op 0x18 8) k = true
      let e := opens.foldl (fun (b : Blk) o => b.queueEdge o.q.val o.items) s.blk
      let lost := ((List.range 64).filter (bitOf (d.op 0x18 8))).map
        (fun k => ((e.queue k).items.filter (fun i => !i.isOpen)).length);
      (∀ k, named k → (s.blk.queue k).ptrBad = false) → Gives (.queueFlush d opens) s (fun b =>
        Completed s.blk b d St.done (min lost.sum 0xFFFFFFFF) ∧
        (∀ k, ¬ named k → b.queue k = e.queue k) ∧
        (∀ k, named k → (∀ i ∈ (e.queue k).items, i.isOpen = false) → (b.queue k).items = [] ∧
          (b.queue k).nextSeq = (e.queue k).nextSeq ∧
          s.blk.counts b (Reg.QUE_Q_LOST_COUNT k) (e.queue k).items.length) ∧
        (∀ k i, named k → (e.queue k).items = [i] → i.isOpen = true → restartsAfterFlush i.typ = false →
          (b.queue k).nextSeq = (e.queue k).nextSeq ∧
          (b.queue k).items = (if i.written = 0 then [] else
            [⟨false, 1 + i.written, 0xFF, 0, i.seq, zeros (min (8 * i.written) i.data.length), 0⟩])) ∧
        s.blk.onlyIn [.hst, .mem, .out, .regs] b)))

/-- The scrub (R446, R447): the position moves on by one word through every bank; a corrected error is counted and its
lane noted with the bank's rotation. An access that fails (R444, R445, R449) is counted and shown in MEM_LAST_ERR, and
its master does with the error response what R442 says. Monitoring (R527-R529): a measurement after stage RESET shows
every rail, current and temperature, widens the extremes of the digital die, and sets TEMP_WARN at MON_TEMP_WARN,
clearing it only once every die is 5.0 °C below. -/
def Obligations.ScrubAndMeasurementsRunOn : Prop :=
  ((∀ (s : State) (err : Option (Fin 8)) (accs : List MemAcc), s.blk.powered = true → s.blk.mem.scrubBank < 16 →
     s.blk.mem.scrubWord < 196608 →
     Gives (.sramScrub err accs) s (fun b =>
       b.mem.scrubBank * 196608 + b.mem.scrubWord =
         (s.blk.mem.scrubBank * 196608 + s.blk.mem.scrubWord + 1) % (16 * 196608) ∧ b.mem.scrubBank < 16 ∧
       b.mem.scrubWord < 196608 ∧
       (accs = [] → err = none → b.mem.banks = s.blk.mem.banks ∧ b.regs = s.blk.regs) ∧
       (∀ i, accs = [] → err = some i → s.blk.counts b Reg.MEM_ECC_CORR_COUNT ∧
         (let k := Tab.val s.blk.mem.banks s.blk.mem.scrubBank {};
           Tab.val b.mem.banks s.blk.mem.scrubBank {} =
             { k with laneValid := true, lane := (i.val + s.blk.mem.scrubWord + k.rot) % 8 })) ∧
       (accs = [] → (∀ k, b.queue k = s.blk.queue k) ∧ s.blk.onlyIn [.mem, .regs] b ∧
         s.blk.regsOnly [Reg.MEM_ECC_CORR_COUNT] b))) ∧
   (∀ (s : State) (a : MemAcc), s.blk.powered = true → a.word < 196608 → a.crc ≤ 4 →
     let m := a.master.val
     let page := 384 * a.bank.val + a.word / 512
     let grants := ∃ r, r < 4 ∧ s.blk.fld (Reg.MEM_RGN_LO (4 * m + r)) 12 0 ≤ page ∧
       page ≤ s.blk.fld (Reg.MEM_RGN_HI (4 * m + r)) 12 0 ∧
       s.blk.flag (Reg.MEM_RGN_HI (4 * m + r)) (if a.write then 30 else 31) = true
     let shown (kind : Nat) : Word := word (kind * 2 ^ 28 + m * 2 ^ 24 + a.bank.val * 2 ^ 20 + a.word)
     Gives (.sramScrub none [a]) s (fun b =>
       s.blk.counts b Reg.MEM_FABRIC_RETRY_COUNT (min a.crc 3) ∧
       (a.crc = 4 → s.blk.counts b Reg.MEM_FABRIC_FAIL_COUNT ∧ b.mem.lastErr = shown 3 ∧
         b.reg Reg.MEM_VIOL_COUNT = s.blk.reg Reg.MEM_VIOL_COUNT) ∧
       (a.crc < 4 → ¬ grants → s.blk.counts b Reg.MEM_VIOL_COUNT ∧ b.mem.lastErr = shown 1) ∧
       (a.crc < 4 → grants → b.evr = s.blk.evr ∨ m = 7) ∧
       (a.crc < 4 → grants → a.write = true → 0 < a.lost → m ≠ 0 → s.blk.counts b Reg.MEM_CONFLICT_COUNT a.lost ∧
         b.mem.lastErr = shown 5) ∧
       (a.crc < 4 → grants → a.write = false ∨ a.lost = 0 → b.mem.lastErr = s.blk.mem.lastErr ∧
         s.blk.onlyIn [.mem, .regs] b ∧ s.blk.regsOnly [Reg.MEM_FABRIC_RETRY_COUNT] b) ∧
       (a.crc = 4 ∨ ¬ grants →
         (m = 0 → bitOf b.clp.a.active 9 = true ∧ b.clp.cf14 = true) ∧
         (m = 1 → a.obj < 48 → s.blk.axMode a.obj ≠ 0 → s.blk.axDue s.blk.now a.obj = true →
           (b.axis a.obj).sampled = some s.blk.now ∧ s.blk.counts b (Reg.CTL_AX_OVR_COUNT a.obj)) ∧
         (∀ e rest, m = 5 → s.blk.pos.solving = e :: rest → e.mix = a.obj → e.refused = false →
           b.pos.solving = { e with refused := true } :: rest) ∧
         (∀ r rest, m = 7 → s.blk.key.running = r :: rest → b.key.running = rest ∧ Ended s.blk b r.d.id 0x2A 7 ∧
           b.key.store = s.blk.key.store ∧ b.key.cache = s.blk.key.cache) ∧
         (m = 8 → a.obj < 64 → a.obj ≠ 0 → (b.queue a.obj).rd = 0 ∧ (b.queue a.obj).cp = 0 ∧ b.mem.ptrErr = true ∧
           s.blk.counts b Reg.QUE_PTR_ERR_COUNT) ∧
         (m = 10 → s.blk.counts b Reg.MEM_MRAM_BAD_COUNT))))) ∧
  (∀ (s : State) (x : MonIn), s.blk.powered = true →
     let warn := s.blk.sfld Reg.MON_TEMP_WARN 15 0
     let dies := [x.tDig, x.tRf, x.tFio0, x.tFio1]
     let temp (v : Int) : Prop := -32768 ≤ v ∧ v < 32768
     (s.blk.pwr.stage = 0 → Gives (.monMeasure x) s (fun b => b = s.blk)) ∧
     (s.blk.pwr.stage ≠ 0 → temp x.tDig → temp x.tRf → Gives (.monMeasure x) s (fun b =>
       (b.reg Reg.MON_VCORE).toNat = min x.vcore 0xFFFF ∧ (b.reg Reg.MON_VIO).toNat = min x.vio 0xFFFF ∧
       (b.reg Reg.MON_VANA).toNat = min x.vana 0xFFFF ∧ b.sfld Reg.MON_TEMP_DIG 15 0 = x.tDig ∧
       b.sfld Reg.MON_TEMP_RF 15 0 = x.tRf ∧ b.flag Reg.MON_STATUS 0 = true ∧
       (s.blk.pwr.peakFresh = true → b.sfld Reg.MON_TEMP_PEAK 31 16 = x.tDig ∧ b.sfld Reg.MON_TEMP_PEAK 15 0 = x.tDig) ∧
       (s.blk.pwr.peakFresh = false → b.sfld Reg.MON_TEMP_PEAK 31 16 = min x.tDig (s.blk.sfld Reg.MON_TEMP_PEAK 31 16) ∧
         b.sfld Reg.MON_TEMP_PEAK 15 0 = max x.tDig (s.blk.sfld Reg.MON_TEMP_PEAK 15 0)) ∧
       ((∃ t ∈ dies, warn ≤ t) → b.flag Reg.MON_STATUS 9 = true) ∧
       ((∀ t ∈ dies, t ≤ warn - 50) → b.flag Reg.MON_STATUS 9 = false) ∧
       ((∀ t ∈ dies, t < warn) → (∃ t ∈ dies, warn - 50 < t) → b.flag Reg.MON_STATUS 9 = s.blk.flag Reg.MON_STATUS 9) ∧
       b.pwr.ready = s.blk.pwr.ready ∧ s.blk.onlyIn [.pwr, .regs] b)))

/-! ## Keys (R454-R465) -/

/-- Store changes (R460-R465): what bars key operations completes them; an installation, an import and a deletion begin
one change to the inactive slot, and another is told to come again; when the commit record is written the slot becomes
active with the next GEN, the other slot stays as it is, and copies of a changed entry are zeroised. -/
def Obligations.KeyStoreChangesAreWhole : Prop :=
  (∀ (s : State) (d : Desc) (data : Bytes), s.blk.runs .key = true → s.blk.starts d →
    let k := s.blk.key
    let bar := s.blk.keyBar s.ident d.opcode
    let ends (st dt : Nat) (b : Blk) : Prop := Completed s.blk b d st dt ∧ s.blk.counts b Reg.KEY_OP_COUNT ∧
      s.blk.onlyIn [.hst, .out, .regs] b ∧ s.blk.regsOnly [Reg.KEY_OP_COUNT, Reg.KEY_ATTR_COUNT] b
    let begins (image : Tab StoreEntry) (drop detail : Option Nat) (b : Blk) : Prop :=
      b.key.update = some ⟨d.id, image, drop, detail⟩ ∧ b.key.store = k.store ∧ b.key.active = k.active ∧
      (if k.active = 0 then b.key.slotA = k.slotA ∧ b.key.slotB.valid s.ident = false
        else b.key.slotB = k.slotB ∧ b.key.slotA.valid s.ident = false) ∧
      b.out = s.blk.out ∧ s.blk.onlyIn [.hst, .key] b
    let importOk : Prop := d.op 0x18 1 < 32 ∧ d.op 0x19 1 < 2 ∧ allZero d.bytes 0x1C 4 = true ∧
      (d.op 0x28 4 = 32 ∨ d.op 0x28 4 = 48)
    (∀ st, bar = some st → Gives (.keyInstall d data) s (ends st 0) ∧ (importOk → Gives (.keyImport d data) s (ends st 0)) ∧
      (1 ≤ d.op 0x18 1 → d.op 0x18 1 < 32 → Gives (.keyDelete d) s (ends st 0))) ∧
    (bar = none → k.update ≠ none → Gives (.keyInstall d data) s (ends St.busy 0) ∧
      (importOk → Gives (.keyImport d data) s (ends St.busy 0)) ∧
      (1 ≤ d.op 0x18 1 → d.op 0x18 1 < 32 → Gives (.keyDelete d) s (ends St.busy 0))) ∧
    (bar = none → k.update = none →
      (∀ key, s.blk.entry0 s.ident = some key → Gives (.keyInstall d data) s (ends St.keyInstalled (kcv key))) ∧
      (s.blk.entry0 s.ident = none → s.ident.lc ≠ .field ∨ k.store ≠ [] ∨ s.blk.stopped = false →
        Gives (.keyInstall d data) s (ends St.denied 0)) ∧
      (s.blk.entry0 s.ident = none → s.ident.lc = .field → k.store = [] → s.blk.stopped = true →
        Gives (.keyInstall d data) s (begins [(0, ⟨3, true, 0, slice data 0 32⟩)] none (some (kcv (slice data 0 32))))) ∧
      (importOk → d.op 0x18 1 = 0 → d.op 0x19 1 = 1 ∨ s.blk.stopped = false →
        Gives (.keyImport d data) s (ends St.denied 0)) ∧
      (importOk → d.op 0x18 1 ≠ 0 ∨ s.blk.stopped = true → d.op 0x19 1 = 0 →
        (k.site = none → Gives (.keyImport d data) s (ends St.keyNoEntry 0)) ∧
        (∀ site, k.site = some site → Gives (.keyImport d data) s (fun b =>
          match (Config.keyUnwrap (kWrap site) (slice data 0 (d.op 0x28 4))).bind (fun p => blobEntry p (d.op 0x28 4)) with
          | none => ends St.keyUnwrapFail 0 b
          | some e => ∃ drop, begins (Tab.put k.store (d.op 0x18 1) e) drop none b ∧
              (drop = some (d.op 0x18 1) ↔ k.store.any (fun p => p.1 == d.op 0x18 1) = true)))) ∧
      (1 ≤ d.op 0x18 1 → d.op 0x18 1 < 32 →
        (k.store.any (fun p => p.1 == d.op 0x18 1) = true → Gives (.keyDelete d) s
          (begins (Tab.del k.store (d.op 0x18 1)) (some (d.op 0x18 1)) none)) ∧
        (k.store.any (fun p => p.1 == d.op 0x18 1) = false → Gives (.keyDelete d) s (ends St.keyNoEntry (d.op 0x18 1)))))) ∧
  (∀ (s : State) (u : StoreUpd), s.blk.powered = true → s.blk.key.update = some u →
    let k := s.blk.key
    Gives .storeUpdateDone s (fun b =>
      b.key.store = u.image ∧ b.key.storeGen = k.storeGen + 1 ∧ b.key.update = none ∧ b.key.active = 1 - k.active ∧
      (let slot : StoreSlot := ⟨u.image, k.storeGen + 1, s.ident.lc.code, s.ident.lcCount, false, true, false⟩;
        if k.active = 0 then b.key.slotB = slot ∧ b.key.slotA = k.slotA else b.key.slotA = slot ∧ b.key.slotB = k.slotB) ∧
      (u.drop = none → b.key.cache = k.cache) ∧
      (∀ e n, u.drop = some e → (s.blk.cacheOf n).used = true → (s.blk.cacheOf n).entry = some e →
        b.cacheOf n = { gen := (s.blk.cacheOf n).gen }) ∧
      Ended s.blk b u.id St.done (u.detail.getD ((k.storeGen + 1) % 2 ^ 32)) ∧
      s.blk.counts b Reg.KEY_OP_COUNT ∧
      s.blk.onlyIn [.air, .evr, .hst, .key, .out, .pwr, .regs] b))

/-- Host keys (R454-R457, R464, R465): a handle names one filling of a host entry; a key is used only by its attribute; a
derived key is one deeper than its parent; an eviction zeroises the entry and what was derived from it; no operation
changes the store; a challenge is the free random value written to the host. -/
def Obligations.KeysServeOnlyTheirUse : Prop :=
  (∀ (s : State) (d : Desc), s.blk.runs .key = true → s.blk.starts d → s.blk.keyBar s.ident d.opcode = none →
    let k := s.blk.key
    let n := d.op 0x18 1
    let ends (st dt : Nat) (b : Blk) : Prop := Completed s.blk b d st dt ∧ s.blk.counts b Reg.KEY_OP_COUNT ∧
      s.blk.onlyIn [.hst, .out, .regs] b
    (1 ≤ n → n < 32 → k.store.find? (fun p => p.1 == n) = none → Gives (.keyLoad d) s (ends St.keyNoEntry n)) ∧
    (∀ p, 1 ≤ n → n < 32 → k.store.find? (fun p => p.1 == n) = some p → s.blk.freeCache = none →
      Gives (.keyLoad d) s (ends St.keyCacheFull 0)) ∧
    (∀ p c, 1 ≤ n → n < 32 → k.store.find? (fun p => p.1 == n) = some p → s.blk.freeCache = some c →
      Gives (.keyLoad d) s (fun b => ∃ g, 1 ≤ g ∧ g ≤ 255 ∧ g ≠ (s.blk.cacheOf c).gen % 256 ∧ 32 ≤ c ∧ c < 256 ∧
        (s.blk.cacheOf c).used = false ∧ b.cacheOf c = ⟨g, true, p.2.attr, p.2.long, p.2.key, 0, none, some n⟩ ∧
        (∀ j, j ≠ c → b.cacheOf j = s.blk.cacheOf j) ∧ b.key.store = k.store ∧ b.key.update = k.update ∧
        Completed s.blk b d St.done (g * 256 + c) ∧ s.blk.onlyIn [.hst, .key, .out, .regs] b)) ∧
    (d.op 0x18 1 < 32 → Gives (.keyEvict d) s (ends St.denied 0)) ∧
    (32 ≤ d.op 0x18 1 → (s.blk.cacheOf (d.op 0x18 1)).used = false ∨ (s.blk.cacheOf (d.op 0x18 1)).gen ≠ d.op 0x19 1 →
      Gives (.keyEvict d) s (ends St.keyStale (d.op 0x18 2))) ∧
    (32 ≤ d.op 0x18 1 → (s.blk.cacheOf (d.op 0x18 1)).used = true → (s.blk.cacheOf (d.op 0x18 1)).gen = d.op 0x19 1 →
      Gives (.keyEvict d) s (fun b => (b.cacheOf n).used = false ∧
        (∀ j, b.cacheOf j = s.blk.cacheOf j ∨
          (b.cacheOf j = { gen := (s.blk.cacheOf j).gen } ∧ under k.cache n 9 j = true)) ∧
        (∀ j, (s.blk.cacheOf j).parent = some n → (b.cacheOf j).used = false) ∧ b.key.store = k.store ∧
        (∃ m, Completed s.blk b d St.done m) ∧ s.blk.onlyIn [.hst, .key, .out, .regs] b)) ∧
    (d.op 0x18 1 < 2 → d.op 0x19 1 = 0 → allZero d.bytes 0x1C 4 = true →
      (let h := d.op 0x1A 1
        let e := s.blk.cacheOf h;
        32 ≤ h → e.used = true → e.gen = d.op 0x1B 1 →
        (e.attr ≠ 2 → Gives (.keyExportEnrol d) s (fun b => Completed s.blk b d St.keyAttr (e.attr * 2 ^ 16 + d.op 0x1A 2) ∧
          s.blk.counts b Reg.KEY_ATTR_COUNT ∧ s.blk.onlyIn [.hst, .out, .regs] b)) ∧
        (e.attr = 2 → k.site = none → Gives (.keyExportEnrol d) s (ends St.keyNoEntry 0)) ∧
        (∀ site, e.attr = 2 → k.site = some site → Gives (.keyExportEnrol d) s (fun b =>
          let key := if d.op 0x18 1 = 0 then kEnr site (d.op 0x20 8) else kHl site (d.op 0x20 8)
          Out.hostWrite (d.op 0x28 8) (Config.keyWrap e.key (leBytes 1 3 ++ leBytes 1 1 ++ zeros 6 ++ key)) ∈ b.out ∧
          ends St.done (kcv key) b)))) ∧
    (d.op 0x18 1 < 3 → allZero d.bytes 0x19 7 = true → Gives (.keyChallenge d) s (fun b =>
      (∃ c, c.length = 16 ∧ Out.hostWrite (d.op 0x20 8) c ∈ b.out ∧
        b.key.chall = Tab.put k.chall (d.op 0x18 1) (c, s.blk.elapsed)) ∧
      Completed s.blk b d St.done 0 ∧ b.key.store = k.store ∧ b.key.cache = k.cache ∧
      s.blk.onlyIn [.fresh, .hst, .key, .out, .regs] b))) ∧
  (∀ (s : State) (d : Desc) (data aux : Bytes), s.blk.runs .key = true → s.blk.starts d →
    s.blk.keyBar s.ident d.opcode = none →
    let begun (aux : Bytes) (b : Blk) : Prop := b.key = { s.blk.key with running := s.blk.key.running ++ [⟨d, data, aux⟩] } ∧
      b.out = s.blk.out ∧ s.blk.onlyIn [.hst, .key] b
    (d.op 0x1A 1 < 4 → d.op 0x1B 1 < 2 → 1 ≤ d.op 0x1C 1 → d.op 0x1C 1 ≤ 16 → d.op 0x1D 1 ≤ 64 →
      allZero d.bytes 0x1E 2 = true → Gives (.keyDerive d data) s (begun [])) ∧
    (d.op 0x1A 1 < 6 → allZero d.bytes 0x1B 1 = true → d.op 0x1C 4 ≤ 65536 → d.op 0x1C 4 % 16 = 0 ∨ 2 ≤ d.op 0x1A 1 →
      Gives (.keyCipher d data aux) s (begun aux)) ∧
    (d.op 0x18 4 ≤ 16777216 → allZero d.bytes 0x1C 4 = true → Gives (.keyHash d data) s (begun []))) ∧
  (∀ (s : State) (r : KeyRun) (rest : List KeyRun), s.blk.runs .key = true → s.blk.key.running = r :: rest →
    let h := r.d.op 0x18 2
    let e := s.blk.cacheOf (h % 256)
    let held : Prop := 32 ≤ h % 256 ∧ e.used = true ∧ e.gen = h / 256
    let ends (b : Blk) (st dt : Nat) : Prop := Ended s.blk b r.d.id st dt
    let kept (b : Blk) : Prop := b.key = { s.blk.key with running := rest } ∧ s.blk.onlyIn [.hst, .key, .out, .regs] b
    (r.d.opcode = 0x0805 → held → e.attr ≠ 3 → Gives .keyOperationDone s (fun b =>
      ends b St.keyAttr (e.attr * 2 ^ 16 + h) ∧ kept b)) ∧
    (r.d.opcode = 0x0805 → held → e.attr = 3 → 8 ≤ e.depth → Gives .keyOperationDone s (fun b =>
      ends b St.keyDepth h ∧ kept b)) ∧
    (∀ c, r.d.opcode = 0x0805 → held → e.attr = 3 → e.depth < 8 → s.blk.freeCache = some c →
      slice (slice r.data 0 (r.d.op 0x1C 1)) 0 8 ≠ ascii "TSL9648-" → Gives .keyOperationDone s (fun b =>
        (b.cacheOf c).used = true ∧ (b.cacheOf c).attr = r.d.op 0x1A 1 ∧ (b.cacheOf c).depth = e.depth + 1 ∧
        (b.cacheOf c).parent = some (h % 256) ∧ (b.cacheOf c).entry = none ∧
        ((b.cacheOf c).long = true ↔ r.d.op 0x1B 1 = 1) ∧
        (∀ j, j ≠ c → b.cacheOf j = s.blk.cacheOf j) ∧ ends b St.done ((b.cacheOf c).gen * 256 + c) ∧
        b.key.store = s.blk.key.store ∧ s.blk.onlyIn [.hst, .key, .out, .regs] b)) ∧
    (r.d.opcode = 0x0806 → held → e.attr ≠ r.d.op 0x1A 1 % 2 → Gives .keyOperationDone s (fun b =>
      ends b St.keyAttr (e.attr * 2 ^ 16 + h) ∧ (∀ a x, Out.hostWrite a x ∈ b.out → Out.hostWrite a x ∈ s.blk.out) ∧ kept b)) ∧
    (r.d.opcode = 0x0806 → held → e.attr = r.d.op 0x1A 1 % 2 → Gives .keyOperationDone s (fun b =>
      (match cipher r.d e.key r.data r.aux with
      | none => ends b St.keyMicFail 0 ∧ ∀ a x, Out.hostWrite a x ∈ b.out → Out.hostWrite a x ∈ s.blk.out
      | some (a, x) => ends b St.done x.length ∧ (x ≠ [] → Out.hostWrite a x ∈ b.out)) ∧ kept b)) ∧
    (r.d.opcode = 0x0809 → Gives .keyOperationDone s (fun b =>
      Out.hostWrite (r.d.op 0x28 8) (Config.sha256 (slice r.data 0 (r.d.op 0x18 4))) ∈ b.out ∧ ends b St.done 0 ∧ kept b)))

/-! ## Tamper and life cycle (R466-R472) -/

/-- Tamper (R468-R472): a source that is enabled, as MESH and ENV always are, is latched, counted and kept as the first;
before READY was ever raised it locks the device out; in run it stops the site, ends key operations and zeroises the
host keys at once, and the air and internal keys AIR_HOLD later; in sleep it wakes the device sealed; in off it is
latched; a source's end leaves the latch; TAMPER_ACK needs a stop, no source, and the response while entry 0 is
present. -/
def Obligations.TamperDestroysTheKeys : Prop :=
  (∀ (s : State) (src : Fin 6) (ms : Nat) (high : Bool) (held : Nat),
    let b0 := s.blk
    let k := b0.key
    let en : Prop := src.val = 0 ∨ src.val = 5 ∨ (bitOf (b0.fld Reg.TMP_CFG 5 0) src.val = true ∧
      high ≠ bitOf (b0.fld Reg.TMP_EXT_CFG 19 16) (src.val - 1) ∧
      b0.fld Reg.TMP_EXT_CFG (4 * src.val - 1) (4 * src.val - 4) * 1000 ≤ held)
    let noted (phase : Nat) (b : Blk) : Prop := b.key.latch = setBit k.latch src.val ∧ b.key.live = setBit k.live src.val ∧
      b.key.count = min (k.count + 1) 0xFFFFFFFF ∧ b.key.first = (if k.first = 7 then src.val else k.first) ∧
      b.key.phase = (if k.first = 7 then phase else k.phase)
    (¬ en → b0.pwr.ready = (b0.readyCause s.ident == 0) →
      Gives (.tamperQualify src ms high held) s (fun b => b = b0)) ∧
    (en → b0.powered = true → b0.pwr.entering = none → k.readyOnce = false → Gives (.tamperQualify src ms high held) s (fun b =>
      noted 0 b ∧ b.key.lockout = true ∧ b.key.isSealed = true ∧ b.key.running = [] ∧ b.key.site = none ∧
      b.pwr.ready = false ∧ (bitOf b0.clp.a.active 10 = false → b.asserts 10) ∧ (∀ n, (b0.cacheOf n).used = true → (b.cacheOf n).used = false) ∧
      b.air.kp = [] ∧ b.air.kbcn = [])) ∧
    (en → b0.powered = true → b0.pwr.entering = none → k.readyOnce = true → Gives (.tamperQualify src ms high held) s (fun b =>
      noted b0.pwr.pstate b ∧ b.key.tampered = true ∧ b.key.running = [] ∧ b.key.update = none ∧ (bitOf b0.clp.a.active 10 = false → b.asserts 10) ∧
      (∀ n, (b0.cacheOf n).used = true → (b.cacheOf n).used = false) ∧ b.key.site = k.site ∧ b.air.kp = b0.air.kp ∧
      (∀ r ∈ k.running, ∃ dt, Ended b0 b r.d.id St.tamper dt) ∧
      (k.isSealed = false → k.holdAt = none → b.key.holdAt = some b0.elapsed) ∧
      (bitOf (b0.fld Reg.TMP_CFG 13 8) src.val = true → b.key.store = [] ∧ b.key.slotA = {} ∧ b.key.slotB = {}) ∧
      (bitOf (b0.fld Reg.TMP_CFG 13 8) src.val = false → b.key.store = k.store) ∧ b.key.lockout = k.lockout)) ∧
    (en → b0.pwr.pstate = 3 → b0.pwr.entering = none → Gives (.tamperQualify src ms high held) s (fun b =>
      noted 3 b ∧ b.pwr.pstate = 1 ∧ b.pwr.stage = 0 ∧ b.pwr.source = 3 ∧ b.key.isSealed = true ∧ b.key.site = none ∧
      b.air.kp = [] ∧ b.clp.a.stop = true ∧ b.clp.b.stop = true ∧ b.powered = ! b0.pwr.down)) ∧
    (en → b0.pwr.pstate = 4 → b0.pwr.entering = none → Gives (.tamperQualify src ms high held) s (fun b =>
      noted 4 b ∧ b.pwr.pstate = 4 ∧ b.clp = b0.clp ∧ b.key.slotA = k.slotA ∧ b.key.slotB = k.slotB))) ∧
  (∀ (s : State) (src : Fin 6), s.blk.runs .key = true → Gives (.tamperSourceInactive src) s (fun b =>
    b.key = { s.blk.key with live := clearBit s.blk.key.live src.val } ∧ s.blk.onlyIn [.key] b)) ∧
  (∀ (s : State) (t q : Nat), s.blk.powered = true → s.blk.key.holdAt = some q →
    let b0 := s.blk.moveTo t
    let due : Prop := q + s.blk.fld Reg.TMP_CFG 31 24 * 1000000 ≤ b0.elapsed
    (due → Gives (.airHoldExpiry t) s (fun b => b.key.isSealed = true ∧ b.key.site = none ∧ b.key.holdAt = none ∧
      b.air.kp = [] ∧ b.air.kbcn = [] ∧ (∀ m, (b.link m).kLink = [] ∧ (b.link m).kMsts = []) ∧ (∀ h, (b.head h).kHs = []) ∧
      b.key.latch = s.blk.key.latch ∧ b.key.store = s.blk.key.store ∧ b.pwr.ready = false)) ∧
    (¬ due → Gives (.airHoldExpiry t) s (fun b => b.key.isSealed = s.blk.key.isSealed ∧ b.air = s.blk.air ∧
      b.key.holdAt = some q ∧ s.blk.onlyIn [.evr, .inv, .key, .pwr, .regs] b))) ∧
  (∀ (s : State) (d : Desc), s.blk.powered = true → s.blk.starts d → s.blk.keyBar s.ident d.opcode = none →
    let k := s.blk.key
    let cleared (b : Blk) : Prop := b.key.latch = 0 ∧ b.key.first = 7 ∧ b.key.isSealed = false ∧ b.key.count = k.count ∧
      bitOf b.clp.a.active 10 = false ∧ bitOf b.clp.b.active 10 = false ∧ b.clp.a.stop = s.blk.clp.a.stop ∧
      b.key.chall = Tab.del k.chall 1 ∧ Completed s.blk b d St.done 0
    (k.lockout = true ∨ k.live ≠ 0 ∨ s.blk.stopped = false → Gives (.tamperAck d) s (fun b =>
      Completed s.blk b d St.denied 0 ∧ b.key.latch = k.latch ∧ b.key.isSealed = k.isSealed)) ∧
    (k.lockout = false → k.live = 0 → s.blk.stopped = true → s.blk.entry0 s.ident = none →
      Gives (.tamperAck d) s cleared) ∧
    (∀ site, k.lockout = false → k.live = 0 → s.blk.stopped = true → s.blk.entry0 s.ident = some site →
      Gives (.tamperAck d) s (fun b =>
        if s.blk.authentic 1 (s.blk.kTa site) (s.blk.u8 ++ beBytes 4 k.count) (slice d.bytes 0x18 16) = true then cleared b
        else Completed s.blk b d St.keyAuthFail 1 ∧ b.key.latch = k.latch ∧ b.key.chall = Tab.del k.chall 1 ∧
          s.blk.counts b Reg.KEY_AUTH_FAIL_COUNT)))

/-- LC_CHANGE (R466, R467): without a stop, during a store change, for a TARGET that the table does not give, or with a
wrong response it changes nothing of the life cycle or the keys; to SCRAPPED no response is asked; an accepted change
is counted in the fuses up to 63, destroys every key and both slots, and restarts the device with the site stopped. -/
def Obligations.LifeCycleChangesDestroyKeys : Prop :=
  ∀ (s : State) (d : Desc), s.blk.powered = true → s.blk.starts d → allZero d.bytes 0x19 7 = true →
    s.blk.keyBar s.ident d.opcode = none → s.blk.keyBar s.ident 0x080C = none →
    let b0 := s.blk
    let i := s.ident
    let code := d.op 0x18 1
    let listed : Prop := (i.lc = .manuf ∧ code = 3) ∨ (i.lc = .field ∧ code = 3) ∨ (i.lc = .field ∧ code = 4) ∨
      (i.lc = .rma ∧ code = 3) ∨ (i.lc ≠ .scrapped ∧ code = 5)
    let refused (st dt : Nat) : Prop := Gives (.lcChange d) s (fun b => Completed b0 b d st dt ∧
      b.key.slotA = b0.key.slotA ∧ b.key.slotB = b0.key.slotB ∧ b.key.store = b0.key.store ∧ b.key.site = b0.key.site ∧
      b.key.cache = b0.key.cache ∧ b.key.latch = b0.key.latch)
    let changes (new : LifeCycle) : Prop := ∃ b, exec (.lcChange d) s =
        .next { blk := b, ident := ⟨new, if i.lcCount = 63 then 63 else i.lcCount + 1⟩, pending := s.pending } ∧
      b.key.slotA = {} ∧ b.key.slotB = {} ∧ b.key.store = [] ∧ b.key.site = none ∧ b.key.cache = [] ∧ b.key.isSealed = true ∧
      b.key.latch = 0 ∧ b.key.first = 7 ∧ b.air.kp = [] ∧ b.air.kbcn = [] ∧ b.hdl.heads = [] ∧ b.pwr.stage = 0 ∧
      b.pwr.reason = 3 ∧ b.clp.a.stop = true ∧ b.clp.b.stop = true ∧ b.fleet.map = none ∧ b.pwr.ready = false ∧
      Completed b0 b d St.done 0
    (b0.stopped = false → refused St.denied 0) ∧
    (b0.stopped = true → b0.key.update ≠ none → refused St.busy 0) ∧
    (b0.stopped = true → b0.key.update = none → ¬ listed ∨ (i.lcCount = 63 ∧ code ≠ 5) →
      refused St.keyLcTarget i.lc.code) ∧
    (b0.stopped = true → b0.key.update = none → i.lc ≠ .scrapped → code = 5 → changes .scrapped) ∧
    (b0.stopped = true → b0.key.update = none → i.lcCount ≠ 63 → i.lc = .field → code = 3 → b0.entry0 i = none →
      changes .field) ∧
    (∀ new key, b0.stopped = true → b0.key.update = none → i.lcCount ≠ 63 →
      (i.lc = .manuf ∧ code = 3 ∧ new = .field ∧ key = b0.kLca i) ∨ (i.lc = .field ∧ code = 4 ∧ new = .rma ∧ key = b0.kLca i) ∨
        (i.lc = .rma ∧ code = 3 ∧ new = .field ∧ key = b0.kLca i) ∨
        (i.lc = .field ∧ code = 3 ∧ new = .field ∧ (b0.entry0 i).map b0.kTa = some key) →
      (if b0.authentic 0 key (b0.u8 ++ leBytes 1 code ++ leBytes 1 i.lcCount) (slice d.bytes 0x20 16) = true
        then changes new else refused St.keyAuthFail 0))

/-! ## The event recorder (R475-R486) -/

/-- Committing and reading (R475, R477, R482, R485): the records of the oldest staged block are committed to their
circulating positions and to the permanent area while it has room; a read fixes its end when it starts and copies, in
order, only committed records of its range, at most COUNT; an overtaken one says so. Clearing (R483, R484): without
K_RA, with a wrong response or during another clear EVR_CLEAR ends so; an accepted clear takes RSEQ N, waits for the
reads begun before it, commits CLEARED as RSEQ N with the rest of its block empty, and then empties every other
circulating block; the permanent area keeps every record. -/
def Obligations.RecordsAreCommittedReadAndCleared : Prop :=
  ((∀ s : State, s.blk.powered = true →
     let e := s.blk.evr
     (e.staging = [] → Gives (.recordCommit []) s (fun b => b = s.blk)) ∧
     (∀ r rest, e.staging = r :: rest → e.clear = none → e.dropped = 0 → Gives (.recordCommit []) s (fun b =>
       b.evr.staging = e.staging.filter (fun x => x.rseq / 4 != r.rseq / 4) ∧
       (∀ x ∈ e.staging, x.rseq / 4 = r.rseq / 4 → ∃ q ∈ b.evr.circ, q.1 = x.rseq % 16384 ∧ q.2.rseq % 16384 = q.1) ∧
       e.perm <+: b.evr.perm ∧ b.evr.perm.length =
         max e.perm.length (min 4096 (e.perm.length + (e.staging.filter (fun x => x.rseq / 4 == r.rseq / 4)).length)) ∧
       (rest = [] → b.evr.circ = Tab.put e.circ (r.rseq % 16384) r) ∧
       b.evr.next = e.next ∧ s.blk.onlyIn [.evr] b)) ∧
     (∀ r rest, e.staging = r :: rest → e.clear = none → 0 < e.dropped → e.staging.length ≤ 256 → Gives (.recordCommit []) s
       (fun b => b.evr.dropped = 0 ∧ b.evr.next = e.next + 1 ∧
         (∃ x, x ∈ b.evr.staging ∧ x.code = 0x0002 ∧ x.rseq = e.next ∧ x.args = leBytes 4 e.dropped) ∧
         s.blk.onlyIn [.evr, .regs] b))) ∧
   (∀ (s : State) (r : MramRead), s.blk.powered = true →
     Gives (.recordCommit [r]) s (fun b => s.blk.counts b Reg.MEM_MRAM_REREAD_COUNT r.rereads ∧
       (r.ok = true → b.mem = s.blk.mem ∧ s.blk.onlyIn [.evr, .regs] b) ∧
       (r.ok = false → s.blk.counts b Reg.MEM_MRAM_BAD_COUNT ∧
         b.mem.lastErr = word (4 * 2 ^ 28 + 10 * 2 ^ 24 + r.block % 2 ^ 20) ∧
         (256 ≤ r.block → r.block ≤ 288 → s.blk.key.slotA.blank = false → b.key.slotA.torn = true ∧
           b.key.slotB = s.blk.key.slotB) ∧
         (∀ k v, k < 2 → r.block = 5632 + k → s.blk.inv.secAt = k → s.blk.inv.olderSec = some v →
           b.inv.storedSec = v) ∧
         (∀ k, k < 2 → r.block = 5634 + k → k ≠ s.blk.hst.persistActive → b.hst.storedPlanes = s.blk.hst.storedPlanes ∧
           b.hst.persistValid = s.blk.hst.persistValid) ∧
         (∀ k, k < 3 → 5666 + 16 * k ≤ r.block → r.block < 5682 + 16 * k →
           b.pwr.surveys = Tab.del s.blk.pwr.surveys k)))) ∧
   (∀ (s : State) (d : Desc), s.blk.powered = true → s.blk.starts d →
     d.op 0x18 1 < 2 → allZero d.bytes 0x19 3 = true → 1 ≤ d.op 0x1C 4 → d.op 0x1C 4 ≤ 16384 → d.op 0x28 8 % 64 = 0 →
     (s.blk.evr.scanDone = false → Gives (.evrRead d) s (fun b => Completed s.blk b d St.notReady 0 ∧
       s.blk.onlyIn [.hst, .out] b)) ∧
     (s.blk.evr.scanDone = true → Gives (.evrRead d) s (fun b =>
       b.evr = { s.blk.evr with reads := s.blk.evr.reads ++
         [⟨d.id, d.op 0x18 1, d.op 0x20 8, d.op 0x1C 4, d.op 0x28 8, s.blk.evr.next⟩] } ∧
       b.out = s.blk.out ∧ s.blk.onlyIn [.evr, .hst] b))) ∧
   (∀ (s : State) (x : EvrRead) (rest : List EvrRead), s.blk.powered = true → s.blk.evr.reads = x :: rest →
     let e := s.blk.evr
     Gives .evrReadDone s (fun b => b.evr = { e with reads := rest } ∧ s.blk.onlyIn [.evr, .hst, .out] b ∧
       ∃ recs : List Rec, recs.length ≤ x.count ∧
         (recs ≠ [] → Out.hostWrite x.addr (recs.flatMap recBytes) ∈ b.out) ∧
         (x.area = 0 → Ended s.blk b x.id St.done recs.length ∧
           (e.permLost = [] → recs = ((e.perm.take x.n).drop x.fromR).take x.count) ∧
           (∀ r ∈ recs, ∃ i, e.perm[i]? = some r ∧ x.fromR ≤ i ∧ i < x.n ∧ i ∉ e.permLost)) ∧
         (x.area ≠ 0 → recs.Pairwise (fun a c => a.rseq < c.rseq) ∧
           (∀ r ∈ recs, x.fromR ≤ r.rseq ∧ e.oldest ≤ r.rseq ∧ r.rseq < x.n ∧ (r.rseq % 16384, r) ∈ e.circ ∧
             ∀ y ∈ e.staging, y.rseq ≠ r.rseq) ∧
           (Ended s.blk b x.id St.done recs.length ∨ Ended s.blk b x.id 0x20 recs.length) ∧
           ((∀ q ∈ e.circ, q.2.rseq % 16384 = q.1 ∧ q.2.rseq < x.n) → x.n ≤ e.next →
             Ended s.blk b x.id St.done recs.length))))) ∧
  ((∀ (s : State) (d : Desc), s.blk.powered = true → s.blk.starts d →
     let e := s.blk.evr
     (s.blk.key.site = none → Gives (.evrClear d) s (fun b => Completed s.blk b d 0x22 0 ∧ s.blk.onlyIn [.hst, .out] b)) ∧
     (∀ site, s.blk.key.site = some site → Gives (.evrClear d) s (fun b =>
       b.key = { s.blk.key with chall := Tab.del s.blk.key.chall 2 } ∧ s.blk.onlyIn [.evr, .hst, .key, .out, .regs] b ∧
       (if s.blk.authentic 2 (s.blk.kRa site) (s.blk.u8 ++ beBytes 8 e.next) (slice d.bytes 0x18 16) = false
         then Completed s.blk b d 0x21 0 ∧ Recorded s.blk b 0x0004 [] ∧ s.blk.counts b Reg.EVR_AUTH_FAIL_COUNT
         else (e.clear.isSome = true → Completed s.blk b d St.busy 0 ∧ b.evr = e) ∧
           (e.clear = none → b.evr = { e with clear := some ⟨d.id, e.next, e.oldest, false⟩, next := e.next + 1 } ∧
             b.out = s.blk.out))))) ∧
   (∀ (s : State) (c : EvrClear), s.blk.powered = true → s.blk.evr.clear = some c →
     let e := s.blk.evr
     (c.committed = true ∨ (∃ x ∈ e.reads, x.n ≤ c.n) → Gives .clearStart s (fun b => b = s.blk)) ∧
     (c.committed = false → (∀ x ∈ e.reads, c.n < x.n) → Gives .clearStart s (fun b =>
       b.evr.clear = some { c with committed := true } ∧ b.evr.cleared = c.n ∧
       (∃ r, b.evr.circ.find? (fun q => q.1 == c.n % 16384) = some (c.n % 16384, r) ∧ r.rseq = c.n ∧ r.code = 0x0003 ∧
         r.args = leBytes 8 c.oldestBefore ++ leBytes 4 (c.n - c.oldestBefore)) ∧
       (∀ q ∈ b.evr.circ, q.1 / 4 = c.n % 16384 / 4 → q.1 = c.n % 16384) ∧
       b.evr.staging = e.staging.filter (fun x => decide (c.n ≤ x.rseq)) ∧ e.perm <+: b.evr.perm ∧
       b.evr.next = e.next ∧ s.blk.onlyIn [.evr] b)) ∧
     (c.committed = false → Gives .clearComplete s (fun b => b = s.blk)) ∧
     (c.committed = true → Gives .clearComplete s (fun b =>
       b.evr.clear = none ∧ (∀ q ∈ b.evr.circ, q.2.rseq = c.n) ∧ (∀ q ∈ e.circ, q.2.rseq = c.n → q ∈ b.evr.circ) ∧
       b.evr.perm = e.perm ∧ b.evr.staging = e.staging ∧
       Ended s.blk b c.id St.done (c.n - c.oldestBefore) ∧
       s.blk.onlyIn [.evr, .hst, .out] b))))

/-! ## Power, boot and supplies (R406, R448, R489-R500, R510, R539) -/

/-- Power states (R489-R493, R499, R510): RUN and NIGHT are taken at once; SLEEP, OFF and a restart are refused with the
bits of R491 that fail; after an accepted SLEEP or OFF the entry ends with only AON powered, the fleet kept in SLEEP
and lost in OFF; a timer, PERST_N or a deferred wake brings a boot that keeps the site stopped; a restart keeps
nothing of the map. -/
def Obligations.PowerStatesAreEnteredAndLeft : Prop :=
  (∀ (s : State) (d : Desc), s.blk.powered = true → s.blk.starts d →
    let t := d.op 0x18 1
    let w := d.op 0x1C 4
    let why := (s.blk.started d).restRefusal
    (1 ≤ t → t ≤ 2 → allZero d.bytes 0x19 3 = true → w = 0 ∨ (20 ≤ w ∧ w ≤ 4000000) → Gives (.powerState d) s (fun b =>
      b.pwr = { s.blk.pwr with pstate := t } ∧ Completed s.blk b d St.done 0 ∧ b.powered = true ∧
      s.blk.onlyIn [.evr, .hst, .out, .pos, .pwr, .regs] b)) ∧
    (3 ≤ t → t ≤ 4 → allZero d.bytes 0x19 3 = true → w = 0 ∨ (20 ≤ w ∧ w ≤ 4000000) →
      (why ≠ 0 → Gives (.powerState d) s (fun b => Completed s.blk b d 0x21 why ∧ s.blk.onlyIn [.hst, .out] b)) ∧
      (why = 0 → Gives (.powerState d) s (fun b =>
        b.pwr = { s.blk.pwr with
          entry := some ⟨t, s.blk.nowFt64, s.blk.optime⟩, entering := some (t, w), wanted := none } ∧
        Completed s.blk b d St.done w ∧ s.blk.onlyIn [.evr, .hst, .out, .pwr, .regs] b))) ∧
    (why ≠ 0 → Gives (.systemRestart d) s (fun b => Completed s.blk b d 0x21 why ∧ b.fleet = s.blk.fleet ∧
      b.pwr.stage = s.blk.pwr.stage)) ∧
    (why = 0 → Gives (.systemRestart d) s (fun b => Completed s.blk b d St.done 0 ∧ b.pwr.stage = 0 ∧ b.pwr.pstate = 1 ∧
      b.pwr.reason = 3 ∧ b.pwr.source = 4 ∧ b.pwr.prev = s.blk.pwr.pstate ∧ b.pwr.pcc = s.blk.pwr.pcc ∧
      b.pwr.ready = false ∧ b.fleet.map = none ∧ b.fleet.epoch = 0 ∧ b.clp.a.stop = true ∧ b.clp.b.stop = true ∧
      bitOf b.clp.a.latch 11 = true ∧ b.regs = [] ∧ b.key.store = [] ∧ b.key.isSealed = true))) ∧
  (∀ (s : State) (t w : Nat), s.blk.pwr.entering = some (t, w) → t = 3 ∨ t = 4 →
    (s.blk.pwr.wanted ≠ some 3 ∨ t = 4 → Gives .sleepEntryDone s (fun b => b.pwr.pstate = t ∧ b.powered = false ∧
      b.pwr.wakeS = w ∧ b.pwr.entering = none ∧ b.pwr.ready = false ∧ b.pwr.linkUp = false ∧ b.evr.staging = [] ∧
      b.regs = s.blk.regs ∧ b.elapsed = s.blk.elapsed ∧
      (t = 3 → b.fleet = s.blk.fleet ∧ b.key.store = s.blk.key.store ∧ b.clp = s.blk.clp) ∧
      (t = 4 → b.fleet.map = none ∧ b.key.store = [] ∧ b.key.slotA = s.blk.key.slotA ∧ b.key.slotB = s.blk.key.slotB))) ∧
    (s.blk.pwr.wanted = some 3 → t = 3 → Gives .sleepEntryDone s (fun b => b.pwr.pstate = 1 ∧ b.pwr.stage = 0 ∧
      b.pwr.reason = 2 ∧ b.pwr.source = 3))) ∧
  (∀ s : State, s.blk.asleep = true → s.blk.pwr.down = false →
    let woken (source : Nat) (b : Blk) : Prop := b.pwr.pstate = 1 ∧ b.pwr.stage = 0 ∧ b.pwr.source = source ∧
      b.powered = true ∧ b.pwr.ready = false ∧ b.clp.a.stop = true ∧ b.clp.b.stop = true ∧ bitOf b.clp.a.latch 11 = true ∧
      (s.blk.pwr.pstate = 3 → b.pwr.reason = 2 ∧ b.pwr.prev = 3 ∧ b.pwr.pcc = s.blk.pwr.pcc ∧ b.fleet = s.blk.fleet ∧
        b.key.store = s.blk.key.store ∧ b.key.isSealed = s.blk.key.isSealed ∧ b.clp.s = s.blk.clp.s) ∧
      (s.blk.pwr.pstate = 4 → b.pwr.reason = 1 ∧ b.pwr.prev = 4 ∧ b.pwr.pcc = (s.blk.pwr.pcc + 1) % 2 ^ 24 ∧
        b.fleet.map = none ∧ b.key.lockout = false)
    let slept (ms : Nat) : Nat := (s.blk.sleepTo ms).optime - s.blk.pwr.asleepAt
    (s.blk.pwr.wakeS ≠ 0 → Gives .wakeTimer s (woken 2)) ∧
    (s.blk.pwr.wakeS = 0 → s.blk.pwr.ready = false → s.blk.readyCause s.ident ≠ 0 → Gives .wakeTimer s (fun b => b = s.blk)) ∧
    (∀ ms, 20000 ≤ slept ms → Gives (.perstNDeassert ms) s (woken 1)) ∧
    (∀ ms, slept ms < 20000 → Gives (.perstNDeassert ms) s (fun b => b.pwr.wanted = some 1 ∧ b.pwr.perstN = true ∧
      b.pwr.pstate = s.blk.pwr.pstate ∧ b.fleet = s.blk.fleet)) ∧
    (∀ src, s.blk.pwr.wanted = some src → Gives .deferredWake s (woken src))) ∧
  (∀ (s : State) (ms : Nat), s.blk.asleep = false → s.blk.pwr.entering = none → Gives (.perstNDeassert ms) s (fun b =>
    b.pwr.perstN = true ∧ b.pwr.pstate = s.blk.pwr.pstate ∧ b.fleet = s.blk.fleet ∧
    b.pwr.linkUp = (s.blk.pwr.linkUp || decide (3 ≤ s.blk.pwr.stage))))

/-- Boot and supplies (R406, R448, R462, R477, R478, R495-R500, R507, R539): a power-up counts a cycle and begins at RESET
with the site stopped and reset registers; each stage follows the one before it with its work done; a supply below its
brown-out level holds every island but AON; one outside its range holds READY low until it has recovered; READY is
high exactly while its cause word is 0. -/
def Obligations.BootReachesServiceStageByStage : Prop :=
  (∀ s : State,
    let bare (b : Blk) : Prop := b.fleet.map = none ∧ b.fleet.epoch = 0 ∧ b.key.store = [] ∧ b.key.isSealed = true ∧
      b.key.cache = [] ∧ b.hst.rings = [] ∧ b.evr.perm = s.blk.evr.perm ∧ b.evr.staging = [] ∧
      b.key.latch = s.blk.key.latch ∧ b.key.count = s.blk.key.count ∧ b.elapsed = s.blk.elapsed ∧
      b.out = s.blk.out ∧ b.pwr.ready = false
    Gives .powerUp s (fun b => bare b ∧ b.powered = true ∧ b.pwr.stage = 0 ∧ b.pwr.reason = 0 ∧
      b.pwr.pcc = (s.blk.pwr.pcc + 1) % 2 ^ 24 ∧ b.key.lockout = false ∧ b.regs = [] ∧ b.clp.a.stop = true ∧
      b.clp.b.stop = true ∧ bitOf b.clp.a.latch 11 = true ∧ bitOf b.clp.b.latch 11 = true ∧
      (bitOf b.clp.a.active 10 = true ↔ s.blk.key.latch ≠ 0) ∧ b.evr.circ = s.blk.evr.circ) ∧
    (s.blk.pwr.pstate ≠ 4 → ∀ torn, Gives (.brownOut torn) s (fun b => bare b ∧ b.powered = false ∧
      b.regs = s.blk.regs ∧ (torn = false → b.evr.circ = s.blk.evr.circ))) ∧
    (∀ torn, Gives (.vanaLoss torn) s (fun b => bare b ∧ b.powered = false ∧ b.key.live = 0 ∧ b.regs = s.blk.regs))) ∧
  (∀ (s : State) (rail : Fin 3), s.blk.powered = true →
    let bit := rail.val + 1
    Gives (.supplyOutOfRange rail) s (fun b => b.flag Reg.MON_STATUS bit = true ∧ b.pwr.ready = false ∧
      b.pwr.stage = s.blk.pwr.stage ∧ s.blk.onlyIn [.evr, .key, .pwr, .regs] b ∧
      s.blk.regsOnly [Reg.MON_STATUS, Reg.EVR_DROP_COUNT] b) ∧
    Gives (.supplyRecovered rail) s (fun b => b.flag Reg.MON_STATUS bit = false ∧
      (b.pwr.ready = true ↔ b.readyCause s.ident = 0) ∧ s.blk.onlyIn [.evr, .key, .pwr, .regs] b ∧
      s.blk.regsOnly [Reg.MON_STATUS, Reg.EVR_DROP_COUNT] b)) ∧
  (∀ (s : State) (dt : Nat), s.blk.powered = true →
    let p := s.blk.pwr
    let rot (b : Blk) (n : Nat) : Nat := (Tab.val b.mem.banks n {}).rot
    (∀ reads, Gives (.bootStageAdvance dt reads) s (fun b =>
      (b.pwr.ready = true ↔ b.readyCause s.ident = 0) ∧
      b.pwr.stage = (if p.stage = 5 then (if p.reason = 2 then 7 else if p.survey.isSome then 5 else 6)
        else if p.stage < 7 then p.stage + 1 else p.stage))) ∧
    Gives (.bootStageAdvance dt []) s (fun b =>
      (b.pwr.ready = true ↔ b.readyCause s.ident = 0) ∧ (b.pwr.ready = true → b.pwr.stage = 7) ∧
      (p.stage = 0 → b.pwr.stage = 1 ∧ b.inv.rcClock = false ∧
        (p.reason ≠ 2 → b.mem.clearDone = true ∧ ∀ n, n < 16 → rot b n = (rot s.blk n + 1) % 8) ∧
        (p.reason = 2 → b.mem = s.blk.mem)) ∧
      (p.stage = 1 → b.pwr.stage = 2 ∧ b.mem = s.blk.mem) ∧
      (p.stage = 2 → b.pwr.stage = 3 ∧ b.pwr.linkUp = p.perstN) ∧
      (p.stage = 3 → b.pwr.stage = 4 ∧ b.inv.ft = (s.blk.inv.storedSec + 10) * 1000000000 * 2 ^ 32 ∧
        b.elapsed = { s.blk with inv := { s.blk.inv with ft := s.blk.inv.ft + 2 ^ 32 * dt } }.elapsed ∧
        b.hst.planes = s.blk.hst.storedPlanes ∧ b.evr.scanDone = true ∧ b.evr.boot = [] ∧
        (p.reason ≠ 2 → p.ready = false → s.blk.evr.staging = [] → s.blk.evr.latched.length ≤ 64 →
          s.blk.evr.boot.length ≤ 64 → ∃ r, b.evr.staging.getLast? = some r ∧ r.code = 0x0001 ∧
            s.blk.evr.above + 4 ≤ r.rseq) ∧
        (p.reason = 2 → s.blk.hst.storedPlanes = false → ∀ off, off ∉ [Reg.AIR_CFG, Reg.EVR_DROP_COUNT] →
          b.reg off = Tab.val p.saved off (regReset off)) ∧
        (p.reason = 2 → b.flag Reg.AIR_CFG 0 = false ∧ b.flag Reg.AIR_CFG 1 = false)) ∧
      (p.stage = 4 → b.pwr.stage = 5 ∧
        (p.reason ≠ 2 → b.pwr.survey.isSome = true ∧
          (s.blk.key.latch = 0 → s.blk.key.lockout = false → b.key.isSealed = false) ∧
          (s.blk.key.latch ≠ 0 ∨ s.blk.key.lockout = true → b.key.isSealed = s.blk.key.isSealed)) ∧
        (p.reason = 2 → b.pwr.survey = p.survey ∧ b.key.isSealed = s.blk.key.isSealed)) ∧
      (p.stage = 5 → b.pwr.stage = (if p.reason = 2 then 7 else if p.survey.isSome then 5 else 6)) ∧
      (p.stage = 6 → b.pwr.stage = 7) ∧ (7 ≤ p.stage → b.pwr.stage = p.stage)))

/-! ## Surveys and WAKE_INFO (R502-R512) -/

/-- Surveys (R502, R503, R508-R511): one runs at a time, with the items whose condition holds; it ends with its result
stored with the next SEQ, an item that a release or a tamper cut short not counted as done, and a host survey written
and complete; the stored results are read by record; WAKE_INFO writes its 64 bytes. -/
def Obligations.SurveysRunStoreAndAreRead : Prop :=
  (∀ (s : State) (d : Desc), s.blk.powered = true → s.blk.starts d →
    d.op 0x18 1 < 128 → d.op 0x19 1 < 8 ∨ d.op 0x19 1 = 0xFF → allZero d.bytes 0x1A 2 = true → d.op 0x20 8 % 64 = 0 →
    let items := d.op 0x18 1
    let ran : Nat → Bool := fun k => bitOf items k && (match k with
      | 0 => true | 1 => s.blk.stopped | 2 => true | 3 => s.blk.stopped | 4 => true
      | 5 => !s.blk.flag Reg.AIR_CFG 0 && s.blk.pos.heads.isSome | _ => s.blk.flag Reg.AIR_CFG 0)
    (s.blk.pwr.survey ≠ none → Gives (.survey d) s (fun b => Completed s.blk b d 0x20 0 ∧ s.blk.onlyIn [.hst, .out] b)) ∧
    (s.blk.pwr.survey = none → d.op 0x1C 4 < resultBytes items → Gives (.survey d) s (fun b =>
      Completed s.blk b d 0x22 (resultBytes items) ∧ s.blk.onlyIn [.hst, .out] b)) ∧
    (s.blk.pwr.survey = none → resultBytes items ≤ d.op 0x1C 4 → Gives (.survey d) s (fun b =>
      (∃ v, b.pwr.survey = some v ∧ v.op = some d.id ∧ v.items = items ∧ v.addr = d.op 0x20 8 ∧ v.optime = s.blk.optime ∧
        (∀ k, k < 7 → bitOf v.done k = ran k)) ∧
      (items = 0x7F → resultBytes items = 3672) ∧
      (∀ n, n < 4 → ran 3 = true → s.blk.flag (Reg.CLP_ES_CFG n) 0 = true → bitOf b.clp.a.active n = true) ∧
      s.blk.onlyIn [.clp, .hdl, .hst, .out, .pwr] b))) ∧
  (∀ (s : State) (x : SurveyIn) (v : Survey), s.blk.powered = true → s.blk.pwr.survey = some v → v.items < 128 → v.done < 128 →
    let done := if v.cut then v.done &&& x.begun else if v.fieldCut then v.done &&& (x.begun ||| 0x75) else v.done
    let seq := s.blk.pwr.surveySeq + 1
    let place := if v.op.isSome then 2 else s.blk.pwr.surveyAlt % 2
    Gives (.surveyComplete x) s (fun b =>
      b.pwr.survey = none ∧ b.pwr.surveySeq = seq ∧ b.reg Reg.MON_SURVEY_SEQ = word seq ∧
      b.fld Reg.MON_SURVEY 31 24 = done ∧
      (∃ r, b.pwr.surveys.find? (fun p => p.1 == place) = some (place, r) ∧ r.seq = seq ∧
        slice r.data 0 4 = [0x54, 0x4C, 0x53, 0x56] ∧ byteAt r.data 6 = v.items ∧ byteAt r.data 7 = done ∧
        r.data.length = resultBytes v.items ∧ le r.data 8 4 = resultBytes v.items ∧ le r.data 0x28 4 = seq % 2 ^ 32 ∧
        (∀ id, v.op = some id → Out.hostWrite v.addr r.data ∈ b.out ∧ ∃ n, Ended s.blk b id St.done n)) ∧
      (v.op = none → b.out = s.blk.out ∧ b.pwr.surveyAlt = s.blk.pwr.surveyAlt + 1) ∧
      s.blk.onlyIn [.fresh, .hst, .out, .pwr, .regs] b ∧ s.blk.regsOnly [Reg.MON_SURVEY, Reg.MON_SURVEY_SEQ] b)) ∧
  (∀ (s : State) (d : Desc), s.blk.powered = true → s.blk.starts d → d.op 0x20 8 % 64 = 0 →
    (d.op 0x18 1 < 3 → allZero d.bytes 0x19 3 = true →
      (s.blk.storedSurvey (d.op 0x18 1) = none → Gives (.surveyRead d) s (fun b =>
        Completed s.blk b d 0x23 (d.op 0x18 1) ∧ s.blk.onlyIn [.hst, .out] b)) ∧
      (∀ r, s.blk.storedSurvey (d.op 0x18 1) = some r →
        (d.op 0x1C 4 < r.data.length → Gives (.surveyRead d) s (fun b => Completed s.blk b d 0x22 r.data.length ∧
          s.blk.onlyIn [.hst, .out] b)) ∧
        (r.data.length ≤ d.op 0x1C 4 → Gives (.surveyRead d) s (fun b => Completed s.blk b d St.done r.data.length ∧
          Out.hostWrite (d.op 0x20 8) r.data ∈ b.out ∧ s.blk.onlyIn [.hst, .out] b)))) ∧
    (allZero d.bytes 0x18 8 = true → Gives (.wakeInfo d) s (fun b => Completed s.blk b d St.done 0 ∧
      (∃ w, Out.hostWrite (d.op 0x20 8) w ∈ b.out ∧ w.length = 64 ∧ byteAt w 0 = s.blk.pwr.reason % 256 ∧
        byteAt w 1 = s.blk.pwr.source % 256 ∧ byteAt w 2 = s.blk.pwr.prev % 256 ∧ le w 4 4 = s.blk.pwr.pcc % 2 ^ 32 ∧
        le w 0x10 8 = s.blk.pwr.optWake % 2 ^ 64 ∧ le w 0x20 8 = s.blk.pwr.ftStart % 2 ^ 64 ∧
        le w 0x28 4 = s.blk.pwr.causeAtService % 2 ^ 32 ∧ le w 0x2C 4 = s.blk.pwr.bootMs % 2 ^ 32) ∧
      s.blk.onlyIn [.hst, .out] b)))

/-! ## The register space (R497, R513-R522) and monitoring (R527-R529) -/

/-- R514: an offset that its block does not define reads 0, and a write to it changes nothing and makes no report item. -/
def Obligations.ReservedOffsetsReadZero : Prop :=
  ∀ (s : State) (off : Nat) (w : Word), regDescAt off = none →
    s.blk.readReg s.ident off = 0 ∧
    (s.blk.powered = true → s.blk.inSvc = true → (s.blk.pwr.ready = true ↔ s.blk.readyCause s.ident = 0) →
      Gives (.registerWrite off w true) s (fun b => b = s.blk)) ∧
    (s.blk.powered = true → Gives (.latchedLoRead off) s (fun b => b.lastRead = 0 ∧ s.blk.onlyIn [.lastRead] b)) ∧
    (s.blk.powered = true → Gives (.readClearCounter off) s (fun b => b = s.blk))

/-- R516: a read of a latched LO register captures its HI registers, which then return what was captured; each LO read
overwrites the holding copy; a HI read returns 0 where nothing was captured; the LO half of a pair that is applied on
its HI write is held until then, and a second LO write replaces the first. -/
def Obligations.LatchedPairsReadTogether : Prop :=
  (∀ (s : State) (off : Nat), s.blk.powered = true →
    let b0 := s.blk
    let read (hi v : Nat) : Prop := Gives (.latchedLoRead off) s (fun b =>
      b.lastRead = b0.readReg s.ident off ∧ b.readReg s.ident hi = word v ∧ s.blk.onlyIn [.lastRead, .latch] b)
    (off = Reg.SYS_OPTIME_LO → read Reg.SYS_OPTIME_HI (b0.optime / 2 ^ 32)) ∧
    (off = Reg.MAP_EPOCH_LO → read Reg.MAP_EPOCH_HI (b0.fleet.epoch / 2 ^ 32)) ∧
    (off = Reg.CLP_STOP_EPOCH_LO → read Reg.CLP_STOP_EPOCH_HI (b0.clp.s / 2 ^ 32)) ∧
    (off = Reg.CLP_WC_LO → read Reg.CLP_WC_HI (b0.wc / 2 ^ 32)) ∧
    (off = Reg.INV_TIME_SEC_LO → read Reg.INV_TIME_SEC_HI (b0.now / 1000000000 / 2 ^ 32 % 2 ^ 16) ∧
      read Reg.INV_TIME_NS (b0.now % 1000000000) ∧ read Reg.INV_TIME_FRAC (b0.inv.ft % 2 ^ 32 / 2 ^ 16)) ∧
    (off = Reg.INV_OFFSET_LO → read Reg.INV_OFFSET_HI (b0.offsetNow / 2 ^ 32 % 2 ^ 32).toNat) ∧
    (off = Reg.INV_UTC_LO → read Reg.INV_UTC_HI (b0.utcNow / 2 ^ 32 % 2 ^ 32).toNat) ∧
    (off = Reg.EVR_NEXT_LO → read Reg.EVR_NEXT_HI (b0.evrNext / 2 ^ 32)) ∧
    (off = Reg.EVR_OLDEST_LO → read Reg.EVR_OLDEST_HI (b0.evrOldest / 2 ^ 32)) ∧
    (∀ n, n < 48 → off = Reg.CTL_AX_INTEG_LO n → read (Reg.CTL_AX_INTEG_HI n) ((b0.axis n).loop.i / 2 ^ 32 % 2 ^ 8).toNat)) ∧
  (∀ (b : Blk) (i : Ident) (hi : Nat), latchedHi hi = true → (∀ p ∈ b.latch, p.1 ≠ hi) → b.readReg i hi = 0) ∧
  (∀ (s : State) (lo : Nat) (w : Word), s.blk.powered = true → s.blk.inSvc = true →
    lo = Reg.INV_INC_LO ∨ lo = Reg.INV_UTC_OFF_LO → (s.blk.pwr.ready = true ↔ s.blk.readyCause s.ident = 0) →
    Gives (.registerWrite lo w true) s (fun b => Tab.val b.heldLo lo 0 = w ∧ b.incVal = s.blk.incVal ∧
      b.utcOff = s.blk.utcOff ∧ (∀ k, k ≠ lo → Tab.val b.heldLo k 0 = Tab.val s.blk.heldLo k 0) ∧
      s.blk.onlyIn [.heldLo] b))

/-- Writes and reading counters (R497, R515, R517, R519-R522): nothing is written before SERVICE; a write with a byte
enable clear is counted and ignored; a field outside its range takes the nearer bound with a report, one in range is
taken; a register marked (S) keeps its value while no stop is asserted; a read of a counter returns it and clears it
alone. -/
def Obligations.RegisterWritesAreCheckedByField : Prop :=
  (∀ (s : State) (off : Nat) (w : Word) (full : Bool), s.blk.powered = true →
    (s.blk.pwr.ready = true ↔ s.blk.readyCause s.ident = 0) →
    (s.blk.inSvc = false → Gives (.registerWrite off w full) s (fun b => b = s.blk)) ∧
    (s.blk.inSvc = true → full = false → Gives (.registerWrite off w full) s (fun b =>
      s.blk.counts b Reg.SYS_ACC_ERR_COUNT ∧ s.blk.onlyIn [.regs] b ∧ s.blk.regsOnly [Reg.SYS_ACC_ERR_COUNT] b)) ∧
    (s.blk.inSvc = true → full = true → off = Reg.SYS_SCRATCH → Gives (.registerWrite off w full) s (fun b =>
      b.readReg s.ident off = w ∧ s.blk.onlyIn [.regs] b ∧ s.blk.regsOnly [Reg.SYS_SCRATCH] b)) ∧
    (s.blk.inSvc = true → full = true → off = Reg.DVT_ARB_CFG →
      let burst := fieldOf w 23 16
      let air := fieldOf w 11 8
      let host := fieldOf w 3 0
      let bad := b2n (burst = 0 ∨ 64 < burst) + b2n (air = 0) + b2n (host = 0)
      Gives (.registerWrite off w full) s (fun b =>
        b.fld off 23 16 = max 1 (min 64 burst) ∧ b.fld off 11 8 = max 1 air ∧ b.fld off 3 0 = max 1 host ∧
        s.blk.counts b Reg.SYS_CLAMP_COUNT bad ∧ (0 < bad → b.reg Reg.SYS_LAST_CLAMP = word off) ∧
        s.blk.onlyIn [.evr, .mem, .regs] b ∧
        s.blk.regsOnly ([off, Reg.SYS_CLAMP_COUNT, Reg.SYS_LAST_CLAMP] ++ itemRegs) b)) ∧
    (s.blk.inSvc = true → full = true → off = Reg.CLP_REL_CFG → s.blk.stopped = false →
      Gives (.registerWrite off w full) s (fun b => b.reg off = s.blk.reg off ∧ b.clp = s.blk.clp ∧
        (w = s.blk.reg off → b.reg Reg.SYS_CLAMP_COUNT = s.blk.reg Reg.SYS_CLAMP_COUNT) ∧
        s.blk.onlyIn [.evr, .mem, .regs] b ∧ s.blk.regsOnly ([Reg.SYS_CLAMP_COUNT, Reg.SYS_LAST_CLAMP] ++ itemRegs) b))) ∧
  (∀ (s : State) (off k : Nat) (d : RegDesc), s.blk.powered = true → regDescAt off = some (d, k) →
    rcMask d.fields = 0xFFFFFFFF → off ≠ Reg.GNS_JAM_STATUS → off ≠ Reg.MON_TEMP_PEAK →
    Gives (.readClearCounter off) s (fun b => b.lastRead = s.blk.readReg s.ident off ∧ b.reg off = 0 ∧
      s.blk.onlyIn [.lastRead, .regs] b ∧ s.blk.regsOnly [off] b))
end

