-- ==== Sys2Proof/Laws/Only.lean ====
section
/-! SUPPORT. Sys2Proof/Laws/Only.lean: how `Blk.onlyIn` and `Blk.regsOnly` pass through the updates of one part: with
these a claim about what a meaning leaves unchanged is proved without unfolding the operations it is written with. -/

namespace Sys2Proof.Machine

open Sys2Proof

theorem Blk.same_refl (b : Blk) (p : Part) : b.same b p := by cases p <;> rfl

theorem Blk.same_trans {a b c : Blk} {p : Part} (h : a.same b p) (k : b.same c p) : a.same c p := by
  cases p <;> exact Eq.trans k h

@[simp] theorem Blk.onlyIn_refl (ps : List Part) (b : Blk) : b.onlyIn ps b := fun p _ => b.same_refl p

theorem Blk.onlyIn_trans {ps : List Part} {a b c : Blk} (h : a.onlyIn ps b) (k : b.onlyIn ps c) : a.onlyIn ps c :=
  fun p hp => Blk.same_trans (h p hp) (k p hp)

theorem Blk.onlyIn_mono {ps qs : List Part} {a b : Blk} (h : a.onlyIn ps b) (k : ps ⊆ qs) : a.onlyIn qs b :=
  fun p hp => h p (fun x => hp (k x))

theorem Blk.same_symm {a b : Blk} {p : Part} (h : a.same b p) : b.same a p := by cases p <;> exact Eq.symm h

/-- A change within `ps` does not matter to a claim about what lies outside `ps`. -/
theorem Blk.onlyIn_iff {ps : List Part} {a b c : Blk} (h : b.onlyIn ps c) : a.onlyIn ps c ↔ a.onlyIn ps b :=
  ⟨fun k p hp => Blk.same_trans (k p hp) (Blk.same_symm (h p hp)), fun k => Blk.onlyIn_trans k h⟩

@[simp] theorem Blk.regsOnly_refl (os : List Nat) (b : Blk) : b.regsOnly os b := fun _ _ => rfl

theorem Blk.regsOnly_trans {os : List Nat} {a b c : Blk} (h : a.regsOnly os b) (k : b.regsOnly os c) :
    a.regsOnly os c := fun o ho => (k o ho).trans (h o ho)

theorem Blk.regsOnly_mono {os us : List Nat} {a b : Blk} (h : a.regsOnly os b) (k : os ⊆ us) : a.regsOnly us b :=
  fun o ho => h o (fun x => ho (k x))

/-- A change of registers within `os` does not matter to a claim about those outside. -/
theorem Blk.regsOnly_iff {os : List Nat} {a b c : Blk} (h : b.regsOnly os c) : a.regsOnly os c ↔ a.regsOnly os b :=
  ⟨fun k o ho => (h o ho).symm.trans (k o ho), fun k => Blk.regsOnly_trans k h⟩

/-- What leaves the register store alone leaves every register. -/
theorem Blk.regsOnly_of_regs {os : List Nat} {b c : Blk} (h : c.regs = b.regs) : b.regsOnly os c :=
  fun o _ => by simp [Blk.reg, h]

/-- What changes nothing outside parts other than the register store leaves every register. -/
theorem Blk.onlyIn_regs {ps : List Part} {b c : Blk} (h : b.onlyIn ps c) (k : Part.regs ∉ ps) (os : List Nat) :
    b.regsOnly os c := Blk.regsOnly_of_regs (h .regs k)

/-! ## Folds -/

theorem Blk.foldl_onlyIn {α : Type} {ps : List Part} {a : Blk} {f : Blk → α → Blk}
    (h : ∀ (b : Blk) x, b.onlyIn ps (f b x)) (l : List α) (b : Blk) : a.onlyIn ps (l.foldl f b) ↔ a.onlyIn ps b := by
  induction l generalizing b with
  | nil => rfl
  | cons x l ih => rw [List.foldl_cons, ih, Blk.onlyIn_iff (h b x)]

theorem Blk.foldl_regsOnly {α : Type} {os : List Nat} {a : Blk} {f : Blk → α → Blk}
    (h : ∀ (b : Blk) x, b.regsOnly os (f b x)) (l : List α) (b : Blk) : a.regsOnly os (l.foldl f b) ↔ a.regsOnly os b := by
  induction l generalizing b with
  | nil => rfl
  | cons x l ih => rw [List.foldl_cons, ih, Blk.regsOnly_iff (h b x)]

/-! ## One part replaced -/

@[simp] theorem Blk.with_uid_onlyIn {ps : List Part} {a : Blk} (b : Blk) x (h : Part.uid ∈ ps) :
    a.onlyIn ps { b with uid := x } ↔ a.onlyIn ps b :=
  Blk.onlyIn_iff (fun p hp => by cases p <;> first | rfl | exact absurd h hp)

@[simp] theorem Blk.with_uid_regsOnly {os : List Nat} {a : Blk} (b : Blk) x :
    a.regsOnly os { b with uid := x } ↔ a.regsOnly os b := Iff.rfl

@[simp] theorem Blk.with_regs_onlyIn {ps : List Part} {a : Blk} (b : Blk) x (h : Part.regs ∈ ps) :
    a.onlyIn ps { b with regs := x } ↔ a.onlyIn ps b :=
  Blk.onlyIn_iff (fun p hp => by cases p <;> first | rfl | exact absurd h hp)

@[simp] theorem Blk.with_latch_onlyIn {ps : List Part} {a : Blk} (b : Blk) x (h : Part.latch ∈ ps) :
    a.onlyIn ps { b with latch := x } ↔ a.onlyIn ps b :=
  Blk.onlyIn_iff (fun p hp => by cases p <;> first | rfl | exact absurd h hp)

@[simp] theorem Blk.with_latch_regsOnly {os : List Nat} {a : Blk} (b : Blk) x :
    a.regsOnly os { b with latch := x } ↔ a.regsOnly os b := Iff.rfl

@[simp] theorem Blk.with_heldLo_onlyIn {ps : List Part} {a : Blk} (b : Blk) x (h : Part.heldLo ∈ ps) :
    a.onlyIn ps { b with heldLo := x } ↔ a.onlyIn ps b :=
  Blk.onlyIn_iff (fun p hp => by cases p <;> first | rfl | exact absurd h hp)

@[simp] theorem Blk.with_heldLo_regsOnly {os : List Nat} {a : Blk} (b : Blk) x :
    a.regsOnly os { b with heldLo := x } ↔ a.regsOnly os b := Iff.rfl

@[simp] theorem Blk.with_out_onlyIn {ps : List Part} {a : Blk} (b : Blk) x (h : Part.out ∈ ps) :
    a.onlyIn ps { b with out := x } ↔ a.onlyIn ps b :=
  Blk.onlyIn_iff (fun p hp => by cases p <;> first | rfl | exact absurd h hp)

@[simp] theorem Blk.with_out_regsOnly {os : List Nat} {a : Blk} (b : Blk) x :
    a.regsOnly os { b with out := x } ↔ a.regsOnly os b := Iff.rfl

@[simp] theorem Blk.with_lastRead_onlyIn {ps : List Part} {a : Blk} (b : Blk) x (h : Part.lastRead ∈ ps) :
    a.onlyIn ps { b with lastRead := x } ↔ a.onlyIn ps b :=
  Blk.onlyIn_iff (fun p hp => by cases p <;> first | rfl | exact absurd h hp)

@[simp] theorem Blk.with_lastRead_regsOnly {os : List Nat} {a : Blk} (b : Blk) x :
    a.regsOnly os { b with lastRead := x } ↔ a.regsOnly os b := Iff.rfl

@[simp] theorem Blk.with_fresh_onlyIn {ps : List Part} {a : Blk} (b : Blk) x (h : Part.fresh ∈ ps) :
    a.onlyIn ps { b with fresh := x } ↔ a.onlyIn ps b :=
  Blk.onlyIn_iff (fun p hp => by cases p <;> first | rfl | exact absurd h hp)

@[simp] theorem Blk.with_fresh_regsOnly {os : List Nat} {a : Blk} (b : Blk) x :
    a.regsOnly os { b with fresh := x } ↔ a.regsOnly os b := Iff.rfl

@[simp] theorem Blk.with_hst_onlyIn {ps : List Part} {a : Blk} (b : Blk) x (h : Part.hst ∈ ps) :
    a.onlyIn ps { b with hst := x } ↔ a.onlyIn ps b :=
  Blk.onlyIn_iff (fun p hp => by cases p <;> first | rfl | exact absurd h hp)

@[simp] theorem Blk.with_hst_regsOnly {os : List Nat} {a : Blk} (b : Blk) x :
    a.regsOnly os { b with hst := x } ↔ a.regsOnly os b := Iff.rfl

@[simp] theorem Blk.with_mem_onlyIn {ps : List Part} {a : Blk} (b : Blk) x (h : Part.mem ∈ ps) :
    a.onlyIn ps { b with mem := x } ↔ a.onlyIn ps b :=
  Blk.onlyIn_iff (fun p hp => by cases p <;> first | rfl | exact absurd h hp)

@[simp] theorem Blk.with_mem_regsOnly {os : List Nat} {a : Blk} (b : Blk) x :
    a.regsOnly os { b with mem := x } ↔ a.regsOnly os b := Iff.rfl

@[simp] theorem Blk.with_evr_onlyIn {ps : List Part} {a : Blk} (b : Blk) x (h : Part.evr ∈ ps) :
    a.onlyIn ps { b with evr := x } ↔ a.onlyIn ps b :=
  Blk.onlyIn_iff (fun p hp => by cases p <;> first | rfl | exact absurd h hp)

@[simp] theorem Blk.with_evr_regsOnly {os : List Nat} {a : Blk} (b : Blk) x :
    a.regsOnly os { b with evr := x } ↔ a.regsOnly os b := Iff.rfl

@[simp] theorem Blk.with_inv_onlyIn {ps : List Part} {a : Blk} (b : Blk) x (h : Part.inv ∈ ps) :
    a.onlyIn ps { b with inv := x } ↔ a.onlyIn ps b :=
  Blk.onlyIn_iff (fun p hp => by cases p <;> first | rfl | exact absurd h hp)

@[simp] theorem Blk.with_inv_regsOnly {os : List Nat} {a : Blk} (b : Blk) x :
    a.regsOnly os { b with inv := x } ↔ a.regsOnly os b := Iff.rfl

@[simp] theorem Blk.with_fleet_onlyIn {ps : List Part} {a : Blk} (b : Blk) x (h : Part.fleet ∈ ps) :
    a.onlyIn ps { b with fleet := x } ↔ a.onlyIn ps b :=
  Blk.onlyIn_iff (fun p hp => by cases p <;> first | rfl | exact absurd h hp)

@[simp] theorem Blk.with_fleet_regsOnly {os : List Nat} {a : Blk} (b : Blk) x :
    a.regsOnly os { b with fleet := x } ↔ a.regsOnly os b := Iff.rfl

@[simp] theorem Blk.with_dvt_onlyIn {ps : List Part} {a : Blk} (b : Blk) x (h : Part.dvt ∈ ps) :
    a.onlyIn ps { b with dvt := x } ↔ a.onlyIn ps b :=
  Blk.onlyIn_iff (fun p hp => by cases p <;> first | rfl | exact absurd h hp)

@[simp] theorem Blk.with_dvt_regsOnly {os : List Nat} {a : Blk} (b : Blk) x :
    a.regsOnly os { b with dvt := x } ↔ a.regsOnly os b := Iff.rfl

@[simp] theorem Blk.with_clp_onlyIn {ps : List Part} {a : Blk} (b : Blk) x (h : Part.clp ∈ ps) :
    a.onlyIn ps { b with clp := x } ↔ a.onlyIn ps b :=
  Blk.onlyIn_iff (fun p hp => by cases p <;> first | rfl | exact absurd h hp)

@[simp] theorem Blk.with_clp_regsOnly {os : List Nat} {a : Blk} (b : Blk) x :
    a.regsOnly os { b with clp := x } ↔ a.regsOnly os b := Iff.rfl

@[simp] theorem Blk.with_axs_onlyIn {ps : List Part} {a : Blk} (b : Blk) x (h : Part.axs ∈ ps) :
    a.onlyIn ps { b with axs := x } ↔ a.onlyIn ps b :=
  Blk.onlyIn_iff (fun p hp => by cases p <;> first | rfl | exact absurd h hp)

@[simp] theorem Blk.with_axs_regsOnly {os : List Nat} {a : Blk} (b : Blk) x :
    a.regsOnly os { b with axs := x } ↔ a.regsOnly os b := Iff.rfl

@[simp] theorem Blk.with_air_onlyIn {ps : List Part} {a : Blk} (b : Blk) x (h : Part.air ∈ ps) :
    a.onlyIn ps { b with air := x } ↔ a.onlyIn ps b :=
  Blk.onlyIn_iff (fun p hp => by cases p <;> first | rfl | exact absurd h hp)

@[simp] theorem Blk.with_air_regsOnly {os : List Nat} {a : Blk} (b : Blk) x :
    a.regsOnly os { b with air := x } ↔ a.regsOnly os b := Iff.rfl

@[simp] theorem Blk.with_hdl_onlyIn {ps : List Part} {a : Blk} (b : Blk) x (h : Part.hdl ∈ ps) :
    a.onlyIn ps { b with hdl := x } ↔ a.onlyIn ps b :=
  Blk.onlyIn_iff (fun p hp => by cases p <;> first | rfl | exact absurd h hp)

@[simp] theorem Blk.with_hdl_regsOnly {os : List Nat} {a : Blk} (b : Blk) x :
    a.regsOnly os { b with hdl := x } ↔ a.regsOnly os b := Iff.rfl

@[simp] theorem Blk.with_gns_onlyIn {ps : List Part} {a : Blk} (b : Blk) x (h : Part.gns ∈ ps) :
    a.onlyIn ps { b with gns := x } ↔ a.onlyIn ps b :=
  Blk.onlyIn_iff (fun p hp => by cases p <;> first | rfl | exact absurd h hp)

@[simp] theorem Blk.with_gns_regsOnly {os : List Nat} {a : Blk} (b : Blk) x :
    a.regsOnly os { b with gns := x } ↔ a.regsOnly os b := Iff.rfl

@[simp] theorem Blk.with_pos_onlyIn {ps : List Part} {a : Blk} (b : Blk) x (h : Part.pos ∈ ps) :
    a.onlyIn ps { b with pos := x } ↔ a.onlyIn ps b :=
  Blk.onlyIn_iff (fun p hp => by cases p <;> first | rfl | exact absurd h hp)

@[simp] theorem Blk.with_pos_regsOnly {os : List Nat} {a : Blk} (b : Blk) x :
    a.regsOnly os { b with pos := x } ↔ a.regsOnly os b := Iff.rfl

@[simp] theorem Blk.with_key_onlyIn {ps : List Part} {a : Blk} (b : Blk) x (h : Part.key ∈ ps) :
    a.onlyIn ps { b with key := x } ↔ a.onlyIn ps b :=
  Blk.onlyIn_iff (fun p hp => by cases p <;> first | rfl | exact absurd h hp)

@[simp] theorem Blk.with_key_regsOnly {os : List Nat} {a : Blk} (b : Blk) x :
    a.regsOnly os { b with key := x } ↔ a.regsOnly os b := Iff.rfl

@[simp] theorem Blk.with_pwr_onlyIn {ps : List Part} {a : Blk} (b : Blk) x (h : Part.pwr ∈ ps) :
    a.onlyIn ps { b with pwr := x } ↔ a.onlyIn ps b :=
  Blk.onlyIn_iff (fun p hp => by cases p <;> first | rfl | exact absurd h hp)

@[simp] theorem Blk.with_pwr_regsOnly {os : List Nat} {a : Blk} (b : Blk) x :
    a.regsOnly os { b with pwr := x } ↔ a.regsOnly os b := Iff.rfl

@[simp] theorem Blk.modHst_onlyIn {ps : List Part} {a : Blk} (b : Blk) f (h : Part.hst ∈ ps) :
    a.onlyIn ps (b.modHst f) ↔ a.onlyIn ps b := Blk.with_hst_onlyIn b _ h

@[simp] theorem Blk.modHst_regsOnly {os : List Nat} {a : Blk} (b : Blk) f :
    a.regsOnly os (b.modHst f) ↔ a.regsOnly os b := Iff.rfl

@[simp] theorem Blk.modMem_onlyIn {ps : List Part} {a : Blk} (b : Blk) f (h : Part.mem ∈ ps) :
    a.onlyIn ps (b.modMem f) ↔ a.onlyIn ps b := Blk.with_mem_onlyIn b _ h

@[simp] theorem Blk.modMem_regsOnly {os : List Nat} {a : Blk} (b : Blk) f :
    a.regsOnly os (b.modMem f) ↔ a.regsOnly os b := Iff.rfl

@[simp] theorem Blk.modEvr_onlyIn {ps : List Part} {a : Blk} (b : Blk) f (h : Part.evr ∈ ps) :
    a.onlyIn ps (b.modEvr f) ↔ a.onlyIn ps b := Blk.with_evr_onlyIn b _ h

@[simp] theorem Blk.modEvr_regsOnly {os : List Nat} {a : Blk} (b : Blk) f :
    a.regsOnly os (b.modEvr f) ↔ a.regsOnly os b := Iff.rfl

@[simp] theorem Blk.modInv_onlyIn {ps : List Part} {a : Blk} (b : Blk) f (h : Part.inv ∈ ps) :
    a.onlyIn ps (b.modInv f) ↔ a.onlyIn ps b := Blk.with_inv_onlyIn b _ h

@[simp] theorem Blk.modInv_regsOnly {os : List Nat} {a : Blk} (b : Blk) f :
    a.regsOnly os (b.modInv f) ↔ a.regsOnly os b := Iff.rfl

@[simp] theorem Blk.modFleet_onlyIn {ps : List Part} {a : Blk} (b : Blk) f (h : Part.fleet ∈ ps) :
    a.onlyIn ps (b.modFleet f) ↔ a.onlyIn ps b := Blk.with_fleet_onlyIn b _ h

@[simp] theorem Blk.modFleet_regsOnly {os : List Nat} {a : Blk} (b : Blk) f :
    a.regsOnly os (b.modFleet f) ↔ a.regsOnly os b := Iff.rfl

@[simp] theorem Blk.modDvt_onlyIn {ps : List Part} {a : Blk} (b : Blk) f (h : Part.dvt ∈ ps) :
    a.onlyIn ps (b.modDvt f) ↔ a.onlyIn ps b := Blk.with_dvt_onlyIn b _ h

@[simp] theorem Blk.modDvt_regsOnly {os : List Nat} {a : Blk} (b : Blk) f :
    a.regsOnly os (b.modDvt f) ↔ a.regsOnly os b := Iff.rfl

@[simp] theorem Blk.modClp_onlyIn {ps : List Part} {a : Blk} (b : Blk) f (h : Part.clp ∈ ps) :
    a.onlyIn ps (b.modClp f) ↔ a.onlyIn ps b := Blk.with_clp_onlyIn b _ h

@[simp] theorem Blk.modClp_regsOnly {os : List Nat} {a : Blk} (b : Blk) f :
    a.regsOnly os (b.modClp f) ↔ a.regsOnly os b := Iff.rfl

@[simp] theorem Blk.modAxs_onlyIn {ps : List Part} {a : Blk} (b : Blk) f (h : Part.axs ∈ ps) :
    a.onlyIn ps (b.modAxs f) ↔ a.onlyIn ps b := Blk.with_axs_onlyIn b _ h

@[simp] theorem Blk.modAxs_regsOnly {os : List Nat} {a : Blk} (b : Blk) f :
    a.regsOnly os (b.modAxs f) ↔ a.regsOnly os b := Iff.rfl

@[simp] theorem Blk.modAir_onlyIn {ps : List Part} {a : Blk} (b : Blk) f (h : Part.air ∈ ps) :
    a.onlyIn ps (b.modAir f) ↔ a.onlyIn ps b := Blk.with_air_onlyIn b _ h

@[simp] theorem Blk.modAir_regsOnly {os : List Nat} {a : Blk} (b : Blk) f :
    a.regsOnly os (b.modAir f) ↔ a.regsOnly os b := Iff.rfl

@[simp] theorem Blk.modHdl_onlyIn {ps : List Part} {a : Blk} (b : Blk) f (h : Part.hdl ∈ ps) :
    a.onlyIn ps (b.modHdl f) ↔ a.onlyIn ps b := Blk.with_hdl_onlyIn b _ h

@[simp] theorem Blk.modHdl_regsOnly {os : List Nat} {a : Blk} (b : Blk) f :
    a.regsOnly os (b.modHdl f) ↔ a.regsOnly os b := Iff.rfl

@[simp] theorem Blk.modGns_onlyIn {ps : List Part} {a : Blk} (b : Blk) f (h : Part.gns ∈ ps) :
    a.onlyIn ps (b.modGns f) ↔ a.onlyIn ps b := Blk.with_gns_onlyIn b _ h

@[simp] theorem Blk.modGns_regsOnly {os : List Nat} {a : Blk} (b : Blk) f :
    a.regsOnly os (b.modGns f) ↔ a.regsOnly os b := Iff.rfl

@[simp] theorem Blk.modPos_onlyIn {ps : List Part} {a : Blk} (b : Blk) f (h : Part.pos ∈ ps) :
    a.onlyIn ps (b.modPos f) ↔ a.onlyIn ps b := Blk.with_pos_onlyIn b _ h

@[simp] theorem Blk.modPos_regsOnly {os : List Nat} {a : Blk} (b : Blk) f :
    a.regsOnly os (b.modPos f) ↔ a.regsOnly os b := Iff.rfl

@[simp] theorem Blk.modKey_onlyIn {ps : List Part} {a : Blk} (b : Blk) f (h : Part.key ∈ ps) :
    a.onlyIn ps (b.modKey f) ↔ a.onlyIn ps b := Blk.with_key_onlyIn b _ h

@[simp] theorem Blk.modKey_regsOnly {os : List Nat} {a : Blk} (b : Blk) f :
    a.regsOnly os (b.modKey f) ↔ a.regsOnly os b := Iff.rfl

@[simp] theorem Blk.modPwr_onlyIn {ps : List Part} {a : Blk} (b : Blk) f (h : Part.pwr ∈ ps) :
    a.onlyIn ps (b.modPwr f) ↔ a.onlyIn ps b := Blk.with_pwr_onlyIn b _ h

@[simp] theorem Blk.modPwr_regsOnly {os : List Nat} {a : Blk} (b : Blk) f :
    a.regsOnly os (b.modPwr f) ↔ a.regsOnly os b := Iff.rfl

end Sys2Proof.Machine
end

