-- ==== Sys2Proof/Laws/Regs.lean ====
section
/-! SUPPORT. Sys2Proof/Laws/Regs.lean: sparse tables and the register store: a read after a write, and what counters,
flags, free values and the outbox leave. -/

namespace Sys2Proof.Machine

open Sys2Proof

theorem Tab.val_put {α : Type} (t : Tab α) (i j : Nat) (x d : α) :
    Tab.val (Tab.put t i x) j d = if i = j then x else Tab.val t j d := by
  induction t with
  | nil => simp [Tab.put, Tab.val]
  | cons p t ih =>
    obtain ⟨k, y⟩ := p
    unfold Tab.put
    by_cases hk : k = i
    · subst hk; by_cases hj : k = j <;> simp [Tab.val, hj]
    · rw [if_neg hk]
      by_cases hl : i < k
      · rw [if_pos hl]; simp [Tab.val]
      · rw [if_neg hl]
        by_cases hj : k = j
        · subst hj; simp [Tab.val, Ne.symm hk]
        · simp [Tab.val, hj, ih]

@[simp] theorem Tab.val_put_same {α : Type} (t : Tab α) (i : Nat) (x d : α) : Tab.val (Tab.put t i x) i d = x := by
  simp [Tab.val_put]

theorem Tab.val_put_ne {α : Type} (t : Tab α) {i j : Nat} (x d : α) (h : i ≠ j) :
    Tab.val (Tab.put t i x) j d = Tab.val t j d := by simp [Tab.val_put, h]

theorem Blk.reg_setReg (b : Blk) (i j : Nat) (w : Word) :
    (b.setReg i w).reg j = if i = j then w else b.reg j := by
  simp [Blk.setReg, Blk.reg, Tab.val_put]

@[simp] theorem Blk.reg_setReg_same (b : Blk) (i : Nat) (w : Word) : (b.setReg i w).reg i = w := by
  simp [Blk.reg_setReg]

theorem Blk.reg_setReg_ne (b : Blk) {i j : Nat} (w : Word) (h : i ≠ j) : (b.setReg i w).reg j = b.reg j := by
  simp [Blk.reg_setReg, h]

@[simp] theorem Blk.setReg_onlyIn {ps : List Part} {a : Blk} (b : Blk) (i : Nat) (w : Word) (h : Part.regs ∈ ps) :
    a.onlyIn ps (b.setReg i w) ↔ a.onlyIn ps b := Blk.with_regs_onlyIn b _ h

@[simp] theorem Blk.setReg_regsOnly {os : List Nat} {a : Blk} (b : Blk) (i : Nat) (w : Word) (h : i ∈ os) :
    a.regsOnly os (b.setReg i w) ↔ a.regsOnly os b :=
  Blk.regsOnly_iff (fun _ ho => Blk.reg_setReg_ne b w (fun e => ho (e ▸ h)))

@[simp] theorem Blk.bump_onlyIn {ps : List Part} {a : Blk} (b : Blk) (i n : Nat) (h : Part.regs ∈ ps) :
    a.onlyIn ps (b.bump i n) ↔ a.onlyIn ps b := Blk.setReg_onlyIn b _ _ h

@[simp] theorem Blk.bump_regsOnly {os : List Nat} {a : Blk} (b : Blk) (i n : Nat) (h : i ∈ os) :
    a.regsOnly os (b.bump i n) ↔ a.regsOnly os b := Blk.setReg_regsOnly b _ _ h

@[simp] theorem Blk.setFlag_onlyIn {ps : List Part} {a : Blk} (b : Blk) (i n : Nat) (h : Part.regs ∈ ps) :
    a.onlyIn ps (b.setFlag i n) ↔ a.onlyIn ps b := Blk.setReg_onlyIn b _ _ h

@[simp] theorem Blk.setFlag_regsOnly {os : List Nat} {a : Blk} (b : Blk) (i n : Nat) (h : i ∈ os) :
    a.regsOnly os (b.setFlag i n) ↔ a.regsOnly os b := Blk.setReg_regsOnly b _ _ h

@[simp] theorem Blk.clrFlag_onlyIn {ps : List Part} {a : Blk} (b : Blk) (i n : Nat) (h : Part.regs ∈ ps) :
    a.onlyIn ps (b.clrFlag i n) ↔ a.onlyIn ps b := Blk.setReg_onlyIn b _ _ h

@[simp] theorem Blk.clrFlag_regsOnly {os : List Nat} {a : Blk} (b : Blk) (i n : Nat) (h : i ∈ os) :
    a.regsOnly os (b.clrFlag i n) ↔ a.regsOnly os b := Blk.setReg_regsOnly b _ _ h

@[simp] theorem Blk.emit_onlyIn {ps : List Part} {a : Blk} (b : Blk) (o : Out) (h : Part.out ∈ ps) :
    a.onlyIn ps (b.emit o) ↔ a.onlyIn ps b := Blk.with_out_onlyIn b _ h

@[simp] theorem Blk.emit_regsOnly {os : List Nat} {a : Blk} (b : Blk) (o : Out) :
    a.regsOnly os (b.emit o) ↔ a.regsOnly os b := Iff.rfl

@[simp] theorem Blk.free_onlyIn {ps : List Part} {a : Blk} (b : Blk) (h : Part.fresh ∈ ps) :
    a.onlyIn ps b.free.2 ↔ a.onlyIn ps b := Blk.with_fresh_onlyIn b _ h

@[simp] theorem Blk.free_regsOnly {os : List Nat} {a : Blk} (b : Blk) :
    a.regsOnly os b.free.2 ↔ a.regsOnly os b := Iff.rfl

@[simp] theorem Blk.moveTo_onlyIn {ps : List Part} {a : Blk} (b : Blk) (t : Nat) (h : Part.inv ∈ ps) :
    a.onlyIn ps (b.moveTo t) ↔ a.onlyIn ps b := by
  unfold Blk.moveTo; split
  · exact Blk.with_inv_onlyIn b _ h
  · rfl

@[simp] theorem Blk.moveTo_regsOnly {os : List Nat} {a : Blk} (b : Blk) (t : Nat) :
    a.regsOnly os (b.moveTo t) ↔ a.regsOnly os b := by unfold Blk.moveTo; split <;> rfl

/-- A timed command brings fleet time to its instant, unless it already stands there or later. -/
theorem Blk.moveTo_ft (b : Blk) (t : Nat) : (b.moveTo t).inv.ft = max b.inv.ft (2 ^ 32 * t) := by
  unfold Blk.moveTo
  by_cases h : b.inv.ft < 2 ^ 32 * t
  · rw [if_pos h]; exact (Nat.max_eq_right (Nat.le_of_lt h)).symm
  · rw [if_neg h]; exact (Nat.max_eq_left (Nat.le_of_not_lt h)).symm

end Sys2Proof.Machine
end

