-- ==== Sys2Proof/Laws/Frames.lean ====
section
/-! SUPPORT. Sys2Proof/Laws/Frames.lean: the frame of every operation on the working state: a claim `a.onlyIn ps` about what
an operation gives holds exactly when it holds of what the operation was given, wherever `ps` contains the parts that the
operation may change, which are the hypotheses of its lemma. -/

namespace Sys2Proof.Machine

open Sys2Proof

set_option linter.all false
set_option linter.unusedVariables false

theorem Blk.ite_onlyIn {ps : List Part} {a : Blk} {c : Prop} [Decidable c] (x y : Blk) :
    a.onlyIn ps (if c then x else y) ↔ if c then a.onlyIn ps x else a.onlyIn ps y := by split <;> rfl
@[simp] theorem Blk.with_regs_hst_onlyIn {ps : List Part} {a : Blk} (b : Blk) x y (h : Part.regs ∈ ps) (k : Part.hst
    ∈ ps) :
    a.onlyIn ps { b with regs := x, hst := y } ↔ a.onlyIn ps b :=
  Blk.onlyIn_iff (fun p hp => by cases p <;> first | rfl | exact absurd h hp | exact absurd k hp)
@[simp] theorem Blk.with_fleet_dvt_onlyIn {ps : List Part} {a : Blk} (b : Blk) x y (h : Part.fleet ∈ ps) (k :
    Part.dvt ∈ ps) :
    a.onlyIn ps { b with fleet := x, dvt := y } ↔ a.onlyIn ps b :=
  Blk.onlyIn_iff (fun p hp => by cases p <;> first | rfl | exact absurd h hp | exact absurd k hp)
@[simp] theorem Blk.with_out_hst_onlyIn {ps : List Part} {a : Blk} (b : Blk) x y (h : Part.out ∈ ps) (k : Part.hst ∈
    ps) :
    a.onlyIn ps { b with out := x, hst := y } ↔ a.onlyIn ps b :=
  Blk.onlyIn_iff (fun p hp => by cases p <;> first | rfl | exact absurd h hp | exact absurd k hp)
@[simp] theorem Blk.setRing_onlyIn {ps : List Part} {a : Blk} (b : Blk) (n : Nat) (r : Ring) (h0 : Part.hst ∈ ps) :
    a.onlyIn ps ((Blk.setRing b n r)) ↔ a.onlyIn ps b := by
  unfold Blk.setRing; (repeat' split) <;> simp [h0]
@[simp] theorem Blk.setQueue_onlyIn {ps : List Part} {a : Blk} (b : Blk) (n : Nat) (q : Queue) (h0 : Part.mem ∈ ps) :
    a.onlyIn ps ((Blk.setQueue b n q)) ↔ a.onlyIn ps b := by
  unfold Blk.setQueue; (repeat' split) <;> simp [h0]
@[simp] theorem Blk.setAxis_onlyIn {ps : List Part} {a : Blk} (b : Blk) (n : Nat) (x : Axis) (h0 : Part.axs ∈ ps) :
    a.onlyIn ps ((Blk.setAxis b n x)) ↔ a.onlyIn ps b := by
  unfold Blk.setAxis; (repeat' split) <;> simp [h0]
@[simp] theorem Blk.setLink_onlyIn {ps : List Part} {a : Blk} (b : Blk) (m : Nat) (l : Link) (h0 : Part.air ∈ ps) :
    a.onlyIn ps ((Blk.setLink b m l)) ↔ a.onlyIn ps b := by
  unfold Blk.setLink; (repeat' split) <;> simp [h0]
@[simp] theorem Blk.accept_onlyIn {ps : List Part} {a : Blk} (b : Blk) (r : Rec) (h0 : Part.evr ∈ ps) (h1 : Part.regs
    ∈ ps) :
    a.onlyIn ps ((Blk.accept b r)) ↔ a.onlyIn ps b := by
  unfold Blk.accept; (repeat' split) <;> simp [h0, h1]
@[simp] theorem Blk.record_onlyIn {ps : List Part} {a : Blk} (b : Blk) (code : Nat) (args : Bytes) (h0 : Part.evr ∈
    ps) (h1 : Part.regs ∈ ps) :
    a.onlyIn ps ((Blk.record b code args)) ↔ a.onlyIn ps b := by
  unfold Blk.record; (repeat' split) <;> simp [h0, h1]
@[simp] theorem Blk.memError_onlyIn {ps : List Part} {a : Blk} (b : Blk) (kind master bank addr : Nat) (h0 : Part.evr
    ∈ ps) (h1 : Part.mem ∈ ps) (h2 : Part.regs ∈ ps) :
    a.onlyIn ps ((Blk.memError b kind master bank addr)) ↔ a.onlyIn ps b := by
  unfold Blk.memError; (repeat' split) <;> simp [h0, h1, h2]
@[simp] theorem Blk.reserve_onlyIn {ps : List Part} {a : Blk} (b : Blk) (n typ flags : Nat) (data : Bytes) (h0 :
    Part.mem ∈ ps) (h1 : Part.regs ∈ ps) :
    a.onlyIn ps ((Blk.reserve b n typ flags data)) ↔ a.onlyIn ps b := by
  unfold Blk.reserve; dsimp only; (repeat' split) <;> simp [h0, h1]
@[simp] theorem Blk.flushQueue_onlyIn {ps : List Part} {a : Blk} (b : Blk) (n : Nat) (h0 : Part.mem ∈ ps) (h1 :
    Part.regs ∈ ps) :
    a.onlyIn ps ((Blk.flushQueue b n)) ↔ a.onlyIn ps b := by
  unfold Blk.flushQueue; simp [h0, h1, Blk.foldl_onlyIn, Blk.ite_onlyIn]
@[simp] theorem Blk.resetQueue_onlyIn {ps : List Part} {a : Blk} (b : Blk) (n : Nat) (h0 : Part.evr ∈ ps) (h1 :
    Part.mem ∈ ps) (h2 : Part.regs ∈ ps) :
    a.onlyIn ps ((Blk.resetQueue b n)) ↔ a.onlyIn ps b := by
  unfold Blk.resetQueue; dsimp only; (repeat' split) <;> simp [h0, h1, h2]
@[simp] theorem Blk.checkQueue_onlyIn {ps : List Part} {a : Blk} (b : Blk) (n : Nat) (h0 : Part.evr ∈ ps) (h1 :
    Part.mem ∈ ps) (h2 : Part.regs ∈ ps) :
    a.onlyIn ps ((Blk.checkQueue b n)) ↔ a.onlyIn ps b := by
  unfold Blk.checkQueue; (repeat' split) <;> simp [h0, h1, h2]
@[simp] theorem Blk.queueEdge_onlyIn {ps : List Part} {a : Blk} (b : Blk) (n : Nat) (opens : List OpenItem) (h0 :
    Part.mem ∈ ps) :
    a.onlyIn ps ((Blk.queueEdge b n opens)) ↔ a.onlyIn ps b := by
  unfold Blk.queueEdge; (repeat' split) <;> simp [h0]
@[simp] theorem Blk.produce_onlyIn {ps : List Part} {a : Blk} (b : Blk) (n typ : Nat) (data : Bytes) (flags : Nat)
    (h0 : Part.evr ∈ ps) (h1 : Part.mem ∈ ps) (h2 : Part.regs ∈ ps) :
    a.onlyIn ps ((Blk.produce b n typ data flags)) ↔ a.onlyIn ps b := by
  unfold Blk.produce; dsimp only; (repeat' split) <;> simp [h0, h1, h2]
@[simp] theorem Blk.report_onlyIn {ps : List Part} {a : Blk} (b : Blk) (off msb lsb cause flags requested applied :
    Nat) (h0 : Part.evr ∈ ps) (h1 : Part.mem ∈ ps) (h2 : Part.regs ∈ ps) :
    a.onlyIn ps ((Blk.report b off msb lsb cause flags requested applied)) ↔ a.onlyIn ps b := by
  unfold Blk.report; (repeat' split) <;> simp [h0, h1, h2]
@[simp] theorem Blk.sendMsix_onlyIn {ps : List Part} {a : Blk} (b : Blk) (v : Nat) (h0 : Part.hst ∈ ps) (h1 :
    Part.out ∈ ps) :
    a.onlyIn ps ((Blk.sendMsix b v)) ↔ a.onlyIn ps b := by
  unfold Blk.sendMsix; (repeat' split) <;> simp [h0, h1]
@[simp] theorem Blk.writeEntry_onlyIn {ps : List Part} {a : Blk} (b : Blk) (cq : Nat) (e : Entry) (h0 : Part.hst ∈
    ps) (h1 : Part.out ∈ ps) :
    a.onlyIn ps ((Blk.writeEntry b cq e)) ↔ a.onlyIn ps b := by
  unfold Blk.writeEntry; (repeat' split) <;> simp [h0, h1]
@[simp] theorem Blk.announce_onlyIn {ps : List Part} {a : Blk} (b : Blk) (cq : Nat) (h0 : Part.hst ∈ ps) (h1 :
    Part.out ∈ ps) :
    a.onlyIn ps ((Blk.announce b cq)) ↔ a.onlyIn ps b := by
  unfold Blk.announce; dsimp only; (repeat' split) <;> simp [h0, h1]
@[simp] theorem Blk.flushHeld_onlyIn {ps : List Part} {a : Blk} (b : Blk) (cq : Nat) (h0 : Part.hst ∈ ps) (h1 :
    Part.out ∈ ps) :
    a.onlyIn ps ((Blk.flushHeld b cq)) ↔ a.onlyIn ps b := by
  unfold Blk.flushHeld; simp [h0, h1, Blk.foldl_onlyIn, Blk.ite_onlyIn]
@[simp] theorem Blk.cqProduce_onlyIn {ps : List Part} {a : Blk} (b : Blk) (cq : Nat) (e : Entry) (force : Bool) (h0 :
    Part.hst ∈ ps) (h1 : Part.out ∈ ps) :
    a.onlyIn ps ((Blk.cqProduce b cq e force)) ↔ a.onlyIn ps b := by
  unfold Blk.cqProduce; dsimp only; (repeat' split) <;> simp [h0, h1]
@[simp] theorem Blk.ringError_onlyIn {ps : List Part} {a : Blk} (b : Blk) (n status detail : Nat) (h0 : Part.hst ∈
    ps) (h1 : Part.out ∈ ps) :
    a.onlyIn ps ((Blk.ringError b n status detail)) ↔ a.onlyIn ps b := by
  unfold Blk.ringError; dsimp only; (repeat' split) <;> simp [h0, h1]
@[simp] theorem Blk.deliver_onlyIn {ps : List Part} {a : Blk} (b : Blk) (id : OpId) (e : Entry) (h0 : Part.hst ∈ ps)
    (h1 : Part.out ∈ ps) :
    a.onlyIn ps ((Blk.deliver b id e)) ↔ a.onlyIn ps b := by
  unfold Blk.deliver; (repeat' split) <;> simp [h0, h1]
@[simp] theorem Blk.runPlane_onlyIn {ps : List Part} {a : Blk} (b : Blk) (n : Nat) (flush : Bool) (h0 : Part.hst ∈
    ps) (h1 : Part.out ∈ ps) :
    a.onlyIn ps ((Blk.runPlane b n flush)) ↔ a.onlyIn ps b := by
  unfold Blk.runPlane; simp [h0, h1, Blk.foldl_onlyIn, Blk.ite_onlyIn]
@[simp] theorem Blk.completeAt_onlyIn {ps : List Part} {a : Blk} (b : Blk) (id : OpId) (status detail epoch time :
    Nat) (h0 : Part.hst ∈ ps) (h1 : Part.out ∈ ps) :
    a.onlyIn ps ((Blk.completeAt b id status detail epoch time)) ↔ a.onlyIn ps b := by
  unfold Blk.completeAt; dsimp only; (repeat' split) <;> simp [h0, h1]
@[simp] theorem Blk.complete_onlyIn {ps : List Part} {a : Blk} (b : Blk) (id : OpId) (status detail : Nat) (h0 :
    Part.hst ∈ ps) (h1 : Part.out ∈ ps) :
    a.onlyIn ps ((Blk.complete b id status detail)) ↔ a.onlyIn ps b := by
  unfold Blk.complete; (repeat' split) <;> simp [h0, h1]
@[simp] theorem Blk.done_onlyIn {ps : List Part} {a : Blk} (b : Blk) (id : OpId) (detail : Nat) (h0 : Part.hst ∈ ps)
    (h1 : Part.out ∈ ps) :
    a.onlyIn ps ((Blk.done b id detail)) ↔ a.onlyIn ps b := by
  unfold Blk.done; (repeat' split) <;> simp [h0, h1]
@[simp] theorem Blk.bad_onlyIn {ps : List Part} {a : Blk} (b : Blk) (id : OpId) (reason off : Nat) (h0 : Part.hst ∈
    ps) (h1 : Part.out ∈ ps) :
    a.onlyIn ps ((Blk.bad b id reason off)) ↔ a.onlyIn ps b := by
  unfold Blk.bad; (repeat' split) <;> simp [h0, h1]
@[simp] theorem Blk.endVisit_onlyIn {ps : List Part} {a : Blk} (b : Blk) (eligible : Bool) (h0 : Part.hst ∈ ps) :
    a.onlyIn ps ((Blk.endVisit b eligible)) ↔ a.onlyIn ps b := by
  unfold Blk.endVisit; (repeat' split) <;> simp [h0]
@[simp] theorem Blk.recheck_onlyIn {ps : List Part} {a : Blk} (b : Blk) (h0 : Part.hst ∈ ps) :
    a.onlyIn ps ((Blk.recheck b)) ↔ a.onlyIn ps b := by
  unfold Blk.recheck; (repeat' split) <;> simp [h0]
@[simp] theorem Blk.enter_onlyIn {ps : List Part} {a : Blk} (b : Blk) (id : OpId) (fence : Bool) (h0 : Part.hst ∈ ps)
    :
    a.onlyIn ps ((Blk.enter b id fence)) ↔ a.onlyIn ps b := by
  unfold Blk.enter; (repeat' split) <;> simp [h0]
@[simp] theorem Blk.hold_onlyIn {ps : List Part} {a : Blk} (b : Blk) (d : Desc) (h0 : Part.hst ∈ ps) :
    a.onlyIn ps ((Blk.hold b d)) ↔ a.onlyIn ps b := by
  unfold Blk.hold; (repeat' split) <;> simp [h0]
@[simp] theorem Blk.startRaw_onlyIn {ps : List Part} {a : Blk} (b : Blk) (d : Desc) (f : Blk → Blk) (hf : ∀ c,
    Blk.onlyIn ps c (f c)) (h0 : Part.hst ∈ ps) :
    a.onlyIn ps (b.startRaw d f) ↔ a.onlyIn ps b := by
  unfold Blk.startRaw; dsimp only; split
  · simp [h0, Blk.foldl_onlyIn, Blk.ite_onlyIn]
  · rw [Blk.onlyIn_iff (hf _)]; simp [h0, Blk.foldl_onlyIn, Blk.ite_onlyIn]
@[simp] theorem Blk.start_onlyIn {ps : List Part} {a : Blk} (b : Blk) (d : Desc) (f : Blk → Blk) (hf : ∀ c,
    Blk.onlyIn ps c (f c)) (h0 : Part.hst ∈ ps) (h1 : Part.out ∈ ps) :
    a.onlyIn ps (b.start d f) ↔ a.onlyIn ps b := by
  unfold Blk.start
  refine Blk.startRaw_onlyIn b d _ (fun c => ?_) (by assumption)
  split
  · simp [h0, h1, Blk.foldl_onlyIn, Blk.ite_onlyIn]
  · exact hf c
@[simp] theorem Blk.applyField_onlyIn {ps : List Part} {a : Blk} (b : Blk) (off : Nat) (f : FieldDesc) (w : Word) (ok
    : Bool) (h0 : Part.evr ∈ ps) (h1 : Part.mem ∈ ps) (h2 : Part.regs ∈ ps) :
    a.onlyIn ps ((Blk.applyField b off f w ok)) ↔ a.onlyIn ps b := by
  unfold Blk.applyField; dsimp only; (repeat' split) <;> simp [h0, h1, h2]
@[simp] theorem Blk.storeField_onlyIn {ps : List Part} {a : Blk} (b : Blk) (off : Nat) (f : FieldDesc) (w : Word) (h0
    : Part.regs ∈ ps) :
    a.onlyIn ps ((Blk.storeField b off f w)) ↔ a.onlyIn ps b := by
  unfold Blk.storeField; (repeat' split) <;> simp [h0]
@[simp] theorem Blk.applyFields_onlyIn {ps : List Part} {a : Blk} (b : Blk) (off : Nat) (w : Word) (cond : Blk →
    FieldDesc → Bool) (fs : List FieldDesc) (h0 : Part.evr ∈ ps) (h1 : Part.mem ∈ ps) (h2 : Part.regs ∈ ps) :
    a.onlyIn ps (b.applyFields off w cond fs) ↔ a.onlyIn ps b := by
  induction fs generalizing b with
  | nil => rfl
  | cons f fs ih => unfold Blk.applyFields; split <;> simp [ih, h0, h1, h2, Blk.foldl_onlyIn, Blk.ite_onlyIn]
@[simp] theorem Blk.clearW1c_onlyIn {ps : List Part} {a : Blk} (b : Blk) (off : Nat) (w : Word) (fs : List FieldDesc)
    (h0 : Part.regs ∈ ps) :
    a.onlyIn ps ((Blk.clearW1c b off w fs)) ↔ a.onlyIn ps b := by
  unfold Blk.clearW1c; dsimp only; (repeat' split) <;> simp [h0]
@[simp] theorem Blk.syncReady_onlyIn {ps : List Part} {a : Blk} (b : Blk) (i : Ident) (h0 : Part.evr ∈ ps) (h1 :
    Part.key ∈ ps) (h2 : Part.pwr ∈ ps) (h3 : Part.regs ∈ ps) :
    a.onlyIn ps ((Blk.syncReady b i)) ↔ a.onlyIn ps b := by
  unfold Blk.syncReady; dsimp only; (repeat' split) <;> simp [h0, h1, h2, h3]
@[simp] theorem Blk.checked_onlyIn {ps : List Part} {a : Blk} (b : Blk) (d : Desc) (cs : List (Bool × Nat × Nat)) (f
    : Blk → Blk) (hf : ∀ c, Blk.onlyIn ps c (f c)) (h0 : Part.hst ∈ ps) (h1 : Part.out ∈ ps) :
    a.onlyIn ps (b.checked d cs f) ↔ a.onlyIn ps b := by
  unfold Blk.checked; split
  · simp [h0, h1, Blk.foldl_onlyIn, Blk.ite_onlyIn]
  · exact Blk.onlyIn_iff (hf b)
@[simp] theorem Blk.dbRange_onlyIn {ps : List Part} {a : Blk} (b : Blk) (n v : Nat) (h0 : Part.hst ∈ ps) (h1 :
    Part.out ∈ ps) (h2 : Part.regs ∈ ps) :
    a.onlyIn ps ((Blk.dbRange b n v)) ↔ a.onlyIn ps b := by
  unfold Blk.dbRange; (repeat' split) <;> simp [h0, h1, h2]
@[simp] theorem Blk.sqDoorbell_onlyIn {ps : List Part} {a : Blk} (b : Blk) (n v : Nat) (h0 : Part.hst ∈ ps) (h1 :
    Part.out ∈ ps) (h2 : Part.regs ∈ ps) :
    a.onlyIn ps ((Blk.sqDoorbell b n v)) ↔ a.onlyIn ps b := by
  unfold Blk.sqDoorbell; dsimp only; (repeat' split) <;> simp [h0, h1, h2]
@[simp] theorem Blk.freeBound_onlyIn {ps : List Part} {a : Blk} (b : Blk) (cq old new size : Nat) (h0 : Part.mem ∈
    ps) :
    a.onlyIn ps ((Blk.freeBound b cq old new size)) ↔ a.onlyIn ps b := by
  unfold Blk.freeBound; (repeat' split) <;> simp [h0]
@[simp] theorem Blk.arm_onlyIn {ps : List Part} {a : Blk} (b : Blk) (cq : Nat) (h0 : Part.hst ∈ ps) (h1 : Part.out ∈
    ps) :
    a.onlyIn ps ((Blk.arm b cq)) ↔ a.onlyIn ps b := by
  unfold Blk.arm; dsimp only; (repeat' split) <;> simp [h0, h1]
@[simp] theorem Blk.cqDoorbell_onlyIn {ps : List Part} {a : Blk} (b : Blk) (n v : Nat) (h0 : Part.hst ∈ ps) (h1 :
    Part.mem ∈ ps) (h2 : Part.out ∈ ps) (h3 : Part.regs ∈ ps) :
    a.onlyIn ps ((Blk.cqDoorbell b n v)) ↔ a.onlyIn ps b := by
  unfold Blk.cqDoorbell; dsimp only; (repeat' split) <;> simp [h0, h1, h2, h3]
@[simp] theorem Blk.doorbell_onlyIn {ps : List Part} {a : Blk} (b : Blk) (n : Nat) (value : BitVec 64) (half :
    DbHalf) (cq : Bool) (h0 : Part.hst ∈ ps) (h1 : Part.mem ∈ ps) (h2 : Part.out ∈ ps) (h3 : Part.regs ∈ ps) :
    a.onlyIn ps ((Blk.doorbell b n value half cq)) ↔ a.onlyIn ps b := by
  unfold Blk.doorbell; (repeat' split) <;> simp [h0, h1, h2, h3]
@[simp] theorem Blk.readSlots_onlyIn {ps : List Part} {a : Blk} (b : Blk) (n i k : Nat) (h0 : Part.out ∈ ps) :
    a.onlyIn ps ((Blk.readSlots b n i k)) ↔ a.onlyIn ps b := by
  unfold Blk.readSlots; simp [h0, Blk.foldl_onlyIn, Blk.ite_onlyIn]
@[simp] theorem Blk.fetch_onlyIn {ps : List Part} {a : Blk} (b : Blk) (nslot : Nat) (h0 : Part.hst ∈ ps) (h1 :
    Part.out ∈ ps) :
    a.onlyIn ps ((Blk.fetch b nslot)) ↔ a.onlyIn ps b := by
  unfold Blk.fetch; dsimp only; (repeat' split) <;> simp [h0, h1]
@[simp] theorem Blk.advance_onlyIn {ps : List Part} {a : Blk} (b : Blk) (n k : Nat) (h0 : Part.hst ∈ ps) (h1 :
    Part.out ∈ ps) :
    a.onlyIn ps ((Blk.advance b n k)) ↔ a.onlyIn ps b := by
  unfold Blk.advance; dsimp only; (repeat' split) <;> simp [h0, h1]
@[simp] theorem Blk.useTagless_onlyIn {ps : List Part} {a : Blk} (b : Blk) (h0 : Part.hst ∈ ps) :
    a.onlyIn ps ((Blk.useTagless b)) ↔ a.onlyIn ps b := by
  unfold Blk.useTagless; (repeat' split) <;> simp [h0]
@[simp] theorem Blk.dispatch_onlyIn {ps : List Part} {a : Blk} (b : Blk) (d : Desc) (crc : Bool) (h0 : Part.hst ∈ ps)
    (h1 : Part.out ∈ ps) :
    a.onlyIn ps ((Blk.dispatch b d crc)) ↔ a.onlyIn ps b := by
  unfold Blk.dispatch; dsimp only; (repeat' split) <;> simp [h0, h1]
@[simp] theorem Blk.slotCrcFail_onlyIn {ps : List Part} {a : Blk} (b : Blk) (n : Nat) (h0 : Part.hst ∈ ps) (h1 :
    Part.out ∈ ps) (h2 : Part.regs ∈ ps) :
    a.onlyIn ps ((Blk.slotCrcFail b n)) ↔ a.onlyIn ps b := by
  unfold Blk.slotCrcFail; (repeat' split) <;> simp [h0, h1, h2]
@[simp] theorem Blk.takeSlots_onlyIn {ps : List Part} {a : Blk} (b : Blk) (ring : Ring128) (bytes : Bytes) (h0 :
    Part.hst ∈ ps) (h1 : Part.out ∈ ps) (h2 : Part.regs ∈ ps) :
    a.onlyIn ps ((Blk.takeSlots b ring bytes)) ↔ a.onlyIn ps b := by
  unfold Blk.takeSlots; dsimp only; (repeat' split) <;> simp [h0, h1, h2]
@[simp] theorem Blk.slotsOnChip_onlyIn {ps : List Part} {a : Blk} (b : Blk) (ring : Ring128) (bytes : Bytes) (refetch
    : Bool) (h0 : Part.hst ∈ ps) (h1 : Part.out ∈ ps) (h2 : Part.regs ∈ ps) :
    a.onlyIn ps ((Blk.slotsOnChip b ring bytes refetch)) ↔ a.onlyIn ps b := by
  unfold Blk.slotsOnChip; dsimp only; (repeat' split) <;> simp [h0, h1, h2]
@[simp] theorem Blk.fetchErr_onlyIn {ps : List Part} {a : Blk} (b : Blk) (n slot : Nat) (h0 : Part.hst ∈ ps) (h1 :
    Part.out ∈ ps) (h2 : Part.regs ∈ ps) :
    a.onlyIn ps ((Blk.fetchErr b n slot)) ↔ a.onlyIn ps b := by
  unfold Blk.fetchErr; dsimp only; (repeat' split) <;> simp [h0, h1, h2]
@[simp] theorem Blk.moderate_onlyIn {ps : List Part} {a : Blk} (b : Blk) (t n : Nat) (h0 : Part.hst ∈ ps) (h1 :
    Part.inv ∈ ps) (h2 : Part.out ∈ ps) :
    a.onlyIn ps ((Blk.moderate b t n)) ↔ a.onlyIn ps b := by
  unfold Blk.moderate; dsimp only; (repeat' split) <;> simp [h0, h1, h2]
@[simp] theorem Blk.batchMarker_onlyIn {ps : List Part} {a : Blk} (b : Blk) (cq n : Nat) (h0 : Part.hst ∈ ps) (h1 :
    Part.out ∈ ps) :
    a.onlyIn ps ((Blk.batchMarker b cq n)) ↔ a.onlyIn ps b := by
  unfold Blk.batchMarker; (repeat' split) <;> simp [h0, h1]
@[simp] theorem Blk.deliverOp_onlyIn {ps : List Part} {a : Blk} (b : Blk) (id : OpId) (h0 : Part.hst ∈ ps) (h1 :
    Part.out ∈ ps) :
    a.onlyIn ps ((Blk.deliverOp b id)) ↔ a.onlyIn ps b := by
  unfold Blk.deliverOp; (repeat' split) <;> simp [h0, h1]
@[simp] theorem Blk.batchFlush_onlyIn {ps : List Part} {a : Blk} (b : Blk) (h0 : Part.hst ∈ ps) (h1 : Part.out ∈ ps) :
    a.onlyIn ps ((Blk.batchFlush b)) ↔ a.onlyIn ps b := by
  unfold Blk.batchFlush; simp [h0, h1, Blk.foldl_onlyIn, Blk.ite_onlyIn]
@[simp] theorem Blk.writeCoal_onlyIn {ps : List Part} {a : Blk} (b : Blk) (cq : Nat) (c : Coal) (h0 : Part.hst ∈ ps)
    (h1 : Part.out ∈ ps) :
    a.onlyIn ps ((Blk.writeCoal b cq c)) ↔ a.onlyIn ps b := by
  unfold Blk.writeCoal; (repeat' split) <;> simp [h0, h1]
@[simp] theorem Blk.coalesce_onlyIn {ps : List Part} {a : Blk} (b : Blk) (mask epoch time : Nat) (h0 : Part.hst ∈ ps)
    (h1 : Part.out ∈ ps) (h2 : Part.regs ∈ ps) :
    a.onlyIn ps ((Blk.coalesce b mask epoch time)) ↔ a.onlyIn ps b := by
  unfold Blk.coalesce; (repeat' split) <;> simp [h0, h1, h2]
@[simp] theorem Blk.coalPending_onlyIn {ps : List Part} {a : Blk} (b : Blk) (h0 : Part.hst ∈ ps) (h1 : Part.out ∈ ps)
    (h2 : Part.regs ∈ ps) :
    a.onlyIn ps ((Blk.coalPending b)) ↔ a.onlyIn ps b := by
  unfold Blk.coalPending; (repeat' split) <;> simp [h0, h1, h2]
@[simp] theorem Blk.copyItem_onlyIn {ps : List Part} {a : Blk} (b0 : Blk) (n : Nat) (opens : List OpenItem) (h0 :
    Part.evr ∈ ps) (h1 : Part.hst ∈ ps) (h2 : Part.mem ∈ ps) (h3 : Part.out ∈ ps) (h4 : Part.regs ∈ ps) :
    a.onlyIn ps ((Blk.copyItem b0 n opens)) ↔ a.onlyIn ps b0 := by
  unfold Blk.copyItem; dsimp only; (repeat' split) <;> simp [h0, h1, h2, h3, h4]
@[simp] theorem Blk.fixPlanes_onlyIn {ps : List Part} {a : Blk} (b : Blk) (h0 : Part.regs ∈ ps) :
    a.onlyIn ps ((Blk.fixPlanes b)) ↔ a.onlyIn ps b := by
  unfold Blk.fixPlanes; (repeat' split) <;> simp [h0]
@[simp] theorem Blk.flr_onlyIn {ps : List Part} {a : Blk} (b : Blk) (h0 : Part.hst ∈ ps) (h1 : Part.regs ∈ ps) :
    a.onlyIn ps ((Blk.flr b)) ↔ a.onlyIn ps b := by
  unfold Blk.flr; (repeat' split) <;> simp [h0, h1]
@[simp] theorem Blk.enableRing_onlyIn {ps : List Part} {a : Blk} (b : Blk) (n : Nat) (h0 : Part.hst ∈ ps) :
    a.onlyIn ps ((Blk.enableRing b n)) ↔ a.onlyIn ps b := by
  unfold Blk.enableRing; (repeat' split) <;> simp [h0]
@[simp] theorem Blk.disableRing_onlyIn {ps : List Part} {a : Blk} (b : Blk) (n : Nat) (h0 : Part.hst ∈ ps) :
    a.onlyIn ps ((Blk.disableRing b n)) ↔ a.onlyIn ps b := by
  unfold Blk.disableRing; (repeat' split) <;> simp [h0]
@[simp] theorem Blk.writeRcfg_onlyIn {ps : List Part} {a : Blk} (b : Blk) (n : Nat) (w : Word) (h0 : Part.evr ∈ ps)
    (h1 : Part.hst ∈ ps) (h2 : Part.mem ∈ ps) (h3 : Part.regs ∈ ps) :
    a.onlyIn ps ((Blk.writeRcfg b n w)) ↔ a.onlyIn ps b := by
  unfold Blk.writeRcfg; dsimp only; (repeat' split) <;> simp [h0, h1, h2, h3]
@[simp] theorem Blk.drainDone_onlyIn {ps : List Part} {a : Blk} (b : Blk) (n : Nat) (h0 : Part.hst ∈ ps) :
    a.onlyIn ps ((Blk.drainDone b n)) ↔ a.onlyIn ps b := by
  unfold Blk.drainDone; dsimp only; (repeat' split) <;> simp [h0]
@[simp] theorem Blk.persist_onlyIn {ps : List Part} {a : Blk} (b : Blk) (h0 : Part.hst ∈ ps) :
    a.onlyIn ps ((Blk.persist b)) ↔ a.onlyIn ps b := by
  unfold Blk.persist; (repeat' split) <;> simp [h0]
@[simp] theorem Blk.writeMode_onlyIn {ps : List Part} {a : Blk} (b : Blk) (w : Word) (h0 : Part.evr ∈ ps) (h1 :
    Part.hst ∈ ps) (h2 : Part.mem ∈ ps) (h3 : Part.regs ∈ ps) :
    a.onlyIn ps ((Blk.writeMode b w)) ↔ a.onlyIn ps b := by
  unfold Blk.writeMode; dsimp only; (repeat' split) <;> simp [h0, h1, h2, h3]
@[simp] theorem Blk.writeMsix_onlyIn {ps : List Part} {a : Blk} (b : Blk) (v dw : Nat) (x : Word) (h0 : Part.hst ∈
    ps) (h1 : Part.out ∈ ps) :
    a.onlyIn ps ((Blk.writeMsix b v dw x)) ↔ a.onlyIn ps b := by
  unfold Blk.writeMsix; (repeat' split) <;> simp [h0, h1]
@[simp] theorem Blk.setHead_onlyIn {ps : List Part} {a : Blk} (b : Blk) (h : Nat) (x : Head) (h0 : Part.hdl ∈ ps) :
    a.onlyIn ps ((Blk.setHead b h x)) ↔ a.onlyIn ps b := by
  unfold Blk.setHead; (repeat' split) <;> simp [h0]
@[simp] theorem Blk.headSend_onlyIn {ps : List Part} {a : Blk} (b : Blk) (h typ : Nat) (body : Bytes) (h0 : Part.hdl
    ∈ ps) (h1 : Part.out ∈ ps) :
    a.onlyIn ps ((Blk.headSend b h typ body)) ↔ a.onlyIn ps b := by
  unfold Blk.headSend; (repeat' split) <;> simp [h0, h1]
@[simp] theorem Blk.headsSend_onlyIn {ps : List Part} {a : Blk} (b : Blk) (p : Nat → Bool) (typ : Nat) (body : Bytes)
    (h0 : Part.hdl ∈ ps) (h1 : Part.out ∈ ps) :
    a.onlyIn ps ((Blk.headsSend b p typ body)) ↔ a.onlyIn ps b := by
  unfold Blk.headsSend; simp [h0, h1, Blk.foldl_onlyIn, Blk.ite_onlyIn]
@[simp] theorem Blk.sendMember_onlyIn {ps : List Part} {a : Blk} (b : Blk) (mix : Nat) (h0 : Part.hdl ∈ ps) (h1 :
    Part.out ∈ ps) :
    a.onlyIn ps ((Blk.sendMember b mix)) ↔ a.onlyIn ps b := by
  unfold Blk.sendMember; (repeat' split) <;> simp [h0, h1]
@[simp] theorem Blk.pushElem_onlyIn {ps : List Part} {a : Blk} (b : Blk) (mix : Nat) (e : Elem) (h0 : Part.air ∈ ps) :
    a.onlyIn ps ((Blk.pushElem b mix e)) ↔ a.onlyIn ps b := by
  unfold Blk.pushElem; (repeat' split) <;> simp [h0]
@[simp] theorem Blk.dropElems_onlyIn {ps : List Part} {a : Blk} (b : Blk) (mix : Nat) (p : Elem → Bool) (h0 :
    Part.air ∈ ps) :
    a.onlyIn ps ((Blk.dropElems b mix p)) ↔ a.onlyIn ps b := by
  unfold Blk.dropElems; (repeat' split) <;> simp [h0]
@[simp] theorem Blk.airReply_onlyIn {ps : List Part} {a : Blk} (b : Blk) (mix req status detail epoch : Nat) (h0 :
    Part.air ∈ ps) :
    a.onlyIn ps ((Blk.airReply b mix req status detail epoch)) ↔ a.onlyIn ps b := by
  unfold Blk.airReply; (repeat' split) <;> simp [h0]
@[simp] theorem Blk.applied_onlyIn {ps : List Part} {a : Blk} (b : Blk) (e : Effect) (late : Bool) (h0 : Part.fleet ∈
    ps) (h1 : Part.regs ∈ ps) :
    a.onlyIn ps ((Blk.applied b e late)) ↔ a.onlyIn ps b := by
  unfold Blk.applied; (repeat' split) <;> simp [h0, h1]
@[simp] theorem Blk.setCmp_onlyIn {ps : List Part} {a : Blk} (b : Blk) (n : Nat) (x : CmpUnit) (h0 : Part.inv ∈ ps) :
    a.onlyIn ps ((Blk.setCmp b n x)) ↔ a.onlyIn ps b := by
  unfold Blk.setCmp; (repeat' split) <;> simp [h0]
@[simp] theorem Blk.loadUnit_onlyIn {ps : List Part} {a : Blk} (b : Blk) (e : Effect) (h0 : Part.inv ∈ ps) :
    a.onlyIn ps ((Blk.loadUnit b e)) ↔ a.onlyIn ps b := by
  unfold Blk.loadUnit; (repeat' split) <;> simp [h0]
@[simp] theorem Blk.loadTargets_onlyIn {ps : List Part} {a : Blk} (b : Blk) (h0 : Part.inv ∈ ps) :
    a.onlyIn ps ((Blk.loadTargets b)) ↔ a.onlyIn ps b := by
  unfold Blk.loadTargets; try dsimp only
  all_goals (repeat' split)
  all_goals (try refine (Blk.foldl_onlyIn (fun b x => ?_) _ _).trans ?_)
  all_goals (repeat' split)
  all_goals (try simp [h0, Blk.foldl_onlyIn, Blk.ite_onlyIn])
@[simp] theorem Blk.airApplied_onlyIn {ps : List Part} {a : Blk} (b : Blk) (e : Effect) (h0 : Part.air ∈ ps) (h1 :
    Part.fleet ∈ ps) (h2 : Part.hdl ∈ ps) (h3 : Part.out ∈ ps) (h4 : Part.regs ∈ ps) :
    a.onlyIn ps ((Blk.airApplied b e)) ↔ a.onlyIn ps b := by
  unfold Blk.airApplied; dsimp only; (repeat' split) <;> simp [h0, h1, h2, h3, h4]
@[simp] theorem Blk.settleAir_onlyIn {ps : List Part} {a : Blk} (b : Blk) (h0 : Part.air ∈ ps) (h1 : Part.fleet ∈ ps)
    (h2 : Part.hdl ∈ ps) (h3 : Part.out ∈ ps) (h4 : Part.regs ∈ ps) :
    a.onlyIn ps (b.settleAir) ↔ a.onlyIn ps b := by
  unfold Blk.settleAir
  generalize b.fleet.effects.length = k
  induction k generalizing b with
  | zero => rfl
  | succ n ih => unfold Blk.settleAir.go; split <;> simp [ih, h0, h1, h2, h3, h4, Blk.foldl_onlyIn, Blk.ite_onlyIn]
@[simp] theorem Blk.pushEffects_onlyIn {ps : List Part} {a : Blk} (b : Blk) (es : List Effect) (h0 : Part.air ∈ ps) :
    a.onlyIn ps ((Blk.pushEffects b es)) ↔ a.onlyIn ps b := by
  unfold Blk.pushEffects; try dsimp only
  all_goals (repeat' split)
  all_goals (try refine (Blk.foldl_onlyIn (fun b x => ?_) _ _).trans ?_)
  all_goals (repeat' split)
  all_goals (try simp [h0, Blk.foldl_onlyIn, Blk.ite_onlyIn])
@[simp] theorem Blk.unload_onlyIn {ps : List Part} {a : Blk} (b : Blk) (e : Effect) (h0 : Part.inv ∈ ps) :
    a.onlyIn ps ((Blk.unload b e)) ↔ a.onlyIn ps b := by
  unfold Blk.unload; dsimp only; (repeat' split) <;> simp [h0]
@[simp] theorem Blk.cancelEffects_onlyIn {ps : List Part} {a : Blk} (b : Blk) (p : Effect → Bool) (h0 : Part.air ∈
    ps) (h1 : Part.dvt ∈ ps) (h2 : Part.fleet ∈ ps) (h3 : Part.inv ∈ ps) :
    a.onlyIn ps ((Blk.cancelEffects b p)) ↔ a.onlyIn ps b := by
  unfold Blk.cancelEffects; simp [h0, h1, h2, h3, Blk.foldl_onlyIn, Blk.ite_onlyIn]
@[simp] theorem Blk.memberLeft_onlyIn {ps : List Part} {a : Blk} (b : Blk) (mix : Nat) (st : MState) (h0 : Part.air ∈
    ps) (h1 : Part.dvt ∈ ps) (h2 : Part.fleet ∈ ps) (h3 : Part.hst ∈ ps) (h4 : Part.inv ∈ ps) (h5 : Part.out ∈ ps)
    (h6 : Part.regs ∈ ps) :
    a.onlyIn ps ((Blk.memberLeft b mix st)) ↔ a.onlyIn ps b := by
  unfold Blk.memberLeft; simp [h0, h1, h2, h3, h4, h5, h6, Blk.foldl_onlyIn, Blk.ite_onlyIn]
@[simp] theorem Blk.keepFor_onlyIn {ps : List Part} {a : Blk} (b : Blk) (mix : Nat) (h0 : Part.air ∈ ps) :
    a.onlyIn ps ((Blk.keepFor b mix)) ↔ a.onlyIn ps b := by
  unfold Blk.keepFor; dsimp only; (repeat' split) <;> simp [h0]
@[simp] theorem Blk.memberServices_onlyIn {ps : List Part} {a : Blk} (b : Blk) (mix : Nat) (old new : MState) (h0 :
    Part.gns ∈ ps) (h1 : Part.pos ∈ ps) :
    a.onlyIn ps ((Blk.memberServices b mix old new)) ↔ a.onlyIn ps b := by
  unfold Blk.memberServices; dsimp only; (repeat' split) <;> simp [h0, h1]
@[simp] theorem Blk.memberChanged_onlyIn {ps : List Part} {a : Blk} (b0 : Blk) (mix : Nat) (old new : MState) (h0 :
    Part.air ∈ ps) (h1 : Part.dvt ∈ ps) (h2 : Part.fleet ∈ ps) (h3 : Part.gns ∈ ps) (h4 : Part.hdl ∈ ps) (h5 :
    Part.hst ∈ ps) (h6 : Part.inv ∈ ps) (h7 : Part.out ∈ ps) (h8 : Part.pos ∈ ps) (h9 : Part.regs ∈ ps) :
    a.onlyIn ps ((Blk.memberChanged b0 mix old new)) ↔ a.onlyIn ps b0 := by
  unfold Blk.memberChanged; (repeat' split) <;> simp [h0, h1, h2, h3, h4, h5, h6, h7, h8, h9]
@[simp] theorem Blk.membersChanged_onlyIn {ps : List Part} {a : Blk} (b : Blk) (old : Coherent) (h0 : Part.air ∈ ps)
    (h1 : Part.dvt ∈ ps) (h2 : Part.fleet ∈ ps) (h3 : Part.gns ∈ ps) (h4 : Part.hdl ∈ ps) (h5 : Part.hst ∈ ps) (h6 :
    Part.inv ∈ ps) (h7 : Part.out ∈ ps) (h8 : Part.pos ∈ ps) (h9 : Part.regs ∈ ps) :
    a.onlyIn ps ((Blk.membersChanged b old)) ↔ a.onlyIn ps b := by
  unfold Blk.membersChanged; simp [h0, h1, h2, h3, h4, h5, h6, h7, h8, h9, Blk.foldl_onlyIn, Blk.ite_onlyIn]
@[simp] theorem Blk.dvtItem_onlyIn {ps : List Part} {a : Blk} (b : Blk) (source mix : Nat) (t : Txn) (status detail
    epoch : Nat) (h0 : Part.evr ∈ ps) (h1 : Part.mem ∈ ps) (h2 : Part.regs ∈ ps) :
    a.onlyIn ps ((Blk.dvtItem b source mix t status detail epoch)) ↔ a.onlyIn ps b := by
  unfold Blk.dvtItem; (repeat' split) <;> simp [h0, h1, h2]
@[simp] theorem Blk.useQuota_onlyIn {ps : List Part} {a : Blk} (b : Blk) (mix : Nat) (h0 : Part.fleet ∈ ps) :
    a.onlyIn ps ((Blk.useQuota b mix)) ↔ a.onlyIn ps b := by
  unfold Blk.useQuota; (repeat' split) <;> simp [h0]
@[simp] theorem Blk.answer_onlyIn {ps : List Part} {a : Blk} (b : Blk) (t : Txn) (status detail epoch : Nat) (commit
    : Bool) (h0 : Part.air ∈ ps) (h1 : Part.dvt ∈ ps) (h2 : Part.evr ∈ ps) (h3 : Part.fleet ∈ ps) (h4 : Part.gns ∈
    ps) (h5 : Part.hdl ∈ ps) (h6 : Part.hst ∈ ps) (h7 : Part.inv ∈ ps) (h8 : Part.mem ∈ ps) (h9 : Part.out ∈ ps) (h10
    : Part.pos ∈ ps) (h11 : Part.regs ∈ ps) :
    a.onlyIn ps ((Blk.answer b t status detail epoch commit)) ↔ a.onlyIn ps b := by
  unfold Blk.answer; (repeat' split) <;> simp [h0, h1, h2, h3, h4, h5, h6, h7, h8, h9, h10, h11]
@[simp] theorem Blk.abort_onlyIn {ps : List Part} {a : Blk} (b : Blk) (t : Txn) (status detail : Nat) (h0 : Part.air
    ∈ ps) (h1 : Part.dvt ∈ ps) (h2 : Part.evr ∈ ps) (h3 : Part.fleet ∈ ps) (h4 : Part.gns ∈ ps) (h5 : Part.hdl ∈ ps)
    (h6 : Part.hst ∈ ps) (h7 : Part.inv ∈ ps) (h8 : Part.mem ∈ ps) (h9 : Part.out ∈ ps) (h10 : Part.pos ∈ ps) (h11 :
    Part.regs ∈ ps) :
    a.onlyIn ps ((Blk.abort b t status detail)) ↔ a.onlyIn ps b := by
  unfold Blk.abort; (repeat' split) <;> simp [h0, h1, h2, h3, h4, h5, h6, h7, h8, h9, h10, h11]
@[simp] theorem Blk.copySnaps_onlyIn {ps : List Part} {a : Blk} (b : Blk) (h0 : Part.fleet ∈ ps) :
    a.onlyIn ps ((Blk.copySnaps b)) ↔ a.onlyIn ps b := by
  unfold Blk.copySnaps; (repeat' split) <;> simp [h0]
@[simp] theorem Blk.install_onlyIn {ps : List Part} {a : Blk} (b : Blk) (c : Coherent) (epoch : Nat) (es : List
    Effect) (h0 : Part.air ∈ ps) (h1 : Part.dvt ∈ ps) (h2 : Part.fleet ∈ ps) (h3 : Part.gns ∈ ps) (h4 : Part.hdl ∈
    ps) (h5 : Part.hst ∈ ps) (h6 : Part.inv ∈ ps) (h7 : Part.out ∈ ps) (h8 : Part.pos ∈ ps) (h9 : Part.regs ∈ ps) :
    a.onlyIn ps ((Blk.install b c epoch es)) ↔ a.onlyIn ps b := by
  unfold Blk.install; (repeat' split) <;> simp [h0, h1, h2, h3, h4, h5, h6, h7, h8, h9]
@[simp] theorem Blk.commit_onlyIn {ps : List Part} {a : Blk} (b : Blk) (t : Txn) (w : Work) (h0 : Part.air ∈ ps) (h1
    : Part.dvt ∈ ps) (h2 : Part.evr ∈ ps) (h3 : Part.fleet ∈ ps) (h4 : Part.gns ∈ ps) (h5 : Part.hdl ∈ ps) (h6 :
    Part.hst ∈ ps) (h7 : Part.inv ∈ ps) (h8 : Part.mem ∈ ps) (h9 : Part.out ∈ ps) (h10 : Part.pos ∈ ps) (h11 :
    Part.regs ∈ ps) :
    a.onlyIn ps ((Blk.commit b t w)) ↔ a.onlyIn ps b := by
  unfold Blk.commit; (repeat' split) <;> simp [h0, h1, h2, h3, h4, h5, h6, h7, h8, h9, h10, h11]
@[simp] theorem Blk.commitLate_onlyIn {ps : List Part} {a : Blk} (b : Blk) (id : OpId) (w : Work) (h0 : Part.air ∈
    ps) (h1 : Part.dvt ∈ ps) (h2 : Part.fleet ∈ ps) (h3 : Part.gns ∈ ps) (h4 : Part.hdl ∈ ps) (h5 : Part.hst ∈ ps)
    (h6 : Part.inv ∈ ps) (h7 : Part.out ∈ ps) (h8 : Part.pos ∈ ps) (h9 : Part.regs ∈ ps) :
    a.onlyIn ps ((Blk.commitLate b id w)) ↔ a.onlyIn ps b := by
  unfold Blk.commitLate; (repeat' split) <;> simp [h0, h1, h2, h3, h4, h5, h6, h7, h8, h9]
@[simp] theorem Blk.endLate_onlyIn {ps : List Part} {a : Blk} (b : Blk) (gone : List Effect) (h0 : Part.dvt ∈ ps) (h1
    : Part.hst ∈ ps) (h2 : Part.out ∈ ps) :
    a.onlyIn ps ((Blk.endLate b gone)) ↔ a.onlyIn ps b := by
  unfold Blk.endLate; simp [h0, h1, h2, Blk.foldl_onlyIn, Blk.ite_onlyIn]
@[simp] theorem Blk.dropWait_onlyIn {ps : List Part} {a : Blk} (b : Blk) (src : Source) (h0 : Part.dvt ∈ ps) :
    a.onlyIn ps ((Blk.dropWait b src)) ↔ a.onlyIn ps b := by
  unfold Blk.dropWait; (repeat' split) <;> simp [h0]
@[simp] theorem Blk.enterWait_onlyIn {ps : List Part} {a : Blk} (b : Blk) (t : Txn) (onEpoch : Bool) (edges : List
    Edge) (h0 : Part.air ∈ ps) (h1 : Part.dvt ∈ ps) (h2 : Part.evr ∈ ps) (h3 : Part.fleet ∈ ps) (h4 : Part.gns ∈ ps)
    (h5 : Part.hdl ∈ ps) (h6 : Part.hst ∈ ps) (h7 : Part.inv ∈ ps) (h8 : Part.mem ∈ ps) (h9 : Part.out ∈ ps) (h10 :
    Part.pos ∈ ps) (h11 : Part.regs ∈ ps) :
    a.onlyIn ps ((Blk.enterWait b t onEpoch edges)) ↔ a.onlyIn ps b := by
  unfold Blk.enterWait; (repeat' split) <;> simp [h0, h1, h2, h3, h4, h5, h6, h7, h8, h9, h10, h11]
@[simp] theorem Blk.runTxn_onlyIn {ps : List Part} {a : Blk} (b : Blk) (t : Txn) (h0 : Part.air ∈ ps) (h1 : Part.dvt
    ∈ ps) (h2 : Part.evr ∈ ps) (h3 : Part.fleet ∈ ps) (h4 : Part.gns ∈ ps) (h5 : Part.hdl ∈ ps) (h6 : Part.hst ∈ ps)
    (h7 : Part.inv ∈ ps) (h8 : Part.mem ∈ ps) (h9 : Part.out ∈ ps) (h10 : Part.pos ∈ ps) (h11 : Part.regs ∈ ps) :
    a.onlyIn ps ((Blk.runTxn b t)) ↔ a.onlyIn ps b := by
  unfold Blk.runTxn; (repeat' split) <;> simp [h0, h1, h2, h3, h4, h5, h6, h7, h8, h9, h10, h11]
@[simp] theorem Blk.runAgain_onlyIn {ps : List Part} {a : Blk} (b : Blk) (w : Wait) (h0 : Part.air ∈ ps) (h1 :
    Part.dvt ∈ ps) (h2 : Part.evr ∈ ps) (h3 : Part.fleet ∈ ps) (h4 : Part.gns ∈ ps) (h5 : Part.hdl ∈ ps) (h6 :
    Part.hst ∈ ps) (h7 : Part.inv ∈ ps) (h8 : Part.mem ∈ ps) (h9 : Part.out ∈ ps) (h10 : Part.pos ∈ ps) (h11 :
    Part.regs ∈ ps) :
    a.onlyIn ps ((Blk.runAgain b w)) ↔ a.onlyIn ps b := by
  unfold Blk.runAgain; (repeat' split) <;> simp [h0, h1, h2, h3, h4, h5, h6, h7, h8, h9, h10, h11]
@[simp] theorem Blk.rejudgeRound_onlyIn {ps : List Part} {a : Blk} (b : Blk) (h0 : Part.air ∈ ps) (h1 : Part.dvt ∈
    ps) (h2 : Part.evr ∈ ps) (h3 : Part.fleet ∈ ps) (h4 : Part.gns ∈ ps) (h5 : Part.hdl ∈ ps) (h6 : Part.hst ∈ ps)
    (h7 : Part.inv ∈ ps) (h8 : Part.mem ∈ ps) (h9 : Part.out ∈ ps) (h10 : Part.pos ∈ ps) (h11 : Part.regs ∈ ps) :
    a.onlyIn ps ((Blk.rejudgeRound b)) ↔ a.onlyIn ps b := by
  unfold Blk.rejudgeRound; simp [h0, h1, h2, h3, h4, h5, h6, h7, h8, h9, h10, h11, Blk.foldl_onlyIn, Blk.ite_onlyIn]
@[simp] theorem Blk.rejudge_onlyIn {ps : List Part} {a : Blk} (b : Blk) (h0 : Part.air ∈ ps) (h1 : Part.dvt ∈ ps) (h2
    : Part.evr ∈ ps) (h3 : Part.fleet ∈ ps) (h4 : Part.gns ∈ ps) (h5 : Part.hdl ∈ ps) (h6 : Part.hst ∈ ps) (h7 :
    Part.inv ∈ ps) (h8 : Part.mem ∈ ps) (h9 : Part.out ∈ ps) (h10 : Part.pos ∈ ps) (h11 : Part.regs ∈ ps) :
    a.onlyIn ps (b.rejudge) ↔ a.onlyIn ps b := by
  unfold Blk.rejudge
  generalize b.dvt.waits.length + 1 = k
  induction k generalizing b with
  | zero => rfl
  | succ n ih => unfold Blk.rejudge.go; split <;> simp [ih, h0, h1, h2, h3, h4, h5, h6, h7, h8, h9, h10, h11,
      Blk.foldl_onlyIn, Blk.ite_onlyIn]
@[simp] theorem Blk.settleReassoc_onlyIn {ps : List Part} {a : Blk} (b : Blk) (h0 : Part.air ∈ ps) (h1 : Part.dvt ∈
    ps) (h2 : Part.evr ∈ ps) (h3 : Part.fleet ∈ ps) (h4 : Part.gns ∈ ps) (h5 : Part.hdl ∈ ps) (h6 : Part.hst ∈ ps)
    (h7 : Part.inv ∈ ps) (h8 : Part.mem ∈ ps) (h9 : Part.out ∈ ps) (h10 : Part.pos ∈ ps) (h11 : Part.regs ∈ ps) :
    a.onlyIn ps ((Blk.settleReassoc b)) ↔ a.onlyIn ps b := by
  unfold Blk.settleReassoc; simp [h0, h1, h2, h3, h4, h5, h6, h7, h8, h9, h10, h11, Blk.foldl_onlyIn, Blk.ite_onlyIn]
@[simp] theorem Blk.airRun_onlyIn {ps : List Part} {a : Blk} (b : Blk) (mix : Nat) (t : Txn) (h0 : Part.air ∈ ps) (h1
    : Part.dvt ∈ ps) (h2 : Part.evr ∈ ps) (h3 : Part.fleet ∈ ps) (h4 : Part.gns ∈ ps) (h5 : Part.hdl ∈ ps) (h6 :
    Part.hst ∈ ps) (h7 : Part.inv ∈ ps) (h8 : Part.mem ∈ ps) (h9 : Part.out ∈ ps) (h10 : Part.pos ∈ ps) (h11 :
    Part.regs ∈ ps) :
    a.onlyIn ps ((Blk.airRun b mix t)) ↔ a.onlyIn ps b := by
  unfold Blk.airRun; (repeat' split) <;> simp [h0, h1, h2, h3, h4, h5, h6, h7, h8, h9, h10, h11]
@[simp] theorem Blk.airTxn_onlyIn {ps : List Part} {a : Blk} (b : Blk) (mix : Nat) (t : Txn) (h0 : Part.air ∈ ps) (h1
    : Part.dvt ∈ ps) (h2 : Part.evr ∈ ps) (h3 : Part.fleet ∈ ps) (h4 : Part.gns ∈ ps) (h5 : Part.hdl ∈ ps) (h6 :
    Part.hst ∈ ps) (h7 : Part.inv ∈ ps) (h8 : Part.mem ∈ ps) (h9 : Part.out ∈ ps) (h10 : Part.pos ∈ ps) (h11 :
    Part.regs ∈ ps) :
    a.onlyIn ps ((Blk.airTxn b mix t)) ↔ a.onlyIn ps b := by
  unfold Blk.airTxn; (repeat' split) <;> simp [h0, h1, h2, h3, h4, h5, h6, h7, h8, h9, h10, h11]
@[simp] theorem Blk.admitTxn_onlyIn {ps : List Part} {a : Blk} (b : Blk) (mix : Nat) (t : Txn) (h0 : Part.air ∈ ps)
    (h1 : Part.dvt ∈ ps) (h2 : Part.evr ∈ ps) (h3 : Part.fleet ∈ ps) (h4 : Part.gns ∈ ps) (h5 : Part.hdl ∈ ps) (h6 :
    Part.hst ∈ ps) (h7 : Part.inv ∈ ps) (h8 : Part.mem ∈ ps) (h9 : Part.out ∈ ps) (h10 : Part.pos ∈ ps) (h11 :
    Part.regs ∈ ps) :
    a.onlyIn ps ((Blk.admitTxn b mix t)) ↔ a.onlyIn ps b := by
  unfold Blk.admitTxn; dsimp only; (repeat' split) <;> simp [h0, h1, h2, h3, h4, h5, h6, h7, h8, h9, h10, h11]
@[simp] theorem Blk.ahead_onlyIn {ps : List Part} {a : Blk} (b : Blk) (h0 : Part.air ∈ ps) (h1 : Part.dvt ∈ ps) (h2 :
    Part.evr ∈ ps) (h3 : Part.fleet ∈ ps) (h4 : Part.gns ∈ ps) (h5 : Part.hdl ∈ ps) (h6 : Part.hst ∈ ps) (h7 :
    Part.inv ∈ ps) (h8 : Part.mem ∈ ps) (h9 : Part.out ∈ ps) (h10 : Part.pos ∈ ps) (h11 : Part.regs ∈ ps) :
    a.onlyIn ps ((Blk.ahead b)) ↔ a.onlyIn ps b := by
  unfold Blk.ahead; (repeat' split) <;> simp [h0, h1, h2, h3, h4, h5, h6, h7, h8, h9, h10, h11]
@[simp] theorem Blk.noteTurn_onlyIn {ps : List Part} {a : Blk} (b : Blk) (air : Bool) (h0 : Part.dvt ∈ ps) :
    a.onlyIn ps ((Blk.noteTurn b air)) ↔ a.onlyIn ps b := by
  unfold Blk.noteTurn; (repeat' split) <;> simp [h0]
@[simp] theorem Blk.runReleased_onlyIn {ps : List Part} {a : Blk} (b : Blk) (w : Wait) (h0 : Part.air ∈ ps) (h1 :
    Part.dvt ∈ ps) (h2 : Part.evr ∈ ps) (h3 : Part.fleet ∈ ps) (h4 : Part.gns ∈ ps) (h5 : Part.hdl ∈ ps) (h6 :
    Part.hst ∈ ps) (h7 : Part.inv ∈ ps) (h8 : Part.mem ∈ ps) (h9 : Part.out ∈ ps) (h10 : Part.pos ∈ ps) (h11 :
    Part.regs ∈ ps) :
    a.onlyIn ps ((Blk.runReleased b w)) ↔ a.onlyIn ps b := by
  unfold Blk.runReleased; (repeat' split) <;> simp [h0, h1, h2, h3, h4, h5, h6, h7, h8, h9, h10, h11]
@[simp] theorem Blk.runAdmitted_onlyIn {ps : List Part} {a : Blk} (b : Blk) (p : Nat × Txn) (h0 : Part.air ∈ ps) (h1
    : Part.dvt ∈ ps) (h2 : Part.evr ∈ ps) (h3 : Part.fleet ∈ ps) (h4 : Part.gns ∈ ps) (h5 : Part.hdl ∈ ps) (h6 :
    Part.hst ∈ ps) (h7 : Part.inv ∈ ps) (h8 : Part.mem ∈ ps) (h9 : Part.out ∈ ps) (h10 : Part.pos ∈ ps) (h11 :
    Part.regs ∈ ps) :
    a.onlyIn ps ((Blk.runAdmitted b p)) ↔ a.onlyIn ps b := by
  unfold Blk.runAdmitted; (repeat' split) <;> simp [h0, h1, h2, h3, h4, h5, h6, h7, h8, h9, h10, h11]
theorem Blk.takeTurn_onlyIn {ps : List Part} {a b' : Blk} (b : Blk) (host : Bool) (h0 : Part.air ∈ ps) (h1 : Part.dvt
    ∈ ps) (h2 : Part.evr ∈ ps) (h3 : Part.fleet ∈ ps) (h4 : Part.gns ∈ ps) (h5 : Part.hdl ∈ ps) (h6 : Part.hst ∈ ps)
    (h7 : Part.inv ∈ ps) (h8 : Part.mem ∈ ps) (h9 : Part.out ∈ ps) (h10 : Part.pos ∈ ps) (h11 : Part.regs ∈ ps)
    (h : b.takeTurn host = some b') : a.onlyIn ps b' ↔ a.onlyIn ps b := by
  unfold Blk.takeTurn at h
  repeat' split at h
  all_goals first | (simp at h; done) | (simp only [Option.some.injEq] at h; subst h; (repeat' split) <;> simp [h0,
      h1, h2, h3, h4, h5, h6, h7, h8, h9, h10, h11, Blk.foldl_onlyIn, Blk.ite_onlyIn])
@[simp] theorem Blk.takeTurns_onlyIn {ps : List Part} {a : Blk} (b : Blk) (host : Bool) (h0 : Part.air ∈ ps) (h1 :
    Part.dvt ∈ ps) (h2 : Part.evr ∈ ps) (h3 : Part.fleet ∈ ps) (h4 : Part.gns ∈ ps) (h5 : Part.hdl ∈ ps) (h6 :
    Part.hst ∈ ps) (h7 : Part.inv ∈ ps) (h8 : Part.mem ∈ ps) (h9 : Part.out ∈ ps) (h10 : Part.pos ∈ ps) (h11 :
    Part.regs ∈ ps) :
    a.onlyIn ps (b.takeTurns host) ↔ a.onlyIn ps b := by
  unfold Blk.takeTurns
  generalize b.dvt.waits.length + b.dvt.admission.length = k
  induction k generalizing b with
  | zero => rfl
  | succ n ih =>
    unfold Blk.takeTurns.go; split
    · rfl
    · rename_i b' hb; rw [ih, Blk.takeTurn_onlyIn b host h0 h1 h2 h3 h4 h5 h6 h7 h8 h9 h10 h11 hb]
@[simp] theorem Blk.runHost_onlyIn {ps : List Part} {a : Blk} (b : Blk) (t : Txn) (freeze : Bool) (h0 : Part.air ∈
    ps) (h1 : Part.dvt ∈ ps) (h2 : Part.evr ∈ ps) (h3 : Part.fleet ∈ ps) (h4 : Part.gns ∈ ps) (h5 : Part.hdl ∈ ps)
    (h6 : Part.hst ∈ ps) (h7 : Part.inv ∈ ps) (h8 : Part.mem ∈ ps) (h9 : Part.out ∈ ps) (h10 : Part.pos ∈ ps) (h11 :
    Part.regs ∈ ps) :
    a.onlyIn ps ((Blk.runHost b t freeze)) ↔ a.onlyIn ps b := by
  unfold Blk.runHost; (repeat' split) <;> simp [h0, h1, h2, h3, h4, h5, h6, h7, h8, h9, h10, h11]
@[simp] theorem Blk.hostTxn_onlyIn {ps : List Part} {a : Blk} (b : Blk) (t : Txn) (freeze : Bool) (h0 : Part.air ∈
    ps) (h1 : Part.dvt ∈ ps) (h2 : Part.evr ∈ ps) (h3 : Part.fleet ∈ ps) (h4 : Part.gns ∈ ps) (h5 : Part.hdl ∈ ps)
    (h6 : Part.hst ∈ ps) (h7 : Part.inv ∈ ps) (h8 : Part.mem ∈ ps) (h9 : Part.out ∈ ps) (h10 : Part.pos ∈ ps) (h11 :
    Part.regs ∈ ps) :
    a.onlyIn ps ((Blk.hostTxn b t freeze)) ↔ a.onlyIn ps b := by
  unfold Blk.hostTxn; (repeat' split) <;> simp [h0, h1, h2, h3, h4, h5, h6, h7, h8, h9, h10, h11]
@[simp] theorem Blk.waitCancel_onlyIn {ps : List Part} {a : Blk} (d : Desc) (b : Blk) (h0 : Part.air ∈ ps) (h1 :
    Part.dvt ∈ ps) (h2 : Part.evr ∈ ps) (h3 : Part.fleet ∈ ps) (h4 : Part.gns ∈ ps) (h5 : Part.hdl ∈ ps) (h6 :
    Part.hst ∈ ps) (h7 : Part.inv ∈ ps) (h8 : Part.mem ∈ ps) (h9 : Part.out ∈ ps) (h10 : Part.pos ∈ ps) (h11 :
    Part.regs ∈ ps) :
    a.onlyIn ps ((Blk.waitCancel d b)) ↔ a.onlyIn ps b := by
  unfold Blk.waitCancel; dsimp only; (repeat' split) <;> simp [h0, h1, h2, h3, h4, h5, h6, h7, h8, h9, h10, h11]
@[simp] theorem Blk.waitsRead_onlyIn {ps : List Part} {a : Blk} (d : Desc) (b : Blk) (h0 : Part.hst ∈ ps) (h1 :
    Part.out ∈ ps) :
    a.onlyIn ps ((Blk.waitsRead d b)) ↔ a.onlyIn ps b := by
  unfold Blk.waitsRead; dsimp only; (repeat' split) <;> simp [h0, h1]
@[simp] theorem Blk.timeoutWaits_onlyIn {ps : List Part} {a : Blk} (b : Blk) (p : Wait → Bool) (cause : Nat) (h0 :
    Part.air ∈ ps) (h1 : Part.dvt ∈ ps) (h2 : Part.evr ∈ ps) (h3 : Part.fleet ∈ ps) (h4 : Part.gns ∈ ps) (h5 :
    Part.hdl ∈ ps) (h6 : Part.hst ∈ ps) (h7 : Part.inv ∈ ps) (h8 : Part.mem ∈ ps) (h9 : Part.out ∈ ps) (h10 :
    Part.pos ∈ ps) (h11 : Part.regs ∈ ps) :
    a.onlyIn ps ((Blk.timeoutWaits b p cause)) ↔ a.onlyIn ps b := by
  unfold Blk.timeoutWaits; simp [h0, h1, h2, h3, h4, h5, h6, h7, h8, h9, h10, h11, Blk.foldl_onlyIn, Blk.ite_onlyIn]
@[simp] theorem Blk.waitLimit_onlyIn {ps : List Part} {a : Blk} (b0 : Blk) (t : Nat) (h0 : Part.air ∈ ps) (h1 :
    Part.dvt ∈ ps) (h2 : Part.evr ∈ ps) (h3 : Part.fleet ∈ ps) (h4 : Part.gns ∈ ps) (h5 : Part.hdl ∈ ps) (h6 :
    Part.hst ∈ ps) (h7 : Part.inv ∈ ps) (h8 : Part.mem ∈ ps) (h9 : Part.out ∈ ps) (h10 : Part.pos ∈ ps) (h11 :
    Part.regs ∈ ps) :
    a.onlyIn ps ((Blk.waitLimit b0 t)) ↔ a.onlyIn ps b0 := by
  unfold Blk.waitLimit; dsimp only; (repeat' split) <;> simp [h0, h1, h2, h3, h4, h5, h6, h7, h8, h9, h10, h11]
@[simp] theorem Blk.afterLimit_onlyIn {ps : List Part} {a : Blk} (b0 : Blk) (t : Nat) (h0 : Part.air ∈ ps) (h1 :
    Part.dvt ∈ ps) (h2 : Part.evr ∈ ps) (h3 : Part.fleet ∈ ps) (h4 : Part.gns ∈ ps) (h5 : Part.hdl ∈ ps) (h6 :
    Part.hst ∈ ps) (h7 : Part.inv ∈ ps) (h8 : Part.mem ∈ ps) (h9 : Part.out ∈ ps) (h10 : Part.pos ∈ ps) (h11 :
    Part.regs ∈ ps) :
    a.onlyIn ps ((Blk.afterLimit b0 t)) ↔ a.onlyIn ps b0 := by
  unfold Blk.afterLimit; (repeat' split) <;> simp [h0, h1, h2, h3, h4, h5, h6, h7, h8, h9, h10, h11]
@[simp] theorem Blk.airJudge_onlyIn {ps : List Part} {a : Blk} (b : Blk) (h0 : Part.air ∈ ps) (h1 : Part.dvt ∈ ps)
    (h2 : Part.evr ∈ ps) (h3 : Part.fleet ∈ ps) (h4 : Part.gns ∈ ps) (h5 : Part.hdl ∈ ps) (h6 : Part.hst ∈ ps) (h7 :
    Part.inv ∈ ps) (h8 : Part.mem ∈ ps) (h9 : Part.out ∈ ps) (h10 : Part.pos ∈ ps) (h11 : Part.regs ∈ ps) :
    a.onlyIn ps b.airJudge ↔ a.onlyIn ps b := by
  unfold Blk.airJudge
  generalize b.dvt.waits.length + 1 = k
  have go : ∀ (k : Nat) (c : Blk), a.onlyIn ps (Blk.airJudge.go k c) ↔ a.onlyIn ps c := by
    intro k
    induction k with
    | zero => intro c; rfl
    | succ n ih => intro c; unfold Blk.airJudge.go; (repeat' split) <;> simp [ih, h0, h1, h2, h3, h4, h5, h6, h7, h8,
        h9, h10, h11, Blk.foldl_onlyIn, Blk.ite_onlyIn]
  rw [go]; simp [h0, h1, h2, h3, h4, h5, h6, h7, h8, h9, h10, h11, Blk.foldl_onlyIn, Blk.ite_onlyIn]
@[simp] theorem Blk.quotaPeriod_onlyIn {ps : List Part} {a : Blk} (b : Blk) (h0 : Part.dvt ∈ ps) (h1 : Part.fleet ∈
    ps) :
    a.onlyIn ps ((Blk.quotaPeriod b)) ↔ a.onlyIn ps b := by
  unfold Blk.quotaPeriod; (repeat' split) <;> simp [h0, h1]
@[simp] theorem Blk.runDevice_onlyIn {ps : List Part} {a : Blk} (b : Blk) (mix : Nat) (acts : List Bytes) (h0 :
    Part.air ∈ ps) (h1 : Part.dvt ∈ ps) (h2 : Part.evr ∈ ps) (h3 : Part.fleet ∈ ps) (h4 : Part.gns ∈ ps) (h5 :
    Part.hdl ∈ ps) (h6 : Part.hst ∈ ps) (h7 : Part.inv ∈ ps) (h8 : Part.mem ∈ ps) (h9 : Part.out ∈ ps) (h10 :
    Part.pos ∈ ps) (h11 : Part.regs ∈ ps) :
    a.onlyIn ps ((Blk.runDevice b mix acts)) ↔ a.onlyIn ps b := by
  unfold Blk.runDevice; (repeat' split) <;> simp [h0, h1, h2, h3, h4, h5, h6, h7, h8, h9, h10, h11]
@[simp] theorem Blk.yield_onlyIn {ps : List Part} {a : Blk} (b : Blk) (h0 : Part.air ∈ ps) (h1 : Part.dvt ∈ ps) (h2 :
    Part.evr ∈ ps) (h3 : Part.fleet ∈ ps) (h4 : Part.gns ∈ ps) (h5 : Part.hdl ∈ ps) (h6 : Part.hst ∈ ps) (h7 :
    Part.inv ∈ ps) (h8 : Part.mem ∈ ps) (h9 : Part.out ∈ ps) (h10 : Part.pos ∈ ps) (h11 : Part.regs ∈ ps) :
    a.onlyIn ps b.yield ↔ a.onlyIn ps b := by
  unfold Blk.yield; split
  · rename_i hb; exact Blk.takeTurn_onlyIn b false h0 h1 h2 h3 h4 h5 h6 h7 h8 h9 h10 h11 hb
  · simp [h0, h1, h2, h3, h4, h5, h6, h7, h8, h9, h10, h11, Blk.foldl_onlyIn, Blk.ite_onlyIn]
  · rfl
@[simp] theorem Blk.device_onlyIn {ps : List Part} {a : Blk} (b : Blk) (mix : Nat) (c : DevCause) (h0 : Part.air ∈
    ps) (h1 : Part.dvt ∈ ps) (h2 : Part.evr ∈ ps) (h3 : Part.fleet ∈ ps) (h4 : Part.gns ∈ ps) (h5 : Part.hdl ∈ ps)
    (h6 : Part.hst ∈ ps) (h7 : Part.inv ∈ ps) (h8 : Part.mem ∈ ps) (h9 : Part.out ∈ ps) (h10 : Part.pos ∈ ps) (h11 :
    Part.regs ∈ ps) :
    a.onlyIn ps ((Blk.device b mix c)) ↔ a.onlyIn ps b := by
  unfold Blk.device; dsimp only; (repeat' split) <;> simp [h0, h1, h2, h3, h4, h5, h6, h7, h8, h9, h10, h11]
@[simp] theorem Blk.taskDone_onlyIn {ps : List Part} {a : Blk} (b : Blk) (mix task : Nat) (req : Option Nat) (h0 :
    Part.air ∈ ps) (h1 : Part.dvt ∈ ps) (h2 : Part.evr ∈ ps) (h3 : Part.fleet ∈ ps) (h4 : Part.gns ∈ ps) (h5 :
    Part.hdl ∈ ps) (h6 : Part.hst ∈ ps) (h7 : Part.inv ∈ ps) (h8 : Part.mem ∈ ps) (h9 : Part.out ∈ ps) (h10 :
    Part.pos ∈ ps) (h11 : Part.regs ∈ ps) :
    a.onlyIn ps ((Blk.taskDone b mix task req)) ↔ a.onlyIn ps b := by
  unfold Blk.taskDone; dsimp only; (repeat' split) <;> simp [h0, h1, h2, h3, h4, h5, h6, h7, h8, h9, h10, h11]
@[simp] theorem Blk.replayOne_onlyIn {ps : List Part} {a : Blk} (b : Blk) (mix : Nat) (d : Deferral) (h0 : Part.air ∈
    ps) (h1 : Part.dvt ∈ ps) (h2 : Part.evr ∈ ps) (h3 : Part.fleet ∈ ps) (h4 : Part.gns ∈ ps) (h5 : Part.hdl ∈ ps)
    (h6 : Part.hst ∈ ps) (h7 : Part.inv ∈ ps) (h8 : Part.mem ∈ ps) (h9 : Part.out ∈ ps) (h10 : Part.pos ∈ ps) (h11 :
    Part.regs ∈ ps) :
    a.onlyIn ps ((Blk.replayOne b mix d)) ↔ a.onlyIn ps b := by
  unfold Blk.replayOne; (repeat' split) <;> simp [h0, h1, h2, h3, h4, h5, h6, h7, h8, h9, h10, h11]
@[simp] theorem Blk.replay_onlyIn {ps : List Part} {a : Blk} (b : Blk) (h0 : Part.air ∈ ps) (h1 : Part.dvt ∈ ps) (h2
    : Part.evr ∈ ps) (h3 : Part.fleet ∈ ps) (h4 : Part.gns ∈ ps) (h5 : Part.hdl ∈ ps) (h6 : Part.hst ∈ ps) (h7 :
    Part.inv ∈ ps) (h8 : Part.mem ∈ ps) (h9 : Part.out ∈ ps) (h10 : Part.pos ∈ ps) (h11 : Part.regs ∈ ps) :
    a.onlyIn ps ((Blk.replay b)) ↔ a.onlyIn ps b := by
  unfold Blk.replay; simp [h0, h1, h2, h3, h4, h5, h6, h7, h8, h9, h10, h11, Blk.foldl_onlyIn, Blk.ite_onlyIn]
@[simp] theorem Blk.srcActive_onlyIn {ps : List Part} {a : Blk} (b : Blk) (bit : Nat) (on : Bool) (h0 : Part.clp ∈
    ps) :
    a.onlyIn ps ((Blk.srcActive b bit on)) ↔ a.onlyIn ps b := by
  unfold Blk.srcActive; (repeat' split) <;> simp [h0]
@[simp] theorem Blk.syncInternal_onlyIn {ps : List Part} {a : Blk} (b : Blk) (h0 : Part.clp ∈ ps) :
    a.onlyIn ps ((Blk.syncInternal b)) ↔ a.onlyIn ps b := by
  unfold Blk.syncInternal; (repeat' split) <;> simp [h0]
@[simp] theorem Blk.noteCmon_onlyIn {ps : List Part} {a : Blk} (b old : Blk) (h0 : Part.clp ∈ ps) :
    a.onlyIn ps ((Blk.noteCmon b old)) ↔ a.onlyIn ps b := by
  unfold Blk.noteCmon; (repeat' split) <;> simp [h0]
@[simp] theorem Blk.noteCmonCfg_onlyIn {ps : List Part} {a : Blk} (b old : Blk) (h0 : Part.clp ∈ ps) :
    a.onlyIn ps ((Blk.noteCmonCfg b old)) ↔ a.onlyIn ps b := by
  unfold Blk.noteCmonCfg; (repeat' split) <;> simp [h0]
@[simp] theorem Blk.setGroup_onlyIn {ps : List Part} {a : Blk} (b : Blk) (g : Nat) (st : GState) (h0 : Part.clp ∈ ps)
    :
    a.onlyIn ps ((Blk.setGroup b g st)) ↔ a.onlyIn ps b := by
  unfold Blk.setGroup; (repeat' split) <;> simp [h0]
@[simp] theorem Blk.mapLoad_onlyIn {ps : List Part} {a : Blk} (d : Desc) (b : Blk) (h0 : Part.fleet ∈ ps) (h1 :
    Part.hst ∈ ps) (h2 : Part.out ∈ ps) :
    a.onlyIn ps ((Blk.mapLoad d b)) ↔ a.onlyIn ps b := by
  unfold Blk.mapLoad; dsimp only; (repeat' split) <;> simp [h0, h1, h2]
@[simp] theorem Blk.imageRead_onlyIn {ps : List Part} {a : Blk} (image : Bytes) (b : Blk) (h0 : Part.fleet ∈ ps) (h1
    : Part.hst ∈ ps) (h2 : Part.out ∈ ps) :
    a.onlyIn ps ((Blk.imageRead image b)) ↔ a.onlyIn ps b := by
  unfold Blk.imageRead; (repeat' split) <;> simp [h0, h1, h2]
@[simp] theorem Blk.tellStates_onlyIn {ps : List Part} {a : Blk} (b : Blk) (rel : Nat) (h0 : Part.air ∈ ps) :
    a.onlyIn ps ((Blk.tellStates b rel)) ↔ a.onlyIn ps b := by
  unfold Blk.tellStates; simp [h0, Blk.foldl_onlyIn, Blk.ite_onlyIn]
@[simp] theorem Blk.eccMasks_onlyIn {ps : List Part} {a : Blk} (b : Blk) (h0 : Part.fresh ∈ ps) :
    a.onlyIn ps ((Blk.eccMasks b).2.2) ↔ a.onlyIn ps b := by
  unfold Blk.eccMasks; (repeat' split) <;> simp [h0]
@[simp] theorem Blk.switchMap_onlyIn {ps : List Part} {a : Blk} (b : Blk) (m : SiteMap) (h0 : Part.air ∈ ps) (h1 :
    Part.clp ∈ ps) (h2 : Part.dvt ∈ ps) (h3 : Part.evr ∈ ps) (h4 : Part.fleet ∈ ps) (h5 : Part.fresh ∈ ps) (h6 :
    Part.gns ∈ ps) (h7 : Part.hdl ∈ ps) (h8 : Part.hst ∈ ps) (h9 : Part.inv ∈ ps) (h10 : Part.mem ∈ ps) (h11 :
    Part.out ∈ ps) (h12 : Part.pos ∈ ps) (h13 : Part.regs ∈ ps) :
    a.onlyIn ps (b.switchMap m) ↔ a.onlyIn ps b := by
  unfold Blk.switchMap
  dsimp only
  simp only [Blk.tellStates_onlyIn, h0, h1, h2, h3, h4, h5, h6, h7, h8, h9, h10, h11, h12, h13, Blk.foldl_onlyIn,
      Blk.ite_onlyIn]
  rw [Blk.foldl_onlyIn (fun c x => by simp [h0, h1, h2, h3, h4, h5, h6, h7, h8, h9, h10, h11, h12, h13,
      Blk.foldl_onlyIn, Blk.ite_onlyIn]), Blk.foldl_onlyIn (fun c x => by simp [h0, h1, h2, h3, h4, h5, h6, h7, h8,
      h9, h10, h11, h12, h13, Blk.foldl_onlyIn, Blk.ite_onlyIn])]
  simp only [Blk.record_onlyIn, Blk.membersChanged_onlyIn, Blk.syncInternal_onlyIn, Blk.bump_onlyIn, h0, h1, h2, h3,
      h4, h5, h6, h7, h8, h9, h10, h11, h12, h13, Blk.foldl_onlyIn, Blk.ite_onlyIn]
  generalize hb : (if b.inService then b.copySnaps else b) = b0
  have e : a.onlyIn ps b0 ↔ a.onlyIn ps b := by subst hb; split <;> simp [h0, h1, h2, h3, h4, h5, h6, h7, h8, h9,
      h10, h11, h12, h13, Blk.foldl_onlyIn, Blk.ite_onlyIn]
  rw [← e, Blk.onlyIn_iff (b := (b0.eccMasks.2.2.cancelEffects fun _ => true)) (fun p hp => ?_)]
  · simp [h0, h1, h2, h3, h4, h5, h6, h7, h8, h9, h10, h11, h12, h13, Blk.foldl_onlyIn, Blk.ite_onlyIn]
  · cases p <;> first | rfl | exact absurd (by assumption) hp
@[simp] theorem Blk.mapSwitch_onlyIn {ps : List Part} {a : Blk} (d : Desc) (b : Blk) (h0 : Part.air ∈ ps) (h1 :
    Part.clp ∈ ps) (h2 : Part.dvt ∈ ps) (h3 : Part.evr ∈ ps) (h4 : Part.fleet ∈ ps) (h5 : Part.fresh ∈ ps) (h6 :
    Part.gns ∈ ps) (h7 : Part.hdl ∈ ps) (h8 : Part.hst ∈ ps) (h9 : Part.inv ∈ ps) (h10 : Part.mem ∈ ps) (h11 :
    Part.out ∈ ps) (h12 : Part.pos ∈ ps) (h13 : Part.regs ∈ ps) :
    a.onlyIn ps (Blk.mapSwitch d b) ↔ a.onlyIn ps b := by
  unfold Blk.mapSwitch; dsimp only
  have e := Blk.settleAir_onlyIn (ps := ps) (a := a) b (by assumption) (by assumption) (by assumption) (by
      assumption) (by assumption)
  rw [← e]
  generalize b.settleAir = b1
  (repeat' split) <;> simp [h0, h1, h2, h3, h4, h5, h6, h7, h8, h9, h10, h11, h12, h13, Blk.foldl_onlyIn,
      Blk.ite_onlyIn]
@[simp] theorem Blk.beginSnap_onlyIn {ps : List Part} {a : Blk} (b : Blk) (d : Desc) (v : SnapView) (e : Nat) (h0 :
    Part.fleet ∈ ps) (h1 : Part.hst ∈ ps) (h2 : Part.out ∈ ps) :
    a.onlyIn ps ((Blk.beginSnap b d v e)) ↔ a.onlyIn ps b := by
  unfold Blk.beginSnap; dsimp only; (repeat' split) <;> simp [h0, h1, h2]
@[simp] theorem Blk.snapshot_onlyIn {ps : List Part} {a : Blk} (d : Desc) (b0 : Blk) (h0 : Part.air ∈ ps) (h1 :
    Part.fleet ∈ ps) (h2 : Part.hdl ∈ ps) (h3 : Part.hst ∈ ps) (h4 : Part.out ∈ ps) (h5 : Part.regs ∈ ps) :
    a.onlyIn ps ((Blk.snapshot d b0)) ↔ a.onlyIn ps b0 := by
  unfold Blk.snapshot; dsimp only; (repeat' split) <;> simp [h0, h1, h2, h3, h4, h5]
@[simp] theorem Blk.snapAtEpoch_onlyIn {ps : List Part} {a : Blk} (b : Blk) (h0 : Part.air ∈ ps) (h1 : Part.fleet ∈
    ps) (h2 : Part.hdl ∈ ps) (h3 : Part.hst ∈ ps) (h4 : Part.out ∈ ps) (h5 : Part.regs ∈ ps) :
    a.onlyIn ps ((Blk.snapAtEpoch b)) ↔ a.onlyIn ps b := by
  unfold Blk.snapAtEpoch; simp [h0, h1, h2, h3, h4, h5, Blk.foldl_onlyIn, Blk.ite_onlyIn]
@[simp] theorem Blk.snapTimeout_onlyIn {ps : List Part} {a : Blk} (b0 : Blk) (t : Nat) (h0 : Part.fleet ∈ ps) (h1 :
    Part.hst ∈ ps) (h2 : Part.inv ∈ ps) (h3 : Part.out ∈ ps) :
    a.onlyIn ps ((Blk.snapTimeout b0 t)) ↔ a.onlyIn ps b0 := by
  unfold Blk.snapTimeout; simp [h0, h1, h2, h3, Blk.foldl_onlyIn, Blk.ite_onlyIn]
@[simp] theorem Blk.runQueued_onlyIn {ps : List Part} {a : Blk} (b : Blk) (h0 : Part.air ∈ ps) (h1 : Part.fleet ∈ ps)
    (h2 : Part.hdl ∈ ps) (h3 : Part.hst ∈ ps) (h4 : Part.out ∈ ps) (h5 : Part.regs ∈ ps) :
    a.onlyIn ps b.runQueued ↔ a.onlyIn ps b := by
  unfold Blk.runQueued
  generalize b.fleet.snapQueue.length = k
  induction k generalizing b with
  | zero => rfl
  | succ n ih => unfold Blk.runQueued.go; (repeat' split) <;> simp [ih, h0, h1, h2, h3, h4, h5, Blk.foldl_onlyIn,
      Blk.ite_onlyIn]
@[simp] theorem Blk.snapWritten_onlyIn {ps : List Part} {a : Blk} (b : Blk) (h0 : Part.air ∈ ps) (h1 : Part.fleet ∈
    ps) (h2 : Part.hdl ∈ ps) (h3 : Part.hst ∈ ps) (h4 : Part.out ∈ ps) (h5 : Part.regs ∈ ps) :
    a.onlyIn ps ((Blk.snapWritten b)) ↔ a.onlyIn ps b := by
  unfold Blk.snapWritten; dsimp only; repeat' split
  all_goals simp [h0, h1, h2, h3, h4, h5, Blk.foldl_onlyIn, Blk.ite_onlyIn]
@[simp] theorem Blk.grantOne_onlyIn {ps : List Part} {a : Blk} (b : Blk) (n : Nat) (h0 : Part.mem ∈ ps) (h1 :
    Part.regs ∈ ps) :
    a.onlyIn ps ((Blk.grantOne b n)) ↔ a.onlyIn ps b := by
  unfold Blk.grantOne; dsimp only; (repeat' split) <;> simp [h0, h1]
@[simp] theorem Blk.grantWaiting_onlyIn {ps : List Part} {a : Blk} (b0 : Blk) (n : Nat) (h0 : Part.evr ∈ ps) (h1 :
    Part.mem ∈ ps) (h2 : Part.regs ∈ ps) :
    a.onlyIn ps ((Blk.grantWaiting b0 n)) ↔ a.onlyIn ps b0 := by
  unfold Blk.grantWaiting; simp [h0, h1, h2, Blk.foldl_onlyIn, Blk.ite_onlyIn]
@[simp] theorem Blk.pop_onlyIn {ps : List Part} {a : Blk} (b0 : Blk) (n : Nat) (opens : List OpenItem) (h0 : Part.evr
    ∈ ps) (h1 : Part.mem ∈ ps) (h2 : Part.regs ∈ ps) :
    a.onlyIn ps ((Blk.pop b0 n opens)) ↔ a.onlyIn ps b0 := by
  unfold Blk.pop; dsimp only; (repeat' split) <;> simp [h0, h1, h2]
@[simp] theorem Blk.applyMark_onlyIn {ps : List Part} {a : Blk} (b : Blk) (e : Effect) (h0 : Part.evr ∈ ps) (h1 :
    Part.fleet ∈ ps) (h2 : Part.mem ∈ ps) (h3 : Part.regs ∈ ps) :
    a.onlyIn ps ((Blk.applyMark b e)) ↔ a.onlyIn ps b := by
  unfold Blk.applyMark; (repeat' split) <;> simp [h0, h1, h2, h3]
@[simp] theorem Blk.applyMarks_onlyIn {ps : List Part} {a : Blk} (b0 : Blk) (t : Nat) (h0 : Part.evr ∈ ps) (h1 :
    Part.fleet ∈ ps) (h2 : Part.inv ∈ ps) (h3 : Part.mem ∈ ps) (h4 : Part.regs ∈ ps) :
    a.onlyIn ps ((Blk.applyMarks b0 t)) ↔ a.onlyIn ps b0 := by
  unfold Blk.applyMarks; simp [h0, h1, h2, h3, h4, Blk.foldl_onlyIn, Blk.ite_onlyIn]
@[simp] theorem Blk.queueBind_onlyIn {ps : List Part} {a : Blk} (d : Desc) (b : Blk) (h0 : Part.hst ∈ ps) (h1 :
    Part.mem ∈ ps) (h2 : Part.out ∈ ps) :
    a.onlyIn ps ((Blk.queueBind d b)) ↔ a.onlyIn ps b := by
  unfold Blk.queueBind; dsimp only; (repeat' split) <;> simp [h0, h1, h2]
@[simp] theorem Blk.queueUnbind_onlyIn {ps : List Part} {a : Blk} (d : Desc) (b : Blk) (h0 : Part.hst ∈ ps) (h1 :
    Part.mem ∈ ps) (h2 : Part.out ∈ ps) :
    a.onlyIn ps ((Blk.queueUnbind d b)) ↔ a.onlyIn ps b := by
  unfold Blk.queueUnbind; dsimp only; (repeat' split) <;> simp [h0, h1, h2]
@[simp] theorem Blk.queueFlush_onlyIn {ps : List Part} {a : Blk} (d : Desc) (opens : List QueueOpen) (b0 : Blk) (h0 :
    Part.evr ∈ ps) (h1 : Part.hst ∈ ps) (h2 : Part.mem ∈ ps) (h3 : Part.out ∈ ps) (h4 : Part.regs ∈ ps) :
    a.onlyIn ps ((Blk.queueFlush d opens b0)) ↔ a.onlyIn ps b0 := by
  unfold Blk.queueFlush; simp [h0, h1, h2, h3, h4, Blk.foldl_onlyIn, Blk.ite_onlyIn]
@[simp] theorem Blk.invEdge_onlyIn {ps : List Part} {a : Blk} (b : Blk) (h0 : Part.inv ∈ ps) :
    a.onlyIn ps ((Blk.invEdge b)) ↔ a.onlyIn ps b := by
  unfold Blk.invEdge; (repeat' split) <;> simp [h0]
@[simp] theorem Blk.toRc_onlyIn {ps : List Part} {a : Blk} (b : Blk) (h0 : Part.fresh ∈ ps) (h1 : Part.inv ∈ ps) :
    a.onlyIn ps b.toRc ↔ a.onlyIn ps b := by
  refine Blk.onlyIn_iff (fun p hp => ?_)
  unfold Blk.toRc; split <;> cases p <;> first | rfl | exact absurd (by assumption) hp
@[simp] theorem Blk.invItem_onlyIn {ps : List Part} {a : Blk} (b : Blk) (typ : Nat) (data : Bytes) (h0 : Part.evr ∈
    ps) (h1 : Part.mem ∈ ps) (h2 : Part.regs ∈ ps) :
    a.onlyIn ps ((Blk.invItem b typ data)) ↔ a.onlyIn ps b := by
  unfold Blk.invItem; (repeat' split) <;> simp [h0, h1, h2]
@[simp] theorem Blk.timeItem_onlyIn {ps : List Part} {a : Blk} (b : Blk) (event old new port : Nat) (value : Int) (h0
    : Part.evr ∈ ps) (h1 : Part.mem ∈ ps) (h2 : Part.regs ∈ ps) :
    a.onlyIn ps ((Blk.timeItem b event old new port value)) ↔ a.onlyIn ps b := by
  unfold Blk.timeItem; (repeat' split) <;> simp [h0, h1, h2]
@[simp] theorem Blk.setLan_onlyIn {ps : List Part} {a : Blk} (b : Blk) (p : Nat) (x : LanPort) (h0 : Part.inv ∈ ps) :
    a.onlyIn ps ((Blk.setLan b p x)) ↔ a.onlyIn ps b := by
  unfold Blk.setLan; (repeat' split) <;> simp [h0]
@[simp] theorem Blk.select_onlyIn {ps : List Part} {a : Blk} (b : Blk) (sel : Nat) (h0 : Part.evr ∈ ps) (h1 :
    Part.inv ∈ ps) (h2 : Part.mem ∈ ps) (h3 : Part.regs ∈ ps) :
    a.onlyIn ps ((Blk.select b sel)) ↔ a.onlyIn ps b := by
  unfold Blk.select; dsimp only; (repeat' split) <;> simp [h0, h1, h2, h3]
@[simp] theorem Blk.setTimeState_onlyIn {ps : List Part} {a : Blk} (b : Blk) (st : TimeState) (h0 : Part.evr ∈ ps)
    (h1 : Part.inv ∈ ps) (h2 : Part.mem ∈ ps) (h3 : Part.regs ∈ ps) :
    a.onlyIn ps ((Blk.setTimeState b st)) ↔ a.onlyIn ps b := by
  unfold Blk.setTimeState; dsimp only; (repeat' split) <;> simp [h0, h1, h2, h3]
@[simp] theorem Blk.evalTime_onlyIn {ps : List Part} {a : Blk} (b : Blk) (h0 : Part.evr ∈ ps) (h1 : Part.inv ∈ ps)
    (h2 : Part.mem ∈ ps) (h3 : Part.regs ∈ ps) :
    a.onlyIn ps ((Blk.evalTime b)) ↔ a.onlyIn ps b := by
  unfold Blk.evalTime; dsimp only; (repeat' split) <;> simp [h0, h1, h2, h3]
@[simp] theorem Blk.storeSeconds_onlyIn {ps : List Part} {a : Blk} (b : Blk) (h0 : Part.inv ∈ ps) :
    a.onlyIn ps ((Blk.storeSeconds b)) ↔ a.onlyIn ps b := by
  unfold Blk.storeSeconds; (repeat' split) <;> simp [h0]
@[simp] theorem Blk.secondsAt_onlyIn {ps : List Part} {a : Blk} (t : Nat) (b : Blk) (h0 : Part.inv ∈ ps) :
    a.onlyIn ps ((Blk.secondsAt t b)) ↔ a.onlyIn ps b := by
  unfold Blk.secondsAt; (repeat' split) <;> simp [h0]
@[simp] theorem Blk.ppsOut_onlyIn {ps : List Part} {a : Blk} (b0 : Blk) (t : Nat) (h0 : Part.inv ∈ ps) (h1 : Part.out
    ∈ ps) :
    a.onlyIn ps ((Blk.ppsOut b0 t)) ↔ a.onlyIn ps b0 := by
  unfold Blk.ppsOut; dsimp only; (repeat' split) <;> simp [h0, h1]
@[simp] theorem Blk.ppsIn_onlyIn {ps : List Part} {a : Blk} (b0 : Blk) (t : Nat) (rising : Bool) (h0 : Part.evr ∈ ps)
    (h1 : Part.inv ∈ ps) (h2 : Part.mem ∈ ps) (h3 : Part.regs ∈ ps) :
    a.onlyIn ps ((Blk.ppsIn b0 t rising)) ↔ a.onlyIn ps b0 := by
  unfold Blk.ppsIn; dsimp only; (repeat' split) <;> simp [h0, h1, h2, h3]
@[simp] theorem Blk.ppsLoss_onlyIn {ps : List Part} {a : Blk} (b0 : Blk) (t : Nat) (h0 : Part.evr ∈ ps) (h1 :
    Part.inv ∈ ps) (h2 : Part.mem ∈ ps) (h3 : Part.regs ∈ ps) :
    a.onlyIn ps ((Blk.ppsLoss b0 t)) ↔ a.onlyIn ps b0 := by
  unfold Blk.ppsLoss; dsimp only; (repeat' split) <;> simp [h0, h1, h2, h3]
@[simp] theorem Blk.holdLo_onlyIn {ps : List Part} {a : Blk} (b : Blk) (off : Nat) (w : Word) (h0 : Part.heldLo ∈ ps)
    :
    a.onlyIn ps ((Blk.holdLo b off w)) ↔ a.onlyIn ps b := by
  unfold Blk.holdLo; (repeat' split) <;> simp [h0]
@[simp] theorem Blk.setPair_onlyIn {ps : List Part} {a : Blk} (b : Blk) (lo hi v : Nat) (h0 : Part.heldLo ∈ ps) (h1 :
    Part.regs ∈ ps) :
    a.onlyIn ps ((Blk.setPair b lo hi v)) ↔ a.onlyIn ps b := by
  unfold Blk.setPair; (repeat' split) <;> simp [h0, h1]
@[simp] theorem Blk.writeInc_onlyIn {ps : List Part} {a : Blk} (b : Blk) (w : Word) (h0 : Part.evr ∈ ps) (h1 :
    Part.heldLo ∈ ps) (h2 : Part.mem ∈ ps) (h3 : Part.regs ∈ ps) :
    a.onlyIn ps ((Blk.writeInc b w)) ↔ a.onlyIn ps b := by
  unfold Blk.writeInc; dsimp only; (repeat' split) <;> simp [h0, h1, h2, h3]
@[simp] theorem Blk.writeUtc_onlyIn {ps : List Part} {a : Blk} (b : Blk) (w : Word) (h0 : Part.evr ∈ ps) (h1 :
    Part.heldLo ∈ ps) (h2 : Part.mem ∈ ps) (h3 : Part.regs ∈ ps) :
    a.onlyIn ps ((Blk.writeUtc b w)) ↔ a.onlyIn ps b := by
  unfold Blk.writeUtc; dsimp only; (repeat' split) <;> simp [h0, h1, h2, h3]
@[simp] theorem Blk.writeHostOff_onlyIn {ps : List Part} {a : Blk} (b : Blk) (w : Word) (h0 : Part.evr ∈ ps) (h1 :
    Part.inv ∈ ps) (h2 : Part.mem ∈ ps) (h3 : Part.regs ∈ ps) :
    a.onlyIn ps ((Blk.writeHostOff b w)) ↔ a.onlyIn ps b := by
  unfold Blk.writeHostOff; (repeat' split) <;> simp [h0, h1, h2, h3]
@[simp] theorem Blk.timeStep_onlyIn {ps : List Part} {a : Blk} (d : Desc) (b : Blk) (h0 : Part.hst ∈ ps) (h1 :
    Part.inv ∈ ps) (h2 : Part.out ∈ ps) :
    a.onlyIn ps ((Blk.timeStep d b)) ↔ a.onlyIn ps b := by
  unfold Blk.timeStep; dsimp only; (repeat' split) <;> simp [h0, h1, h2]
@[simp] theorem Blk.stepApply_onlyIn {ps : List Part} {a : Blk} (b0 : Blk) (h0 : Part.dvt ∈ ps) (h1 : Part.evr ∈ ps)
    (h2 : Part.fleet ∈ ps) (h3 : Part.hdl ∈ ps) (h4 : Part.hst ∈ ps) (h5 : Part.inv ∈ ps) (h6 : Part.mem ∈ ps) (h7 :
    Part.out ∈ ps) (h8 : Part.regs ∈ ps) :
    a.onlyIn ps ((Blk.stepApply b0)) ↔ a.onlyIn ps b0 := by
  unfold Blk.stepApply; dsimp only; (repeat' split) <;> simp [h0, h1, h2, h3, h4, h5, h6, h7, h8]
@[simp] theorem Blk.ptpRx_onlyIn {ps : List Part} {a : Blk} (b : Blk) (p : Nat) (frame : Bytes) (h0 : Part.inv ∈ ps) :
    a.onlyIn ps ((Blk.ptpRx b p frame)) ↔ a.onlyIn ps b := by
  unfold Blk.ptpRx; (repeat' split) <;> simp [h0]
@[simp] theorem Blk.ptpTx_onlyIn {ps : List Part} {a : Blk} (b : Blk) (p : Nat) (frame : Bytes) (h0 : Part.inv ∈ ps) :
    a.onlyIn ps ((Blk.ptpTx b p frame)) ↔ a.onlyIn ps b := by
  unfold Blk.ptpTx; (repeat' split) <;> simp [h0]
@[simp] theorem Blk.lanRx_onlyIn {ps : List Part} {a : Blk} (t p : Nat) (frame : Bytes) (b0 : Blk) (h0 : Part.evr ∈
    ps) (h1 : Part.inv ∈ ps) (h2 : Part.mem ∈ ps) (h3 : Part.regs ∈ ps) :
    a.onlyIn ps ((Blk.lanRx t p frame b0)) ↔ a.onlyIn ps b0 := by
  unfold Blk.lanRx; dsimp only; (repeat' split) <;> simp [h0, h1, h2, h3]
@[simp] theorem Blk.lanEnd_onlyIn {ps : List Part} {a : Blk} (t p : Nat) (b0 : Blk) (h0 : Part.evr ∈ ps) (h1 :
    Part.inv ∈ ps) (h2 : Part.mem ∈ ps) (h3 : Part.regs ∈ ps) :
    a.onlyIn ps ((Blk.lanEnd t p b0)) ↔ a.onlyIn ps b0 := by
  unfold Blk.lanEnd; dsimp only; (repeat' split) <;> simp [h0, h1, h2, h3]
@[simp] theorem Blk.writeLanCfg_onlyIn {ps : List Part} {a : Blk} (b : Blk) (p : Nat) (w : Word) (h0 : Part.evr ∈ ps)
    (h1 : Part.inv ∈ ps) (h2 : Part.mem ∈ ps) (h3 : Part.regs ∈ ps) :
    a.onlyIn ps ((Blk.writeLanCfg b p w)) ↔ a.onlyIn ps b := by
  unfold Blk.writeLanCfg; dsimp only; (repeat' split) <;> simp [h0, h1, h2, h3]
@[simp] theorem Blk.lanSend_onlyIn {ps : List Part} {a : Blk} (t : Nat) (d : Desc) (frame : Bytes) (b0 : Blk) (h0 :
    Part.hst ∈ ps) (h1 : Part.inv ∈ ps) (h2 : Part.out ∈ ps) :
    a.onlyIn ps ((Blk.lanSend t d frame b0)) ↔ a.onlyIn ps b0 := by
  unfold Blk.lanSend; dsimp only; (repeat' split) <;> simp [h0, h1, h2]
@[simp] theorem Blk.lanRxBind_onlyIn {ps : List Part} {a : Blk} (d : Desc) (b : Blk) (h0 : Part.hst ∈ ps) (h1 :
    Part.inv ∈ ps) (h2 : Part.out ∈ ps) :
    a.onlyIn ps ((Blk.lanRxBind d b)) ↔ a.onlyIn ps b := by
  unfold Blk.lanRxBind; dsimp only; (repeat' split) <;> simp [h0, h1, h2]
@[simp] theorem Blk.fireUnit_onlyIn {ps : List Part} {a : Blk} (b : Blk) (n : Nat) (h0 : Part.evr ∈ ps) (h1 :
    Part.inv ∈ ps) (h2 : Part.mem ∈ ps) (h3 : Part.regs ∈ ps) :
    a.onlyIn ps ((Blk.fireUnit b n)) ↔ a.onlyIn ps b := by
  unfold Blk.fireUnit; dsimp only; (repeat' split) <;> simp [h0, h1, h2, h3]
@[simp] theorem Blk.firedEffect_onlyIn {ps : List Part} {a : Blk} (b : Blk) (n : Nat) (x : CmpUnit) (h0 : Part.fleet
    ∈ ps) (h1 : Part.regs ∈ ps) :
    a.onlyIn ps ((Blk.firedEffect b n x)) ↔ a.onlyIn ps b := by
  unfold Blk.firedEffect; (repeat' split) <;> simp [h0, h1]
@[simp] theorem Blk.fireDue_onlyIn {ps : List Part} {a : Blk} (b : Blk) (n : Nat) (h0 : Part.evr ∈ ps) (h1 :
    Part.fleet ∈ ps) (h2 : Part.inv ∈ ps) (h3 : Part.mem ∈ ps) (h4 : Part.regs ∈ ps) :
    a.onlyIn ps ((Blk.fireDue b n)) ↔ a.onlyIn ps b := by
  unfold Blk.fireDue; dsimp only; (repeat' split) <;> simp [h0, h1, h2, h3, h4]
@[simp] theorem Blk.armDue_onlyIn {ps : List Part} {a : Blk} (b : Blk) (n : Nat) (h0 : Part.evr ∈ ps) (h1 :
    Part.fleet ∈ ps) (h2 : Part.inv ∈ ps) (h3 : Part.mem ∈ ps) (h4 : Part.regs ∈ ps) :
    a.onlyIn ps ((Blk.armDue b n)) ↔ a.onlyIn ps b := by
  unfold Blk.armDue; (repeat' split) <;> simp [h0, h1, h2, h3, h4]
@[simp] theorem Blk.compareFire_onlyIn {ps : List Part} {a : Blk} (b0 : Blk) (t n : Nat) (h0 : Part.evr ∈ ps) (h1 :
    Part.fleet ∈ ps) (h2 : Part.inv ∈ ps) (h3 : Part.mem ∈ ps) (h4 : Part.regs ∈ ps) :
    a.onlyIn ps ((Blk.compareFire b0 t n)) ↔ a.onlyIn ps b0 := by
  unfold Blk.compareFire; simp [h0, h1, h2, h3, h4, Blk.foldl_onlyIn, Blk.ite_onlyIn]
@[simp] theorem Blk.hostArm_onlyIn {ps : List Part} {a : Blk} (b : Blk) (n : Nat) (h0 : Part.evr ∈ ps) (h1 :
    Part.fleet ∈ ps) (h2 : Part.inv ∈ ps) (h3 : Part.mem ∈ ps) (h4 : Part.regs ∈ ps) :
    a.onlyIn ps ((Blk.hostArm b n)) ↔ a.onlyIn ps b := by
  unfold Blk.hostArm; dsimp only; (repeat' split) <;> simp [h0, h1, h2, h3, h4]
@[simp] theorem Blk.writeCmpCfg_onlyIn {ps : List Part} {a : Blk} (b : Blk) (n : Nat) (w : Word) (h0 : Part.evr ∈ ps)
    (h1 : Part.fleet ∈ ps) (h2 : Part.inv ∈ ps) (h3 : Part.mem ∈ ps) (h4 : Part.regs ∈ ps) :
    a.onlyIn ps ((Blk.writeCmpCfg b n w)) ↔ a.onlyIn ps b := by
  unfold Blk.writeCmpCfg; dsimp only; (repeat' split) <;> simp [h0, h1, h2, h3, h4]
@[simp] theorem Blk.modMot_onlyIn {ps : List Part} {a : Blk} (b : Blk) (n : Nat) (f : AxMot → AxMot) (h0 : Part.axs ∈
    ps) :
    a.onlyIn ps ((Blk.modMot b n f)) ↔ a.onlyIn ps b := by
  unfold Blk.modMot; (repeat' split) <;> simp [h0]
@[simp] theorem Blk.modIo_onlyIn {ps : List Part} {a : Blk} (b : Blk) (n : Nat) (f : AxIo → AxIo) (h0 : Part.axs ∈
    ps) :
    a.onlyIn ps ((Blk.modIo b n f)) ↔ a.onlyIn ps b := by
  unfold Blk.modIo; (repeat' split) <;> simp [h0]
@[simp] theorem Blk.modLoop_onlyIn {ps : List Part} {a : Blk} (b : Blk) (n : Nat) (f : AxLoop → AxLoop) (h0 :
    Part.axs ∈ ps) :
    a.onlyIn ps ((Blk.modLoop b n f)) ↔ a.onlyIn ps b := by
  unfold Blk.modLoop; (repeat' split) <;> simp [h0]
@[simp] theorem Blk.axsItem_onlyIn {ps : List Part} {a : Blk} (b : Blk) (n event : Nat) (value : Int) (epoch : Nat)
    (h0 : Part.evr ∈ ps) (h1 : Part.mem ∈ ps) (h2 : Part.regs ∈ ps) :
    a.onlyIn ps ((Blk.axsItem b n event value epoch)) ↔ a.onlyIn ps b := by
  unfold Blk.axsItem; (repeat' split) <;> simp [h0, h1, h2]
@[simp] theorem Blk.finishEff_onlyIn {ps : List Part} {a : Blk} (b : Blk) (e : Nat × Nat) (h0 : Part.dvt ∈ ps) :
    a.onlyIn ps ((Blk.finishEff b e)) ↔ a.onlyIn ps b := by
  unfold Blk.finishEff; (repeat' split) <;> simp [h0]
@[simp] theorem Blk.finishAll_onlyIn {ps : List Part} {a : Blk} (b : Blk) (n : Nat) (h0 : Part.axs ∈ ps) (h1 :
    Part.dvt ∈ ps) :
    a.onlyIn ps ((Blk.finishAll b n)) ↔ a.onlyIn ps b := by
  unfold Blk.finishAll; simp [h0, h1, Blk.foldl_onlyIn, Blk.ite_onlyIn]
@[simp] theorem Blk.disarm_onlyIn {ps : List Part} {a : Blk} (b : Blk) (n : Nat) (h0 : Part.axs ∈ ps) (h1 : Part.dvt
    ∈ ps) (h2 : Part.hst ∈ ps) (h3 : Part.out ∈ ps) :
    a.onlyIn ps ((Blk.disarm b n)) ↔ a.onlyIn ps b := by
  unfold Blk.disarm; (repeat' split) <;> simp [h0, h1, h2, h3]
@[simp] theorem Blk.markDone_onlyIn {ps : List Part} {a : Blk} (b : Blk) (n : Nat) (h0 : Part.axs ∈ ps) :
    a.onlyIn ps ((Blk.markDone b n)) ↔ a.onlyIn ps b := by
  unfold Blk.markDone; (repeat' split) <;> simp [h0]
@[simp] theorem Blk.completeAxis_onlyIn {ps : List Part} {a : Blk} (b : Blk) (n : Nat) (h0 : Part.axs ∈ ps) (h1 :
    Part.dvt ∈ ps) :
    a.onlyIn ps ((Blk.completeAxis b n)) ↔ a.onlyIn ps b := by
  unfold Blk.completeAxis; (repeat' split) <;> simp [h0, h1]
@[simp] theorem Blk.setGMove_onlyIn {ps : List Part} {a : Blk} (b : Blk) (g : Nat) (x : GMove) (h0 : Part.axs ∈ ps) :
    a.onlyIn ps ((Blk.setGMove b g x)) ↔ a.onlyIn ps b := by
  unfold Blk.setGMove; (repeat' split) <;> simp [h0]
@[simp] theorem Blk.delGMove_onlyIn {ps : List Part} {a : Blk} (b : Blk) (g : Nat) (h0 : Part.axs ∈ ps) :
    a.onlyIn ps ((Blk.delGMove b g)) ↔ a.onlyIn ps b := by
  unfold Blk.delGMove; (repeat' split) <;> simp [h0]
@[simp] theorem Blk.slowGroup_onlyIn {ps : List Part} {a : Blk} (b : Blk) (g : Nat) (dec : Nat → Int) (jerk : Bool)
    (turn : Option Nat) (h0 : Part.axs ∈ ps) :
    a.onlyIn ps ((Blk.slowGroup b g dec jerk turn)) ↔ a.onlyIn ps b := by
  unfold Blk.slowGroup; (repeat' split) <;> simp [h0]
@[simp] theorem Blk.leaveGroup_onlyIn {ps : List Part} {a : Blk} (b : Blk) (g n : Nat) (dec : Nat → Int) (jerk :
    Bool) (turn : Option Nat) (h0 : Part.axs ∈ ps) (h1 : Part.dvt ∈ ps) :
    a.onlyIn ps ((Blk.leaveGroup b g n dec jerk turn)) ↔ a.onlyIn ps b := by
  unfold Blk.leaveGroup; dsimp only; repeat' split
  all_goals simp [h0, h1, Blk.foldl_onlyIn, Blk.ite_onlyIn]
@[simp] theorem Blk.dropWaiting_onlyIn {ps : List Part} {a : Blk} (b : Blk) (n : Nat) (h0 : Part.axs ∈ ps) (h1 :
    Part.dvt ∈ ps) :
    a.onlyIn ps ((Blk.dropWaiting b n)) ↔ a.onlyIn ps b := by
  unfold Blk.dropWaiting; dsimp only; repeat' split
  all_goals simp [h0, h1, Blk.foldl_onlyIn, Blk.ite_onlyIn]
@[simp] theorem Blk.endMotion_onlyIn {ps : List Part} {a : Blk} (b : Blk) (n : Nat) (dec : Nat → Int) (jerk : Bool)
    (turn : Option Nat) (h0 : Part.axs ∈ ps) (h1 : Part.dvt ∈ ps) (h2 : Part.hst ∈ ps) (h3 : Part.out ∈ ps) :
    a.onlyIn ps ((Blk.endMotion b n dec jerk turn)) ↔ a.onlyIn ps b := by
  unfold Blk.endMotion; dsimp only; (repeat' split) <;> simp [h0, h1, h2, h3]
@[simp] theorem Blk.noteFault_onlyIn {ps : List Part} {a : Blk} (b : Blk) (n code epoch : Nat) (h0 : Part.evr ∈ ps)
    (h1 : Part.mem ∈ ps) (h2 : Part.regs ∈ ps) :
    a.onlyIn ps ((Blk.noteFault b n code epoch)) ↔ a.onlyIn ps b := by
  unfold Blk.noteFault; (repeat' split) <;> simp [h0, h1, h2]
@[simp] theorem Blk.holdAt_onlyIn {ps : List Part} {a : Blk} (b : Blk) (n : Nat) (h0 : Part.axs ∈ ps) :
    a.onlyIn ps ((Blk.holdAt b n)) ↔ a.onlyIn ps b := by
  unfold Blk.holdAt; (repeat' split) <;> simp [h0]
@[simp] theorem Blk.decelAxis_onlyIn {ps : List Part} {a : Blk} (b : Blk) (n : Nat) (dec j : Int) (soft : Bool) (h0 :
    Part.axs ∈ ps) :
    a.onlyIn ps ((Blk.decelAxis b n dec j soft)) ↔ a.onlyIn ps b := by
  unfold Blk.decelAxis; dsimp only; (repeat' split) <;> simp [h0]
@[simp] theorem Blk.groupFaults_onlyIn {ps : List Part} {a : Blk} (b : Blk) (g n : Nat) (h0 : Part.axs ∈ ps) (h1 :
    Part.dvt ∈ ps) (h2 : Part.evr ∈ ps) (h3 : Part.hst ∈ ps) (h4 : Part.mem ∈ ps) (h5 : Part.out ∈ ps) (h6 :
    Part.regs ∈ ps) :
    a.onlyIn ps ((Blk.groupFaults b g n)) ↔ a.onlyIn ps b := by
  unfold Blk.groupFaults; simp [h0, h1, h2, h3, h4, h5, h6, Blk.foldl_onlyIn, Blk.ite_onlyIn]
@[simp] theorem Blk.groupStop_onlyIn {ps : List Part} {a : Blk} (b : Blk) (g n : Nat) (h0 : Part.axs ∈ ps) (h1 :
    Part.clp ∈ ps) (h2 : Part.dvt ∈ ps) (h3 : Part.evr ∈ ps) (h4 : Part.hst ∈ ps) (h5 : Part.mem ∈ ps) (h6 : Part.out
    ∈ ps) (h7 : Part.regs ∈ ps) :
    a.onlyIn ps ((Blk.groupStop b g n)) ↔ a.onlyIn ps b := by
  unfold Blk.groupStop; (repeat' split) <;> simp [h0, h1, h2, h3, h4, h5, h6, h7]
@[simp] theorem Blk.react_onlyIn {ps : List Part} {a : Blk} (b : Blk) (n code severity : Nat) (h0 : Part.axs ∈ ps)
    (h1 : Part.clp ∈ ps) (h2 : Part.dvt ∈ ps) (h3 : Part.evr ∈ ps) (h4 : Part.hst ∈ ps) (h5 : Part.mem ∈ ps) (h6 :
    Part.out ∈ ps) (h7 : Part.regs ∈ ps) :
    a.onlyIn ps ((Blk.react b n code severity)) ↔ a.onlyIn ps b := by
  unfold Blk.react; (repeat' split) <;> simp [h0, h1, h2, h3, h4, h5, h6, h7]
@[simp] theorem Blk.faultAt_onlyIn {ps : List Part} {a : Blk} (b : Blk) (n code epoch : Nat) (h0 : Part.axs ∈ ps) (h1
    : Part.clp ∈ ps) (h2 : Part.dvt ∈ ps) (h3 : Part.evr ∈ ps) (h4 : Part.hst ∈ ps) (h5 : Part.mem ∈ ps) (h6 :
    Part.out ∈ ps) (h7 : Part.regs ∈ ps) :
    a.onlyIn ps ((Blk.faultAt b n code epoch)) ↔ a.onlyIn ps b := by
  unfold Blk.faultAt; dsimp only; (repeat' split) <;> simp [h0, h1, h2, h3, h4, h5, h6, h7]
@[simp] theorem Blk.raiseFault_onlyIn {ps : List Part} {a : Blk} (b : Blk) (n code : Nat) (h0 : Part.axs ∈ ps) (h1 :
    Part.clp ∈ ps) (h2 : Part.dvt ∈ ps) (h3 : Part.evr ∈ ps) (h4 : Part.hst ∈ ps) (h5 : Part.mem ∈ ps) (h6 : Part.out
    ∈ ps) (h7 : Part.regs ∈ ps) :
    a.onlyIn ps ((Blk.raiseFault b n code)) ↔ a.onlyIn ps b := by
  unfold Blk.raiseFault; (repeat' split) <;> simp [h0, h1, h2, h3, h4, h5, h6, h7]
@[simp] theorem Blk.postFault_onlyIn {ps : List Part} {a : Blk} (b : Blk) (n code : Nat) (h0 : Part.axs ∈ ps) :
    a.onlyIn ps ((Blk.postFault b n code)) ↔ a.onlyIn ps b := by
  unfold Blk.postFault; (repeat' split) <;> simp [h0]
@[simp] theorem Blk.masterFault_onlyIn {ps : List Part} {a : Blk} (b : Blk) (ch : Nat) (h0 : Part.axs ∈ ps) (h1 :
    Part.evr ∈ ps) (h2 : Part.mem ∈ ps) (h3 : Part.regs ∈ ps) :
    a.onlyIn ps ((Blk.masterFault b ch)) ↔ a.onlyIn ps b := by
  unfold Blk.masterFault; simp [h0, h1, h2, h3, Blk.foldl_onlyIn, Blk.ite_onlyIn]
@[simp] theorem Blk.encFault_onlyIn {ps : List Part} {a : Blk} (b : Blk) (n code bit : Nat) (h0 : Part.axs ∈ ps) (h1
    : Part.clp ∈ ps) (h2 : Part.dvt ∈ ps) (h3 : Part.evr ∈ ps) (h4 : Part.hst ∈ ps) (h5 : Part.mem ∈ ps) (h6 :
    Part.out ∈ ps) (h7 : Part.regs ∈ ps) :
    a.onlyIn ps ((Blk.encFault b n code bit)) ↔ a.onlyIn ps b := by
  unfold Blk.encFault; dsimp only; (repeat' split) <;> simp [h0, h1, h2, h3, h4, h5, h6, h7]
@[simp] theorem Blk.cutAxes_onlyIn {ps : List Part} {a : Blk} (b : Blk) (g : Nat) (h0 : Part.axs ∈ ps) (h1 : Part.dvt
    ∈ ps) (h2 : Part.hst ∈ ps) (h3 : Part.out ∈ ps) :
    a.onlyIn ps ((Blk.cutAxes b g)) ↔ a.onlyIn ps b := by
  unfold Blk.cutAxes; simp [h0, h1, h2, h3, Blk.foldl_onlyIn, Blk.ite_onlyIn]
@[simp] theorem Blk.rampAxis_onlyIn {ps : List Part} {a : Blk} (b : Blk) (n : Nat) (h0 : Part.axs ∈ ps) (h1 :
    Part.dvt ∈ ps) (h2 : Part.hst ∈ ps) (h3 : Part.out ∈ ps) :
    a.onlyIn ps ((Blk.rampAxis b n)) ↔ a.onlyIn ps b := by
  unfold Blk.rampAxis; dsimp only; (repeat' split) <;> simp [h0, h1, h2, h3]
@[simp] theorem Blk.rampAxes_onlyIn {ps : List Part} {a : Blk} (b : Blk) (gs : List Nat) (h0 : Part.axs ∈ ps) (h1 :
    Part.dvt ∈ ps) (h2 : Part.hst ∈ ps) (h3 : Part.out ∈ ps) :
    a.onlyIn ps ((Blk.rampAxes b gs)) ↔ a.onlyIn ps b := by
  unfold Blk.rampAxes
  try dsimp only
  all_goals (repeat' split)
  all_goals (try simp [h0, h1, h2, h3, Blk.foldl_onlyIn, Blk.ite_onlyIn])
  all_goals (try refine (Blk.foldl_onlyIn (fun b x => ?_) _ _).trans ?_)
  all_goals (repeat' split)
  all_goals (try simp [h0, h1, h2, h3, Blk.foldl_onlyIn, Blk.ite_onlyIn])
  all_goals (try refine (Blk.foldl_onlyIn (fun b x => ?_) _ _).trans ?_)
  all_goals (repeat' split)
  all_goals (try simp [h0, h1, h2, h3, Blk.foldl_onlyIn, Blk.ite_onlyIn])
  all_goals (try refine (Blk.foldl_onlyIn (fun b x => ?_) _ _).trans ?_)
  all_goals (repeat' split)
  all_goals (try simp [h0, h1, h2, h3, Blk.foldl_onlyIn, Blk.ite_onlyIn])
@[simp] theorem Blk.rebase_onlyIn {ps : List Part} {a : Blk} (b : Blk) (n : Nat) (h0 : Part.axs ∈ ps) :
    a.onlyIn ps ((Blk.rebase b n)) ↔ a.onlyIn ps b := by
  unfold Blk.rebase; (repeat' split) <;> simp [h0]
@[simp] theorem Blk.shiftPos_onlyIn {ps : List Part} {a : Blk} (b : Blk) (n : Nat) (k : Int) (h0 : Part.axs ∈ ps) :
    a.onlyIn ps ((Blk.shiftPos b n k)) ↔ a.onlyIn ps b := by
  unfold Blk.shiftPos; (repeat' split) <;> simp [h0]
@[simp] theorem Blk.latchAt_onlyIn {ps : List Part} {a : Blk} (b : Blk) (n : Nat) (raw : Int) (h0 : Part.axs ∈ ps)
    (h1 : Part.evr ∈ ps) (h2 : Part.mem ∈ ps) (h3 : Part.regs ∈ ps) :
    a.onlyIn ps ((Blk.latchAt b n raw)) ↔ a.onlyIn ps b := by
  unfold Blk.latchAt; (repeat' split) <;> simp [h0, h1, h2, h3]
@[simp] theorem Blk.homeJog_onlyIn {ps : List Part} {a : Blk} (b : Blk) (n : Nat) (h : HomePlan) (ph : HomePhase)
    (speed : Int) (h0 : Part.axs ∈ ps) :
    a.onlyIn ps ((Blk.homeJog b n h ph speed)) ↔ a.onlyIn ps b := by
  unfold Blk.homeJog; (repeat' split) <;> simp [h0]
@[simp] theorem Blk.homeStop_onlyIn {ps : List Part} {a : Blk} (b : Blk) (n : Nat) (h : HomePlan) (ph : HomePhase)
    (dec : Int) (h0 : Part.axs ∈ ps) :
    a.onlyIn ps ((Blk.homeStop b n h ph dec)) ↔ a.onlyIn ps b := by
  unfold Blk.homeStop; (repeat' split) <;> simp [h0]
@[simp] theorem Blk.homeFinal_onlyIn {ps : List Part} {a : Blk} (b : Blk) (n : Nat) (h : HomePlan) (h0 : Part.axs ∈
    ps) :
    a.onlyIn ps ((Blk.homeFinal b n h)) ↔ a.onlyIn ps b := by
  unfold Blk.homeFinal; (repeat' split) <;> simp [h0]
@[simp] theorem Blk.homeStart_onlyIn {ps : List Part} {a : Blk} (b : Blk) (n method : Nat) (h0 : Part.axs ∈ ps) (h1 :
    Part.dvt ∈ ps) (h2 : Part.evr ∈ ps) (h3 : Part.mem ∈ ps) (h4 : Part.regs ∈ ps) :
    a.onlyIn ps ((Blk.homeStart b n method)) ↔ a.onlyIn ps b := by
  unfold Blk.homeStart; dsimp only; (repeat' split) <;> simp [h0, h1, h2, h3, h4]
@[simp] theorem Blk.homeRest_onlyIn {ps : List Part} {a : Blk} (b : Blk) (n : Nat) (h0 : Part.axs ∈ ps) :
    a.onlyIn ps ((Blk.homeRest b n)) ↔ a.onlyIn ps b := by
  unfold Blk.homeRest; (repeat' split) <;> simp [h0]
@[simp] theorem Blk.homeEdge_onlyIn {ps : List Part} {a : Blk} (b : Blk) (n : Nat) (h : HomePlan) (which : Nat)
    (active : Bool) (pos : Int) (h0 : Part.axs ∈ ps) (h1 : Part.clp ∈ ps) (h2 : Part.dvt ∈ ps) (h3 : Part.evr ∈ ps)
    (h4 : Part.hst ∈ ps) (h5 : Part.mem ∈ ps) (h6 : Part.out ∈ ps) (h7 : Part.regs ∈ ps) :
    a.onlyIn ps ((Blk.homeEdge b n h which active pos)) ↔ a.onlyIn ps b := by
  unfold Blk.homeEdge; dsimp only; (repeat' split) <;> simp [h0, h1, h2, h3, h4, h5, h6, h7]
@[simp] theorem Blk.homeZ_onlyIn {ps : List Part} {a : Blk} (b : Blk) (n : Nat) (h : HomePlan) (pos : Int) (h0 :
    Part.axs ∈ ps) (h1 : Part.evr ∈ ps) (h2 : Part.mem ∈ ps) (h3 : Part.regs ∈ ps) :
    a.onlyIn ps ((Blk.homeZ b n h pos)) ↔ a.onlyIn ps b := by
  unfold Blk.homeZ; (repeat' split) <;> simp [h0, h1, h2, h3]
@[simp] theorem Blk.homeAdvance_onlyIn {ps : List Part} {a : Blk} (b : Blk) (n : Nat) (h : HomePlan) (h0 : Part.axs ∈
    ps) (h1 : Part.clp ∈ ps) (h2 : Part.dvt ∈ ps) (h3 : Part.evr ∈ ps) (h4 : Part.hst ∈ ps) (h5 : Part.mem ∈ ps) (h6
    : Part.out ∈ ps) (h7 : Part.regs ∈ ps) :
    a.onlyIn ps ((Blk.homeAdvance b n h)) ↔ a.onlyIn ps b := by
  unfold Blk.homeAdvance; dsimp only; (repeat' split) <;> simp [h0, h1, h2, h3, h4, h5, h6, h7]
@[simp] theorem Blk.losePhase_onlyIn {ps : List Part} {a : Blk} (b : Blk) (n : Nat) (offset : Int) (h0 : Part.axs ∈
    ps) (h1 : Part.evr ∈ ps) (h2 : Part.mem ∈ ps) (h3 : Part.regs ∈ ps) :
    a.onlyIn ps ((Blk.losePhase b n offset)) ↔ a.onlyIn ps b := by
  unfold Blk.losePhase; (repeat' split) <;> simp [h0, h1, h2, h3]
@[simp] theorem Blk.sourced_onlyIn {ps : List Part} {a : Blk} (b : Blk) (n : Nat) (want offset : Int) (cap : Option
    (Nat × Nat)) (h0 : Part.axs ∈ ps) (h1 : Part.evr ∈ ps) (h2 : Part.mem ∈ ps) (h3 : Part.regs ∈ ps) :
    a.onlyIn ps ((Blk.sourced b n want offset cap).1) ↔ a.onlyIn ps b := by
  unfold Blk.sourced; dsimp only; (repeat' split) <;> simp [h0, h1, h2, h3]
@[simp] theorem Blk.engage_onlyIn {ps : List Part} {a : Blk} (b : Blk) (n : Nat) (p : GearPlan) (dm : Int) (h0 :
    Part.axs ∈ ps) (h1 : Part.evr ∈ ps) (h2 : Part.mem ∈ ps) (h3 : Part.regs ∈ ps) :
    a.onlyIn ps ((Blk.engage b n p dm)) ↔ a.onlyIn ps b := by
  unfold Blk.engage; dsimp only; (repeat' split) <;> simp [h0, h1, h2, h3]
@[simp] theorem Blk.geared_onlyIn {ps : List Part} {a : Blk} (b : Blk) (n : Nat) (p : GearPlan) (dm : Int) (h0 :
    Part.axs ∈ ps) (h1 : Part.evr ∈ ps) (h2 : Part.mem ∈ ps) (h3 : Part.regs ∈ ps) :
    a.onlyIn ps ((Blk.geared b n p dm)) ↔ a.onlyIn ps b := by
  unfold Blk.geared; dsimp only; (repeat' split) <;> simp [h0, h1, h2, h3]
@[simp] theorem Blk.capRest_onlyIn {ps : List Part} {a : Blk} (b : Blk) (n : Nat) (cap : Option (Nat × Nat)) (h0 :
    Part.axs ∈ ps) :
    a.onlyIn ps ((Blk.capRest b n cap)) ↔ a.onlyIn ps b := by
  unfold Blk.capRest; (repeat' split) <;> simp [h0]
@[simp] theorem Blk.following_onlyIn {ps : List Part} {a : Blk} (b : Blk) (n : Nat) (p : FollowPlan) (h0 : Part.axs ∈
    ps) (h1 : Part.evr ∈ ps) (h2 : Part.mem ∈ ps) (h3 : Part.regs ∈ ps) :
    a.onlyIn ps ((Blk.following b n p)) ↔ a.onlyIn ps b := by
  unfold Blk.following; dsimp only; (repeat' split) <;> simp [h0, h1, h2, h3]
@[simp] theorem Blk.startTable_onlyIn {ps : List Part} {a : Blk} (b : Blk) (n : Nat) (p : TablePlan) (delayed : Bool)
    (h0 : Part.axs ∈ ps) (h1 : Part.evr ∈ ps) (h2 : Part.fleet ∈ ps) (h3 : Part.mem ∈ ps) (h4 : Part.regs ∈ ps) :
    a.onlyIn ps ((Blk.startTable b n p delayed)) ↔ a.onlyIn ps b := by
  unfold Blk.startTable; (repeat' split) <;> simp [h0, h1, h2, h3, h4]
@[simp] theorem Blk.runTable_onlyIn {ps : List Part} {a : Blk} (b : Blk) (n : Nat) (p : TablePlan) (h0 : Part.axs ∈
    ps) :
    a.onlyIn ps ((Blk.runTable b n p)) ↔ a.onlyIn ps b := by
  unfold Blk.runTable; (repeat' split) <;> simp [h0]
@[simp] theorem Blk.followMv_onlyIn {ps : List Part} {a : Blk} (b : Blk) (n : Nat) (mv : Mv) (h0 : Part.axs ∈ ps) (h1
    : Part.evr ∈ ps) (h2 : Part.mem ∈ ps) (h3 : Part.regs ∈ ps) :
    a.onlyIn ps ((Blk.followMv b n mv).1) ↔ a.onlyIn ps b := by
  unfold Blk.followMv; dsimp only; (repeat' split) <;> simp [h0, h1, h2, h3]
@[simp] theorem Blk.tableAdvance_onlyIn {ps : List Part} {a : Blk} (b : Blk) (n : Nat) (p : TablePlan) (h0 : Part.axs
    ∈ ps) (h1 : Part.evr ∈ ps) (h2 : Part.fleet ∈ ps) (h3 : Part.mem ∈ ps) (h4 : Part.regs ∈ ps) :
    a.onlyIn ps ((Blk.tableAdvance b n p)) ↔ a.onlyIn ps b := by
  unfold Blk.tableAdvance; dsimp only; (repeat' split) <;> simp [h0, h1, h2, h3, h4]
@[simp] theorem Blk.cameToRest_onlyIn {ps : List Part} {a : Blk} (b : Blk) (n : Nat) (soft : Bool) (h0 : Part.axs ∈
    ps) (h1 : Part.clp ∈ ps) (h2 : Part.dvt ∈ ps) (h3 : Part.evr ∈ ps) (h4 : Part.hst ∈ ps) (h5 : Part.mem ∈ ps) (h6
    : Part.out ∈ ps) (h7 : Part.regs ∈ ps) :
    a.onlyIn ps ((Blk.cameToRest b n soft)) ↔ a.onlyIn ps b := by
  unfold Blk.cameToRest; (repeat' split) <;> simp [h0, h1, h2, h3, h4, h5, h6, h7]
@[simp] theorem Blk.onPath_onlyIn {ps : List Part} {a : Blk} (b : Blk) (n g : Nat) (h0 : Part.axs ∈ ps) :
    a.onlyIn ps ((Blk.onPath b n g)) ↔ a.onlyIn ps b := by
  unfold Blk.onPath; dsimp only; (repeat' split) <;> simp [h0]
@[simp] theorem Blk.axAdvance_onlyIn {ps : List Part} {a : Blk} (b : Blk) (n : Nat) (dm : Int) (h0 : Part.axs ∈ ps)
    (h1 : Part.clp ∈ ps) (h2 : Part.dvt ∈ ps) (h3 : Part.evr ∈ ps) (h4 : Part.fleet ∈ ps) (h5 : Part.hst ∈ ps) (h6 :
    Part.mem ∈ ps) (h7 : Part.out ∈ ps) (h8 : Part.regs ∈ ps) :
    a.onlyIn ps ((Blk.axAdvance b n dm)) ↔ a.onlyIn ps b := by
  unfold Blk.axAdvance; dsimp only; (repeat' split) <;> simp [h0, h1, h2, h3, h4, h5, h6, h7, h8]
@[simp] theorem Blk.softWatch_onlyIn {ps : List Part} {a : Blk} (b : Blk) (n : Nat) (h0 : Part.axs ∈ ps) (h1 :
    Part.dvt ∈ ps) (h2 : Part.hst ∈ ps) (h3 : Part.out ∈ ps) :
    a.onlyIn ps ((Blk.softWatch b n)) ↔ a.onlyIn ps b := by
  unfold Blk.softWatch; dsimp only; (repeat' split) <;> simp [h0, h1, h2, h3]
@[simp] theorem Blk.inputAt_onlyIn {ps : List Part} {a : Blk} (b : Blk) (n which : Nat) (active : Bool) (pos : Int)
    (h0 : Part.axs ∈ ps) (h1 : Part.clp ∈ ps) (h2 : Part.dvt ∈ ps) (h3 : Part.evr ∈ ps) (h4 : Part.hst ∈ ps) (h5 :
    Part.mem ∈ ps) (h6 : Part.out ∈ ps) (h7 : Part.regs ∈ ps) :
    a.onlyIn ps ((Blk.inputAt b n which active pos)) ↔ a.onlyIn ps b := by
  unfold Blk.inputAt; dsimp only; (repeat' split) <;> simp [h0, h1, h2, h3, h4, h5, h6, h7]
@[simp] theorem Blk.drainInbox_onlyIn {ps : List Part} {a : Blk} (b : Blk) (n : Nat) (h0 : Part.axs ∈ ps) (h1 :
    Part.clp ∈ ps) (h2 : Part.dvt ∈ ps) (h3 : Part.evr ∈ ps) (h4 : Part.hst ∈ ps) (h5 : Part.mem ∈ ps) (h6 : Part.out
    ∈ ps) (h7 : Part.regs ∈ ps) :
    a.onlyIn ps ((Blk.drainInbox b n)) ↔ a.onlyIn ps b := by
  unfold Blk.drainInbox; try dsimp only
  all_goals (repeat' split)
  all_goals (try refine (Blk.foldl_onlyIn (fun b x => ?_) _ _).trans ?_)
  all_goals (repeat' split)
  all_goals (try simp [h0, h1, h2, h3, h4, h5, h6, h7, Blk.foldl_onlyIn, Blk.ite_onlyIn])
@[simp] theorem Blk.engageNow_onlyIn {ps : List Part} {a : Blk} (b : Blk) (n : Nat) (r : Ratio) (eff : Nat × Nat) (h0
    : Part.axs ∈ ps) (h1 : Part.dvt ∈ ps) (h2 : Part.hst ∈ ps) (h3 : Part.out ∈ ps) :
    a.onlyIn ps ((Blk.engageNow b n r eff)) ↔ a.onlyIn ps b := by
  unfold Blk.engageNow; (repeat' split) <;> simp [h0, h1, h2, h3]
@[simp] theorem Blk.changeRatio_onlyIn {ps : List Part} {a : Blk} (b : Blk) (n : Nat) (p : GearPlan) (a' : Arm) (past
    dm m : Int) (h0 : Part.axs ∈ ps) (h1 : Part.evr ∈ ps) (h2 : Part.mem ∈ ps) (h3 : Part.regs ∈ ps) :
    a.onlyIn ps ((Blk.changeRatio b n p a' past dm m)) ↔ a.onlyIn ps b := by
  unfold Blk.changeRatio; (repeat' split) <;> simp [h0, h1, h2, h3]
@[simp] theorem Blk.tryArm_onlyIn {ps : List Part} {a : Blk} (b : Blk) (n : Nat) (dm m : Int) (h0 : Part.axs ∈ ps)
    (h1 : Part.dvt ∈ ps) (h2 : Part.evr ∈ ps) (h3 : Part.hst ∈ ps) (h4 : Part.mem ∈ ps) (h5 : Part.out ∈ ps) (h6 :
    Part.regs ∈ ps) :
    a.onlyIn ps ((Blk.tryArm b n dm m)) ↔ a.onlyIn ps b := by
  unfold Blk.tryArm; dsimp only; (repeat' split) <;> simp [h0, h1, h2, h3, h4, h5, h6]
@[simp] theorem Blk.armGear_onlyIn {ps : List Part} {a : Blk} (b : Blk) (n : Nat) (r : Ratio) (pos : Int) (eff : Nat
    × Nat) (dm m : Int) (h0 : Part.axs ∈ ps) (h1 : Part.dvt ∈ ps) (h2 : Part.evr ∈ ps) (h3 : Part.hst ∈ ps) (h4 :
    Part.mem ∈ ps) (h5 : Part.out ∈ ps) (h6 : Part.regs ∈ ps) :
    a.onlyIn ps ((Blk.armGear b n r pos eff dm m)) ↔ a.onlyIn ps b := by
  unfold Blk.armGear; (repeat' split) <;> simp [h0, h1, h2, h3, h4, h5, h6]
@[simp] theorem Blk.dropEffect_onlyIn {ps : List Part} {a : Blk} (b : Blk) (e : Effect) (h0 : Part.dvt ∈ ps) (h1 :
    Part.fleet ∈ ps) (h2 : Part.regs ∈ ps) :
    a.onlyIn ps ((Blk.dropEffect b e)) ↔ a.onlyIn ps b := by
  unfold Blk.dropEffect; (repeat' split) <;> simp [h0, h1, h2]
@[simp] theorem Blk.doneNow_onlyIn {ps : List Part} {a : Blk} (b : Blk) (n : Nat) (e : Effect) (h0 : Part.axs ∈ ps)
    (h1 : Part.dvt ∈ ps) :
    a.onlyIn ps ((Blk.doneNow b n e)) ↔ a.onlyIn ps b := by
  unfold Blk.doneNow; (repeat' split) <;> simp [h0, h1]
@[simp] theorem Blk.takeOver_onlyIn {ps : List Part} {a : Blk} (b : Blk) (n : Nat) (e : Effect) (h0 : Part.axs ∈ ps)
    (h1 : Part.dvt ∈ ps) (h2 : Part.hst ∈ ps) (h3 : Part.out ∈ ps) :
    a.onlyIn ps ((Blk.takeOver b n e)) ↔ a.onlyIn ps b := by
  unfold Blk.takeOver; (repeat' split) <;> simp [h0, h1, h2, h3]
@[simp] theorem Blk.applyTable_onlyIn {ps : List Part} {a : Blk} (b : Blk) (n : Nat) (e : Effect) (h0 : Part.axs ∈
    ps) (h1 : Part.dvt ∈ ps) (h2 : Part.evr ∈ ps) (h3 : Part.fleet ∈ ps) (h4 : Part.hst ∈ ps) (h5 : Part.mem ∈ ps)
    (h6 : Part.out ∈ ps) (h7 : Part.regs ∈ ps) :
    a.onlyIn ps ((Blk.applyTable b n e)) ↔ a.onlyIn ps b := by
  unfold Blk.applyTable; dsimp only; (repeat' split) <;> simp [h0, h1, h2, h3, h4, h5, h6, h7]
@[simp] theorem Blk.startLine_onlyIn {ps : List Part} {a : Blk} (b : Blk) (e : Effect) (h0 : Part.axs ∈ ps) :
    a.onlyIn ps ((Blk.startLine b e)) ↔ a.onlyIn ps b := by
  unfold Blk.startLine; simp [h0, Blk.foldl_onlyIn, Blk.ite_onlyIn]
@[simp] theorem Blk.applyGroup_onlyIn {ps : List Part} {a : Blk} (b : Blk) (e : Effect) (h0 : Part.axs ∈ ps) (h1 :
    Part.dvt ∈ ps) (h2 : Part.hst ∈ ps) (h3 : Part.out ∈ ps) :
    a.onlyIn ps ((Blk.applyGroup b e)) ↔ a.onlyIn ps b := by
  unfold Blk.applyGroup; dsimp only; repeat' split
  all_goals simp [h0, h1, h2, h3, Blk.foldl_onlyIn, Blk.ite_onlyIn]
@[simp] theorem Blk.applyAxis_onlyIn {ps : List Part} {a : Blk} (b : Blk) (n : Nat) (e : Effect) (dm m : Int) (h0 :
    Part.axs ∈ ps) (h1 : Part.dvt ∈ ps) (h2 : Part.evr ∈ ps) (h3 : Part.fleet ∈ ps) (h4 : Part.hst ∈ ps) (h5 :
    Part.mem ∈ ps) (h6 : Part.out ∈ ps) (h7 : Part.regs ∈ ps) :
    a.onlyIn ps ((Blk.applyAxis b n e dm m)) ↔ a.onlyIn ps b := by
  unfold Blk.applyAxis; dsimp only; (repeat' split) <;> simp [h0, h1, h2, h3, h4, h5, h6, h7]
@[simp] theorem Blk.dueAxis_onlyIn {ps : List Part} {a : Blk} (b : Blk) (n : Nat) (e : Effect) (dm m : Int) (h0 :
    Part.axs ∈ ps) (h1 : Part.clp ∈ ps) (h2 : Part.dvt ∈ ps) (h3 : Part.evr ∈ ps) (h4 : Part.fleet ∈ ps) (h5 :
    Part.hst ∈ ps) (h6 : Part.mem ∈ ps) (h7 : Part.out ∈ ps) (h8 : Part.regs ∈ ps) :
    a.onlyIn ps ((Blk.dueAxis b n e dm m)) ↔ a.onlyIn ps b := by
  unfold Blk.dueAxis; dsimp only; (repeat' split) <;> simp [h0, h1, h2, h3, h4, h5, h6, h7, h8]
@[simp] theorem Blk.dueGroup_onlyIn {ps : List Part} {a : Blk} (b : Blk) (e : Effect) (h0 : Part.axs ∈ ps) (h1 :
    Part.clp ∈ ps) (h2 : Part.dvt ∈ ps) (h3 : Part.evr ∈ ps) (h4 : Part.fleet ∈ ps) (h5 : Part.hst ∈ ps) (h6 :
    Part.mem ∈ ps) (h7 : Part.out ∈ ps) (h8 : Part.regs ∈ ps) :
    a.onlyIn ps ((Blk.dueGroup b e)) ↔ a.onlyIn ps b := by
  unfold Blk.dueGroup; try dsimp only
  all_goals (repeat' split)
  all_goals (try refine (Blk.foldl_onlyIn (fun b x => ?_) _ _).trans ?_)
  all_goals (repeat' split)
  all_goals (try simp [h0, h1, h2, h3, h4, h5, h6, h7, h8, Blk.foldl_onlyIn, Blk.ite_onlyIn])
@[simp] theorem Blk.applyDue_onlyIn {ps : List Part} {a : Blk} (b : Blk) (s : Nat) (due : List Nat) (dms : Nat → Int)
    (h0 : Part.axs ∈ ps) (h1 : Part.clp ∈ ps) (h2 : Part.dvt ∈ ps) (h3 : Part.evr ∈ ps) (h4 : Part.fleet ∈ ps) (h5 :
    Part.hst ∈ ps) (h6 : Part.mem ∈ ps) (h7 : Part.out ∈ ps) (h8 : Part.regs ∈ ps) :
    a.onlyIn ps (b.applyDue s due dms) ↔ a.onlyIn ps b := by
  unfold Blk.applyDue
  have go : ∀ (l : List Effect) (bl : List Nat) (c : Blk),
      a.onlyIn ps (Blk.applyDue.go s due dms l bl c) ↔ a.onlyIn ps c := by
    intro l
    induction l with
    | nil => intro bl c; rfl
    | cons e l ih =>
      intro bl c; unfold Blk.applyDue.go; dsimp only
      repeat' split
      all_goals simp [ih, h0, h1, h2, h3, h4, h5, h6, h7, h8, Blk.foldl_onlyIn, Blk.ite_onlyIn]
  exact go _ _ _
@[simp] theorem Blk.readSsi_onlyIn {ps : List Part} {a : Blk} (b : Blk) (n : Nat) (w : Option Nat) (h0 : Part.axs ∈
    ps) (h1 : Part.clp ∈ ps) (h2 : Part.dvt ∈ ps) (h3 : Part.evr ∈ ps) (h4 : Part.hst ∈ ps) (h5 : Part.mem ∈ ps) (h6
    : Part.out ∈ ps) (h7 : Part.regs ∈ ps) :
    a.onlyIn ps ((Blk.readSsi b n w)) ↔ a.onlyIn ps b := by
  unfold Blk.readSsi; (repeat' split) <;> simp [h0, h1, h2, h3, h4, h5, h6, h7]
@[simp] theorem Blk.readSp_onlyIn {ps : List Part} {a : Blk} (b : Blk) (n : Nat) (u : Int) (h0 : Part.axs ∈ ps) :
    a.onlyIn ps ((Blk.readSp b n u)) ↔ a.onlyIn ps b := by
  unfold Blk.readSp; (repeat' split) <;> simp [h0]
@[simp] theorem Blk.takeCounts_onlyIn {ps : List Part} {a : Blk} (b : Blk) (x : AxisIn) (h0 : Part.axs ∈ ps) :
    a.onlyIn ps ((Blk.takeCounts b x)) ↔ a.onlyIn ps b := by
  unfold Blk.takeCounts; (repeat' split) <;> simp [h0]
@[simp] theorem Blk.applyShadow_onlyIn {ps : List Part} {a : Blk} (b : Blk) (n : Nat) (h0 : Part.axs ∈ ps) :
    a.onlyIn ps ((Blk.applyShadow b n)) ↔ a.onlyIn ps b := by
  unfold Blk.applyShadow; (repeat' split) <;> simp [h0]
@[simp] theorem Blk.resetLoop_onlyIn {ps : List Part} {a : Blk} (b : Blk) (n : Nat) (h0 : Part.axs ∈ ps) :
    a.onlyIn ps ((Blk.resetLoop b n)) ↔ a.onlyIn ps b := by
  unfold Blk.resetLoop; (repeat' split) <;> simp [h0]
@[simp] theorem Blk.integWrap_onlyIn {ps : List Part} {a : Blk} (b : Blk) (n : Nat) (h0 : Part.evr ∈ ps) (h1 :
    Part.regs ∈ ps) :
    a.onlyIn ps ((Blk.integWrap b n)) ↔ a.onlyIn ps b := by
  unfold Blk.integWrap; dsimp only; (repeat' split) <;> simp [h0, h1]
@[simp] theorem Blk.loopLaw_onlyIn {ps : List Part} {a : Blk} (b : Blk) (n : Nat) (h0 : Part.axs ∈ ps) (h1 : Part.evr
    ∈ ps) (h2 : Part.regs ∈ ps) :
    a.onlyIn ps ((Blk.loopLaw b n)) ↔ a.onlyIn ps b := by
  unfold Blk.loopLaw; dsimp only; (repeat' split) <;> simp [h0, h1, h2]
@[simp] theorem Blk.current_onlyIn {ps : List Part} {a : Blk} (b : Blk) (n : Nat) (ena : Bool) (h0 : Part.axs ∈ ps) :
    a.onlyIn ps ((Blk.current b n ena)) ↔ a.onlyIn ps b := by
  unfold Blk.current; (repeat' split) <;> simp [h0]
@[simp] theorem Blk.emitSteps_onlyIn {ps : List Part} {a : Blk} (b : Blk) (n s : Nat) (ena : Bool) (h0 : Part.axs ∈
    ps) (h1 : Part.out ∈ ps) :
    a.onlyIn ps ((Blk.emitSteps b n s ena)) ↔ a.onlyIn ps b := by
  unfold Blk.emitSteps; dsimp only; (repeat' split) <;> simp [h0, h1]
@[simp] theorem Blk.supervise_onlyIn {ps : List Part} {a : Blk} (b : Blk) (n : Nat) (h0 : Part.axs ∈ ps) :
    a.onlyIn ps ((Blk.supervise b n)) ↔ a.onlyIn ps b := by
  unfold Blk.supervise; (repeat' split) <;> simp [h0]
@[simp] theorem Blk.inPosition_onlyIn {ps : List Part} {a : Blk} (b : Blk) (n : Nat) (h0 : Part.axs ∈ ps) (h1 :
    Part.dvt ∈ ps) :
    a.onlyIn ps ((Blk.inPosition b n)) ↔ a.onlyIn ps b := by
  unfold Blk.inPosition; dsimp only; (repeat' split) <;> simp [h0, h1]
@[simp] theorem Blk.groupDone_onlyIn {ps : List Part} {a : Blk} (b : Blk) (g : Nat) (h0 : Part.axs ∈ ps) (h1 :
    Part.dvt ∈ ps) :
    a.onlyIn ps ((Blk.groupDone b g)) ↔ a.onlyIn ps b := by
  unfold Blk.groupDone; simp [h0, h1, Blk.foldl_onlyIn, Blk.ite_onlyIn]
@[simp] theorem Blk.stillTest_onlyIn {ps : List Part} {a : Blk} (b : Blk) (n : Nat) (before : Int) (h0 : Part.axs ∈
    ps) :
    a.onlyIn ps ((Blk.stillTest b n before)) ↔ a.onlyIn ps b := by
  unfold Blk.stillTest; (repeat' split) <;> simp [h0]
@[simp] theorem Blk.reportAxis_onlyIn {ps : List Part} {a : Blk} (b : Blk) (n : Nat) (h0 : Part.dvt ∈ ps) :
    a.onlyIn ps ((Blk.reportAxis b n)) ↔ a.onlyIn ps b := by
  unfold Blk.reportAxis; (repeat' split) <;> simp [h0]
@[simp] theorem Blk.keepPos_onlyIn {ps : List Part} {a : Blk} (b : Blk) (n : Nat) (h0 : Part.axs ∈ ps) :
    a.onlyIn ps ((Blk.keepPos b n)) ↔ a.onlyIn ps b := by
  unfold Blk.keepPos; (repeat' split) <;> simp [h0]
@[simp] theorem Blk.sampleIn_onlyIn {ps : List Part} {a : Blk} (s : Nat) (ins : List AxisIn) (b : Blk) (n : Nat) (h0
    : Part.axs ∈ ps) (h1 : Part.clp ∈ ps) (h2 : Part.dvt ∈ ps) (h3 : Part.evr ∈ ps) (h4 : Part.hst ∈ ps) (h5 :
    Part.mem ∈ ps) (h6 : Part.out ∈ ps) (h7 : Part.regs ∈ ps) :
    a.onlyIn ps ((Blk.sampleIn s ins b n)) ↔ a.onlyIn ps b := by
  unfold Blk.sampleIn; dsimp only; (repeat' split) <;> simp [h0, h1, h2, h3, h4, h5, h6, h7]
@[simp] theorem Blk.sampleOut_onlyIn {ps : List Part} {a : Blk} (s : Nat) (before : Nat → Int) (b : Blk) (n : Nat)
    (h0 : Part.axs ∈ ps) (h1 : Part.dvt ∈ ps) (h2 : Part.evr ∈ ps) (h3 : Part.out ∈ ps) (h4 : Part.regs ∈ ps) :
    a.onlyIn ps ((Blk.sampleOut s before b n)) ↔ a.onlyIn ps b := by
  unfold Blk.sampleOut; dsimp only; (repeat' split) <;> simp [h0, h1, h2, h3, h4]
@[simp] theorem Blk.groupPath_onlyIn {ps : List Part} {a : Blk} (due : List Nat) (b : Blk) (g : Nat) (h0 : Part.axs ∈
    ps) :
    a.onlyIn ps ((Blk.groupPath due b g)) ↔ a.onlyIn ps b := by
  unfold Blk.groupPath; dsimp only; (repeat' split) <;> simp [h0]
@[simp] theorem Blk.groupTurn_onlyIn {ps : List Part} {a : Blk} (due : List Nat) (b : Blk) (g : Nat) (h0 : Part.axs ∈
    ps) (h1 : Part.evr ∈ ps) (h2 : Part.mem ∈ ps) (h3 : Part.regs ∈ ps) :
    a.onlyIn ps ((Blk.groupTurn due b g)) ↔ a.onlyIn ps b := by
  unfold Blk.groupTurn; dsimp only; repeat' split
  all_goals simp [h0, h1, h2, h3, Blk.foldl_onlyIn, Blk.ite_onlyIn]
@[simp] theorem Blk.beginMotion_onlyIn {ps : List Part} {a : Blk} (prev : AxMot) (b : Blk) (n : Nat) (h0 : Part.axs ∈
    ps) (h1 : Part.evr ∈ ps) (h2 : Part.mem ∈ ps) (h3 : Part.regs ∈ ps) :
    a.onlyIn ps ((Blk.beginMotion prev b n)) ↔ a.onlyIn ps b := by
  unfold Blk.beginMotion; (repeat' split) <;> simp [h0, h1, h2, h3]
@[simp] theorem Blk.beginMotions_onlyIn {ps : List Part} {a : Blk} (due : List Nat) (prev : Nat → AxMot) (was b :
    Blk) (h0 : Part.axs ∈ ps) (h1 : Part.evr ∈ ps) (h2 : Part.mem ∈ ps) (h3 : Part.regs ∈ ps) :
    a.onlyIn ps (Blk.beginMotions due prev was b) ↔ a.onlyIn ps b := by
  unfold Blk.beginMotions; dsimp only
  rw [Blk.foldl_onlyIn (fun b x => ?_), Blk.foldl_onlyIn (fun b x => ?_)]
  all_goals (repeat' split) <;> simp [h0, h1, h2, h3, Blk.foldl_onlyIn, Blk.ite_onlyIn]
@[simp] theorem Blk.standstills_onlyIn {ps : List Part} {a : Blk} (b : Blk) (h0 : Part.clp ∈ ps) :
    a.onlyIn ps ((Blk.standstills b)) ↔ a.onlyIn ps b := by
  unfold Blk.standstills; simp [h0, Blk.foldl_onlyIn, Blk.ite_onlyIn]
@[simp] theorem Blk.loadPeak_onlyIn {ps : List Part} {a : Blk} (b : Blk) (h0 : Part.regs ∈ ps) :
    a.onlyIn ps ((Blk.loadPeak b)) ↔ a.onlyIn ps b := by
  unfold Blk.loadPeak; (repeat' split) <;> simp [h0]
@[simp] theorem Blk.axisSample_onlyIn {ps : List Part} {a : Blk} (s : Nat) (ins : List AxisIn) (b0 : Blk) (h0 :
    Part.axs ∈ ps) (h1 : Part.clp ∈ ps) (h2 : Part.dvt ∈ ps) (h3 : Part.evr ∈ ps) (h4 : Part.fleet ∈ ps) (h5 :
    Part.hst ∈ ps) (h6 : Part.inv ∈ ps) (h7 : Part.mem ∈ ps) (h8 : Part.out ∈ ps) (h9 : Part.regs ∈ ps) :
    a.onlyIn ps ((Blk.axisSample s ins b0)) ↔ a.onlyIn ps b0 := by
  unfold Blk.axisSample; simp [h0, h1, h2, h3, h4, h5, h6, h7, h8, h9, Blk.foldl_onlyIn, Blk.ite_onlyIn]
@[simp] theorem Blk.overrunAt_onlyIn {ps : List Part} {a : Blk} (b : Blk) (s n : Nat) (h0 : Part.axs ∈ ps) (h1 :
    Part.clp ∈ ps) (h2 : Part.dvt ∈ ps) (h3 : Part.evr ∈ ps) (h4 : Part.hst ∈ ps) (h5 : Part.mem ∈ ps) (h6 : Part.out
    ∈ ps) (h7 : Part.regs ∈ ps) :
    a.onlyIn ps ((Blk.overrunAt b s n)) ↔ a.onlyIn ps b := by
  unfold Blk.overrunAt; dsimp only; (repeat' split) <;> simp [h0, h1, h2, h3, h4, h5, h6, h7]
@[simp] theorem Blk.overrun_onlyIn {ps : List Part} {a : Blk} (b : Blk) (s n : Nat) (h0 : Part.axs ∈ ps) (h1 :
    Part.clp ∈ ps) (h2 : Part.dvt ∈ ps) (h3 : Part.evr ∈ ps) (h4 : Part.hst ∈ ps) (h5 : Part.inv ∈ ps) (h6 : Part.mem
    ∈ ps) (h7 : Part.out ∈ ps) (h8 : Part.regs ∈ ps) :
    a.onlyIn ps ((Blk.overrun b s n)) ↔ a.onlyIn ps b := by
  unfold Blk.overrun; (repeat' split) <;> simp [h0, h1, h2, h3, h4, h5, h6, h7, h8]
@[simp] theorem Blk.inputEdge_onlyIn {ps : List Part} {a : Blk} (b0 : Blk) (t n which : Nat) (level : Bool) (h0 :
    Part.axs ∈ ps) (h1 : Part.inv ∈ ps) (h2 : Part.regs ∈ ps) :
    a.onlyIn ps ((Blk.inputEdge b0 t n which level)) ↔ a.onlyIn ps b0 := by
  unfold Blk.inputEdge; dsimp only; (repeat' split) <;> simp [h0, h1, h2]
@[simp] theorem Blk.zEdge_onlyIn {ps : List Part} {a : Blk} (b0 : Blk) (t n : Nat) (pos : Int) (h0 : Part.axs ∈ ps)
    (h1 : Part.inv ∈ ps) :
    a.onlyIn ps ((Blk.zEdge b0 t n pos)) ↔ a.onlyIn ps b0 := by
  unfold Blk.zEdge; dsimp only; (repeat' split) <;> simp [h0, h1]
@[simp] theorem Blk.quadError_onlyIn {ps : List Part} {a : Blk} (b : Blk) (n : Nat) (h0 : Part.axs ∈ ps) (h1 :
    Part.clp ∈ ps) (h2 : Part.dvt ∈ ps) (h3 : Part.evr ∈ ps) (h4 : Part.hst ∈ ps) (h5 : Part.mem ∈ ps) (h6 : Part.out
    ∈ ps) (h7 : Part.regs ∈ ps) :
    a.onlyIn ps ((Blk.quadError b n)) ↔ a.onlyIn ps b := by
  unfold Blk.quadError; (repeat' split) <;> simp [h0, h1, h2, h3, h4, h5, h6, h7]
@[simp] theorem Blk.openWire_onlyIn {ps : List Part} {a : Blk} (b : Blk) (n pair : Nat) (h0 : Part.axs ∈ ps) (h1 :
    Part.clp ∈ ps) (h2 : Part.dvt ∈ ps) (h3 : Part.evr ∈ ps) (h4 : Part.hst ∈ ps) (h5 : Part.mem ∈ ps) (h6 : Part.out
    ∈ ps) (h7 : Part.regs ∈ ps) :
    a.onlyIn ps ((Blk.openWire b n pair)) ↔ a.onlyIn ps b := by
  unfold Blk.openWire; (repeat' split) <;> simp [h0, h1, h2, h3, h4, h5, h6, h7]
@[simp] theorem Blk.stallExpiry_onlyIn {ps : List Part} {a : Blk} (b0 : Blk) (t n : Nat) (h0 : Part.axs ∈ ps) (h1 :
    Part.clp ∈ ps) (h2 : Part.dvt ∈ ps) (h3 : Part.evr ∈ ps) (h4 : Part.hst ∈ ps) (h5 : Part.inv ∈ ps) (h6 : Part.mem
    ∈ ps) (h7 : Part.out ∈ ps) (h8 : Part.regs ∈ ps) :
    a.onlyIn ps ((Blk.stallExpiry b0 t n)) ↔ a.onlyIn ps b0 := by
  unfold Blk.stallExpiry; dsimp only; (repeat' split) <;> simp [h0, h1, h2, h3, h4, h5, h6, h7, h8]
@[simp] theorem Blk.feExpiry_onlyIn {ps : List Part} {a : Blk} (b0 : Blk) (t n : Nat) (h0 : Part.axs ∈ ps) (h1 :
    Part.clp ∈ ps) (h2 : Part.dvt ∈ ps) (h3 : Part.evr ∈ ps) (h4 : Part.hst ∈ ps) (h5 : Part.inv ∈ ps) (h6 : Part.mem
    ∈ ps) (h7 : Part.out ∈ ps) (h8 : Part.regs ∈ ps) :
    a.onlyIn ps ((Blk.feExpiry b0 t n)) ↔ a.onlyIn ps b0 := by
  unfold Blk.feExpiry; dsimp only; (repeat' split) <;> simp [h0, h1, h2, h3, h4, h5, h6, h7, h8]
@[simp] theorem Blk.spExpiry_onlyIn {ps : List Part} {a : Blk} (b0 : Blk) (t n : Nat) (h0 : Part.axs ∈ ps) (h1 :
    Part.clp ∈ ps) (h2 : Part.dvt ∈ ps) (h3 : Part.evr ∈ ps) (h4 : Part.hst ∈ ps) (h5 : Part.inv ∈ ps) (h6 : Part.mem
    ∈ ps) (h7 : Part.out ∈ ps) (h8 : Part.regs ∈ ps) :
    a.onlyIn ps ((Blk.spExpiry b0 t n)) ↔ a.onlyIn ps b0 := by
  unfold Blk.spExpiry; dsimp only; (repeat' split) <;> simp [h0, h1, h2, h3, h4, h5, h6, h7, h8]
@[simp] theorem Blk.outputFault_onlyIn {ps : List Part} {a : Blk} (b : Blk) (n : Nat) (off : Bool) (h0 : Part.axs ∈
    ps) (h1 : Part.clp ∈ ps) (h2 : Part.dvt ∈ ps) (h3 : Part.evr ∈ ps) (h4 : Part.hst ∈ ps) (h5 : Part.mem ∈ ps) (h6
    : Part.out ∈ ps) (h7 : Part.regs ∈ ps) :
    a.onlyIn ps ((Blk.outputFault b n off)) ↔ a.onlyIn ps b := by
  unfold Blk.outputFault; (repeat' split) <;> simp [h0, h1, h2, h3, h4, h5, h6, h7]
@[simp] theorem Blk.writeCtlCfg_onlyIn {ps : List Part} {a : Blk} (b : Blk) (n : Nat) (w : Word) (h0 : Part.axs ∈ ps)
    (h1 : Part.evr ∈ ps) (h2 : Part.mem ∈ ps) (h3 : Part.regs ∈ ps) :
    a.onlyIn ps ((Blk.writeCtlCfg b n w)) ↔ a.onlyIn ps b := by
  unfold Blk.writeCtlCfg; (repeat' split) <;> simp [h0, h1, h2, h3]
@[simp] theorem Blk.setTable_onlyIn {ps : List Part} {a : Blk} (b : Blk) (i : Nat) (t : SegTable) (h0 : Part.axs ∈
    ps) :
    a.onlyIn ps ((Blk.setTable b i t)) ↔ a.onlyIn ps b := by
  unfold Blk.setTable; (repeat' split) <;> simp [h0]
@[simp] theorem Blk.tableLoad_onlyIn {ps : List Part} {a : Blk} (d : Desc) (b : Blk) (h0 : Part.axs ∈ ps) (h1 :
    Part.hst ∈ ps) (h2 : Part.out ∈ ps) :
    a.onlyIn ps ((Blk.tableLoad d b)) ↔ a.onlyIn ps b := by
  unfold Blk.tableLoad; dsimp only; (repeat' split) <;> simp [h0, h1, h2]
@[simp] theorem Blk.tableValidated_onlyIn {ps : List Part} {a : Blk} (b : Blk) (i : Nat) (img : Bytes) (h0 : Part.axs
    ∈ ps) (h1 : Part.hst ∈ ps) (h2 : Part.out ∈ ps) :
    a.onlyIn ps ((Blk.tableValidated b i img)) ↔ a.onlyIn ps b := by
  unfold Blk.tableValidated; dsimp only; (repeat' split) <;> simp [h0, h1, h2]
@[simp] theorem Blk.tableFree_onlyIn {ps : List Part} {a : Blk} (d : Desc) (b : Blk) (h0 : Part.axs ∈ ps) (h1 :
    Part.hst ∈ ps) (h2 : Part.out ∈ ps) :
    a.onlyIn ps ((Blk.tableFree d b)) ↔ a.onlyIn ps b := by
  unfold Blk.tableFree; dsimp only; (repeat' split) <;> simp [h0, h1, h2]
@[simp] theorem Blk.faultClear_onlyIn {ps : List Part} {a : Blk} (d : Desc) (b : Blk) (h0 : Part.axs ∈ ps) (h1 :
    Part.hst ∈ ps) (h2 : Part.out ∈ ps) :
    a.onlyIn ps ((Blk.faultClear d b)) ↔ a.onlyIn ps b := by
  unfold Blk.faultClear; simp [h0, h1, h2, Blk.foldl_onlyIn, Blk.ite_onlyIn]
@[simp] theorem Blk.setPos_onlyIn {ps : List Part} {a : Blk} (d : Desc) (b : Blk) (h0 : Part.axs ∈ ps) (h1 : Part.hst
    ∈ ps) (h2 : Part.out ∈ ps) :
    a.onlyIn ps ((Blk.setPos d b)) ↔ a.onlyIn ps b := by
  unfold Blk.setPos; dsimp only; (repeat' split) <;> simp [h0, h1, h2]
@[simp] theorem Blk.axsRead_onlyIn {ps : List Part} {a : Blk} (d : Desc) (b : Blk) (h0 : Part.hst ∈ ps) (h1 :
    Part.out ∈ ps) :
    a.onlyIn ps ((Blk.axsRead d b)) ↔ a.onlyIn ps b := by
  unfold Blk.axsRead; dsimp only; (repeat' split) <;> simp [h0, h1]
@[simp] theorem Blk.modeChanged_onlyIn {ps : List Part} {a : Blk} (b : Blk) (n old : Nat) (h0 : Part.axs ∈ ps) :
    a.onlyIn ps ((Blk.modeChanged b n old)) ↔ a.onlyIn ps b := by
  unfold Blk.modeChanged; (repeat' split) <;> simp [h0]
@[simp] theorem Blk.endWaits_onlyIn {ps : List Part} {a : Blk} (b : Blk) (h0 : Part.air ∈ ps) (h1 : Part.dvt ∈ ps)
    (h2 : Part.evr ∈ ps) (h3 : Part.fleet ∈ ps) (h4 : Part.gns ∈ ps) (h5 : Part.hdl ∈ ps) (h6 : Part.hst ∈ ps) (h7 :
    Part.inv ∈ ps) (h8 : Part.mem ∈ ps) (h9 : Part.out ∈ ps) (h10 : Part.pos ∈ ps) (h11 : Part.regs ∈ ps) :
    a.onlyIn ps ((Blk.endWaits b)) ↔ a.onlyIn ps b := by
  unfold Blk.endWaits; simp [h0, h1, h2, h3, h4, h5, h6, h7, h8, h9, h10, h11, Blk.foldl_onlyIn, Blk.ite_onlyIn]
@[simp] theorem Blk.cancelLater_onlyIn {ps : List Part} {a : Blk} (b : Blk) (h0 : Part.air ∈ ps) (h1 : Part.dvt ∈ ps)
    (h2 : Part.fleet ∈ ps) (h3 : Part.inv ∈ ps) :
    a.onlyIn ps ((Blk.cancelLater b)) ↔ a.onlyIn ps b := by
  unfold Blk.cancelLater; (repeat' split) <;> simp [h0, h1, h2, h3]
@[simp] theorem Blk.noteRoutes_onlyIn {ps : List Part} {a : Blk} (b : Blk) (h0 : Part.air ∈ ps) :
    a.onlyIn ps ((Blk.noteRoutes b)) ↔ a.onlyIn ps b := by
  unfold Blk.noteRoutes; (repeat' split) <;> simp [h0]
@[simp] theorem Blk.commitStop_onlyIn {ps : List Part} {a : Blk} (b0 : Blk) (h0 : Part.air ∈ ps) (h1 : Part.clp ∈ ps)
    (h2 : Part.dvt ∈ ps) (h3 : Part.evr ∈ ps) (h4 : Part.fleet ∈ ps) (h5 : Part.gns ∈ ps) (h6 : Part.hdl ∈ ps) (h7 :
    Part.hst ∈ ps) (h8 : Part.inv ∈ ps) (h9 : Part.mem ∈ ps) (h10 : Part.out ∈ ps) (h11 : Part.pos ∈ ps) (h12 :
    Part.regs ∈ ps) :
    a.onlyIn ps ((Blk.commitStop b0)) ↔ a.onlyIn ps b0 := by
  unfold Blk.commitStop; dsimp only; (repeat' split) <;> simp [h0, h1, h2, h3, h4, h5, h6, h7, h8, h9, h10, h11, h12]
@[simp] theorem Blk.stopGroups_onlyIn {ps : List Part} {a : Blk} (b : Blk) (h0 : Part.axs ∈ ps) (h1 : Part.clp ∈ ps)
    (h2 : Part.dvt ∈ ps) (h3 : Part.hst ∈ ps) (h4 : Part.out ∈ ps) :
    a.onlyIn ps ((Blk.stopGroups b)) ↔ a.onlyIn ps b := by
  unfold Blk.stopGroups; simp [h0, h1, h2, h3, h4, Blk.foldl_onlyIn, Blk.ite_onlyIn]
@[simp] theorem Blk.stopIdleAxes_onlyIn {ps : List Part} {a : Blk} (b : Blk) (h0 : Part.axs ∈ ps) (h1 : Part.dvt ∈
    ps) (h2 : Part.hst ∈ ps) (h3 : Part.out ∈ ps) :
    a.onlyIn ps ((Blk.stopIdleAxes b)) ↔ a.onlyIn ps b := by
  unfold Blk.stopIdleAxes; simp [h0, h1, h2, h3, Blk.foldl_onlyIn, Blk.ite_onlyIn]
@[simp] theorem Blk.endResumes_onlyIn {ps : List Part} {a : Blk} (b : Blk) (h0 : Part.air ∈ ps) (h1 : Part.clp ∈ ps)
    (h2 : Part.hst ∈ ps) (h3 : Part.out ∈ ps) :
    a.onlyIn ps ((Blk.endResumes b)) ↔ a.onlyIn ps b := by
  unfold Blk.endResumes; simp [h0, h1, h2, h3, Blk.foldl_onlyIn, Blk.ite_onlyIn]
@[simp] theorem Blk.latchSource_onlyIn {ps : List Part} {a : Blk} (b : Blk) (bit : Nat) (h0 : Part.clp ∈ ps) :
    a.onlyIn ps ((Blk.latchSource b bit)) ↔ a.onlyIn ps b := by
  unfold Blk.latchSource; (repeat' split) <;> simp [h0]
@[simp] theorem Blk.assertSource_onlyIn {ps : List Part} {a : Blk} (b0 : Blk) (bit cat mix : Nat) (h0 : Part.air ∈
    ps) (h1 : Part.axs ∈ ps) (h2 : Part.clp ∈ ps) (h3 : Part.dvt ∈ ps) (h4 : Part.evr ∈ ps) (h5 : Part.fleet ∈ ps)
    (h6 : Part.gns ∈ ps) (h7 : Part.hdl ∈ ps) (h8 : Part.hst ∈ ps) (h9 : Part.inv ∈ ps) (h10 : Part.mem ∈ ps) (h11 :
    Part.out ∈ ps) (h12 : Part.pos ∈ ps) (h13 : Part.regs ∈ ps) :
    a.onlyIn ps ((Blk.assertSource b0 bit cat mix)) ↔ a.onlyIn ps b0 := by
  unfold Blk.assertSource; dsimp only; (repeat' split) <;> simp [h0, h1, h2, h3, h4, h5, h6, h7, h8, h9, h10, h11,
      h12, h13]
@[simp] theorem Blk.assertLasting_onlyIn {ps : List Part} {a : Blk} (b : Blk) (bit cat mix : Nat) (h0 : Part.air ∈
    ps) (h1 : Part.axs ∈ ps) (h2 : Part.clp ∈ ps) (h3 : Part.dvt ∈ ps) (h4 : Part.evr ∈ ps) (h5 : Part.fleet ∈ ps)
    (h6 : Part.gns ∈ ps) (h7 : Part.hdl ∈ ps) (h8 : Part.hst ∈ ps) (h9 : Part.inv ∈ ps) (h10 : Part.mem ∈ ps) (h11 :
    Part.out ∈ ps) (h12 : Part.pos ∈ ps) (h13 : Part.regs ∈ ps) :
    a.onlyIn ps ((Blk.assertLasting b bit cat mix)) ↔ a.onlyIn ps b := by
  unfold Blk.assertLasting; (repeat' split) <;> simp [h0, h1, h2, h3, h4, h5, h6, h7, h8, h9, h10, h11, h12, h13]
@[simp] theorem Blk.clampFault_onlyIn {ps : List Part} {a : Blk} (b : Blk) (code arg : Nat) (latched : Bool) (h0 :
    Part.clp ∈ ps) (h1 : Part.evr ∈ ps) (h2 : Part.regs ∈ ps) :
    a.onlyIn ps ((Blk.clampFault b code arg latched)) ↔ a.onlyIn ps b := by
  unfold Blk.clampFault; (repeat' split) <;> simp [h0, h1, h2]
@[simp] theorem Blk.siteFault_onlyIn {ps : List Part} {a : Blk} (b : Blk) (code arg : Nat) (h0 : Part.air ∈ ps) (h1 :
    Part.axs ∈ ps) (h2 : Part.clp ∈ ps) (h3 : Part.dvt ∈ ps) (h4 : Part.evr ∈ ps) (h5 : Part.fleet ∈ ps) (h6 :
    Part.gns ∈ ps) (h7 : Part.hdl ∈ ps) (h8 : Part.hst ∈ ps) (h9 : Part.inv ∈ ps) (h10 : Part.mem ∈ ps) (h11 :
    Part.out ∈ ps) (h12 : Part.pos ∈ ps) (h13 : Part.regs ∈ ps) :
    a.onlyIn ps ((Blk.siteFault b code arg)) ↔ a.onlyIn ps b := by
  unfold Blk.siteFault; (repeat' split) <;> simp [h0, h1, h2, h3, h4, h5, h6, h7, h8, h9, h10, h11, h12, h13]
@[simp] theorem Blk.suppressBeacons_onlyIn {ps : List Part} {a : Blk} (b : Blk) (h0 : Part.clp ∈ ps) :
    a.onlyIn ps ((Blk.suppressBeacons b)) ↔ a.onlyIn ps b := by
  unfold Blk.suppressBeacons; (repeat' split) <;> simp [h0]
@[simp] theorem Blk.setLoop_onlyIn {ps : List Part} {a : Blk} (b : Blk) (n : Nat) (x : Loop) (h0 : Part.clp ∈ ps) :
    a.onlyIn ps ((Blk.setLoop b n x)) ↔ a.onlyIn ps b := by
  unfold Blk.setLoop; (repeat' split) <;> simp [h0]
@[simp] theorem Blk.loopSource_onlyIn {ps : List Part} {a : Blk} (b : Blk) (n : Nat) (h0 : Part.air ∈ ps) (h1 :
    Part.axs ∈ ps) (h2 : Part.clp ∈ ps) (h3 : Part.dvt ∈ ps) (h4 : Part.evr ∈ ps) (h5 : Part.fleet ∈ ps) (h6 :
    Part.gns ∈ ps) (h7 : Part.hdl ∈ ps) (h8 : Part.hst ∈ ps) (h9 : Part.inv ∈ ps) (h10 : Part.mem ∈ ps) (h11 :
    Part.out ∈ ps) (h12 : Part.pos ∈ ps) (h13 : Part.regs ∈ ps) :
    a.onlyIn ps ((Blk.loopSource b n)) ↔ a.onlyIn ps b := by
  unfold Blk.loopSource; dsimp only; (repeat' split) <;> simp [h0, h1, h2, h3, h4, h5, h6, h7, h8, h9, h10, h11, h12,
      h13]
@[simp] theorem Blk.loopFault_onlyIn {ps : List Part} {a : Blk} (b : Blk) (n bit : Nat) (h0 : Part.air ∈ ps) (h1 :
    Part.axs ∈ ps) (h2 : Part.clp ∈ ps) (h3 : Part.dvt ∈ ps) (h4 : Part.evr ∈ ps) (h5 : Part.fleet ∈ ps) (h6 :
    Part.gns ∈ ps) (h7 : Part.hdl ∈ ps) (h8 : Part.hst ∈ ps) (h9 : Part.inv ∈ ps) (h10 : Part.mem ∈ ps) (h11 :
    Part.out ∈ ps) (h12 : Part.pos ∈ ps) (h13 : Part.regs ∈ ps) :
    a.onlyIn ps ((Blk.loopFault b n bit)) ↔ a.onlyIn ps b := by
  unfold Blk.loopFault; (repeat' split) <;> simp [h0, h1, h2, h3, h4, h5, h6, h7, h8, h9, h10, h11, h12, h13]
@[simp] theorem Blk.loopOpen_onlyIn {ps : List Part} {a : Blk} (b : Blk) (n : Nat) (x c : Bool) (h0 : Part.air ∈ ps)
    (h1 : Part.axs ∈ ps) (h2 : Part.clp ∈ ps) (h3 : Part.dvt ∈ ps) (h4 : Part.evr ∈ ps) (h5 : Part.fleet ∈ ps) (h6 :
    Part.gns ∈ ps) (h7 : Part.hdl ∈ ps) (h8 : Part.hst ∈ ps) (h9 : Part.inv ∈ ps) (h10 : Part.mem ∈ ps) (h11 :
    Part.out ∈ ps) (h12 : Part.pos ∈ ps) (h13 : Part.regs ∈ ps) :
    a.onlyIn ps (b.loopOpen n x c) ↔ a.onlyIn ps b := by
  unfold Blk.loopOpen; dsimp only; split <;> simp [h0, h1, h2, h3, h4, h5, h6, h7, h8, h9, h10, h11, h12, h13,
      Blk.foldl_onlyIn, Blk.ite_onlyIn]
@[simp] theorem Blk.testPulse_onlyIn {ps : List Part} {a : Blk} (b0 : Blk) (t n : Nat) (o : PulseObs) (h0 : Part.air
    ∈ ps) (h1 : Part.axs ∈ ps) (h2 : Part.clp ∈ ps) (h3 : Part.dvt ∈ ps) (h4 : Part.evr ∈ ps) (h5 : Part.fleet ∈ ps)
    (h6 : Part.gns ∈ ps) (h7 : Part.hdl ∈ ps) (h8 : Part.hst ∈ ps) (h9 : Part.inv ∈ ps) (h10 : Part.mem ∈ ps) (h11 :
    Part.out ∈ ps) (h12 : Part.pos ∈ ps) (h13 : Part.regs ∈ ps) :
    a.onlyIn ps ((Blk.testPulse b0 t n o)) ↔ a.onlyIn ps b0 := by
  unfold Blk.testPulse; simp [h0, h1, h2, h3, h4, h5, h6, h7, h8, h9, h10, h11, h12, h13, Blk.foldl_onlyIn,
      Blk.ite_onlyIn]
@[simp] theorem Blk.discrepancy_onlyIn {ps : List Part} {a : Blk} (b0 : Blk) (t n : Nat) (h0 : Part.air ∈ ps) (h1 :
    Part.axs ∈ ps) (h2 : Part.clp ∈ ps) (h3 : Part.dvt ∈ ps) (h4 : Part.evr ∈ ps) (h5 : Part.fleet ∈ ps) (h6 :
    Part.gns ∈ ps) (h7 : Part.hdl ∈ ps) (h8 : Part.hst ∈ ps) (h9 : Part.inv ∈ ps) (h10 : Part.mem ∈ ps) (h11 :
    Part.out ∈ ps) (h12 : Part.pos ∈ ps) (h13 : Part.regs ∈ ps) :
    a.onlyIn ps ((Blk.discrepancy b0 t n)) ↔ a.onlyIn ps b0 := by
  unfold Blk.discrepancy; dsimp only; (repeat' split) <;> simp [h0, h1, h2, h3, h4, h5, h6, h7, h8, h9, h10, h11,
      h12, h13]
@[simp] theorem Blk.loopCleared_onlyIn {ps : List Part} {a : Blk} (b : Blk) (n : Nat) (h0 : Part.clp ∈ ps) :
    a.onlyIn ps ((Blk.loopCleared b n)) ↔ a.onlyIn ps b := by
  unfold Blk.loopCleared; dsimp only; (repeat' split) <;> simp [h0]
@[simp] theorem Blk.writeStopReq_onlyIn {ps : List Part} {a : Blk} (b : Blk) (w : Word) (h0 : Part.air ∈ ps) (h1 :
    Part.axs ∈ ps) (h2 : Part.clp ∈ ps) (h3 : Part.dvt ∈ ps) (h4 : Part.evr ∈ ps) (h5 : Part.fleet ∈ ps) (h6 :
    Part.gns ∈ ps) (h7 : Part.hdl ∈ ps) (h8 : Part.hst ∈ ps) (h9 : Part.inv ∈ ps) (h10 : Part.mem ∈ ps) (h11 :
    Part.out ∈ ps) (h12 : Part.pos ∈ ps) (h13 : Part.regs ∈ ps) :
    a.onlyIn ps ((Blk.writeStopReq b w)) ↔ a.onlyIn ps b := by
  unfold Blk.writeStopReq; (repeat' split) <;> simp [h0, h1, h2, h3, h4, h5, h6, h7, h8, h9, h10, h11, h12, h13]
@[simp] theorem Blk.writeHb_onlyIn {ps : List Part} {a : Blk} (b : Blk) (w : Word) (h0 : Part.clp ∈ ps) (h1 :
    Part.regs ∈ ps) :
    a.onlyIn ps ((Blk.writeHb b w)) ↔ a.onlyIn ps b := by
  unfold Blk.writeHb; dsimp only; (repeat' split) <;> simp [h0, h1]
@[simp] theorem Blk.hbTimeout_onlyIn {ps : List Part} {a : Blk} (b0 : Blk) (t : Nat) (h0 : Part.air ∈ ps) (h1 :
    Part.axs ∈ ps) (h2 : Part.clp ∈ ps) (h3 : Part.dvt ∈ ps) (h4 : Part.evr ∈ ps) (h5 : Part.fleet ∈ ps) (h6 :
    Part.gns ∈ ps) (h7 : Part.hdl ∈ ps) (h8 : Part.hst ∈ ps) (h9 : Part.inv ∈ ps) (h10 : Part.mem ∈ ps) (h11 :
    Part.out ∈ ps) (h12 : Part.pos ∈ ps) (h13 : Part.regs ∈ ps) :
    a.onlyIn ps ((Blk.hbTimeout b0 t)) ↔ a.onlyIn ps b0 := by
  unfold Blk.hbTimeout; dsimp only; (repeat' split) <;> simp [h0, h1, h2, h3, h4, h5, h6, h7, h8, h9, h10, h11, h12,
      h13]
@[simp] theorem Blk.stopDesc_onlyIn {ps : List Part} {a : Blk} (d : Desc) (b : Blk) (h0 : Part.air ∈ ps) (h1 :
    Part.axs ∈ ps) (h2 : Part.clp ∈ ps) (h3 : Part.dvt ∈ ps) (h4 : Part.evr ∈ ps) (h5 : Part.fleet ∈ ps) (h6 :
    Part.gns ∈ ps) (h7 : Part.hdl ∈ ps) (h8 : Part.hst ∈ ps) (h9 : Part.inv ∈ ps) (h10 : Part.mem ∈ ps) (h11 :
    Part.out ∈ ps) (h12 : Part.pos ∈ ps) (h13 : Part.regs ∈ ps) :
    a.onlyIn ps ((Blk.stopDesc d b)) ↔ a.onlyIn ps b := by
  unfold Blk.stopDesc; dsimp only; (repeat' split) <;> simp [h0, h1, h2, h3, h4, h5, h6, h7, h8, h9, h10, h11, h12,
      h13]
@[simp] theorem Blk.cmonMismatch_onlyIn {ps : List Part} {a : Blk} (b0 : Blk) (m : Nat) (isOpen : Bool) (held t :
    Nat) (h0 : Part.air ∈ ps) (h1 : Part.axs ∈ ps) (h2 : Part.clp ∈ ps) (h3 : Part.dvt ∈ ps) (h4 : Part.evr ∈ ps) (h5
    : Part.fleet ∈ ps) (h6 : Part.gns ∈ ps) (h7 : Part.hdl ∈ ps) (h8 : Part.hst ∈ ps) (h9 : Part.inv ∈ ps) (h10 :
    Part.mem ∈ ps) (h11 : Part.out ∈ ps) (h12 : Part.pos ∈ ps) (h13 : Part.regs ∈ ps) :
    a.onlyIn ps ((Blk.cmonMismatch b0 m isOpen held t)) ↔ a.onlyIn ps b0 := by
  unfold Blk.cmonMismatch; dsimp only; (repeat' split) <;> simp [h0, h1, h2, h3, h4, h5, h6, h7, h8, h9, h10, h11,
      h12, h13]
@[simp] theorem Blk.pllLost_onlyIn {ps : List Part} {a : Blk} (b : Blk) (island : Island) (refclk : Bool) (h0 :
    Part.air ∈ ps) (h1 : Part.axs ∈ ps) (h2 : Part.clp ∈ ps) (h3 : Part.dvt ∈ ps) (h4 : Part.evr ∈ ps) (h5 :
    Part.fleet ∈ ps) (h6 : Part.fresh ∈ ps) (h7 : Part.gns ∈ ps) (h8 : Part.hdl ∈ ps) (h9 : Part.hst ∈ ps) (h10 :
    Part.inv ∈ ps) (h11 : Part.mem ∈ ps) (h12 : Part.out ∈ ps) (h13 : Part.pos ∈ ps) (h14 : Part.pwr ∈ ps) (h15 :
    Part.regs ∈ ps) :
    a.onlyIn ps ((Blk.pllLost b island refclk)) ↔ a.onlyIn ps b := by
  unfold Blk.pllLost; (repeat' split) <;> simp [h0, h1, h2, h3, h4, h5, h6, h7, h8, h9, h10, h11, h12, h13, h14, h15]
@[simp] theorem Blk.windowLate_onlyIn {ps : List Part} {a : Blk} (t : Nat) (b0 : Blk) (h0 : Part.clp ∈ ps) (h1 :
    Part.evr ∈ ps) (h2 : Part.inv ∈ ps) (h3 : Part.regs ∈ ps) :
    a.onlyIn ps ((Blk.windowLate t b0)) ↔ a.onlyIn ps b0 := by
  unfold Blk.windowLate; dsimp only; (repeat' split) <;> simp [h0, h1, h2, h3]
@[simp] theorem Blk.keyNotReady_onlyIn {ps : List Part} {a : Blk} (t : Nat) (b0 : Blk) (h0 : Part.air ∈ ps) (h1 :
    Part.axs ∈ ps) (h2 : Part.clp ∈ ps) (h3 : Part.dvt ∈ ps) (h4 : Part.evr ∈ ps) (h5 : Part.fleet ∈ ps) (h6 :
    Part.gns ∈ ps) (h7 : Part.hdl ∈ ps) (h8 : Part.hst ∈ ps) (h9 : Part.inv ∈ ps) (h10 : Part.mem ∈ ps) (h11 :
    Part.out ∈ ps) (h12 : Part.pos ∈ ps) (h13 : Part.regs ∈ ps) :
    a.onlyIn ps ((Blk.keyNotReady t b0)) ↔ a.onlyIn ps b0 := by
  unfold Blk.keyNotReady; dsimp only; (repeat' split) <;> simp [h0, h1, h2, h3, h4, h5, h6, h7, h8, h9, h10, h11,
      h12, h13]
@[simp] theorem Blk.passingFault_onlyIn {ps : List Part} {a : Blk} (b : Blk) (code : Nat) (f : Clp → Clp) (h0 :
    Part.air ∈ ps) (h1 : Part.axs ∈ ps) (h2 : Part.clp ∈ ps) (h3 : Part.dvt ∈ ps) (h4 : Part.evr ∈ ps) (h5 :
    Part.fleet ∈ ps) (h6 : Part.gns ∈ ps) (h7 : Part.hdl ∈ ps) (h8 : Part.hst ∈ ps) (h9 : Part.inv ∈ ps) (h10 :
    Part.mem ∈ ps) (h11 : Part.out ∈ ps) (h12 : Part.pos ∈ ps) (h13 : Part.regs ∈ ps) :
    a.onlyIn ps ((Blk.passingFault b code f)) ↔ a.onlyIn ps b := by
  unfold Blk.passingFault; (repeat' split) <;> simp [h0, h1, h2, h3, h4, h5, h6, h7, h8, h9, h10, h11, h12, h13]
@[simp] theorem Blk.vfieldBad_onlyIn {ps : List Part} {a : Blk} (b : Blk) (die : Nat) (rev : Bool) (h0 : Part.air ∈
    ps) (h1 : Part.axs ∈ ps) (h2 : Part.clp ∈ ps) (h3 : Part.dvt ∈ ps) (h4 : Part.evr ∈ ps) (h5 : Part.fleet ∈ ps)
    (h6 : Part.gns ∈ ps) (h7 : Part.hdl ∈ ps) (h8 : Part.hst ∈ ps) (h9 : Part.inv ∈ ps) (h10 : Part.mem ∈ ps) (h11 :
    Part.out ∈ ps) (h12 : Part.pos ∈ ps) (h13 : Part.regs ∈ ps) :
    a.onlyIn ps ((Blk.vfieldBad b die rev)) ↔ a.onlyIn ps b := by
  unfold Blk.vfieldBad; (repeat' split) <;> simp [h0, h1, h2, h3, h4, h5, h6, h7, h8, h9, h10, h11, h12, h13]
@[simp] theorem Blk.vfieldGood_onlyIn {ps : List Part} {a : Blk} (b0 : Blk) (t die held : Nat) (h0 : Part.clp ∈ ps)
    (h1 : Part.inv ∈ ps) (h2 : Part.regs ∈ ps) :
    a.onlyIn ps ((Blk.vfieldGood b0 t die held)) ↔ a.onlyIn ps b0 := by
  unfold Blk.vfieldGood; dsimp only; (repeat' split) <;> simp [h0, h1, h2]
@[simp] theorem Blk.dieTemp_onlyIn {ps : List Part} {a : Blk} (b : Blk) (isOver : Bool) (h0 : Part.air ∈ ps) (h1 :
    Part.axs ∈ ps) (h2 : Part.clp ∈ ps) (h3 : Part.dvt ∈ ps) (h4 : Part.evr ∈ ps) (h5 : Part.fleet ∈ ps) (h6 :
    Part.gns ∈ ps) (h7 : Part.hdl ∈ ps) (h8 : Part.hst ∈ ps) (h9 : Part.inv ∈ ps) (h10 : Part.mem ∈ ps) (h11 :
    Part.out ∈ ps) (h12 : Part.pos ∈ ps) (h13 : Part.regs ∈ ps) :
    a.onlyIn ps ((Blk.dieTemp b isOver)) ↔ a.onlyIn ps b := by
  unfold Blk.dieTemp; (repeat' split) <;> simp [h0, h1, h2, h3, h4, h5, h6, h7, h8, h9, h10, h11, h12, h13]
@[simp] theorem Blk.rampExpiry_onlyIn {ps : List Part} {a : Blk} (b0 : Blk) (t g : Nat) (h0 : Part.axs ∈ ps) (h1 :
    Part.clp ∈ ps) (h2 : Part.dvt ∈ ps) (h3 : Part.hst ∈ ps) (h4 : Part.inv ∈ ps) (h5 : Part.out ∈ ps) :
    a.onlyIn ps ((Blk.rampExpiry b0 t g)) ↔ a.onlyIn ps b0 := by
  unfold Blk.rampExpiry; dsimp only; (repeat' split) <;> simp [h0, h1, h2, h3, h4, h5]
@[simp] theorem Blk.stuckOn_onlyIn {ps : List Part} {a : Blk} (b : Blk) (g : Nat) (chB : Bool) (h0 : Part.air ∈ ps)
    (h1 : Part.axs ∈ ps) (h2 : Part.clp ∈ ps) (h3 : Part.dvt ∈ ps) (h4 : Part.evr ∈ ps) (h5 : Part.fleet ∈ ps) (h6 :
    Part.gns ∈ ps) (h7 : Part.hdl ∈ ps) (h8 : Part.hst ∈ ps) (h9 : Part.inv ∈ ps) (h10 : Part.mem ∈ ps) (h11 :
    Part.out ∈ ps) (h12 : Part.pos ∈ ps) (h13 : Part.regs ∈ ps) :
    a.onlyIn ps ((Blk.stuckOn b g chB)) ↔ a.onlyIn ps b := by
  unfold Blk.stuckOn; dsimp only; (repeat' split) <;> simp [h0, h1, h2, h3, h4, h5, h6, h7, h8, h9, h10, h11, h12,
      h13]
@[simp] theorem Blk.darkTest_onlyIn {ps : List Part} {a : Blk} (b : Blk) (g : Nat) (chB followed : Bool) (h0 :
    Part.air ∈ ps) (h1 : Part.axs ∈ ps) (h2 : Part.clp ∈ ps) (h3 : Part.dvt ∈ ps) (h4 : Part.evr ∈ ps) (h5 :
    Part.fleet ∈ ps) (h6 : Part.gns ∈ ps) (h7 : Part.hdl ∈ ps) (h8 : Part.hst ∈ ps) (h9 : Part.inv ∈ ps) (h10 :
    Part.mem ∈ ps) (h11 : Part.out ∈ ps) (h12 : Part.pos ∈ ps) (h13 : Part.regs ∈ ps) :
    a.onlyIn ps ((Blk.darkTest b g chB followed)) ↔ a.onlyIn ps b := by
  unfold Blk.darkTest; (repeat' split) <;> simp [h0, h1, h2, h3, h4, h5, h6, h7, h8, h9, h10, h11, h12, h13]
@[simp] theorem Blk.deadOutput_onlyIn {ps : List Part} {a : Blk} (b : Blk) (g : Nat) (h0 : Part.axs ∈ ps) (h1 :
    Part.clp ∈ ps) (h2 : Part.dvt ∈ ps) (h3 : Part.evr ∈ ps) (h4 : Part.hst ∈ ps) (h5 : Part.mem ∈ ps) (h6 : Part.out
    ∈ ps) (h7 : Part.regs ∈ ps) :
    a.onlyIn ps ((Blk.deadOutput b g)) ↔ a.onlyIn ps b := by
  unfold Blk.deadOutput; (repeat' split) <;> simp [h0, h1, h2, h3, h4, h5, h6, h7]
@[simp] theorem Blk.readback_onlyIn {ps : List Part} {a : Blk} (b : Blk) (g : Nat) (chB readsOn : Bool) (h0 :
    Part.air ∈ ps) (h1 : Part.axs ∈ ps) (h2 : Part.clp ∈ ps) (h3 : Part.dvt ∈ ps) (h4 : Part.evr ∈ ps) (h5 :
    Part.fleet ∈ ps) (h6 : Part.gns ∈ ps) (h7 : Part.hdl ∈ ps) (h8 : Part.hst ∈ ps) (h9 : Part.inv ∈ ps) (h10 :
    Part.mem ∈ ps) (h11 : Part.out ∈ ps) (h12 : Part.pos ∈ ps) (h13 : Part.regs ∈ ps) :
    a.onlyIn ps ((Blk.readback b g chB readsOn)) ↔ a.onlyIn ps b := by
  unfold Blk.readback; (repeat' split) <;> simp [h0, h1, h2, h3, h4, h5, h6, h7, h8, h9, h10, h11, h12, h13]
@[simp] theorem Blk.stoOn_onlyIn {ps : List Part} {a : Blk} (b0 : Blk) (t : Nat) (h0 : Part.clp ∈ ps) (h1 : Part.inv
    ∈ ps) :
    a.onlyIn ps ((Blk.stoOn b0 t)) ↔ a.onlyIn ps b0 := by
  unfold Blk.stoOn; simp [h0, h1, Blk.foldl_onlyIn, Blk.ite_onlyIn]
@[simp] theorem Blk.commitRelease_onlyIn {ps : List Part} {a : Blk} (b : Blk) (h0 : Part.air ∈ ps) (h1 : Part.axs ∈
    ps) (h2 : Part.clp ∈ ps) (h3 : Part.dvt ∈ ps) (h4 : Part.evr ∈ ps) (h5 : Part.fleet ∈ ps) (h6 : Part.gns ∈ ps)
    (h7 : Part.hdl ∈ ps) (h8 : Part.hst ∈ ps) (h9 : Part.inv ∈ ps) (h10 : Part.mem ∈ ps) (h11 : Part.out ∈ ps) (h12 :
    Part.pos ∈ ps) (h13 : Part.pwr ∈ ps) (h14 : Part.regs ∈ ps) :
    a.onlyIn ps ((Blk.commitRelease b)) ↔ a.onlyIn ps b := by
  unfold Blk.commitRelease; simp [h0, h1, h2, h3, h4, h5, h6, h7, h8, h9, h10, h11, h12, h13, h14, Blk.foldl_onlyIn,
      Blk.ite_onlyIn]
@[simp] theorem Blk.release_onlyIn {ps : List Part} {a : Blk} (d : Desc) (b : Blk) (h0 : Part.air ∈ ps) (h1 :
    Part.axs ∈ ps) (h2 : Part.clp ∈ ps) (h3 : Part.dvt ∈ ps) (h4 : Part.evr ∈ ps) (h5 : Part.fleet ∈ ps) (h6 :
    Part.gns ∈ ps) (h7 : Part.hdl ∈ ps) (h8 : Part.hst ∈ ps) (h9 : Part.inv ∈ ps) (h10 : Part.mem ∈ ps) (h11 :
    Part.out ∈ ps) (h12 : Part.pos ∈ ps) (h13 : Part.pwr ∈ ps) (h14 : Part.regs ∈ ps) :
    a.onlyIn ps ((Blk.release d b)) ↔ a.onlyIn ps b := by
  unfold Blk.release; (repeat' split) <;> simp [h0, h1, h2, h3, h4, h5, h6, h7, h8, h9, h10, h11, h12, h13, h14]
@[simp] theorem Blk.groupRelease_onlyIn {ps : List Part} {a : Blk} (d : Desc) (b : Blk) (h0 : Part.clp ∈ ps) (h1 :
    Part.hst ∈ ps) (h2 : Part.out ∈ ps) :
    a.onlyIn ps ((Blk.groupRelease d b)) ↔ a.onlyIn ps b := by
  unfold Blk.groupRelease; simp [h0, h1, h2, Blk.foldl_onlyIn, Blk.ite_onlyIn]
@[simp] theorem Blk.holdPeriod_onlyIn {ps : List Part} {a : Blk} (b : Blk) (p : Nat) (h0 : Part.air ∈ ps) :
    a.onlyIn ps ((Blk.holdPeriod b p)) ↔ a.onlyIn ps b := by
  unfold Blk.holdPeriod; (repeat' split) <;> simp [h0]
@[simp] theorem Blk.holdKeys_onlyIn {ps : List Part} {a : Blk} (b : Blk) (h0 : Part.air ∈ ps) :
    a.onlyIn ps ((Blk.holdKeys b)) ↔ a.onlyIn ps b := by
  unfold Blk.holdKeys; (repeat' split) <;> simp [h0]
@[simp] theorem Blk.unseal_onlyIn {ps : List Part} {a : Blk} (b : Blk) (i : Ident) (h0 : Part.air ∈ ps) (h1 :
    Part.evr ∈ ps) (h2 : Part.key ∈ ps) (h3 : Part.regs ∈ ps) :
    a.onlyIn ps ((Blk.unseal b i)) ↔ a.onlyIn ps b := by
  unfold Blk.unseal; dsimp only; (repeat' split) <;> simp [h0, h1, h2, h3]
@[simp] theorem Blk.zeroise_onlyIn {ps : List Part} {a : Blk} (b : Blk) (p : Nat → CacheEntry → Bool) (h0 : Part.key
    ∈ ps) :
    a.onlyIn ps ((Blk.zeroise b p)) ↔ a.onlyIn ps b := by
  unfold Blk.zeroise; (repeat' split) <;> simp [h0]
@[simp] theorem Blk.fillCache_onlyIn {ps : List Part} {a : Blk} (b : Blk) (n : Nat) (e : CacheEntry) (h0 : Part.key ∈
    ps) :
    a.onlyIn ps ((Blk.fillCache b n e).1) ↔ a.onlyIn ps b := by
  unfold Blk.fillCache; (repeat' split) <;> simp [h0]
@[simp] theorem Blk.keyDone_onlyIn {ps : List Part} {a : Blk} (b : Blk) (id : OpId) (status detail : Nat) (h0 :
    Part.hst ∈ ps) (h1 : Part.out ∈ ps) (h2 : Part.regs ∈ ps) :
    a.onlyIn ps ((Blk.keyDone b id status detail)) ↔ a.onlyIn ps b := by
  unfold Blk.keyDone; (repeat' split) <;> simp [h0, h1, h2]
@[simp] theorem Blk.keyOp_onlyIn {ps : List Part} {a : Blk} (i : Ident) (d : Desc) (cs : List (Bool × Nat × Nat)) (f
    : Blk → Blk) (b : Blk) (hf : ∀ c, Blk.onlyIn ps c (f c)) (h0 : Part.hst ∈ ps) (h1 : Part.out ∈ ps) (h2 :
    Part.regs ∈ ps) :
    a.onlyIn ps (Blk.keyOp i d cs f b) ↔ a.onlyIn ps b := by
  unfold Blk.keyOp
  refine Blk.start_onlyIn b d _ (fun c => ?_) (by assumption) (by assumption)
  rw [Blk.checked_onlyIn c d cs _ (fun e => ?_) (by assumption) (by assumption)]
  · exact Blk.onlyIn_refl _ _
  · split
    · simp [h0, h1, h2, Blk.foldl_onlyIn, Blk.ite_onlyIn]
    · exact hf e
@[simp] theorem Blk.withHandle_onlyIn {ps : List Part} {a : Blk} (b : Blk) (id : OpId) (h : Nat) (f : Nat →
    CacheEntry → Blk) (hf : ∀ n e, a.onlyIn ps (f n e) ↔ a.onlyIn ps b) (h0 : Part.hst ∈ ps) (h1 : Part.out ∈ ps) (h2
    : Part.regs ∈ ps) :
    a.onlyIn ps (b.withHandle id h f) ↔ a.onlyIn ps b := by
  unfold Blk.withHandle; dsimp only; repeat' split
  · simp [h0, h1, h2, Blk.foldl_onlyIn, Blk.ite_onlyIn]
  · exact hf _ _
  · simp [h0, h1, h2, Blk.foldl_onlyIn, Blk.ite_onlyIn]
@[simp] theorem Blk.withAttr_onlyIn {ps : List Part} {a : Blk} (b : Blk) (id : OpId) (h attr : Nat) (f : Nat →
    CacheEntry → Blk) (hf : ∀ n e, a.onlyIn ps (f n e) ↔ a.onlyIn ps b) (h0 : Part.hst ∈ ps) (h1 : Part.out ∈ ps) (h2
    : Part.regs ∈ ps) :
    a.onlyIn ps (b.withAttr id h attr f) ↔ a.onlyIn ps b := by
  unfold Blk.withAttr
  refine Blk.withHandle_onlyIn b id h _ (fun n e => ?_) h0 h1 h2
  split
  · exact hf n e
  · simp [h0, h1, h2, Blk.foldl_onlyIn, Blk.ite_onlyIn]
@[simp] theorem Blk.useChallenge_onlyIn {ps : List Part} {a : Blk} (b : Blk) (p : Nat) (h0 : Part.key ∈ ps) :
    a.onlyIn ps ((Blk.useChallenge b p)) ↔ a.onlyIn ps b := by
  unfold Blk.useChallenge; (repeat' split) <;> simp [h0]
@[simp] theorem Blk.authFail_onlyIn {ps : List Part} {a : Blk} (b : Blk) (id : OpId) (p : Nat) (h0 : Part.evr ∈ ps)
    (h1 : Part.hst ∈ ps) (h2 : Part.key ∈ ps) (h3 : Part.out ∈ ps) (h4 : Part.regs ∈ ps) :
    a.onlyIn ps ((Blk.authFail b id p)) ↔ a.onlyIn ps b := by
  unfold Blk.authFail; (repeat' split) <;> simp [h0, h1, h2, h3, h4]
@[simp] theorem Blk.changeStore_onlyIn {ps : List Part} {a : Blk} (b : Blk) (id : OpId) (image : Tab StoreEntry)
    (drop detail : Option Nat) (h0 : Part.key ∈ ps) :
    a.onlyIn ps ((Blk.changeStore b id image drop detail)) ↔ a.onlyIn ps b := by
  unfold Blk.changeStore; (repeat' split) <;> simp [h0]
@[simp] theorem Blk.keyInstall_onlyIn {ps : List Part} {a : Blk} (i : Ident) (d : Desc) (site : Bytes) (b : Blk) (h0
    : Part.hst ∈ ps) (h1 : Part.key ∈ ps) (h2 : Part.out ∈ ps) (h3 : Part.regs ∈ ps) :
    a.onlyIn ps (Blk.keyInstall i d site b) ↔ a.onlyIn ps b := by
  unfold Blk.keyInstall
  refine Blk.keyOp_onlyIn _ _ _ _ _ (fun c => ?_) (by assumption) (by assumption) (by assumption)
  (repeat' split) <;> (try dsimp only) <;> (repeat' split) <;> (try simp [h0, h1, h2, h3, Blk.foldl_onlyIn,
      Blk.ite_onlyIn])
@[simp] theorem Blk.importBlob_onlyIn {ps : List Part} {a : Blk} (b : Blk) (d : Desc) (wrapper blob : Bytes) (h0 :
    Part.hst ∈ ps) (h1 : Part.key ∈ ps) (h2 : Part.out ∈ ps) (h3 : Part.regs ∈ ps) :
    a.onlyIn ps ((Blk.importBlob b d wrapper blob)) ↔ a.onlyIn ps b := by
  unfold Blk.importBlob; dsimp only; (repeat' split) <;> simp [h0, h1, h2, h3]
@[simp] theorem Blk.keyImport_onlyIn {ps : List Part} {a : Blk} (i : Ident) (d : Desc) (blob : Bytes) (b : Blk) (h0 :
    Part.hst ∈ ps) (h1 : Part.key ∈ ps) (h2 : Part.out ∈ ps) (h3 : Part.regs ∈ ps) :
    a.onlyIn ps (Blk.keyImport i d blob b) ↔ a.onlyIn ps b := by
  unfold Blk.keyImport
  refine Blk.keyOp_onlyIn _ _ _ _ _ (fun c => ?_) (by assumption) (by assumption) (by assumption)
  (repeat' split) <;> (try dsimp only) <;> (repeat' split) <;> (try simp [h0, h1, h2, h3, Blk.foldl_onlyIn,
      Blk.ite_onlyIn])
@[simp] theorem Blk.keyDelete_onlyIn {ps : List Part} {a : Blk} (i : Ident) (d : Desc) (b : Blk) (h0 : Part.hst ∈ ps)
    (h1 : Part.key ∈ ps) (h2 : Part.out ∈ ps) (h3 : Part.regs ∈ ps) :
    a.onlyIn ps (Blk.keyDelete i d b) ↔ a.onlyIn ps b := by
  unfold Blk.keyDelete
  refine Blk.keyOp_onlyIn _ _ _ _ _ (fun c => ?_) (by assumption) (by assumption) (by assumption)
  (repeat' split) <;> (try dsimp only) <;> (repeat' split) <;> (try simp [h0, h1, h2, h3, Blk.foldl_onlyIn,
      Blk.ite_onlyIn])
@[simp] theorem Blk.storeDone_onlyIn {ps : List Part} {a : Blk} (i : Ident) (b : Blk) (h0 : Part.air ∈ ps) (h1 :
    Part.hst ∈ ps) (h2 : Part.key ∈ ps) (h3 : Part.out ∈ ps) (h4 : Part.regs ∈ ps) :
    a.onlyIn ps ((Blk.storeDone i b)) ↔ a.onlyIn ps b := by
  unfold Blk.storeDone; dsimp only; (repeat' split) <;> simp [h0, h1, h2, h3, h4]
@[simp] theorem Blk.keyLoad_onlyIn {ps : List Part} {a : Blk} (i : Ident) (d : Desc) (b : Blk) (h0 : Part.hst ∈ ps)
    (h1 : Part.key ∈ ps) (h2 : Part.out ∈ ps) (h3 : Part.regs ∈ ps) :
    a.onlyIn ps (Blk.keyLoad i d b) ↔ a.onlyIn ps b := by
  unfold Blk.keyLoad
  refine Blk.keyOp_onlyIn _ _ _ _ _ (fun c => ?_) (by assumption) (by assumption) (by assumption)
  (repeat' split) <;> (try dsimp only) <;> (repeat' split) <;> (try simp [h0, h1, h2, h3, Blk.foldl_onlyIn,
      Blk.ite_onlyIn])
@[simp] theorem Blk.beginKey_onlyIn {ps : List Part} {a : Blk} (d : Desc) (data aux : Bytes) (b : Blk) (h0 : Part.key
    ∈ ps) :
    a.onlyIn ps ((Blk.beginKey d data aux b)) ↔ a.onlyIn ps b := by
  unfold Blk.beginKey; (repeat' split) <;> simp [h0]
@[simp] theorem Blk.cipherDone_onlyIn {ps : List Part} {a : Blk} (b : Blk) (r : KeyRun) (h0 : Part.hst ∈ ps) (h1 :
    Part.out ∈ ps) (h2 : Part.regs ∈ ps) :
    a.onlyIn ps (b.cipherDone r) ↔ a.onlyIn ps b := by
  unfold Blk.cipherDone
  refine Blk.withAttr_onlyIn _ _ _ _ _ (fun n e => ?_) (by assumption) (by assumption) (by assumption)
  (repeat' split) <;> simp [h0, h1, h2, Blk.foldl_onlyIn, Blk.ite_onlyIn]
@[simp] theorem Blk.deriveDone_onlyIn {ps : List Part} {a : Blk} (b : Blk) (r : KeyRun) (h0 : Part.hst ∈ ps) (h1 :
    Part.key ∈ ps) (h2 : Part.out ∈ ps) (h3 : Part.regs ∈ ps) :
    a.onlyIn ps ((Blk.deriveDone b r)) ↔ a.onlyIn ps b := by
  unfold Blk.deriveDone; dsimp only; repeat' split
  all_goals simp [h0, h1, h2, h3, Blk.foldl_onlyIn, Blk.ite_onlyIn]
@[simp] theorem Blk.hashDone_onlyIn {ps : List Part} {a : Blk} (b : Blk) (r : KeyRun) (h0 : Part.hst ∈ ps) (h1 :
    Part.out ∈ ps) (h2 : Part.regs ∈ ps) :
    a.onlyIn ps ((Blk.hashDone b r)) ↔ a.onlyIn ps b := by
  unfold Blk.hashDone; (repeat' split) <;> simp [h0, h1, h2]
@[simp] theorem Blk.keyOpDone_onlyIn {ps : List Part} {a : Blk} (b0 : Blk) (h0 : Part.hst ∈ ps) (h1 : Part.key ∈ ps)
    (h2 : Part.out ∈ ps) (h3 : Part.regs ∈ ps) :
    a.onlyIn ps ((Blk.keyOpDone b0)) ↔ a.onlyIn ps b0 := by
  unfold Blk.keyOpDone; (repeat' split) <;> simp [h0, h1, h2, h3]
@[simp] theorem Blk.keyExport_onlyIn {ps : List Part} {a : Blk} (i : Ident) (d : Desc) (b : Blk) (h0 : Part.hst ∈ ps)
    (h1 : Part.out ∈ ps) (h2 : Part.regs ∈ ps) :
    a.onlyIn ps (Blk.keyExport i d b) ↔ a.onlyIn ps b := by
  unfold Blk.keyExport
  refine Blk.keyOp_onlyIn _ _ _ _ _ (fun c => ?_) (by assumption) (by assumption) (by assumption)
  refine (Blk.withAttr_onlyIn (ps := ps) _ _ _ _ _ (fun n e => ?_) (by assumption) (by assumption) (by assumption)).2
      (Blk.onlyIn_refl _ _)
  (repeat' split) <;> (try dsimp only) <;> (repeat' split) <;> (try simp [h0, h1, h2, Blk.foldl_onlyIn,
      Blk.ite_onlyIn])
@[simp] theorem Blk.keyEvict_onlyIn {ps : List Part} {a : Blk} (i : Ident) (d : Desc) (b : Blk) (h0 : Part.hst ∈ ps)
    (h1 : Part.key ∈ ps) (h2 : Part.out ∈ ps) (h3 : Part.regs ∈ ps) :
    a.onlyIn ps (Blk.keyEvict i d b) ↔ a.onlyIn ps b := by
  unfold Blk.keyEvict
  refine Blk.keyOp_onlyIn _ _ _ _ _ (fun c => ?_) (by assumption) (by assumption) (by assumption)
  refine (Blk.withHandle_onlyIn (ps := ps) _ _ _ _ (fun n e => ?_) (by assumption) (by assumption) (by assumption)).2
      (Blk.onlyIn_refl _ _)
  (repeat' split) <;> (try dsimp only) <;> (repeat' split) <;> (try simp [h0, h1, h2, h3, Blk.foldl_onlyIn,
      Blk.ite_onlyIn])
@[simp] theorem Blk.keyChallenge_onlyIn {ps : List Part} {a : Blk} (i : Ident) (d : Desc) (b : Blk) (h0 : Part.fresh
    ∈ ps) (h1 : Part.hst ∈ ps) (h2 : Part.key ∈ ps) (h3 : Part.out ∈ ps) (h4 : Part.regs ∈ ps) :
    a.onlyIn ps (Blk.keyChallenge i d b) ↔ a.onlyIn ps b := by
  unfold Blk.keyChallenge
  refine Blk.keyOp_onlyIn _ _ _ _ _ (fun c => ?_) (by assumption) (by assumption) (by assumption)
  (repeat' split) <;> (try dsimp only) <;> (repeat' split) <;> (try simp [h0, h1, h2, h3, h4, Blk.foldl_onlyIn,
      Blk.ite_onlyIn])
@[simp] theorem Blk.tamperCleared_onlyIn {ps : List Part} {a : Blk} (b : Blk) (i : Ident) (id : OpId) (h0 : Part.air
    ∈ ps) (h1 : Part.clp ∈ ps) (h2 : Part.evr ∈ ps) (h3 : Part.hst ∈ ps) (h4 : Part.key ∈ ps) (h5 : Part.out ∈ ps)
    (h6 : Part.regs ∈ ps) :
    a.onlyIn ps ((Blk.tamperCleared b i id)) ↔ a.onlyIn ps b := by
  unfold Blk.tamperCleared; (repeat' split) <;> simp [h0, h1, h2, h3, h4, h5, h6]
@[simp] theorem Blk.tamperAck_onlyIn {ps : List Part} {a : Blk} (i : Ident) (d : Desc) (b : Blk) (h0 : Part.air ∈ ps)
    (h1 : Part.clp ∈ ps) (h2 : Part.evr ∈ ps) (h3 : Part.hst ∈ ps) (h4 : Part.key ∈ ps) (h5 : Part.out ∈ ps) (h6 :
    Part.regs ∈ ps) :
    a.onlyIn ps (Blk.tamperAck i d b) ↔ a.onlyIn ps b := by
  unfold Blk.tamperAck
  refine Blk.keyOp_onlyIn _ _ _ _ _ (fun c => ?_) (by assumption) (by assumption) (by assumption)
  (repeat' split) <;> (try dsimp only) <;> (repeat' split) <;> (try simp [h0, h1, h2, h3, h4, h5, h6,
      Blk.foldl_onlyIn, Blk.ite_onlyIn])
@[simp] theorem Blk.dropAirKeys_onlyIn {ps : List Part} {a : Blk} (b : Blk) (h0 : Part.air ∈ ps) (h1 : Part.hdl ∈ ps)
    :
    a.onlyIn ps ((Blk.dropAirKeys b)) ↔ a.onlyIn ps b := by
  unfold Blk.dropAirKeys; (repeat' split) <;> simp [h0, h1]
@[simp] theorem Blk.airHold_onlyIn {ps : List Part} {a : Blk} (t : Nat) (b0 : Blk) (h0 : Part.air ∈ ps) (h1 :
    Part.axs ∈ ps) (h2 : Part.hdl ∈ ps) (h3 : Part.inv ∈ ps) (h4 : Part.key ∈ ps) :
    a.onlyIn ps ((Blk.airHold t b0)) ↔ a.onlyIn ps b0 := by
  unfold Blk.airHold; dsimp only; (repeat' split) <;> simp [h0, h1, h2, h3, h4]
@[simp] theorem Blk.recordCommit_onlyIn {ps : List Part} {a : Blk} (b : Blk) (h0 : Part.evr ∈ ps) (h1 : Part.regs ∈
    ps) :
    a.onlyIn ps ((Blk.recordCommit b)) ↔ a.onlyIn ps b := by
  unfold Blk.recordCommit; dsimp only; (repeat' split) <;> simp [h0, h1]
@[simp] theorem Blk.recorderScan_onlyIn {ps : List Part} {a : Blk} (b : Blk) (wakeOff : Bool) (h0 : Part.evr ∈ ps)
    (h1 : Part.hst ∈ ps) (h2 : Part.out ∈ ps) (h3 : Part.regs ∈ ps) :
    a.onlyIn ps ((Blk.recorderScan b wakeOff)) ↔ a.onlyIn ps b := by
  unfold Blk.recorderScan; simp [h0, h1, h2, h3, Blk.foldl_onlyIn, Blk.ite_onlyIn]
@[simp] theorem Blk.latchRecord_onlyIn {ps : List Part} {a : Blk} (b : Blk) (code : Nat) (args : Bytes) (h0 :
    Part.evr ∈ ps) :
    a.onlyIn ps ((Blk.latchRecord b code args)) ↔ a.onlyIn ps b := by
  unfold Blk.latchRecord; (repeat' split) <;> simp [h0]
@[simp] theorem Blk.evrRead_onlyIn {ps : List Part} {a : Blk} (d : Desc) (b : Blk) (h0 : Part.evr ∈ ps) (h1 :
    Part.hst ∈ ps) (h2 : Part.out ∈ ps) :
    a.onlyIn ps ((Blk.evrRead d b)) ↔ a.onlyIn ps b := by
  unfold Blk.evrRead; simp [h0, h1, h2, Blk.foldl_onlyIn, Blk.ite_onlyIn]
@[simp] theorem Blk.evrReadDone_onlyIn {ps : List Part} {a : Blk} (b : Blk) (h0 : Part.evr ∈ ps) (h1 : Part.hst ∈ ps)
    (h2 : Part.out ∈ ps) :
    a.onlyIn ps ((Blk.evrReadDone b)) ↔ a.onlyIn ps b := by
  unfold Blk.evrReadDone; dsimp only; (repeat' split) <;> simp [h0, h1, h2]
@[simp] theorem Blk.evrClear_onlyIn {ps : List Part} {a : Blk} (d : Desc) (b : Blk) (h0 : Part.evr ∈ ps) (h1 :
    Part.hst ∈ ps) (h2 : Part.key ∈ ps) (h3 : Part.out ∈ ps) (h4 : Part.regs ∈ ps) :
    a.onlyIn ps ((Blk.evrClear d b)) ↔ a.onlyIn ps b := by
  unfold Blk.evrClear; dsimp only; (repeat' split) <;> simp [h0, h1, h2, h3, h4]
@[simp] theorem Blk.clearStart_onlyIn {ps : List Part} {a : Blk} (b : Blk) (h0 : Part.air ∈ ps) (h1 : Part.dvt ∈ ps)
    (h2 : Part.evr ∈ ps) (h3 : Part.fleet ∈ ps) (h4 : Part.gns ∈ ps) (h5 : Part.hdl ∈ ps) (h6 : Part.hst ∈ ps) (h7 :
    Part.inv ∈ ps) (h8 : Part.mem ∈ ps) (h9 : Part.out ∈ ps) (h10 : Part.pos ∈ ps) (h11 : Part.regs ∈ ps) :
    a.onlyIn ps ((Blk.clearStart b)) ↔ a.onlyIn ps b := by
  unfold Blk.clearStart; (repeat' split) <;> simp [h0, h1, h2, h3, h4, h5, h6, h7, h8, h9, h10, h11]
@[simp] theorem Blk.clearComplete_onlyIn {ps : List Part} {a : Blk} (b : Blk) (h0 : Part.evr ∈ ps) (h1 : Part.hst ∈
    ps) (h2 : Part.out ∈ ps) :
    a.onlyIn ps ((Blk.clearComplete b)) ↔ a.onlyIn ps b := by
  unfold Blk.clearComplete; (repeat' split) <;> simp [h0, h1, h2]
@[simp] theorem Blk.loseSeconds_onlyIn {ps : List Part} {a : Blk} (b : Blk) (k : Nat) (h0 : Part.fresh ∈ ps) (h1 :
    Part.inv ∈ ps) :
    a.onlyIn ps ((Blk.loseSeconds b k)) ↔ a.onlyIn ps b := by
  unfold Blk.loseSeconds; (repeat' split) <;> simp [h0, h1]
@[simp] theorem Blk.badRecords_onlyIn {ps : List Part} {a : Blk} (b : Blk) (n : Nat) (h0 : Part.evr ∈ ps) (h1 :
    Part.hst ∈ ps) (h2 : Part.out ∈ ps) (h3 : Part.regs ∈ ps) :
    a.onlyIn ps ((Blk.badRecords b n)) ↔ a.onlyIn ps b := by
  unfold Blk.badRecords; (repeat' split) <;> simp [h0, h1, h2, h3]
@[simp] theorem Blk.losePerm_onlyIn {ps : List Part} {a : Blk} (b : Blk) (k : Nat) (h0 : Part.evr ∈ ps) (h1 :
    Part.hst ∈ ps) (h2 : Part.out ∈ ps) (h3 : Part.regs ∈ ps) :
    a.onlyIn ps ((Blk.losePerm b k)) ↔ a.onlyIn ps b := by
  unfold Blk.losePerm; (repeat' split) <;> simp [h0, h1, h2, h3]
@[simp] theorem Blk.loseCirc_onlyIn {ps : List Part} {a : Blk} (b : Blk) (k : Nat) (h0 : Part.evr ∈ ps) (h1 :
    Part.hst ∈ ps) (h2 : Part.out ∈ ps) (h3 : Part.regs ∈ ps) :
    a.onlyIn ps ((Blk.loseCirc b k)) ↔ a.onlyIn ps b := by
  unfold Blk.loseCirc; (repeat' split) <;> simp [h0, h1, h2, h3]
@[simp] theorem Blk.loseBlock_onlyIn {ps : List Part} {a : Blk} (b : Blk) (n : Nat) (h0 : Part.evr ∈ ps) (h1 :
    Part.fresh ∈ ps) (h2 : Part.hst ∈ ps) (h3 : Part.inv ∈ ps) (h4 : Part.key ∈ ps) (h5 : Part.out ∈ ps) (h6 :
    Part.pwr ∈ ps) (h7 : Part.regs ∈ ps) :
    a.onlyIn ps ((Blk.loseBlock b n)) ↔ a.onlyIn ps b := by
  unfold Blk.loseBlock; (repeat' split) <;> simp [h0, h1, h2, h3, h4, h5, h6, h7]
@[simp] theorem Blk.mramRead_onlyIn {ps : List Part} {a : Blk} (b : Blk) (r : MramRead) (h0 : Part.evr ∈ ps) (h1 :
    Part.fresh ∈ ps) (h2 : Part.hst ∈ ps) (h3 : Part.inv ∈ ps) (h4 : Part.key ∈ ps) (h5 : Part.mem ∈ ps) (h6 :
    Part.out ∈ ps) (h7 : Part.pwr ∈ ps) (h8 : Part.regs ∈ ps) :
    a.onlyIn ps ((Blk.mramRead b r)) ↔ a.onlyIn ps b := by
  unfold Blk.mramRead; (repeat' split) <;> simp [h0, h1, h2, h3, h4, h5, h6, h7, h8]
@[simp] theorem Blk.hlRx_onlyIn {ps : List Part} {a : Blk} (b : Blk) (h typ : Nat) (frame : Bytes) (h0 : Part.hdl ∈
    ps) (h1 : Part.regs ∈ ps) :
    a.onlyIn ps ((Blk.hlRx b h typ frame).2) ↔ a.onlyIn ps b := by
  unfold Blk.hlRx; dsimp only; (repeat' split) <;> simp [h0, h1]
@[simp] theorem Blk.txSend_onlyIn {ps : List Part} {a : Blk} (b : Blk) (h launch phy sts short : Nat) (v psdu :
    Bytes) (h0 : Part.hdl ∈ ps) (h1 : Part.out ∈ ps) :
    a.onlyIn ps ((Blk.txSend b h launch phy sts short v psdu)) ↔ a.onlyIn ps b := by
  unfold Blk.txSend; (repeat' split) <;> simp [h0, h1]
@[simp] theorem Blk.setHState_onlyIn {ps : List Part} {a : Blk} (b : Blk) (h : Nat) (st : HState) (h0 : Part.evr ∈
    ps) (h1 : Part.hdl ∈ ps) (h2 : Part.regs ∈ ps) :
    a.onlyIn ps ((Blk.setHState b h st)) ↔ a.onlyIn ps b := by
  unfold Blk.setHState; dsimp only; (repeat' split) <;> simp [h0, h1, h2]
@[simp] theorem Blk.failover_onlyIn {ps : List Part} {a : Blk} (b : Blk) (h : Nat) (h0 : Part.air ∈ ps) :
    a.onlyIn ps ((Blk.failover b h)) ↔ a.onlyIn ps b := by
  unfold Blk.failover; (repeat' split) <;> simp [h0]
@[simp] theorem Blk.headLost_onlyIn {ps : List Part} {a : Blk} (b : Blk) (h : Nat) (h0 : Part.air ∈ ps) (h1 :
    Part.clp ∈ ps) (h2 : Part.evr ∈ ps) (h3 : Part.hdl ∈ ps) (h4 : Part.regs ∈ ps) :
    a.onlyIn ps ((Blk.headLost b h)) ↔ a.onlyIn ps b := by
  unfold Blk.headLost; (repeat' split) <;> simp [h0, h1, h2, h3, h4]
@[simp] theorem Blk.sendKeys_onlyIn {ps : List Part} {a : Blk} (b : Blk) (h : Nat) (qs : List Nat) (h0 : Part.hdl ∈
    ps) (h1 : Part.out ∈ ps) :
    a.onlyIn ps (b.sendKeys h qs) ↔ a.onlyIn ps b := by
  unfold Blk.sendKeys; dsimp only; split <;> simp [h0, h1, Blk.foldl_onlyIn, Blk.ite_onlyIn]
@[simp] theorem Blk.sendMembers_onlyIn {ps : List Part} {a : Blk} (b : Blk) (h : Nat) (h0 : Part.hdl ∈ ps) (h1 :
    Part.out ∈ ps) :
    a.onlyIn ps ((Blk.sendMembers b h)) ↔ a.onlyIn ps b := by
  unfold Blk.sendMembers; (repeat' split) <;> simp [h0, h1]
@[simp] theorem Blk.helloRefused_onlyIn {ps : List Part} {a : Blk} (b : Blk) (h eui : Nat) (h0 : Part.evr ∈ ps) (h1 :
    Part.hdl ∈ ps) (h2 : Part.regs ∈ ps) :
    a.onlyIn ps ((Blk.helloRefused b h eui)) ↔ a.onlyIn ps b := by
  unfold Blk.helloRefused; dsimp only; (repeat' split) <;> simp [h0, h1, h2]
@[simp] theorem Blk.join_onlyIn {ps : List Part} {a : Blk} (b0 : Blk) (h : Nat) (site : Bytes) (src : Bytes) (f :
    HlRx) (p : Bytes) (h0 : Part.evr ∈ ps) (h1 : Part.fresh ∈ ps) (h2 : Part.hdl ∈ ps) (h3 : Part.out ∈ ps) (h4 :
    Part.regs ∈ ps) :
    a.onlyIn ps ((Blk.join b0 h site src f p)) ↔ a.onlyIn ps b0 := by
  unfold Blk.join; dsimp only; (repeat' split) <;> simp [h0, h1, h2, h3, h4]
@[simp] theorem Blk.hello_onlyIn {ps : List Part} {a : Blk} (b : Blk) (h : Nat) (frame : Bytes) (h0 : Part.evr ∈ ps)
    (h1 : Part.fresh ∈ ps) (h2 : Part.hdl ∈ ps) (h3 : Part.out ∈ ps) (h4 : Part.regs ∈ ps) :
    a.onlyIn ps ((Blk.hello b h frame)) ↔ a.onlyIn ps b := by
  unfold Blk.hello; dsimp only; (repeat' split) <;> simp [h0, h1, h2, h3, h4]
@[simp] theorem Blk.beat_onlyIn {ps : List Part} {a : Blk} (b : Blk) (h : Nat) (t1 : Int) (h0 : Part.hdl ∈ ps) (h1 :
    Part.out ∈ ps) (h2 : Part.regs ∈ ps) :
    a.onlyIn ps ((Blk.beat b h t1)) ↔ a.onlyIn ps b := by
  unfold Blk.beat; dsimp only; (repeat' split) <;> simp [h0, h1, h2]
@[simp] theorem Blk.heartbeat_onlyIn {ps : List Part} {a : Blk} (t0 : Nat) (egress : List Nat) (b : Blk) (h0 :
    Part.hdl ∈ ps) (h1 : Part.inv ∈ ps) (h2 : Part.out ∈ ps) (h3 : Part.regs ∈ ps) :
    a.onlyIn ps ((Blk.heartbeat t0 egress b)) ↔ a.onlyIn ps b := by
  unfold Blk.heartbeat; simp [h0, h1, h2, h3, Blk.foldl_onlyIn, Blk.ite_onlyIn]
@[simp] theorem Blk.exchange_onlyIn {ps : List Part} {a : Blk} (b : Blk) (h : Nat) (e : Exch) (h0 : Part.hdl ∈ ps)
    (h1 : Part.regs ∈ ps) :
    a.onlyIn ps ((Blk.exchange b h e)) ↔ a.onlyIn ps b := by
  unfold Blk.exchange; dsimp only; (repeat' split) <;> simp [h0, h1]
@[simp] theorem Blk.hbUp_onlyIn {ps : List Part} {a : Blk} (h : Nat) (frame : Bytes) (t4 : Nat) (b : Blk) (h0 :
    Part.air ∈ ps) (h1 : Part.clp ∈ ps) (h2 : Part.evr ∈ ps) (h3 : Part.hdl ∈ ps) (h4 : Part.inv ∈ ps) (h5 :
    Part.regs ∈ ps) :
    a.onlyIn ps (Blk.hbUp h frame t4 b) ↔ a.onlyIn ps b := by
  have e := Blk.hlRx_onlyIn (ps := ps) (a := a) (b.moveTo (t4 / 65536)) h 0x04 frame (by assumption) (by assumption)
  unfold Blk.hbUp; try dsimp only
  generalize (b.moveTo (t4 / 65536)).hlRx h 0x04 frame = r at e ⊢
  obtain ⟨r, b1⟩ := r
  first
  | rw [← e]
  | rw [Blk.moveTo_onlyIn _ _ (by assumption)] at e; rw [← e]
  cases r with
  | none => rfl
  | some x =>
    dsimp only at *
    (repeat' split) <;> simp [h0, h1, h2, h3, h4, h5, Blk.foldl_onlyIn, Blk.ite_onlyIn]
@[simp] theorem Blk.meanPs_onlyIn {ps : List Part} {a : Blk} (b : Blk) (mm : Option Int) (h0 : Part.fresh ∈ ps) :
    a.onlyIn ps ((Blk.meanPs b mm).2) ↔ a.onlyIn ps b := by
  unfold Blk.meanPs; dsimp only; (repeat' split) <;> simp [h0]
@[simp] theorem Blk.stepFound_onlyIn {ps : List Part} {a : Blk} (b : Blk) (h : Nat) (prev m : Option Int) (h0 :
    Part.evr ∈ ps) (h1 : Part.fresh ∈ ps) (h2 : Part.hdl ∈ ps) (h3 : Part.regs ∈ ps) :
    a.onlyIn ps ((Blk.stepFound b h prev m)) ↔ a.onlyIn ps b := by
  unfold Blk.stepFound; dsimp only; (repeat' split) <;> simp [h0, h1, h2, h3]
@[simp] theorem Blk.setDelays_onlyIn {ps : List Part} {a : Blk} (b : Blk) (h : Nat) (mm : Option Int) (h0 : Part.hdl
    ∈ ps) :
    a.onlyIn ps ((Blk.setDelays b h mm)) ↔ a.onlyIn ps b := by
  unfold Blk.setDelays; (repeat' split) <;> simp [h0]
@[simp] theorem Blk.recalDone_onlyIn {ps : List Part} {a : Blk} (b : Blk) (h : Nat) (h0 : Part.evr ∈ ps) (h1 :
    Part.hdl ∈ ps) (h2 : Part.pos ∈ ps) (h3 : Part.regs ∈ ps) :
    a.onlyIn ps ((Blk.recalDone b h)) ↔ a.onlyIn ps b := by
  unfold Blk.recalDone; dsimp only; (repeat' split) <;> simp [h0, h1, h2, h3]
@[simp] theorem Blk.headState_onlyIn {ps : List Part} {a : Blk} (b : Blk) (h : Nat) (h0 : Part.evr ∈ ps) (h1 :
    Part.hdl ∈ ps) (h2 : Part.regs ∈ ps) :
    a.onlyIn ps ((Blk.headState b h)) ↔ a.onlyIn ps b := by
  unfold Blk.headState; dsimp only; (repeat' split) <;> simp [h0, h1, h2]
@[simp] theorem Blk.intervalEnd_onlyIn {ps : List Part} {a : Blk} (b : Blk) (h : Nat) (h0 : Part.evr ∈ ps) (h1 :
    Part.fresh ∈ ps) (h2 : Part.hdl ∈ ps) (h3 : Part.pos ∈ ps) (h4 : Part.regs ∈ ps) :
    a.onlyIn ps ((Blk.intervalEnd b h)) ↔ a.onlyIn ps b := by
  unfold Blk.intervalEnd; dsimp only; (repeat' split) <;> simp [h0, h1, h2, h3, h4]
@[simp] theorem Blk.syncEnd_onlyIn {ps : List Part} {a : Blk} (t : Nat) (b : Blk) (h0 : Part.evr ∈ ps) (h1 :
    Part.fresh ∈ ps) (h2 : Part.hdl ∈ ps) (h3 : Part.inv ∈ ps) (h4 : Part.pos ∈ ps) (h5 : Part.regs ∈ ps) :
    a.onlyIn ps ((Blk.syncEnd t b)) ↔ a.onlyIn ps b := by
  unfold Blk.syncEnd; simp [h0, h1, h2, h3, h4, h5, Blk.foldl_onlyIn, Blk.ite_onlyIn]
@[simp] theorem Blk.holdExpiry_onlyIn {ps : List Part} {a : Blk} (t h : Nat) (b0 : Blk) (h0 : Part.evr ∈ ps) (h1 :
    Part.hdl ∈ ps) (h2 : Part.inv ∈ ps) (h3 : Part.regs ∈ ps) :
    a.onlyIn ps ((Blk.holdExpiry t h b0)) ↔ a.onlyIn ps b0 := by
  unfold Blk.holdExpiry; dsimp only; (repeat' split) <;> simp [h0, h1, h2, h3]
@[simp] theorem Blk.recalStart_onlyIn {ps : List Part} {a : Blk} (b : Blk) (h : Nat) (a' : Int) (h0 : Part.hdl ∈ ps) :
    a.onlyIn ps ((Blk.recalStart b h a')) ↔ a.onlyIn ps b := by
  unfold Blk.recalStart; (repeat' split) <;> simp [h0]
@[simp] theorem Blk.holdAsym_onlyIn {ps : List Part} {a : Blk} (b : Blk) (h : Nat) (h0 : Part.fresh ∈ ps) :
    a.onlyIn ps ((Blk.holdAsym b h).2) ↔ a.onlyIn ps b := by
  unfold Blk.holdAsym; dsimp only; (repeat' split) <;> simp [h0]
@[simp] theorem Blk.writeHeadCtl_onlyIn {ps : List Part} {a : Blk} (b : Blk) (h : Nat) (w : Word) (h0 : Part.evr ∈
    ps) (h1 : Part.fresh ∈ ps) (h2 : Part.hdl ∈ ps) (h3 : Part.mem ∈ ps) (h4 : Part.regs ∈ ps) :
    a.onlyIn ps ((Blk.writeHeadCtl b h w)) ↔ a.onlyIn ps b := by
  unfold Blk.writeHeadCtl; dsimp only; (repeat' split) <;> simp [h0, h1, h2, h3, h4]
@[simp] theorem Blk.windowReport_onlyIn {ps : List Part} {a : Blk} (b : Blk) (h pos : Nat) (h0 : Part.hdl ∈ ps) :
    a.onlyIn ps ((Blk.windowReport b h pos)) ↔ a.onlyIn ps b := by
  unfold Blk.windowReport; (repeat' split) <;> simp [h0]
@[simp] theorem Blk.txReport_onlyIn {ps : List Part} {a : Blk} (h : Nat) (frame : Bytes) (b : Blk) (h0 : Part.air ∈
    ps) (h1 : Part.hdl ∈ ps) (h2 : Part.regs ∈ ps) :
    a.onlyIn ps (Blk.txReport h frame b) ↔ a.onlyIn ps b := by
  have e := Blk.hlRx_onlyIn (ps := ps) (a := a) b h 0x06 frame (by assumption) (by assumption)
  unfold Blk.txReport; try dsimp only
  generalize b.hlRx h 0x06 frame = r at e ⊢
  obtain ⟨r, b1⟩ := r
  first
  | rw [← e]
  | rw [Blk.moveTo_onlyIn _ _ (by assumption)] at e; rw [← e]
  cases r with
  | none => rfl
  | some x =>
    dsimp only at *
    (repeat' split) <;> simp [h0, h1, h2, Blk.foldl_onlyIn, Blk.ite_onlyIn]
@[simp] theorem Blk.judgeWindow_onlyIn {ps : List Part} {a : Blk} (b : Blk) (h0 : Part.hdl ∈ ps) :
    a.onlyIn ps ((Blk.judgeWindow b)) ↔ a.onlyIn ps b := by
  unfold Blk.judgeWindow; dsimp only; repeat' split
  all_goals simp [h0, Blk.foldl_onlyIn, Blk.ite_onlyIn]
@[simp] theorem Blk.sendWindow_onlyIn {ps : List Part} {a : Blk} (b : Blk) (t mask : Nat) (h0 : Part.hdl ∈ ps) (h1 :
    Part.out ∈ ps) :
    a.onlyIn ps ((Blk.sendWindow b t mask)) ↔ a.onlyIn ps b := by
  unfold Blk.sendWindow; simp [h0, h1, Blk.foldl_onlyIn, Blk.ite_onlyIn]
@[simp] theorem Blk.stopWindow_onlyIn {ps : List Part} {a : Blk} (t0 : Nat) (b0 : Blk) (h0 : Part.hdl ∈ ps) (h1 :
    Part.inv ∈ ps) (h2 : Part.out ∈ ps) :
    a.onlyIn ps ((Blk.stopWindow t0 b0)) ↔ a.onlyIn ps b0 := by
  unfold Blk.stopWindow; simp [h0, h1, h2, Blk.foldl_onlyIn, Blk.ite_onlyIn]
@[simp] theorem Blk.hbLoss_onlyIn {ps : List Part} {a : Blk} (t h : Nat) (b0 : Blk) (h0 : Part.air ∈ ps) (h1 :
    Part.clp ∈ ps) (h2 : Part.evr ∈ ps) (h3 : Part.hdl ∈ ps) (h4 : Part.inv ∈ ps) (h5 : Part.regs ∈ ps) :
    a.onlyIn ps ((Blk.hbLoss t h b0)) ↔ a.onlyIn ps b0 := by
  unfold Blk.hbLoss; dsimp only; (repeat' split) <;> simp [h0, h1, h2, h3, h4, h5]
@[simp] theorem Blk.sgmii_onlyIn {ps : List Part} {a : Blk} (b : Blk) (p : Nat) (up : Bool) (h0 : Part.air ∈ ps) (h1
    : Part.clp ∈ ps) (h2 : Part.evr ∈ ps) (h3 : Part.hdl ∈ ps) (h4 : Part.inv ∈ ps) (h5 : Part.regs ∈ ps) :
    a.onlyIn ps ((Blk.sgmii b p up)) ↔ a.onlyIn ps b := by
  unfold Blk.sgmii; (repeat' split) <;> simp [h0, h1, h2, h3, h4, h5]
@[simp] theorem Blk.setFilter_onlyIn {ps : List Part} {a : Blk} (b : Blk) (mix : Nat) (f : Filter) (h0 : Part.pos ∈
    ps) :
    a.onlyIn ps ((Blk.setFilter b mix f)) ↔ a.onlyIn ps b := by
  unfold Blk.setFilter; (repeat' split) <;> simp [h0]
@[simp] theorem Blk.withdraw_onlyIn {ps : List Part} {a : Blk} (b : Blk) (mix : Nat) (h0 : Part.pos ∈ ps) (h1 :
    Part.regs ∈ ps) :
    a.onlyIn ps ((Blk.withdraw b mix)) ↔ a.onlyIn ps b := by
  unfold Blk.withdraw; dsimp only; (repeat' split) <;> simp [h0, h1]
@[simp] theorem Blk.initFilter_onlyIn {ps : List Part} {a : Blk} (b0 : Blk) (mix : Nat) (h0 : Part.pos ∈ ps) (h1 :
    Part.regs ∈ ps) :
    a.onlyIn ps ((Blk.initFilter b0 mix)) ↔ a.onlyIn ps b0 := by
  unfold Blk.initFilter; (repeat' split) <;> simp [h0, h1]
@[simp] theorem Blk.clearFilter_onlyIn {ps : List Part} {a : Blk} (b : Blk) (mix : Nat) (h0 : Part.pos ∈ ps) :
    a.onlyIn ps ((Blk.clearFilter b mix)) ↔ a.onlyIn ps b := by
  unfold Blk.clearFilter; (repeat' split) <;> simp [h0]
@[simp] theorem Blk.readyFilter_onlyIn {ps : List Part} {a : Blk} (b : Blk) (mix : Nat) (h0 : Part.pos ∈ ps) (h1 :
    Part.regs ∈ ps) :
    a.onlyIn ps ((Blk.readyFilter b mix)) ↔ a.onlyIn ps b := by
  unfold Blk.readyFilter; (repeat' split) <;> simp [h0, h1]
@[simp] theorem Blk.orbitLoad_onlyIn {ps : List Part} {a : Blk} (d : Desc) (set : Bytes) (b : Blk) (h0 : Part.hst ∈
    ps) (h1 : Part.out ∈ ps) (h2 : Part.pos ∈ ps) :
    a.onlyIn ps ((Blk.orbitLoad d set b)) ↔ a.onlyIn ps b := by
  unfold Blk.orbitLoad; try dsimp only
  all_goals (repeat' split)
  all_goals (try simp [h0, h1, h2, Blk.foldl_onlyIn, Blk.ite_onlyIn])
  all_goals (try refine (Blk.foldl_onlyIn (fun b x => ?_) _ _).trans ?_)
  all_goals (repeat' split)
  all_goals (try simp [h0, h1, h2, Blk.foldl_onlyIn, Blk.ite_onlyIn])
@[simp] theorem Blk.orbitActivate_onlyIn {ps : List Part} {a : Blk} (t : Nat) (b0 : Blk) (h0 : Part.hst ∈ ps) (h1 :
    Part.inv ∈ ps) (h2 : Part.out ∈ ps) (h3 : Part.pos ∈ ps) :
    a.onlyIn ps ((Blk.orbitActivate t b0)) ↔ a.onlyIn ps b0 := by
  unfold Blk.orbitActivate; dsimp only; repeat' split
  all_goals simp [h0, h1, h2, h3, Blk.foldl_onlyIn, Blk.ite_onlyIn]
@[simp] theorem Blk.dropOldSet_onlyIn {ps : List Part} {a : Blk} (b : Blk) (h0 : Part.pos ∈ ps) :
    a.onlyIn ps ((Blk.dropOldSet b)) ↔ a.onlyIn ps b := by
  unfold Blk.dropOldSet; (repeat' split) <;> simp [h0]
@[simp] theorem Blk.posRefSet_onlyIn {ps : List Part} {a : Blk} (d : Desc) (b : Blk) (h0 : Part.fresh ∈ ps) (h1 :
    Part.hst ∈ ps) (h2 : Part.out ∈ ps) (h3 : Part.pos ∈ ps) :
    a.onlyIn ps ((Blk.posRefSet d b)) ↔ a.onlyIn ps b := by
  unfold Blk.posRefSet; dsimp only; (repeat' split) <;> simp [h0, h1, h2, h3]
@[simp] theorem Blk.takeRef_onlyIn {ps : List Part} {a : Blk} (b : Blk) (h0 : Part.evr ∈ ps) (h1 : Part.pos ∈ ps) (h2
    : Part.regs ∈ ps) :
    a.onlyIn ps ((Blk.takeRef b)) ↔ a.onlyIn ps b := by
  unfold Blk.takeRef; dsimp only; repeat' split
  all_goals simp [h0, h1, h2, Blk.foldl_onlyIn, Blk.ite_onlyIn]
@[simp] theorem Blk.queueEpoch_onlyIn {ps : List Part} {a : Blk} (b : Blk) (e : Epoch) (h0 : Part.pos ∈ ps) :
    a.onlyIn ps ((Blk.queueEpoch b e)) ↔ a.onlyIn ps b := by
  unfold Blk.queueEpoch; (repeat' split) <;> simp [h0]
@[simp] theorem Blk.payloadFailed_onlyIn {ps : List Part} {a : Blk} (b0 : Blk) (mix t0 : Nat) (ms : List Mark) (h0 :
    Part.pos ∈ ps) (h1 : Part.regs ∈ ps) :
    a.onlyIn ps ((Blk.payloadFailed b0 mix t0 ms)) ↔ a.onlyIn ps b0 := by
  unfold Blk.payloadFailed; dsimp only; (repeat' split) <;> simp [h0, h1]
@[simp] theorem Blk.payloadDone_onlyIn {ps : List Part} {a : Blk} (b : Blk) (mix : Nat) (p : Payload) (t0 : Nat) (h0
    : Part.pos ∈ ps) (h1 : Part.regs ∈ ps) :
    a.onlyIn ps ((Blk.payloadDone b mix p t0)) ↔ a.onlyIn ps b := by
  unfold Blk.payloadDone; dsimp only; (repeat' split) <;> simp [h0, h1]
@[simp] theorem Blk.obsFragment_onlyIn {ps : List Part} {a : Blk} (b : Blk) (mix : Nat) (body : Bytes) (t0 : Nat) (h0
    : Part.pos ∈ ps) (h1 : Part.regs ∈ ps) :
    a.onlyIn ps ((Blk.obsFragment b mix body t0)) ↔ a.onlyIn ps b := by
  unfold Blk.obsFragment; dsimp only; (repeat' split) <;> simp [h0, h1]
@[simp] theorem Blk.obsTimeout_onlyIn {ps : List Part} {a : Blk} (t mix : Nat) (b0 : Blk) (h0 : Part.inv ∈ ps) (h1 :
    Part.pos ∈ ps) (h2 : Part.regs ∈ ps) :
    a.onlyIn ps ((Blk.obsTimeout t mix b0)) ↔ a.onlyIn ps b0 := by
  unfold Blk.obsTimeout; dsimp only; (repeat' split) <;> simp [h0, h1, h2]
@[simp] theorem Blk.uwbEpoch_onlyIn {ps : List Part} {a : Blk} (b : Blk) (mix arrival t0 : Nat) (h0 : Part.pos ∈ ps)
    (h1 : Part.regs ∈ ps) :
    a.onlyIn ps ((Blk.uwbEpoch b mix arrival t0)) ↔ a.onlyIn ps b := by
  unfold Blk.uwbEpoch; (repeat' split) <;> simp [h0, h1]
@[simp] theorem Blk.furtherMark_onlyIn {ps : List Part} {a : Blk} (b : Blk) (mix arrival t0 : Nat) (ms : List Mark)
    (h0 : Part.pos ∈ ps) (h1 : Part.regs ∈ ps) :
    a.onlyIn ps ((Blk.furtherMark b mix arrival t0 ms)) ↔ a.onlyIn ps b := by
  unfold Blk.furtherMark; dsimp only; (repeat' split) <;> simp [h0, h1]
@[simp] theorem Blk.setStep_onlyIn {ps : List Part} {a : Blk} (b : Blk) (k demand : Nat) (h0 : Part.evr ∈ ps) (h1 :
    Part.pos ∈ ps) (h2 : Part.regs ∈ ps) :
    a.onlyIn ps ((Blk.setStep b k demand)) ↔ a.onlyIn ps b := by
  unfold Blk.setStep; (repeat' split) <;> simp [h0, h1, h2]
@[simp] theorem Blk.degradeNow_onlyIn {ps : List Part} {a : Blk} (b : Blk) (h0 : Part.evr ∈ ps) (h1 : Part.pos ∈ ps)
    (h2 : Part.regs ∈ ps) :
    a.onlyIn ps ((Blk.degradeNow b)) ↔ a.onlyIn ps b := by
  unfold Blk.degradeNow; dsimp only; (repeat' split) <;> simp [h0, h1, h2]
@[simp] theorem Blk.degradeEval_onlyIn {ps : List Part} {a : Blk} (t : Nat) (b0 : Blk) (h0 : Part.evr ∈ ps) (h1 :
    Part.inv ∈ ps) (h2 : Part.pos ∈ ps) (h3 : Part.regs ∈ ps) :
    a.onlyIn ps ((Blk.degradeEval t b0)) ↔ a.onlyIn ps b0 := by
  unfold Blk.degradeEval; (repeat' split) <;> simp [h0, h1, h2, h3]
@[simp] theorem Blk.epochAdmit_onlyIn {ps : List Part} {a : Blk} (b : Blk) (h0 : Part.pos ∈ ps) (h1 : Part.regs ∈ ps)
    :
    a.onlyIn ps ((Blk.epochAdmit b)) ↔ a.onlyIn ps b := by
  unfold Blk.epochAdmit; (repeat' split) <;> simp [h0, h1]
@[simp] theorem Blk.searchDeadline_onlyIn {ps : List Part} {a : Blk} (t mix : Nat) (b0 : Blk) (h0 : Part.inv ∈ ps)
    (h1 : Part.pos ∈ ps) (h2 : Part.regs ∈ ps) :
    a.onlyIn ps ((Blk.searchDeadline t mix b0)) ↔ a.onlyIn ps b0 := by
  unfold Blk.searchDeadline; dsimp only; (repeat' split) <;> simp [h0, h1, h2]
@[simp] theorem Blk.headResid_onlyIn {ps : List Part} {a : Blk} (b : Blk) (h : Nat) (r : Int) (h0 : Part.evr ∈ ps)
    (h1 : Part.pos ∈ ps) (h2 : Part.regs ∈ ps) :
    a.onlyIn ps ((Blk.headResid b h r)) ↔ a.onlyIn ps b := by
  unfold Blk.headResid; dsimp only; (repeat' split) <;> simp [h0, h1, h2]
@[simp] theorem Blk.headSet_onlyIn {ps : List Part} {a : Blk} (d : Desc) (tab : Bytes) (b : Blk) (h0 : Part.hst ∈ ps)
    (h1 : Part.out ∈ ps) (h2 : Part.pos ∈ ps) :
    a.onlyIn ps ((Blk.headSet d tab b)) ↔ a.onlyIn ps b := by
  unfold Blk.headSet; (repeat' split) <;> simp [h0, h1, h2]
@[simp] theorem Blk.takeHeads_onlyIn {ps : List Part} {a : Blk} (b : Blk) (h0 : Part.hst ∈ ps) (h1 : Part.out ∈ ps)
    (h2 : Part.pos ∈ ps) :
    a.onlyIn ps ((Blk.takeHeads b)) ↔ a.onlyIn ps b := by
  unfold Blk.takeHeads; simp [h0, h1, h2, Blk.foldl_onlyIn, Blk.ite_onlyIn]
@[simp] theorem Blk.filterReset_onlyIn {ps : List Part} {a : Blk} (d : Desc) (b : Blk) (h0 : Part.hst ∈ ps) (h1 :
    Part.out ∈ ps) (h2 : Part.pos ∈ ps) (h3 : Part.regs ∈ ps) :
    a.onlyIn ps ((Blk.filterReset d b)) ↔ a.onlyIn ps b := by
  unfold Blk.filterReset; simp [h0, h1, h2, h3, Blk.foldl_onlyIn, Blk.ite_onlyIn]
@[simp] theorem Blk.offerRead_onlyIn {ps : List Part} {a : Blk} (d : Desc) (b : Blk) (h0 : Part.hst ∈ ps) (h1 :
    Part.out ∈ ps) :
    a.onlyIn ps ((Blk.offerRead d b)) ↔ a.onlyIn ps b := by
  unfold Blk.offerRead; (repeat' split) <;> simp [h0, h1]
@[simp] theorem Blk.rtcmOut_onlyIn {ps : List Part} {a : Blk} (b : Blk) (t : Nat) (sats : List RefSat) (h0 : Part.air
    ∈ ps) (h1 : Part.evr ∈ ps) (h2 : Part.mem ∈ ps) (h3 : Part.pos ∈ ps) (h4 : Part.regs ∈ ps) :
    a.onlyIn ps ((Blk.rtcmOut b t sats)) ↔ a.onlyIn ps b := by
  unfold Blk.rtcmOut; dsimp only; (repeat' split) <;> simp [h0, h1, h2, h3, h4]
@[simp] theorem Blk.posEpoch_onlyIn {ps : List Part} {a : Blk} (b : Blk) (t : Nat) (r : RefEpoch) (h0 : Part.air ∈
    ps) (h1 : Part.evr ∈ ps) (h2 : Part.mem ∈ ps) (h3 : Part.pos ∈ ps) (h4 : Part.regs ∈ ps) :
    a.onlyIn ps ((Blk.posEpoch b t r)) ↔ a.onlyIn ps b := by
  unfold Blk.posEpoch; (repeat' split) <;> simp [h0, h1, h2, h3, h4]
@[simp] theorem Blk.checkFix_onlyIn {ps : List Part} {a : Blk} (b : Blk) (e : Epoch) (ref : Config.V3) (x : Est)
    (sats : List SatIn) (h0 : Part.hst ∈ ps) (h1 : Part.out ∈ ps) (h2 : Part.pos ∈ ps) (h3 : Part.regs ∈ ps) :
    a.onlyIn ps ((Blk.checkFix b e ref x sats)) ↔ a.onlyIn ps b := by
  unfold Blk.checkFix; dsimp only; (repeat' split) <;> simp [h0, h1, h2, h3]
@[simp] theorem Blk.tryFix_onlyIn {ps : List Part} {a : Blk} (b : Blk) (e : Epoch) (s : Found) (refOk : Bool) (h0 :
    Part.pos ∈ ps) :
    a.onlyIn ps ((Blk.tryFix b e s refOk)) ↔ a.onlyIn ps b := by
  unfold Blk.tryFix; dsimp only; (repeat' split) <;> simp [h0]
@[simp] theorem Blk.revalidate_onlyIn {ps : List Part} {a : Blk} (b : Blk) (e : Epoch) (s : Found) (h0 : Part.pos ∈
    ps) (h1 : Part.regs ∈ ps) :
    a.onlyIn ps ((Blk.revalidate b e s)) ↔ a.onlyIn ps b := by
  unfold Blk.revalidate; dsimp only; (repeat' split) <;> simp [h0, h1]
@[simp] theorem Blk.searchFix_onlyIn {ps : List Part} {a : Blk} (b : Blk) (e : Epoch) (ref : Config.V3) (x : Est)
    (sats : List SatIn) (refOk : Bool) (h0 : Part.pos ∈ ps) (h1 : Part.regs ∈ ps) :
    a.onlyIn ps ((Blk.searchFix b e ref x sats refOk)) ↔ a.onlyIn ps b := by
  unfold Blk.searchFix; dsimp only; (repeat' split) <;> simp [h0, h1]
@[simp] theorem Blk.deliverSol_onlyIn {ps : List Part} {a : Blk} (b : Blk) (e : Epoch) (item : Bytes) (valid : Bool)
    (s : Sol) (h0 : Part.air ∈ ps) (h1 : Part.dvt ∈ ps) (h2 : Part.evr ∈ ps) (h3 : Part.fleet ∈ ps) (h4 : Part.gns ∈
    ps) (h5 : Part.hdl ∈ ps) (h6 : Part.hst ∈ ps) (h7 : Part.inv ∈ ps) (h8 : Part.mem ∈ ps) (h9 : Part.out ∈ ps) (h10
    : Part.pos ∈ ps) (h11 : Part.regs ∈ ps) :
    a.onlyIn ps ((Blk.deliverSol b e item valid s)) ↔ a.onlyIn ps b := by
  unfold Blk.deliverSol; dsimp only; (repeat' split) <;> simp [h0, h1, h2, h3, h4, h5, h6, h7, h8, h9, h10, h11]
@[simp] theorem Blk.storeFilter_onlyIn {ps : List Part} {a : Blk} (b : Blk) (e : Epoch) (u : Updated) (sats : List
    SatIn) (s : Sol) (heading : Nat) (out : Config.V3) (h0 : Part.pos ∈ ps) :
    a.onlyIn ps ((Blk.storeFilter b e u sats s heading out)) ↔ a.onlyIn ps b := by
  unfold Blk.storeFilter; (repeat' split) <;> simp [h0]
@[simp] theorem Blk.emitSol_onlyIn {ps : List Part} {a : Blk} (b : Blk) (e : Epoch) (s : Sol) (heading : Nat) (kept :
    Bool) (h0 : Part.air ∈ ps) (h1 : Part.dvt ∈ ps) (h2 : Part.evr ∈ ps) (h3 : Part.fleet ∈ ps) (h4 : Part.gns ∈ ps)
    (h5 : Part.hdl ∈ ps) (h6 : Part.hst ∈ ps) (h7 : Part.inv ∈ ps) (h8 : Part.mem ∈ ps) (h9 : Part.out ∈ ps) (h10 :
    Part.pos ∈ ps) (h11 : Part.regs ∈ ps) :
    a.onlyIn ps ((Blk.emitSol b e s heading kept)) ↔ a.onlyIn ps b := by
  unfold Blk.emitSol; (repeat' split) <;> simp [h0, h1, h2, h3, h4, h5, h6, h7, h8, h9, h10, h11]
@[simp] theorem Blk.noSolution_onlyIn {ps : List Part} {a : Blk} (b : Blk) (e : Epoch) (h0 : Part.air ∈ ps) (h1 :
    Part.dvt ∈ ps) (h2 : Part.evr ∈ ps) (h3 : Part.fleet ∈ ps) (h4 : Part.gns ∈ ps) (h5 : Part.hdl ∈ ps) (h6 :
    Part.hst ∈ ps) (h7 : Part.inv ∈ ps) (h8 : Part.mem ∈ ps) (h9 : Part.out ∈ ps) (h10 : Part.pos ∈ ps) (h11 :
    Part.regs ∈ ps) :
    a.onlyIn ps ((Blk.noSolution b e)) ↔ a.onlyIn ps b := by
  unfold Blk.noSolution; (repeat' split) <;> simp [h0, h1, h2, h3, h4, h5, h6, h7, h8, h9, h10, h11]
@[simp] theorem Blk.ageFilter_onlyIn {ps : List Part} {a : Blk} (b : Blk) (e : Epoch) (h0 : Part.pos ∈ ps) (h1 :
    Part.regs ∈ ps) :
    a.onlyIn ps ((Blk.ageFilter b e)) ↔ a.onlyIn ps b := by
  unfold Blk.ageFilter; dsimp only; (repeat' split) <;> simp [h0, h1]
@[simp] theorem Blk.solveFrom_onlyIn {ps : List Part} {a : Blk} (b : Blk) (e : Epoch) (x0 : Est) (obs : List ObsSat)
    (as : List Arrival) (tSol : Int) (h0 : Part.air ∈ ps) (h1 : Part.dvt ∈ ps) (h2 : Part.evr ∈ ps) (h3 : Part.fleet
        ∈ ps) (h4 : Part.gns ∈ ps) (h5 : Part.hdl ∈ ps) (h6 : Part.hst ∈ ps) (h7 : Part.inv ∈ ps) (h8 : Part.mem ∈
        ps) (h9 : Part.out ∈ ps) (h10 : Part.pos ∈ ps) (h11 : Part.regs ∈ ps) : a.onlyIn ps (b.solveFrom e x0 obs as
        tSol) ↔ a.onlyIn ps b := by
  have g : ∀ (ref : Option Config.V3) (u : Updated) (all sats : List SatIn) (k : Bool), a.onlyIn ps (match ref with
      | none => b
      | some p => if !u.dd then b else (b.checkFix e p u.est all).searchFix e p u.est sats k) ↔ a.onlyIn ps b := by
    intro ref u all sats k
    cases ref <;> dsimp only <;> (repeat' split) <;> simp [h0, h1, h2, h3, h4, h5, h6, h7, h8, h9, h10, h11,
        Blk.foldl_onlyIn, Blk.ite_onlyIn]
  unfold Blk.solveFrom
  extract_lets f recs t r ref x1 used codes code clk dt all x2 sats u b1 b2 f2 mode out s heading kept
  rw [Blk.emitSol_onlyIn, Blk.storeFilter_onlyIn] <;> try assumption
  have e2 : a.onlyIn ps b2 ↔ a.onlyIn ps b1 := by
    refine Blk.foldl_onlyIn (fun c q => ?_) _ _
    simp [h0, h1, h2, h3, h4, h5, h6, h7, h8, h9, h10, h11, Blk.foldl_onlyIn, Blk.ite_onlyIn]
  exact e2.trans (g ref u all (sats.filter (SatIn.has 1)) (!r.bad))
@[simp] theorem Blk.solve_onlyIn {ps : List Part} {a : Blk} (b0 : Blk) (e : Epoch) (h0 : Part.air ∈ ps) (h1 :
    Part.dvt ∈ ps) (h2 : Part.evr ∈ ps) (h3 : Part.fleet ∈ ps) (h4 : Part.gns ∈ ps) (h5 : Part.hdl ∈ ps) (h6 :
    Part.hst ∈ ps) (h7 : Part.inv ∈ ps) (h8 : Part.mem ∈ ps) (h9 : Part.out ∈ ps) (h10 : Part.pos ∈ ps) (h11 :
    Part.regs ∈ ps) :
    a.onlyIn ps ((Blk.solve b0 e)) ↔ a.onlyIn ps b0 := by
  unfold Blk.solve; dsimp only; (repeat' split) <;> simp [h0, h1, h2, h3, h4, h5, h6, h7, h8, h9, h10, h11]
@[simp] theorem Blk.solutionComplete_onlyIn {ps : List Part} {a : Blk} (t : Nat) (b0 : Blk) (h0 : Part.air ∈ ps) (h1
    : Part.dvt ∈ ps) (h2 : Part.evr ∈ ps) (h3 : Part.fleet ∈ ps) (h4 : Part.gns ∈ ps) (h5 : Part.hdl ∈ ps) (h6 :
    Part.hst ∈ ps) (h7 : Part.inv ∈ ps) (h8 : Part.mem ∈ ps) (h9 : Part.out ∈ ps) (h10 : Part.pos ∈ ps) (h11 :
    Part.regs ∈ ps) :
    a.onlyIn ps ((Blk.solutionComplete t b0)) ↔ a.onlyIn ps b0 := by
  unfold Blk.solutionComplete; dsimp only; (repeat' split) <;> simp [h0, h1, h2, h3, h4, h5, h6, h7, h8, h9, h10, h11]
@[simp] theorem Blk.setAnt_onlyIn {ps : List Part} {a : Blk} (b : Blk) (st : Nat) (h0 : Part.evr ∈ ps) (h1 : Part.gns
    ∈ ps) (h2 : Part.regs ∈ ps) :
    a.onlyIn ps ((Blk.setAnt b st)) ↔ a.onlyIn ps b := by
  unfold Blk.setAnt; dsimp only; (repeat' split) <;> simp [h0, h1, h2]
@[simp] theorem Blk.antSample_onlyIn {ps : List Part} {a : Blk} (b : Blk) (i : Nat) (h0 : Part.evr ∈ ps) (h1 :
    Part.gns ∈ ps) (h2 : Part.regs ∈ ps) :
    a.onlyIn ps ((Blk.antSample b i)) ↔ a.onlyIn ps b := by
  unfold Blk.antSample; dsimp only; (repeat' split) <;> simp [h0, h1, h2]
@[simp] theorem Blk.antRetry_onlyIn {ps : List Part} {a : Blk} (t : Nat) (b0 : Blk) (h0 : Part.evr ∈ ps) (h1 :
    Part.gns ∈ ps) (h2 : Part.inv ∈ ps) (h3 : Part.regs ∈ ps) :
    a.onlyIn ps ((Blk.antRetry t b0)) ↔ a.onlyIn ps b0 := by
  unfold Blk.antRetry; dsimp only; (repeat' split) <;> simp [h0, h1, h2, h3]
@[simp] theorem Blk.agc_onlyIn {ps : List Part} {a : Blk} (b : Blk) (rms : Nat) (pIn : Int) (h0 : Part.gns ∈ ps) :
    a.onlyIn ps ((Blk.agc b rms pIn)) ↔ a.onlyIn ps b := by
  unfold Blk.agc; (repeat' split) <;> simp [h0]
@[simp] theorem Blk.setNotch_onlyIn {ps : List Part} {a : Blk} (b : Blk) (n : Nat) (x : Notch) (h0 : Part.gns ∈ ps) :
    a.onlyIn ps ((Blk.setNotch b n x)) ↔ a.onlyIn ps b := by
  unfold Blk.setNotch; (repeat' split) <;> simp [h0]
@[simp] theorem Blk.holdNotch_onlyIn {ps : List Part} {a : Blk} (b : Blk) (lines : List SpecLine) (n : Nat) (h0 :
    Part.gns ∈ ps) :
    a.onlyIn ps ((Blk.holdNotch b lines n)) ↔ a.onlyIn ps b := by
  unfold Blk.holdNotch; dsimp only; (repeat' split) <;> simp [h0]
@[simp] theorem Blk.notchOn_onlyIn {ps : List Part} {a : Blk} (b : Blk) (n : Nat) (l : SpecLine) (h0 : Part.gns ∈ ps)
    :
    a.onlyIn ps ((Blk.notchOn b n l)) ↔ a.onlyIn ps b := by
  unfold Blk.notchOn; (repeat' split) <;> simp [h0]
@[simp] theorem Blk.newLine_onlyIn {ps : List Part} {a : Blk} (b : Blk) (l : SpecLine) (h0 : Part.gns ∈ ps) :
    a.onlyIn ps ((Blk.newLine b l)) ↔ a.onlyIn ps b := by
  unfold Blk.newLine; dsimp only; (repeat' split) <;> simp [h0]
@[simp] theorem Blk.spectrum_onlyIn {ps : List Part} {a : Blk} (b : Blk) (lines : List SpecLine) (h0 : Part.evr ∈ ps)
    (h1 : Part.gns ∈ ps) (h2 : Part.regs ∈ ps) :
    a.onlyIn ps ((Blk.spectrum b lines)) ↔ a.onlyIn ps b := by
  unfold Blk.spectrum; simp [h0, h1, h2, Blk.foldl_onlyIn, Blk.ite_onlyIn]
@[simp] theorem Blk.jamUpdate_onlyIn {ps : List Part} {a : Blk} (b : Blk) (h0 : Part.evr ∈ ps) (h1 : Part.gns ∈ ps)
    (h2 : Part.regs ∈ ps) :
    a.onlyIn ps ((Blk.jamUpdate b)) ↔ a.onlyIn ps b := by
  unfold Blk.jamUpdate; dsimp only; (repeat' split) <;> simp [h0, h1, h2]
@[simp] theorem Blk.setChan_onlyIn {ps : List Part} {a : Blk} (b : Blk) (n : Nat) (c : GChan) (h0 : Part.gns ∈ ps) :
    a.onlyIn ps ((Blk.setChan b n c)) ↔ a.onlyIn ps b := by
  unfold Blk.setChan; (repeat' split) <;> simp [h0]
@[simp] theorem Blk.freeChan_onlyIn {ps : List Part} {a : Blk} (b : Blk) (n : Nat) (h0 : Part.gns ∈ ps) :
    a.onlyIn ps ((Blk.freeChan b n)) ↔ a.onlyIn ps b := by
  unfold Blk.freeChan; (repeat' split) <;> simp [h0]
@[simp] theorem Blk.assign_onlyIn {ps : List Part} {a : Blk} (b : Blk) (sys svid elev : Nat) (h0 : Part.gns ∈ ps) :
    a.onlyIn ps ((Blk.assign b sys svid elev)) ↔ a.onlyIn ps b := by
  unfold Blk.assign; (repeat' split) <;> simp [h0]
@[simp] theorem Blk.searchOn_onlyIn {ps : List Part} {a : Blk} (b0 : Blk) (n : Nat) (h0 : Part.gns ∈ ps) :
    a.onlyIn ps ((Blk.searchOn b0 n)) ↔ a.onlyIn ps b0 := by
  unfold Blk.searchOn; dsimp only; (repeat' split) <;> simp [h0]
@[simp] theorem Blk.reviewChan_onlyIn {ps : List Part} {a : Blk} (b : Blk) (n : Nat) (h0 : Part.gns ∈ ps) :
    a.onlyIn ps ((Blk.reviewChan b n)) ↔ a.onlyIn ps b := by
  unfold Blk.reviewChan; dsimp only; (repeat' split) <;> simp [h0]
@[simp] theorem Blk.chanReview_onlyIn {ps : List Part} {a : Blk} (t : Nat) (b0 : Blk) (h0 : Part.gns ∈ ps) (h1 :
    Part.inv ∈ ps) :
    a.onlyIn ps ((Blk.chanReview t b0)) ↔ a.onlyIn ps b0 := by
  unfold Blk.chanReview; simp [h0, h1, Blk.foldl_onlyIn, Blk.ite_onlyIn]
@[simp] theorem Blk.acqDone_onlyIn {ps : List Part} {a : Blk} (b : Blk) (n : Nat) (o : AcqObs) (h0 : Part.gns ∈ ps) :
    a.onlyIn ps ((Blk.acqDone b n o)) ↔ a.onlyIn ps b := by
  unfold Blk.acqDone; dsimp only; (repeat' split) <;> simp [h0]
@[simp] theorem Blk.trackOne_onlyIn {ps : List Part} {a : Blk} (b : Blk) (x : TrkIn) (h0 : Part.gns ∈ ps) (h1 :
    Part.regs ∈ ps) :
    a.onlyIn ps ((Blk.trackOne b x)) ↔ a.onlyIn ps b := by
  unfold Blk.trackOne; dsimp only; (repeat' split) <;> simp [h0, h1]
@[simp] theorem Blk.preamble_onlyIn {ps : List Part} {a : Blk} (b : Blk) (n : Nat) (h0 : Part.fresh ∈ ps) (h1 :
    Part.gns ∈ ps) :
    a.onlyIn ps ((Blk.preamble b n)) ↔ a.onlyIn ps b := by
  unfold Blk.preamble; dsimp only; (repeat' split) <;> simp [h0, h1]
@[simp] theorem Blk.gnsRestart_onlyIn {ps : List Part} {a : Blk} (d : Desc) (b : Blk) (h0 : Part.gns ∈ ps) (h1 :
    Part.hst ∈ ps) (h2 : Part.out ∈ ps) :
    a.onlyIn ps ((Blk.gnsRestart d b)) ↔ a.onlyIn ps b := by
  unfold Blk.gnsRestart; (repeat' split) <;> simp [h0, h1, h2]
@[simp] theorem Blk.gnsSpectrum_onlyIn {ps : List Part} {a : Blk} (d : Desc) (bins : Bytes) (b : Blk) (h0 : Part.hst
    ∈ ps) (h1 : Part.out ∈ ps) :
    a.onlyIn ps ((Blk.gnsSpectrum d bins b)) ↔ a.onlyIn ps b := by
  unfold Blk.gnsSpectrum; (repeat' split) <;> simp [h0, h1]
@[simp] theorem Blk.startPhase_onlyIn {ps : List Part} {a : Blk} (b : Blk) (t n : Nat) (c : GChan) (o : RefObs) (h0 :
    Part.fresh ∈ ps) (h1 : Part.gns ∈ ps) :
    a.onlyIn ps ((Blk.startPhase b t n c o)) ↔ a.onlyIn ps b := by
  unfold Blk.startPhase; dsimp only; (repeat' split) <;> simp [h0, h1]
@[simp] theorem Blk.epochChan_onlyIn {ps : List Part} {a : Blk} (t : Nat) (obs : List RefObs) (b : Blk) (n : Nat) (h0
    : Part.fresh ∈ ps) (h1 : Part.gns ∈ ps) (h2 : Part.regs ∈ ps) :
    a.onlyIn ps ((Blk.epochChan t obs b n)) ↔ a.onlyIn ps b := by
  unfold Blk.epochChan; dsimp only; (repeat' split) <;> simp [h0, h1, h2]
@[simp] theorem Blk.estimateSelf_onlyIn {ps : List Part} {a : Blk} (b : Blk) (t : Nat) (sats : List RefSat) (h0 :
    Part.gns ∈ ps) :
    a.onlyIn ps ((Blk.estimateSelf b t sats)) ↔ a.onlyIn ps b := by
  unfold Blk.estimateSelf; dsimp only; (repeat' split) <;> simp [h0]
@[simp] theorem Blk.timing_onlyIn {ps : List Part} {a : Blk} (b : Blk) (t : Nat) (sats : List RefSat) (h0 : Part.evr
    ∈ ps) (h1 : Part.gns ∈ ps) (h2 : Part.inv ∈ ps) (h3 : Part.mem ∈ ps) (h4 : Part.regs ∈ ps) :
    a.onlyIn ps ((Blk.timing b t sats)) ↔ a.onlyIn ps b := by
  unfold Blk.timing; (repeat' split) <;> simp [h0, h1, h2, h3, h4]
@[simp] theorem Blk.refEpoch_onlyIn {ps : List Part} {a : Blk} (t : Nat) (obs : List RefObs) (b0 : Blk) (h0 :
    Part.air ∈ ps) (h1 : Part.evr ∈ ps) (h2 : Part.fresh ∈ ps) (h3 : Part.gns ∈ ps) (h4 : Part.inv ∈ ps) (h5 :
    Part.mem ∈ ps) (h6 : Part.pos ∈ ps) (h7 : Part.regs ∈ ps) :
    a.onlyIn ps ((Blk.refEpoch t obs b0)) ↔ a.onlyIn ps b0 := by
  unfold Blk.refEpoch; simp [h0, h1, h2, h3, h4, h5, h6, h7, Blk.foldl_onlyIn, Blk.ite_onlyIn]
@[simp] theorem Blk.navItem_onlyIn {ps : List Part} {a : Blk} (b : Blk) (n first nSym : Nat) (known gap : Bool) (sym
    : Bytes) (h0 : Part.evr ∈ ps) (h1 : Part.mem ∈ ps) (h2 : Part.regs ∈ ps) :
    a.onlyIn ps ((Blk.navItem b n first nSym known gap sym)) ↔ a.onlyIn ps b := by
  unfold Blk.navItem; dsimp only; (repeat' split) <;> simp [h0, h1, h2]
@[simp] theorem Blk.keepSnap_onlyIn {ps : List Part} {a : Blk} (b : Blk) (mix : Nat) (f : Config.SnapFix) (h0 :
    Part.pos ∈ ps) :
    a.onlyIn ps (b.keepSnap mix f) ↔ a.onlyIn ps b := by
  unfold Blk.keepSnap; simp [h0, Blk.foldl_onlyIn, Blk.ite_onlyIn]
@[simp] theorem Blk.endSnap_onlyIn {ps : List Part} {a : Blk} (b : Blk) (s : GSnap) (status detail nSv : Nat)
    (sol : Option SnapSol) (h0 : Part.air ∈ ps) (h1 : Part.evr ∈ ps) (h2 : Part.hst ∈ ps) (h3 : Part.mem ∈ ps) (h4 :
        Part.out ∈ ps) (h5 : Part.pos ∈ ps) (h6 : Part.regs ∈ ps) : a.onlyIn ps (b.endSnap s status detail nSv sol) ↔
        a.onlyIn ps b := by
  unfold Blk.endSnap; dsimp only
  generalize snapResult status _ s.id nSv _ sol = res
  cases s.host <;> cases sol <;> dsimp only <;> (repeat' split) <;> simp [h0, h1, h2, h3, h4, h5, h6,
      Blk.foldl_onlyIn, Blk.ite_onlyIn]
@[simp] theorem Blk.dropSnap_onlyIn {ps : List Part} {a : Blk} (b : Blk) (s : GSnap) (h0 : Part.gns ∈ ps) :
    a.onlyIn ps ((Blk.dropSnap b s)) ↔ a.onlyIn ps b := by
  unfold Blk.dropSnap; (repeat' split) <;> simp [h0]
@[simp] theorem Blk.snapBusy_onlyIn {ps : List Part} {a : Blk} (b : Blk) (mix snapId : Nat) (h0 : Part.air ∈ ps) (h1
    : Part.gns ∈ ps) (h2 : Part.regs ∈ ps) :
    a.onlyIn ps ((Blk.snapBusy b mix snapId)) ↔ a.onlyIn ps b := by
  unfold Blk.snapBusy; (repeat' split) <;> simp [h0, h1, h2]
@[simp] theorem Blk.addFrag_onlyIn {ps : List Part} {a : Blk} (b : Blk) (s : GSnap) (i : Nat) (data : Bytes) (h0 :
    Part.air ∈ ps) (h1 : Part.evr ∈ ps) (h2 : Part.gns ∈ ps) (h3 : Part.hst ∈ ps) (h4 : Part.mem ∈ ps) (h5 : Part.out
    ∈ ps) (h6 : Part.pos ∈ ps) (h7 : Part.regs ∈ ps) :
    a.onlyIn ps ((Blk.addFrag b s i data)) ↔ a.onlyIn ps b := by
  unfold Blk.addFrag; dsimp only; (repeat' split) <;> simp [h0, h1, h2, h3, h4, h5, h6, h7]
@[simp] theorem Blk.snapHeader_onlyIn {ps : List Part} {a : Blk} (b : Blk) (mix snapId cnt : Nat) (h : Bytes) (h0 :
    Part.air ∈ ps) (h1 : Part.evr ∈ ps) (h2 : Part.gns ∈ ps) (h3 : Part.hst ∈ ps) (h4 : Part.mem ∈ ps) (h5 : Part.out
    ∈ ps) (h6 : Part.pos ∈ ps) (h7 : Part.regs ∈ ps) :
    a.onlyIn ps ((Blk.snapHeader b mix snapId cnt h)) ↔ a.onlyIn ps b := by
  unfold Blk.snapHeader; dsimp only; (repeat' split) <;> simp [h0, h1, h2, h3, h4, h5, h6, h7]
@[simp] theorem Blk.snapFragment_onlyIn {ps : List Part} {a : Blk} (b : Blk) (mix : Nat) (body : Bytes) (h0 :
    Part.air ∈ ps) (h1 : Part.evr ∈ ps) (h2 : Part.gns ∈ ps) (h3 : Part.hst ∈ ps) (h4 : Part.mem ∈ ps) (h5 : Part.out
    ∈ ps) (h6 : Part.pos ∈ ps) (h7 : Part.regs ∈ ps) :
    a.onlyIn ps ((Blk.snapFragment b mix body)) ↔ a.onlyIn ps b := by
  unfold Blk.snapFragment; dsimp only; (repeat' split) <;> simp [h0, h1, h2, h3, h4, h5, h6, h7]
@[simp] theorem Blk.snapFragTimeout_onlyIn {ps : List Part} {a : Blk} (t : Nat) (b0 : Blk) (h0 : Part.air ∈ ps) (h1 :
    Part.evr ∈ ps) (h2 : Part.gns ∈ ps) (h3 : Part.hst ∈ ps) (h4 : Part.inv ∈ ps) (h5 : Part.mem ∈ ps) (h6 : Part.out
    ∈ ps) (h7 : Part.pos ∈ ps) (h8 : Part.regs ∈ ps) :
    a.onlyIn ps ((Blk.snapFragTimeout t b0)) ↔ a.onlyIn ps b0 := by
  unfold Blk.snapFragTimeout; simp [h0, h1, h2, h3, h4, h5, h6, h7, h8, Blk.foldl_onlyIn, Blk.ite_onlyIn]
@[simp] theorem Blk.snapStart_onlyIn {ps : List Part} {a : Blk} (t : Nat) (b0 : Blk) (h0 : Part.air ∈ ps) (h1 :
    Part.evr ∈ ps) (h2 : Part.gns ∈ ps) (h3 : Part.hst ∈ ps) (h4 : Part.inv ∈ ps) (h5 : Part.mem ∈ ps) (h6 : Part.out
    ∈ ps) (h7 : Part.pos ∈ ps) (h8 : Part.regs ∈ ps) :
    a.onlyIn ps ((Blk.snapStart t b0)) ↔ a.onlyIn ps b0 := by
  unfold Blk.snapStart; dsimp only; (repeat' split) <;> simp [h0, h1, h2, h3, h4, h5, h6, h7, h8]
@[simp] theorem Blk.snapEnds_onlyIn {ps : List Part} {a : Blk} (t : Nat) (dets : List SnapDet) (b0 : Blk) (h0 :
    Part.air ∈ ps) (h1 : Part.evr ∈ ps) (h2 : Part.gns ∈ ps) (h3 : Part.hst ∈ ps) (h4 : Part.inv ∈ ps) (h5 : Part.mem
    ∈ ps) (h6 : Part.out ∈ ps) (h7 : Part.pos ∈ ps) (h8 : Part.regs ∈ ps) :
    a.onlyIn ps ((Blk.snapEnds t dets b0)) ↔ a.onlyIn ps b0 := by
  unfold Blk.snapEnds; dsimp only; (repeat' split) <;> simp [h0, h1, h2, h3, h4, h5, h6, h7, h8]
@[simp] theorem Blk.snapHost_onlyIn {ps : List Part} {a : Blk} (d : Desc) (data : Bytes) (b : Blk) (h0 : Part.air ∈
    ps) (h1 : Part.evr ∈ ps) (h2 : Part.gns ∈ ps) (h3 : Part.hst ∈ ps) (h4 : Part.mem ∈ ps) (h5 : Part.out ∈ ps) (h6
    : Part.pos ∈ ps) (h7 : Part.regs ∈ ps) :
    a.onlyIn ps ((Blk.snapHost d data b)) ↔ a.onlyIn ps b := by
  unfold Blk.snapHost; dsimp only; repeat' split
  all_goals simp [h0, h1, h2, h3, h4, h5, h6, h7, Blk.foldl_onlyIn, Blk.ite_onlyIn]
@[simp] theorem Blk.sendAll_onlyIn {ps : List Part} {a : Blk} (b : Blk) (chan9 : Bool) (launch phy sts : Nat) (v psdu
    : Bytes) (h0 : Part.hdl ∈ ps) (h1 : Part.out ∈ ps) :
    a.onlyIn ps ((Blk.sendAll b chan9 launch phy sts v psdu)) ↔ a.onlyIn ps b := by
  unfold Blk.sendAll; simp [h0, h1, Blk.foldl_onlyIn, Blk.ite_onlyIn]
@[simp] theorem Blk.sendSched_onlyIn {ps : List Part} {a : Blk} (b : Blk) (mix : Nat) (h0 : Part.air ∈ ps) :
    a.onlyIn ps ((Blk.sendSched b mix)) ↔ a.onlyIn ps b := by
  unfold Blk.sendSched; (repeat' split) <;> simp [h0]
theorem fillEach_onlyIn {ps : List Part} {a : Blk} (kind lo hi : Nat) (f : Blk → Nat → Blk) (hf : ∀ b m, Blk.onlyIn
    ps b (f b m)) (ms : List Nat) (x : Filling) :
    a.onlyIn ps (fillEach kind lo hi f ms x).1 ↔ a.onlyIn ps x.1 := by
  unfold fillEach
  induction ms generalizing x with
  | nil => rfl
  | cons m ms ih => rw [List.foldl_cons, ih]; split; · rfl
                    exact Blk.onlyIn_iff (hf _ _)
theorem fillPlain_fst (kind k : Nat) (x : Filling) : (fillPlain kind k x).1 = x.1 := by
  unfold fillPlain
  generalize List.range k = l
  induction l generalizing x with
  | nil => rfl
  | cons m ms ih => rw [List.foldl_cons, ih]; split <;> rfl
theorem fold_fst {α : Type} (f : Filling → α → Filling) (hf : ∀ x y, (f x y).1 = x.1) (l : List α) (x : Filling) :
    (l.foldl f x).1 = x.1 := by
  induction l generalizing x with
  | nil => rfl
  | cons m ms ih => rw [List.foldl_cons, ih, hf]
theorem fold_onlyIn {α : Type} {ps : List Part} {a : Blk} (f : Filling → α → Filling) (hf : ∀ (x : Filling) y,
    Blk.onlyIn ps x.1 (f x y).1) (l : List α) (x : Filling) :
    a.onlyIn ps (l.foldl f x).1 ↔ a.onlyIn ps x.1 := by
  induction l generalizing x with
  | nil => rfl
  | cons m ms ih => rw [List.foldl_cons, ih, Blk.onlyIn_iff (hf _ _)]
@[simp] theorem Blk.fillPolls_onlyIn {ps : List Part} {a : Blk} (n : Nat) (ms : List Nat) (x : Filling) (h0 :
    Part.air ∈ ps) :
    a.onlyIn ps (Blk.fillPolls n ms x).1 ↔ a.onlyIn ps x.1 := by
  unfold Blk.fillPolls
  refine fold_onlyIn _ (fun x y => ?_) _ _
  dsimp only; (repeat' split) <;> simp [h0, Blk.foldl_onlyIn, Blk.ite_onlyIn]
@[simp] theorem Blk.noteUplink_onlyIn {ps : List Part} {a : Blk} (n : Nat) (b : Blk) (mix : Nat) (h0 : Part.air ∈ ps)
    :
    a.onlyIn ps ((Blk.noteUplink n b mix)) ↔ a.onlyIn ps b := by
  unfold Blk.noteUplink; (repeat' split) <;> simp [h0]
@[simp] theorem Blk.fillObs_onlyIn {ps : List Part} {a : Blk} (n : Nat) (c9 : Bool) (ms : List Nat) (x : Filling) (h0
    : Part.air ∈ ps) (h1 : Part.regs ∈ ps) :
    a.onlyIn ps (Blk.fillObs n c9 ms x).1 ↔ a.onlyIn ps x.1 := by
  unfold Blk.fillObs
  extract_lets b all k
  rw [fillEach_onlyIn _ _ _ _ (fun b m => by simp [Blk.noteUplink, h0, h1, Blk.foldl_onlyIn, Blk.ite_onlyIn])]
  clear_value all k
  split
  · simp [b, h0, h1, Blk.foldl_onlyIn, Blk.ite_onlyIn]
  · rfl
@[simp] theorem Blk.fillPos_onlyIn {ps : List Part} {a : Blk} (c9 f : Bool) (us : List Nat) (x : Filling) (h0 :
    Part.air ∈ ps) :
    a.onlyIn ps (Blk.fillPos c9 f us x).1 ↔ a.onlyIn ps x.1 := by
  unfold Blk.fillPos
  dsimp only
  rw [fold_onlyIn _ (fun x y => ?_), fold_onlyIn _ (fun x y => ?_)]
  · simp [h0, Blk.foldl_onlyIn, Blk.ite_onlyIn]
  all_goals (try dsimp only); (repeat' split) <;> simp [h0, Blk.foldl_onlyIn, Blk.ite_onlyIn]
@[simp] theorem Blk.fillAlive_onlyIn {ps : List Part} {a : Blk} (n : Nat) (ms : List Nat) (x : Filling) (h0 :
    Part.air ∈ ps) :
    a.onlyIn ps (Blk.fillAlive n ms x).1 ↔ a.onlyIn ps x.1 := by
  unfold Blk.fillAlive
  exact fillEach_onlyIn _ _ _ _ (fun b m => by simp [h0, Blk.foldl_onlyIn, Blk.ite_onlyIn]) _ _
@[simp] theorem Blk.remindUnheard_onlyIn {ps : List Part} {a : Blk} (n : Nat) (ms : List Nat) (b : Blk) (h0 :
    Part.air ∈ ps) :
    a.onlyIn ps ((Blk.remindUnheard n ms b)) ↔ a.onlyIn ps b := by
  unfold Blk.remindUnheard; simp [h0, Blk.foldl_onlyIn, Blk.ite_onlyIn]
@[simp] theorem Blk.fillDown_onlyIn {ps : List Part} {a : Blk} (n : Nat) (c9 : Bool) (ms : List Nat) (x : Filling)
    (h0 : Part.air ∈ ps) :
    a.onlyIn ps (Blk.fillDown n c9 ms x).1 ↔ a.onlyIn ps x.1 := by
  unfold Blk.fillDown
  dsimp only
  rw [fold_onlyIn _ (fun x y => ?_)]
  · unfold Blk.remindUnheard
    refine Blk.foldl_onlyIn (fun b x => ?_) _ _
    dsimp only; split <;> simp [h0, Blk.foldl_onlyIn, Blk.ite_onlyIn]
  · exact (fillEach_onlyIn _ _ _ _ (fun b m => by simp [h0, Blk.foldl_onlyIn, Blk.ite_onlyIn]) _ _).2
      (Blk.onlyIn_refl _ _)
@[simp] theorem Blk.fillContention_onlyIn {ps : List Part} {a : Blk} (c : Bool) (ms : List Nat) (x : Filling) :
    a.onlyIn ps (Blk.fillContention c ms x).1 ↔ a.onlyIn ps x.1 := by
  unfold Blk.fillContention
  rw [fillPlain_fst, fillPlain_fst]
@[simp] theorem Blk.fillMore_onlyIn {ps : List Part} {a : Blk} (c9 : Bool) (ms : List Nat) (x : Filling) (h0 :
    Part.air ∈ ps) :
    a.onlyIn ps (Blk.fillMore c9 ms x).1 ↔ a.onlyIn ps x.1 := by
  unfold Blk.fillMore
  exact fillEach_onlyIn _ _ _ _ (fun b m => by simp [h0, Blk.foldl_onlyIn, Blk.ite_onlyIn]) _ _
@[simp] theorem Blk.fillChan_onlyIn {ps : List Part} {a : Blk} (n : Nat) (chan9 : Bool) (b : Blk) (h0 : Part.air ∈
    ps) (h1 : Part.regs ∈ ps) :
    a.onlyIn ps (Blk.fillChan n chan9 b).1 ↔ a.onlyIn ps b := by
  unfold Blk.fillChan; simp [h0, h1, Blk.foldl_onlyIn, Blk.ite_onlyIn]
@[simp] theorem Blk.prepare_onlyIn {ps : List Part} {a : Blk} (b : Blk) (n : Nat) (h0 : Part.air ∈ ps) (h1 :
    Part.regs ∈ ps) :
    a.onlyIn ps (b.prepare n).2 ↔ a.onlyIn ps b := by
  unfold Blk.prepare; dsimp only; (repeat' split) <;> simp [h0, h1, Blk.foldl_onlyIn, Blk.ite_onlyIn]
@[simp] theorem Blk.bcopy_onlyIn {ps : List Part} {a : Blk} (b : Blk) (chan9 : Bool) (t : Nat) (h0 : Part.air ∈ ps)
    (h1 : Part.out ∈ ps) :
    a.onlyIn ps ((Blk.bcopy b chan9 t)) ↔ a.onlyIn ps b := by
  unfold Blk.bcopy; dsimp only; repeat' split
  all_goals simp [h0, h1, Blk.foldl_onlyIn, Blk.ite_onlyIn]
@[simp] theorem Blk.beacon_onlyIn {ps : List Part} {a : Blk} (b : Blk) (t : Nat) (chan9 : Bool) (h0 : Part.air ∈ ps)
    (h1 : Part.hdl ∈ ps) (h2 : Part.out ∈ ps) :
    a.onlyIn ps ((Blk.beacon b t chan9)) ↔ a.onlyIn ps b := by
  unfold Blk.beacon; dsimp only; (repeat' split) <;> simp [h0, h1, h2]
@[simp] theorem Blk.superframe_onlyIn {ps : List Part} {a : Blk} (t : Nat) (b : Blk) (h0 : Part.air ∈ ps) (h1 :
    Part.dvt ∈ ps) (h2 : Part.hdl ∈ ps) (h3 : Part.hst ∈ ps) (h4 : Part.inv ∈ ps) (h5 : Part.out ∈ ps) (h6 : Part.pos
    ∈ ps) (h7 : Part.regs ∈ ps) :
    a.onlyIn ps (Blk.superframe t b) ↔ a.onlyIn ps b := by
  unfold Blk.superframe; dsimp only
  split
  · generalize hb : Blk.modAir _ _ = b1
    have e := Blk.prepare_onlyIn (ps := ps) (a := a) b1 (t / 10000000) (by assumption) (by assumption)
    generalize b1.prepare (t / 10000000) = r at e ⊢
    obtain ⟨m, b2⟩ := r
    simp [h0, h1, h2, h3, h4, h5, h6, h7, Blk.foldl_onlyIn, Blk.ite_onlyIn] at e ⊢
    try rw [e]
    rw [← hb]; simp [h0, h1, h2, h3, h4, h5, h6, h7, Blk.foldl_onlyIn, Blk.ite_onlyIn]
  · simp [h0, h1, h2, h3, h4, h5, h6, h7, Blk.foldl_onlyIn, Blk.ite_onlyIn]
@[simp] theorem Blk.rxplan_onlyIn {ps : List Part} {a : Blk} (b : Blk) (h0 : Part.air ∈ ps) (h1 : Part.hdl ∈ ps) (h2
    : Part.out ∈ ps) (h3 : Part.regs ∈ ps) :
    a.onlyIn ps b.rxplan ↔ a.onlyIn ps b := by
  unfold Blk.rxplan; dsimp only
  split
  · have e := Blk.prepare_onlyIn (ps := ps) (a := a) b (b.sfIndex + 1) (by assumption) (by assumption)
    generalize b.prepare (b.sfIndex + 1) = r at e ⊢
    obtain ⟨m, b1⟩ := r
    rw [← e]
    dsimp only at *
    rw [Blk.foldl_onlyIn (fun c x => ?_)]
    · simp [h0, h1, h2, h3, Blk.foldl_onlyIn, Blk.ite_onlyIn]
    · split <;> simp [h0, h1, h2, h3, Blk.foldl_onlyIn, Blk.ite_onlyIn]
  · rfl
@[simp] theorem Blk.readRx_onlyIn {ps : List Part} {a : Blk} (b : Blk) (h : Nat) (frame : Bytes) (h0 : Part.hdl ∈ ps)
    (h1 : Part.regs ∈ ps) :
    a.onlyIn ps (b.readRx h frame).2 ↔ a.onlyIn ps b := by
  have e := Blk.hlRx_onlyIn (ps := ps) (a := a) b h 0x07 frame (by assumption) (by assumption)
  unfold Blk.readRx
  generalize b.hlRx h 0x07 frame = r at e ⊢
  obtain ⟨r, b1⟩ := r
  rw [← e]; cases r with
  | none => rfl
  | some x => dsimp only; split <;> rfl
@[simp] theorem Blk.micFail_onlyIn {ps : List Part} {a : Blk} (b : Blk) (mix : Nat) (h0 : Part.air ∈ ps) (h1 :
    Part.dvt ∈ ps) (h2 : Part.evr ∈ ps) (h3 : Part.fleet ∈ ps) (h4 : Part.gns ∈ ps) (h5 : Part.hdl ∈ ps) (h6 :
    Part.hst ∈ ps) (h7 : Part.inv ∈ ps) (h8 : Part.mem ∈ ps) (h9 : Part.out ∈ ps) (h10 : Part.pos ∈ ps) (h11 :
    Part.regs ∈ ps) :
    a.onlyIn ps ((Blk.micFail b mix)) ↔ a.onlyIn ps b := by
  unfold Blk.micFail; dsimp only; (repeat' split) <;> simp [h0, h1, h2, h3, h4, h5, h6, h7, h8, h9, h10, h11]
@[simp] theorem Blk.checkUp_onlyIn {ps : List Part} {a : Blk} (b : Blk) (mix : Nat) (x : AirRxFrame) (h0 : Part.air ∈
    ps) (h1 : Part.dvt ∈ ps) (h2 : Part.evr ∈ ps) (h3 : Part.fleet ∈ ps) (h4 : Part.gns ∈ ps) (h5 : Part.hdl ∈ ps)
    (h6 : Part.hst ∈ ps) (h7 : Part.inv ∈ ps) (h8 : Part.mem ∈ ps) (h9 : Part.out ∈ ps) (h10 : Part.pos ∈ ps) (h11 :
    Part.regs ∈ ps) :
    a.onlyIn ps (b.checkUp mix x).2 ↔ a.onlyIn ps b := by
  unfold Blk.checkUp; dsimp only; (repeat' split) <;> simp [h0, h1, h2, h3, h4, h5, h6, h7, h8, h9, h10, h11,
      Blk.foldl_onlyIn, Blk.ite_onlyIn]
@[simp] theorem Blk.firstFrame_onlyIn {ps : List Part} {a : Blk} (b : Blk) (mix : Nat) (h0 : Part.air ∈ ps) (h1 :
    Part.dvt ∈ ps) (h2 : Part.evr ∈ ps) (h3 : Part.fleet ∈ ps) (h4 : Part.gns ∈ ps) (h5 : Part.hdl ∈ ps) (h6 :
    Part.hst ∈ ps) (h7 : Part.inv ∈ ps) (h8 : Part.mem ∈ ps) (h9 : Part.out ∈ ps) (h10 : Part.pos ∈ ps) (h11 :
    Part.regs ∈ ps) :
    a.onlyIn ps ((Blk.firstFrame b mix)) ↔ a.onlyIn ps b := by
  unfold Blk.firstFrame; dsimp only; (repeat' split) <;> simp [h0, h1, h2, h3, h4, h5, h6, h7, h8, h9, h10, h11]
@[simp] theorem Blk.offerPolls_onlyIn {ps : List Part} {a : Blk} (b : Blk) (mix i : Nat) (h0 : Part.air ∈ ps) :
    a.onlyIn ps ((Blk.offerPolls b mix i)) ↔ a.onlyIn ps b := by
  unfold Blk.offerPolls; (repeat' split) <;> simp [h0]
@[simp] theorem Blk.grant_onlyIn {ps : List Part} {a : Blk} (b : Blk) (mix ms : Nat) (h0 : Part.air ∈ ps) :
    a.onlyIn ps ((Blk.grant b mix ms)) ↔ a.onlyIn ps b := by
  unfold Blk.grant; (repeat' split) <;> simp [h0]
@[simp] theorem Blk.sleepReq_onlyIn {ps : List Part} {a : Blk} (b : Blk) (mix ms : Nat) (h0 : Part.air ∈ ps) (h1 :
    Part.dvt ∈ ps) (h2 : Part.evr ∈ ps) (h3 : Part.fleet ∈ ps) (h4 : Part.gns ∈ ps) (h5 : Part.hdl ∈ ps) (h6 :
    Part.hst ∈ ps) (h7 : Part.inv ∈ ps) (h8 : Part.mem ∈ ps) (h9 : Part.out ∈ ps) (h10 : Part.pos ∈ ps) (h11 :
    Part.regs ∈ ps) :
    a.onlyIn ps ((Blk.sleepReq b mix ms)) ↔ a.onlyIn ps b := by
  unfold Blk.sleepReq; dsimp only; (repeat' split) <;> simp [h0, h1, h2, h3, h4, h5, h6, h7, h8, h9, h10, h11]
@[simp] theorem Blk.request_onlyIn {ps : List Part} {a : Blk} (b : Blk) (mix req : Nat) (f : Blk → Blk) (hf : ∀ c,
    Blk.onlyIn ps c (f c)) (h0 : Part.air ∈ ps) :
    a.onlyIn ps (b.request mix req f) ↔ a.onlyIn ps b := by
  unfold Blk.request; dsimp only; repeat' split
  all_goals first
    | simp [h0, Blk.foldl_onlyIn, Blk.ite_onlyIn]
    | (rw [Blk.onlyIn_iff (hf _)]; simp [h0, Blk.foldl_onlyIn, Blk.ite_onlyIn])
@[simp] theorem Blk.taskElem_onlyIn {ps : List Part} {a : Blk} (b : Blk) (mix req handle : Nat) (h0 : Part.air ∈ ps)
    (h1 : Part.dvt ∈ ps) (h2 : Part.evr ∈ ps) (h3 : Part.fleet ∈ ps) (h4 : Part.gns ∈ ps) (h5 : Part.hdl ∈ ps) (h6 :
    Part.hst ∈ ps) (h7 : Part.inv ∈ ps) (h8 : Part.mem ∈ ps) (h9 : Part.out ∈ ps) (h10 : Part.pos ∈ ps) (h11 :
    Part.regs ∈ ps) :
    a.onlyIn ps ((Blk.taskElem b mix req handle)) ↔ a.onlyIn ps b := by
  unfold Blk.taskElem; (repeat' split) <;> simp [h0, h1, h2, h3, h4, h5, h6, h7, h8, h9, h10, h11]
@[simp] theorem Blk.stopReq_onlyIn {ps : List Part} {a : Blk} (b0 : Blk) (mix : Nat) (body : Bytes) (h0 : Part.air ∈
    ps) (h1 : Part.axs ∈ ps) (h2 : Part.clp ∈ ps) (h3 : Part.dvt ∈ ps) (h4 : Part.evr ∈ ps) (h5 : Part.fleet ∈ ps)
    (h6 : Part.gns ∈ ps) (h7 : Part.hdl ∈ ps) (h8 : Part.hst ∈ ps) (h9 : Part.inv ∈ ps) (h10 : Part.mem ∈ ps) (h11 :
    Part.out ∈ ps) (h12 : Part.pos ∈ ps) (h13 : Part.regs ∈ ps) :
    a.onlyIn ps ((Blk.stopReq b0 mix body)) ↔ a.onlyIn ps b0 := by
  unfold Blk.stopReq; dsimp only; (repeat' split) <;> simp [h0, h1, h2, h3, h4, h5, h6, h7, h8, h9, h10, h11, h12,
      h13]
@[simp] theorem Blk.keyAck_onlyIn {ps : List Part} {a : Blk} (b : Blk) (mix p : Nat) (h0 : Part.air ∈ ps) :
    a.onlyIn ps ((Blk.keyAck b mix p)) ↔ a.onlyIn ps b := by
  unfold Blk.keyAck; (repeat' split) <;> simp [h0]
@[simp] theorem Blk.element_onlyIn {ps : List Part} {a : Blk} (b : Blk) (mix : Nat) (x : AirRxFrame) (etype : Nat)
    (body : Bytes) (h0 : Part.air ∈ ps) (h1 : Part.axs ∈ ps) (h2 : Part.clp ∈ ps) (h3 : Part.dvt ∈ ps) (h4 : Part.evr
    ∈ ps) (h5 : Part.fleet ∈ ps) (h6 : Part.gns ∈ ps) (h7 : Part.hdl ∈ ps) (h8 : Part.hst ∈ ps) (h9 : Part.inv ∈ ps)
    (h10 : Part.mem ∈ ps) (h11 : Part.out ∈ ps) (h12 : Part.pos ∈ ps) (h13 : Part.regs ∈ ps) :
    a.onlyIn ps ((Blk.element b mix x etype body)) ↔ a.onlyIn ps b := by
  unfold Blk.element; (repeat' split) <;> simp [h0, h1, h2, h3, h4, h5, h6, h7, h8, h9, h10, h11, h12, h13]
@[simp] theorem Blk.accepted_onlyIn {ps : List Part} {a : Blk} (b : Blk) (mix : Nat) (x : AirRxFrame) (body : Bytes)
    (h0 : Part.air ∈ ps) (h1 : Part.axs ∈ ps) (h2 : Part.clp ∈ ps) (h3 : Part.dvt ∈ ps) (h4 : Part.evr ∈ ps) (h5 :
    Part.fleet ∈ ps) (h6 : Part.gns ∈ ps) (h7 : Part.hdl ∈ ps) (h8 : Part.hst ∈ ps) (h9 : Part.inv ∈ ps) (h10 :
    Part.mem ∈ ps) (h11 : Part.out ∈ ps) (h12 : Part.pos ∈ ps) (h13 : Part.regs ∈ ps) :
    a.onlyIn ps ((Blk.accepted b mix x body)) ↔ a.onlyIn ps b := by
  unfold Blk.accepted; dsimp only; repeat' split
  all_goals simp [h0, h1, h2, h3, h4, h5, h6, h7, h8, h9, h10, h11, h12, h13, Blk.foldl_onlyIn, Blk.ite_onlyIn]
@[simp] theorem Blk.upFrame_onlyIn {ps : List Part} {a : Blk} (h : Nat) (frame : Bytes) (b : Blk) (h0 : Part.air ∈
    ps) (h1 : Part.axs ∈ ps) (h2 : Part.clp ∈ ps) (h3 : Part.dvt ∈ ps) (h4 : Part.evr ∈ ps) (h5 : Part.fleet ∈ ps)
    (h6 : Part.gns ∈ ps) (h7 : Part.hdl ∈ ps) (h8 : Part.hst ∈ ps) (h9 : Part.inv ∈ ps) (h10 : Part.mem ∈ ps) (h11 :
    Part.out ∈ ps) (h12 : Part.pos ∈ ps) (h13 : Part.regs ∈ ps) :
    a.onlyIn ps (Blk.upFrame h frame b) ↔ a.onlyIn ps b := by
  have e := Blk.readRx_onlyIn (ps := ps) (a := a) b h frame (by assumption) (by assumption)
  unfold Blk.upFrame; try dsimp only
  generalize b.readRx h frame = r at e ⊢
  obtain ⟨r, b1⟩ := r
  first
  | rw [← e]
  | rw [Blk.moveTo_onlyIn _ _ (by assumption)] at e; rw [← e]
  cases r with
  | none => rfl
  | some x =>
    dsimp only at *
    split
    · rfl
    split
    · rfl
    · rename_i mix _
      have e := Blk.checkUp_onlyIn (ps := ps) (a := a) b1 mix x (by assumption) (by assumption) (by assumption) (by
          assumption) (by assumption) (by assumption) (by assumption) (by assumption) (by assumption) (by assumption)
          (by assumption) (by assumption)
      rw [← e]
      generalize b1.checkUp mix x = r
      obtain ⟨r, b2⟩ := r
      cases r with
      | none => rfl
      | some body => dsimp only; (repeat' split) <;> simp [h0, h1, h2, h3, h4, h5, h6, h7, h8, h9, h10, h11, h12,
          h13, Blk.foldl_onlyIn, Blk.ite_onlyIn]
@[simp] theorem Blk.windowPoll_onlyIn {ps : List Part} {a : Blk} (b : Blk) (mix : Nat) (x : AirRxFrame) (h0 :
    Part.air ∈ ps) (h1 : Part.hst ∈ ps) (h2 : Part.out ∈ ps) (h3 : Part.regs ∈ ps) :
    a.onlyIn ps ((Blk.windowPoll b mix x)) ↔ a.onlyIn ps b := by
  unfold Blk.windowPoll; dsimp only; (repeat' split) <;> simp [h0, h1, h2, h3]
@[simp] theorem Blk.resyncPoll_onlyIn {ps : List Part} {a : Blk} (b : Blk) (mix : Nat) (x : AirRxFrame) (h0 :
    Part.air ∈ ps) :
    a.onlyIn ps ((Blk.resyncPoll b mix x)) ↔ a.onlyIn ps b := by
  unfold Blk.resyncPoll; (repeat' split) <;> simp [h0]
@[simp] theorem Blk.pollFrame_onlyIn {ps : List Part} {a : Blk} (h : Nat) (frame : Bytes) (b : Blk) (h0 : Part.air ∈
    ps) (h1 : Part.axs ∈ ps) (h2 : Part.clp ∈ ps) (h3 : Part.dvt ∈ ps) (h4 : Part.evr ∈ ps) (h5 : Part.fleet ∈ ps)
    (h6 : Part.gns ∈ ps) (h7 : Part.hdl ∈ ps) (h8 : Part.hst ∈ ps) (h9 : Part.inv ∈ ps) (h10 : Part.mem ∈ ps) (h11 :
    Part.out ∈ ps) (h12 : Part.pos ∈ ps) (h13 : Part.regs ∈ ps) :
    a.onlyIn ps (Blk.pollFrame h frame b) ↔ a.onlyIn ps b := by
  have e := Blk.readRx_onlyIn (ps := ps) (a := a) b h frame (by assumption) (by assumption)
  unfold Blk.pollFrame; try dsimp only
  generalize b.readRx h frame = r at e ⊢
  obtain ⟨r, b1⟩ := r
  first
  | rw [← e]
  | rw [Blk.moveTo_onlyIn _ _ (by assumption)] at e; rw [← e]
  cases r with
  | none => rfl
  | some x =>
    dsimp only at *
    split
    · rfl
    split
    · rfl
    · rename_i mix _
      have e := Blk.checkUp_onlyIn (ps := ps) (a := a) b1 mix x (by assumption) (by assumption) (by assumption) (by
          assumption) (by assumption) (by assumption) (by assumption) (by assumption) (by assumption) (by assumption)
          (by assumption) (by assumption)
      rw [← e]
      generalize b1.checkUp mix x = r
      obtain ⟨r, b2⟩ := r
      cases r with
      | none => rfl
      | some body => dsimp only; (repeat' split) <;> simp [h0, h1, h2, h3, h4, h5, h6, h7, h8, h9, h10, h11, h12,
          h13, Blk.foldl_onlyIn, Blk.ite_onlyIn]
@[simp] theorem Blk.respondWith_onlyIn {ps : List Part} {a : Blk} (b : Blk) (r : AssocReq) (status mix chan state
    retry : Nat) (nonce : Bytes) (wait : Nat) (h0 : Part.air ∈ ps) :
    a.onlyIn ps ((Blk.respondWith b r status mix chan state retry nonce wait)) ↔ a.onlyIn ps b := by
  unfold Blk.respondWith; (repeat' split) <;> simp [h0]
@[simp] theorem Blk.respond_onlyIn {ps : List Part} {a : Blk} (b : Blk) (r : AssocReq) (status chan state retry wait
    : Nat) (h0 : Part.air ∈ ps) (h1 : Part.fresh ∈ ps) :
    a.onlyIn ps ((Blk.respond b r status chan state retry wait)) ↔ a.onlyIn ps b := by
  unfold Blk.respond; (repeat' split) <;> simp [h0, h1]
@[simp] theorem Blk.evictGone_onlyIn {ps : List Part} {a : Blk} (b : Blk) (mix : Nat) (h0 : Part.air ∈ ps) (h1 :
    Part.fleet ∈ ps) (h2 : Part.hdl ∈ ps) (h3 : Part.out ∈ ps) (h4 : Part.regs ∈ ps) :
    a.onlyIn ps ((Blk.evictGone b mix)) ↔ a.onlyIn ps b := by
  unfold Blk.evictGone; (repeat' split) <;> simp [h0, h1, h2, h3, h4]
@[simp] theorem Blk.admitAs_onlyIn {ps : List Part} {a : Blk} (b0 : Blk) (site : Bytes) (r : AssocReq) (mix : Nat)
    (fresh : Bool) (h0 : Part.air ∈ ps) (h1 : Part.dvt ∈ ps) (h2 : Part.evr ∈ ps) (h3 : Part.fleet ∈ ps) (h4 :
    Part.fresh ∈ ps) (h5 : Part.gns ∈ ps) (h6 : Part.hdl ∈ ps) (h7 : Part.hst ∈ ps) (h8 : Part.inv ∈ ps) (h9 :
    Part.mem ∈ ps) (h10 : Part.out ∈ ps) (h11 : Part.pos ∈ ps) (h12 : Part.regs ∈ ps) :
    a.onlyIn ps ((Blk.admitAs b0 site r mix fresh)) ↔ a.onlyIn ps b0 := by
  unfold Blk.admitAs; dsimp only; (repeat' split) <;> simp [h0, h1, h2, h3, h4, h5, h6, h7, h8, h9, h10, h11, h12]
@[simp] theorem Blk.makeWait_onlyIn {ps : List Part} {a : Blk} (b : Blk) (r : AssocReq) (h0 : Part.air ∈ ps) (h1 :
    Part.fresh ∈ ps) :
    a.onlyIn ps ((Blk.makeWait b r)) ↔ a.onlyIn ps b := by
  unfold Blk.makeWait; (repeat' split) <;> simp [h0, h1]
@[simp] theorem Blk.answerAssoc_onlyIn {ps : List Part} {a : Blk} (b : Blk) (site : Bytes) (r : AssocReq) (h0 :
    Part.air ∈ ps) (h1 : Part.dvt ∈ ps) (h2 : Part.evr ∈ ps) (h3 : Part.fleet ∈ ps) (h4 : Part.fresh ∈ ps) (h5 :
    Part.gns ∈ ps) (h6 : Part.hdl ∈ ps) (h7 : Part.hst ∈ ps) (h8 : Part.inv ∈ ps) (h9 : Part.mem ∈ ps) (h10 :
    Part.out ∈ ps) (h11 : Part.pos ∈ ps) (h12 : Part.regs ∈ ps) :
    a.onlyIn ps ((Blk.answerAssoc b site r)) ↔ a.onlyIn ps b := by
  unfold Blk.answerAssoc; (repeat' split) <;> simp [h0, h1, h2, h3, h4, h5, h6, h7, h8, h9, h10, h11, h12]
@[simp] theorem Blk.assocReq_onlyIn {ps : List Part} {a : Blk} (h : Nat) (frame : Bytes) (b : Blk) (h0 : Part.air ∈
    ps) (h1 : Part.dvt ∈ ps) (h2 : Part.evr ∈ ps) (h3 : Part.fleet ∈ ps) (h4 : Part.fresh ∈ ps) (h5 : Part.gns ∈ ps)
    (h6 : Part.hdl ∈ ps) (h7 : Part.hst ∈ ps) (h8 : Part.inv ∈ ps) (h9 : Part.mem ∈ ps) (h10 : Part.out ∈ ps) (h11 :
    Part.pos ∈ ps) (h12 : Part.regs ∈ ps) :
    a.onlyIn ps (Blk.assocReq h frame b) ↔ a.onlyIn ps b := by
  have e := Blk.readRx_onlyIn (ps := ps) (a := a) b h frame (by assumption) (by assumption)
  unfold Blk.assocReq; try dsimp only
  generalize b.readRx h frame = r at e ⊢
  obtain ⟨r, b1⟩ := r
  first
  | rw [← e]
  | rw [Blk.moveTo_onlyIn _ _ (by assumption)] at e; rw [← e]
  cases r with
  | none => rfl
  | some x =>
    dsimp only at *
    (repeat' split) <;> simp [h0, h1, h2, h3, h4, h5, h6, h7, h8, h9, h10, h11, h12, Blk.foldl_onlyIn, Blk.ite_onlyIn]
@[simp] theorem Blk.assocTimeout_onlyIn {ps : List Part} {a : Blk} (t mix : Nat) (b0 : Blk) (h0 : Part.air ∈ ps) (h1
    : Part.dvt ∈ ps) (h2 : Part.evr ∈ ps) (h3 : Part.fleet ∈ ps) (h4 : Part.gns ∈ ps) (h5 : Part.hdl ∈ ps) (h6 :
    Part.hst ∈ ps) (h7 : Part.inv ∈ ps) (h8 : Part.mem ∈ ps) (h9 : Part.out ∈ ps) (h10 : Part.pos ∈ ps) (h11 :
    Part.regs ∈ ps) :
    a.onlyIn ps ((Blk.assocTimeout t mix b0)) ↔ a.onlyIn ps b0 := by
  unfold Blk.assocTimeout; dsimp only; (repeat' split) <;> simp [h0, h1, h2, h3, h4, h5, h6, h7, h8, h9, h10, h11]
@[simp] theorem Blk.useSlot_onlyIn {ps : List Part} {a : Blk} (b : Blk) (chan9 : Bool) (s : Nat) (p : Owner → Bool)
    (h0 : Part.air ∈ ps) :
    a.onlyIn ps ((Blk.useSlot b chan9 s p)) ↔ a.onlyIn ps b := by
  unfold Blk.useSlot; (repeat' split) <;> simp [h0]
@[simp] theorem Blk.freshSched_onlyIn {ps : List Part} {a : Blk} (b : Blk) (mix : Nat) (h0 : Part.air ∈ ps) :
    a.onlyIn ps ((Blk.freshSched b mix)) ↔ a.onlyIn ps b := by
  unfold Blk.freshSched; dsimp only; (repeat' split) <;> simp [h0]
@[simp] theorem Blk.downTx_onlyIn {ps : List Part} {a : Blk} (mix : Nat) (b0 : Blk) (h0 : Part.air ∈ ps) (h1 :
    Part.hdl ∈ ps) (h2 : Part.out ∈ ps) :
    a.onlyIn ps ((Blk.downTx mix b0)) ↔ a.onlyIn ps b0 := by
  unfold Blk.downTx; (repeat' split) <;> simp [h0, h1, h2]
@[simp] theorem Blk.ackEffect_onlyIn {ps : List Part} {a : Blk} (b : Blk) (k : Nat × Nat) (h0 : Part.fleet ∈ ps) :
    a.onlyIn ps ((Blk.ackEffect b k)) ↔ a.onlyIn ps b := by
  unfold Blk.ackEffect; (repeat' split) <;> simp [h0]
@[simp] theorem Blk.resumeCount_onlyIn {ps : List Part} {a : Blk} (b : Blk) (mix : Nat) (did : Bool) (epoch : Nat)
    (h0 : Part.clp ∈ ps) (h1 : Part.hst ∈ ps) (h2 : Part.out ∈ ps) :
    a.onlyIn ps ((Blk.resumeCount b mix did epoch)) ↔ a.onlyIn ps b := by
  unfold Blk.resumeCount; simp [h0, h1, h2, Blk.foldl_onlyIn, Blk.ite_onlyIn]
@[simp] theorem Blk.resumeAck_onlyIn {ps : List Part} {a : Blk} (b : Blk) (mix : Nat) (h0 : Part.air ∈ ps) (h1 :
    Part.clp ∈ ps) (h2 : Part.dvt ∈ ps) (h3 : Part.evr ∈ ps) (h4 : Part.fleet ∈ ps) (h5 : Part.gns ∈ ps) (h6 :
    Part.hdl ∈ ps) (h7 : Part.hst ∈ ps) (h8 : Part.inv ∈ ps) (h9 : Part.mem ∈ ps) (h10 : Part.out ∈ ps) (h11 :
    Part.pos ∈ ps) (h12 : Part.regs ∈ ps) :
    a.onlyIn ps ((Blk.resumeAck b mix)) ↔ a.onlyIn ps b := by
  unfold Blk.resumeAck; (repeat' split) <;> simp [h0, h1, h2, h3, h4, h5, h6, h7, h8, h9, h10, h11, h12]
@[simp] theorem Blk.schedAck_onlyIn {ps : List Part} {a : Blk} (b : Blk) (mix : Nat) (h0 : Part.air ∈ ps) (h1 :
    Part.dvt ∈ ps) (h2 : Part.evr ∈ ps) (h3 : Part.fleet ∈ ps) (h4 : Part.gns ∈ ps) (h5 : Part.hdl ∈ ps) (h6 :
    Part.hst ∈ ps) (h7 : Part.inv ∈ ps) (h8 : Part.mem ∈ ps) (h9 : Part.out ∈ ps) (h10 : Part.pos ∈ ps) (h11 :
    Part.regs ∈ ps) :
    a.onlyIn ps ((Blk.schedAck b mix)) ↔ a.onlyIn ps b := by
  unfold Blk.schedAck; dsimp only; (repeat' split) <;> simp [h0, h1, h2, h3, h4, h5, h6, h7, h8, h9, h10, h11]
@[simp] theorem Blk.elemAck_onlyIn {ps : List Part} {a : Blk} (mix : Nat) (b : Blk) (e : Elem) (h0 : Part.air ∈ ps)
    (h1 : Part.clp ∈ ps) (h2 : Part.dvt ∈ ps) (h3 : Part.evr ∈ ps) (h4 : Part.fleet ∈ ps) (h5 : Part.gns ∈ ps) (h6 :
    Part.hdl ∈ ps) (h7 : Part.hst ∈ ps) (h8 : Part.inv ∈ ps) (h9 : Part.mem ∈ ps) (h10 : Part.out ∈ ps) (h11 :
    Part.pos ∈ ps) (h12 : Part.regs ∈ ps) :
    a.onlyIn ps ((Blk.elemAck mix b e)) ↔ a.onlyIn ps b := by
  unfold Blk.elemAck; (repeat' split) <;> simp [h0, h1, h2, h3, h4, h5, h6, h7, h8, h9, h10, h11, h12]
@[simp] theorem Blk.memberAcked_onlyIn {ps : List Part} {a : Blk} (mix : Nat) (off : Int) (b : Blk) (h0 : Part.air ∈
    ps) (h1 : Part.clp ∈ ps) (h2 : Part.dvt ∈ ps) (h3 : Part.evr ∈ ps) (h4 : Part.fleet ∈ ps) (h5 : Part.gns ∈ ps)
    (h6 : Part.hdl ∈ ps) (h7 : Part.hst ∈ ps) (h8 : Part.inv ∈ ps) (h9 : Part.mem ∈ ps) (h10 : Part.out ∈ ps) (h11 :
    Part.pos ∈ ps) (h12 : Part.regs ∈ ps) :
    a.onlyIn ps ((Blk.memberAcked mix off b)) ↔ a.onlyIn ps b := by
  unfold Blk.memberAcked; simp [h0, h1, h2, h3, h4, h5, h6, h7, h8, h9, h10, h11, h12, Blk.foldl_onlyIn,
      Blk.ite_onlyIn]
@[simp] theorem Blk.downAck_onlyIn {ps : List Part} {a : Blk} (t h : Nat) (frame : Bytes) (b : Blk) (h0 : Part.air ∈
    ps) (h1 : Part.clp ∈ ps) (h2 : Part.dvt ∈ ps) (h3 : Part.evr ∈ ps) (h4 : Part.fleet ∈ ps) (h5 : Part.gns ∈ ps)
    (h6 : Part.hdl ∈ ps) (h7 : Part.hst ∈ ps) (h8 : Part.inv ∈ ps) (h9 : Part.mem ∈ ps) (h10 : Part.out ∈ ps) (h11 :
    Part.pos ∈ ps) (h12 : Part.regs ∈ ps) :
    a.onlyIn ps (Blk.downAck t h frame b) ↔ a.onlyIn ps b := by
  have e := Blk.hlRx_onlyIn (ps := ps) (a := a) (b.moveTo t) h 0x07 frame (by assumption) (by assumption)
  unfold Blk.downAck; try dsimp only
  generalize (b.moveTo t).hlRx h 0x07 frame = r at e ⊢
  obtain ⟨r, b1⟩ := r
  first
  | rw [← e]
  | rw [Blk.moveTo_onlyIn _ _ (by assumption)] at e; rw [← e]
  cases r with
  | none => rfl
  | some x =>
    dsimp only at *
    (repeat' split) <;> simp [h0, h1, h2, h3, h4, h5, h6, h7, h8, h9, h10, h11, h12, Blk.foldl_onlyIn, Blk.ite_onlyIn]
@[simp] theorem Blk.downNoAck_onlyIn {ps : List Part} {a : Blk} (mix : Nat) (b0 : Blk) (h0 : Part.air ∈ ps) (h1 :
    Part.hst ∈ ps) (h2 : Part.out ∈ ps) (h3 : Part.regs ∈ ps) :
    a.onlyIn ps ((Blk.downNoAck mix b0)) ↔ a.onlyIn ps b0 := by
  unfold Blk.downNoAck; try dsimp only
  all_goals (repeat' split)
  all_goals (try refine (Blk.foldl_onlyIn (fun b x => ?_) _ _).trans ?_)
  all_goals (repeat' split)
  all_goals (try simp [h0, h1, h2, h3, Blk.foldl_onlyIn, Blk.ite_onlyIn])
@[simp] theorem Blk.uplinkMissed_onlyIn {ps : List Part} {a : Blk} (mix : Nat) (b : Blk) (h0 : Part.air ∈ ps) (h1 :
    Part.dvt ∈ ps) (h2 : Part.evr ∈ ps) (h3 : Part.fleet ∈ ps) (h4 : Part.gns ∈ ps) (h5 : Part.hdl ∈ ps) (h6 :
    Part.hst ∈ ps) (h7 : Part.inv ∈ ps) (h8 : Part.mem ∈ ps) (h9 : Part.out ∈ ps) (h10 : Part.pos ∈ ps) (h11 :
    Part.regs ∈ ps) :
    a.onlyIn ps ((Blk.uplinkMissed mix b)) ↔ a.onlyIn ps b := by
  unfold Blk.uplinkMissed; dsimp only; (repeat' split) <;> simp [h0, h1, h2, h3, h4, h5, h6, h7, h8, h9, h10, h11]
@[simp] theorem Blk.posDl_onlyIn {ps : List Part} {a : Blk} (chan9 : Bool) (s : Nat) (b : Blk) (h0 : Part.air ∈ ps)
    (h1 : Part.hdl ∈ ps) (h2 : Part.out ∈ ps) :
    a.onlyIn ps ((Blk.posDl chan9 s b)) ↔ a.onlyIn ps b := by
  unfold Blk.posDl; dsimp only; (repeat' split) <;> simp [h0, h1, h2]
@[simp] theorem Blk.sendBcast_onlyIn {ps : List Part} {a : Blk} (b : Blk) (chan9 : Bool) (s : Nat) (q : Bcast) (h0 :
    Part.air ∈ ps) (h1 : Part.hdl ∈ ps) (h2 : Part.out ∈ ps) :
    a.onlyIn ps ((Blk.sendBcast b chan9 s q)) ↔ a.onlyIn ps b := by
  unfold Blk.sendBcast; dsimp only; (repeat' split) <;> simp [h0, h1, h2]
@[simp] theorem Blk.bcastTx_onlyIn {ps : List Part} {a : Blk} (chan9 : Bool) (b : Blk) (h0 : Part.air ∈ ps) (h1 :
    Part.hdl ∈ ps) (h2 : Part.out ∈ ps) :
    a.onlyIn ps ((Blk.bcastTx chan9 b)) ↔ a.onlyIn ps b := by
  unfold Blk.bcastTx; (repeat' split) <;> simp [h0, h1, h2]
@[simp] theorem Blk.deliverKeys_onlyIn {ps : List Part} {a : Blk} (b : Blk) (h0 : Part.air ∈ ps) (h1 : Part.hdl ∈ ps)
    (h2 : Part.out ∈ ps) :
    a.onlyIn ps ((Blk.deliverKeys b)) ↔ a.onlyIn ps b := by
  unfold Blk.deliverKeys; dsimp only; repeat' split
  all_goals simp [h0, h1, h2, Blk.foldl_onlyIn, Blk.ite_onlyIn]
@[simp] theorem Blk.copyHeard_onlyIn {ps : List Part} {a : Blk} (b : Blk) (sfn cnt : Nat) (h0 : Part.air ∈ ps) (h1 :
    Part.evr ∈ ps) (h2 : Part.regs ∈ ps) :
    a.onlyIn ps ((Blk.copyHeard b sfn cnt)) ↔ a.onlyIn ps b := by
  unfold Blk.copyHeard; dsimp only; (repeat' split) <;> simp [h0, h1, h2]
@[simp] theorem Blk.bcopyRx_onlyIn {ps : List Part} {a : Blk} (port : Nat) (frame : Bytes) (b : Blk) (h0 : Part.air ∈
    ps) (h1 : Part.evr ∈ ps) (h2 : Part.regs ∈ ps) :
    a.onlyIn ps ((Blk.bcopyRx port frame b)) ↔ a.onlyIn ps b := by
  unfold Blk.bcopyRx; dsimp only; (repeat' split) <;> simp [h0, h1, h2]
@[simp] theorem Blk.beaconMissed_onlyIn {ps : List Part} {a : Blk} (b : Blk) (h0 : Part.air ∈ ps) (h1 : Part.evr ∈
    ps) (h2 : Part.regs ∈ ps) :
    a.onlyIn ps ((Blk.beaconMissed b)) ↔ a.onlyIn ps b := by
  unfold Blk.beaconMissed; dsimp only; (repeat' split) <;> simp [h0, h1, h2]
@[simp] theorem Blk.airSend_onlyIn {ps : List Part} {a : Blk} (d : Desc) (data : Bytes) (b : Blk) (h0 : Part.air ∈
    ps) (h1 : Part.hst ∈ ps) (h2 : Part.out ∈ ps) :
    a.onlyIn ps ((Blk.airSend d data b)) ↔ a.onlyIn ps b := by
  unfold Blk.airSend; simp [h0, h1, h2, Blk.foldl_onlyIn, Blk.ite_onlyIn]
@[simp] theorem Blk.airRxBind_onlyIn {ps : List Part} {a : Blk} (d : Desc) (b : Blk) (h0 : Part.air ∈ ps) (h1 :
    Part.hst ∈ ps) (h2 : Part.out ∈ ps) :
    a.onlyIn ps ((Blk.airRxBind d b)) ↔ a.onlyIn ps b := by
  unfold Blk.airRxBind; (repeat' split) <;> simp [h0, h1, h2]
@[simp] theorem Blk.airAdmit_onlyIn {ps : List Part} {a : Blk} (d : Desc) (b : Blk) (h0 : Part.air ∈ ps) (h1 :
    Part.hst ∈ ps) (h2 : Part.out ∈ ps) :
    a.onlyIn ps ((Blk.airAdmit d b)) ↔ a.onlyIn ps b := by
  unfold Blk.airAdmit; dsimp only; repeat' split
  all_goals simp [h0, h1, h2, Blk.foldl_onlyIn, Blk.ite_onlyIn]
@[simp] theorem Blk.membersRead_onlyIn {ps : List Part} {a : Blk} (d : Desc) (b : Blk) (h0 : Part.hst ∈ ps) (h1 :
    Part.out ∈ ps) :
    a.onlyIn ps ((Blk.membersRead d b)) ↔ a.onlyIn ps b := by
  unfold Blk.membersRead; (repeat' split) <;> simp [h0, h1]
@[simp] theorem Blk.resume_onlyIn {ps : List Part} {a : Blk} (d : Desc) (b : Blk) (h0 : Part.air ∈ ps) (h1 : Part.clp
    ∈ ps) (h2 : Part.hst ∈ ps) (h3 : Part.out ∈ ps) :
    a.onlyIn ps (Blk.resume d b) ↔ a.onlyIn ps b := by
  unfold Blk.resume; dsimp only
  refine Blk.checked_onlyIn _ _ _ _ (fun c => ?_) (by assumption) (by assumption)
  (repeat' split) <;> simp [h0, h1, h2, h3, Blk.foldl_onlyIn, Blk.ite_onlyIn, Blk.foldl_onlyIn]
@[simp] theorem Blk.resumeTimeout_onlyIn {ps : List Part} {a : Blk} (t : Nat) (b0 : Blk) (h0 : Part.air ∈ ps) (h1 :
    Part.clp ∈ ps) (h2 : Part.hst ∈ ps) (h3 : Part.inv ∈ ps) (h4 : Part.out ∈ ps) :
    a.onlyIn ps ((Blk.resumeTimeout t b0)) ↔ a.onlyIn ps b0 := by
  unfold Blk.resumeTimeout; simp [h0, h1, h2, h3, h4, Blk.foldl_onlyIn, Blk.ite_onlyIn]
@[simp] theorem Blk.sendSurveyFrames_onlyIn {ps : List Part} {a : Blk} (b : Blk) (h0 : Part.hdl ∈ ps) (h1 : Part.out
    ∈ ps) :
    a.onlyIn ps ((Blk.sendSurveyFrames b)) ↔ a.onlyIn ps b := by
  unfold Blk.sendSurveyFrames; simp [h0, h1, Blk.foldl_onlyIn, Blk.ite_onlyIn]
@[simp] theorem Blk.surveyStart_onlyIn {ps : List Part} {a : Blk} (b : Blk) (op : Option OpId) (items ref addr : Nat)
    (h0 : Part.clp ∈ ps) (h1 : Part.hdl ∈ ps) (h2 : Part.out ∈ ps) (h3 : Part.pwr ∈ ps) :
    a.onlyIn ps ((Blk.surveyStart b op items ref addr)) ↔ a.onlyIn ps b := by
  unfold Blk.surveyStart; simp [h0, h1, h2, h3, Blk.foldl_onlyIn, Blk.ite_onlyIn]
@[simp] theorem Blk.survey_onlyIn {ps : List Part} {a : Blk} (d : Desc) (b : Blk) (h0 : Part.clp ∈ ps) (h1 : Part.hdl
    ∈ ps) (h2 : Part.hst ∈ ps) (h3 : Part.out ∈ ps) (h4 : Part.pwr ∈ ps) :
    a.onlyIn ps ((Blk.survey d b)) ↔ a.onlyIn ps b := by
  unfold Blk.survey; simp [h0, h1, h2, h3, h4, Blk.foldl_onlyIn, Blk.ite_onlyIn]
@[simp] theorem Blk.surveyComplete_onlyIn {ps : List Part} {a : Blk} (x : SurveyIn) (b0 : Blk) (h0 : Part.clp ∈ ps)
    (h1 : Part.fresh ∈ ps) (h2 : Part.hdl ∈ ps) (h3 : Part.hst ∈ ps) (h4 : Part.out ∈ ps) (h5 : Part.pwr ∈ ps) (h6 :
    Part.regs ∈ ps) :
    a.onlyIn ps ((Blk.surveyComplete x b0)) ↔ a.onlyIn ps b0 := by
  unfold Blk.surveyComplete; (repeat' split) <;> simp [h0, h1, h2, h3, h4, h5, h6]
@[simp] theorem Blk.surveyRead_onlyIn {ps : List Part} {a : Blk} (d : Desc) (b : Blk) (h0 : Part.hst ∈ ps) (h1 :
    Part.out ∈ ps) :
    a.onlyIn ps (Blk.surveyRead d b) ↔ a.onlyIn ps b := by
  unfold Blk.surveyRead
  refine Blk.checked_onlyIn _ _ _ _ (fun c => ?_) (by assumption) (by assumption)
  (repeat' split) <;> simp [h0, h1, Blk.foldl_onlyIn, Blk.ite_onlyIn]
@[simp] theorem Blk.startSource_onlyIn {ps : List Part} {a : Blk} (b : Blk) (bit : Nat) (h0 : Part.clp ∈ ps) (h1 :
    Part.evr ∈ ps) (h2 : Part.regs ∈ ps) :
    a.onlyIn ps ((Blk.startSource b bit)) ↔ a.onlyIn ps b := by
  unfold Blk.startSource; (repeat' split) <;> simp [h0, h1, h2]
@[simp] theorem Blk.startSources_onlyIn {ps : List Part} {a : Blk} (b : Blk) (h0 : Part.clp ∈ ps) (h1 : Part.evr ∈
    ps) (h2 : Part.regs ∈ ps) :
    a.onlyIn ps ((Blk.startSources b)) ↔ a.onlyIn ps b := by
  unfold Blk.startSources; (repeat' split) <;> simp [h0, h1, h2]
@[simp] theorem Blk.recordPower_onlyIn {ps : List Part} {a : Blk} (b : Blk) (old new : Nat) (h0 : Part.evr ∈ ps) (h1
    : Part.regs ∈ ps) :
    a.onlyIn ps ((Blk.recordPower b old new)) ↔ a.onlyIn ps b := by
  unfold Blk.recordPower; (repeat' split) <;> simp [h0, h1]
@[simp] theorem Blk.commitStaged_onlyIn {ps : List Part} {a : Blk} (b : Blk) (h0 : Part.evr ∈ ps) :
    a.onlyIn ps ((Blk.commitStaged b)) ↔ a.onlyIn ps b := by
  unfold Blk.commitStaged; (repeat' split) <;> simp [h0]
@[simp] theorem Blk.sleepTo_onlyIn {ps : List Part} {a : Blk} (b : Blk) (ms : Nat) (h0 : Part.inv ∈ ps) :
    a.onlyIn ps ((Blk.sleepTo b ms)) ↔ a.onlyIn ps b := by
  unfold Blk.sleepTo; (repeat' split) <;> simp [h0]
@[simp] theorem Blk.clampWoken_onlyIn {ps : List Part} {a : Blk} (b : Blk) (h0 : Part.clp ∈ ps) :
    a.onlyIn ps ((Blk.clampWoken b)) ↔ a.onlyIn ps b := by
  unfold Blk.clampWoken; simp [h0, Blk.foldl_onlyIn, Blk.ite_onlyIn]
@[simp] theorem Blk.bootClocks_onlyIn {ps : List Part} {a : Blk} (b : Blk) (h0 : Part.inv ∈ ps) (h1 : Part.mem ∈ ps)
    (h2 : Part.pwr ∈ ps) :
    a.onlyIn ps ((Blk.bootClocks b)) ↔ a.onlyIn ps b := by
  unfold Blk.bootClocks; (repeat' split) <;> simp [h0, h1, h2]
@[simp] theorem Blk.restartTime_onlyIn {ps : List Part} {a : Blk} (b : Blk) (h0 : Part.inv ∈ ps) (h1 : Part.pwr ∈ ps)
    :
    a.onlyIn ps ((Blk.restartTime b)) ↔ a.onlyIn ps b := by
  unfold Blk.restartTime; (repeat' split) <;> simp [h0, h1]
@[simp] theorem Blk.nvmWake_onlyIn {ps : List Part} {a : Blk} (b : Blk) (h0 : Part.air ∈ ps) (h1 : Part.evr ∈ ps) (h2
    : Part.pwr ∈ ps) (h3 : Part.regs ∈ ps) :
    a.onlyIn ps ((Blk.nvmWake b)) ↔ a.onlyIn ps b := by
  unfold Blk.nvmWake; simp [h0, h1, h2, h3, Blk.foldl_onlyIn, Blk.ite_onlyIn]
@[simp] theorem Blk.bootNvm_onlyIn {ps : List Part} {a : Blk} (b : Blk) (h0 : Part.air ∈ ps) (h1 : Part.evr ∈ ps) (h2
    : Part.hst ∈ ps) (h3 : Part.inv ∈ ps) (h4 : Part.out ∈ ps) (h5 : Part.pwr ∈ ps) (h6 : Part.regs ∈ ps) :
    a.onlyIn ps ((Blk.bootNvm b)) ↔ a.onlyIn ps b := by
  unfold Blk.bootNvm; (repeat' split) <;> simp [h0, h1, h2, h3, h4, h5, h6]
@[simp] theorem Blk.bootUnseal_onlyIn {ps : List Part} {a : Blk} (i : Ident) (b : Blk) (h0 : Part.air ∈ ps) (h1 :
    Part.clp ∈ ps) (h2 : Part.evr ∈ ps) (h3 : Part.hdl ∈ ps) (h4 : Part.key ∈ ps) (h5 : Part.out ∈ ps) (h6 : Part.pwr
    ∈ ps) (h7 : Part.regs ∈ ps) :
    a.onlyIn ps ((Blk.bootUnseal i b)) ↔ a.onlyIn ps b := by
  unfold Blk.bootUnseal; (repeat' split) <;> simp [h0, h1, h2, h3, h4, h5, h6, h7]
@[simp] theorem Blk.bootService_onlyIn {ps : List Part} {a : Blk} (i : Ident) (b : Blk) (h0 : Part.evr ∈ ps) (h1 :
    Part.mem ∈ ps) (h2 : Part.pwr ∈ ps) (h3 : Part.regs ∈ ps) :
    a.onlyIn ps ((Blk.bootService i b)) ↔ a.onlyIn ps b := by
  unfold Blk.bootService; (repeat' split) <;> simp [h0, h1, h2, h3]
@[simp] theorem Blk.bootAdvance_onlyIn {ps : List Part} {a : Blk} (i : Ident) (dt : Nat) (b0 : Blk) (h0 : Part.air ∈
    ps) (h1 : Part.clp ∈ ps) (h2 : Part.evr ∈ ps) (h3 : Part.hdl ∈ ps) (h4 : Part.hst ∈ ps) (h5 : Part.inv ∈ ps) (h6
    : Part.key ∈ ps) (h7 : Part.mem ∈ ps) (h8 : Part.out ∈ ps) (h9 : Part.pwr ∈ ps) (h10 : Part.regs ∈ ps) :
    a.onlyIn ps ((Blk.bootAdvance i dt b0)) ↔ a.onlyIn ps b0 := by
  unfold Blk.bootAdvance; dsimp only; (repeat' split) <;> simp [h0, h1, h2, h3, h4, h5, h6, h7, h8, h9, h10]
@[simp] theorem Blk.doneWritten_onlyIn {ps : List Part} {a : Blk} (b : Blk) (id : OpId) (detail : Nat) (h0 : Part.hst
    ∈ ps) (h1 : Part.out ∈ ps) :
    a.onlyIn ps ((Blk.doneWritten b id detail)) ↔ a.onlyIn ps b := by
  unfold Blk.doneWritten; (repeat' split) <;> simp [h0, h1]
@[simp] theorem Blk.powerState_onlyIn {ps : List Part} {a : Blk} (d : Desc) (b : Blk) (h0 : Part.evr ∈ ps) (h1 :
    Part.hst ∈ ps) (h2 : Part.out ∈ ps) (h3 : Part.pos ∈ ps) (h4 : Part.pwr ∈ ps) (h5 : Part.regs ∈ ps) :
    a.onlyIn ps ((Blk.powerState d b)) ↔ a.onlyIn ps b := by
  unfold Blk.powerState; simp [h0, h1, h2, h3, h4, h5, Blk.foldl_onlyIn, Blk.ite_onlyIn]
@[simp] theorem Blk.wakeInfo_onlyIn {ps : List Part} {a : Blk} (d : Desc) (b : Blk) (h0 : Part.hst ∈ ps) (h1 :
    Part.out ∈ ps) :
    a.onlyIn ps ((Blk.wakeInfo d b)) ↔ a.onlyIn ps b := by
  unfold Blk.wakeInfo; (repeat' split) <;> simp [h0, h1]
@[simp] theorem Blk.sealKeys_onlyIn {ps : List Part} {a : Blk} (b : Blk) (h0 : Part.air ∈ ps) (h1 : Part.hdl ∈ ps)
    (h2 : Part.key ∈ ps) :
    a.onlyIn ps ((Blk.sealKeys b)) ↔ a.onlyIn ps b := by
  unfold Blk.sealKeys; (repeat' split) <;> simp [h0, h1, h2]
@[simp] theorem Blk.endKeyOps_onlyIn {ps : List Part} {a : Blk} (b : Blk) (h0 : Part.hst ∈ ps) (h1 : Part.key ∈ ps)
    (h2 : Part.out ∈ ps) (h3 : Part.regs ∈ ps) :
    a.onlyIn ps ((Blk.endKeyOps b)) ↔ a.onlyIn ps b := by
  unfold Blk.endKeyOps; dsimp only; repeat' split
  all_goals simp [h0, h1, h2, h3, Blk.foldl_onlyIn, Blk.ite_onlyIn]
@[simp] theorem Blk.tamperRun_onlyIn {ps : List Part} {a : Blk} (b : Blk) (src : Nat) (h0 : Part.air ∈ ps) (h1 :
    Part.axs ∈ ps) (h2 : Part.clp ∈ ps) (h3 : Part.dvt ∈ ps) (h4 : Part.evr ∈ ps) (h5 : Part.fleet ∈ ps) (h6 :
    Part.gns ∈ ps) (h7 : Part.hdl ∈ ps) (h8 : Part.hst ∈ ps) (h9 : Part.inv ∈ ps) (h10 : Part.key ∈ ps) (h11 :
    Part.mem ∈ ps) (h12 : Part.out ∈ ps) (h13 : Part.pos ∈ ps) (h14 : Part.pwr ∈ ps) (h15 : Part.regs ∈ ps) :
    a.onlyIn ps ((Blk.tamperRun b src)) ↔ a.onlyIn ps b := by
  unfold Blk.tamperRun; (repeat' split) <;> simp [h0, h1, h2, h3, h4, h5, h6, h7, h8, h9, h10, h11, h12, h13, h14,
      h15]
@[simp] theorem Blk.tamperNoted_onlyIn {ps : List Part} {a : Blk} (b : Blk) (src phase : Nat) (h0 : Part.evr ∈ ps)
    (h1 : Part.key ∈ ps) (h2 : Part.regs ∈ ps) :
    a.onlyIn ps ((Blk.tamperNoted b src phase)) ↔ a.onlyIn ps b := by
  unfold Blk.tamperNoted; (repeat' split) <;> simp [h0, h1, h2]
@[simp] theorem Blk.lcRefused_onlyIn {ps : List Part} {a : Blk} (i : Ident) (d : Desc) (b : Blk) (h0 : Part.evr ∈ ps)
    (h1 : Part.hst ∈ ps) (h2 : Part.key ∈ ps) (h3 : Part.out ∈ ps) (h4 : Part.regs ∈ ps) :
    a.onlyIn ps (Blk.lcRefused i d b) ↔ a.onlyIn ps b := by
  unfold Blk.lcRefused
  refine Blk.keyOp_onlyIn _ _ _ _ _ (fun c => ?_) (by assumption) (by assumption) (by assumption)
  (repeat' split) <;> (try dsimp only) <;> (repeat' split) <;> (try simp [h0, h1, h2, h3, h4, Blk.foldl_onlyIn,
      Blk.ite_onlyIn])
@[simp] theorem Blk.writeFields_onlyIn {ps : List Part} {a : Blk} (b : Blk) (off : Nat) (w : Word) (fs : List
    FieldDesc) (cond : Blk → FieldDesc → Bool) (h0 : Part.evr ∈ ps) (h1 : Part.mem ∈ ps) (h2 : Part.regs ∈ ps) :
    a.onlyIn ps ((Blk.writeFields b off w fs cond)) ↔ a.onlyIn ps b := by
  unfold Blk.writeFields; (repeat' split) <;> simp [h0, h1, h2]
@[simp] theorem Blk.storeFields_onlyIn {ps : List Part} {a : Blk} (b : Blk) (off : Nat) (w : Word) (fs : List
    FieldDesc) (h0 : Part.regs ∈ ps) :
    a.onlyIn ps ((Blk.storeFields b off w fs)) ↔ a.onlyIn ps b := by
  unfold Blk.storeFields; simp [h0, Blk.foldl_onlyIn, Blk.ite_onlyIn]
@[simp] theorem Blk.writeRing_onlyIn {ps : List Part} {a : Blk} (b : Blk) (n rel off : Nat) (w : Word) (fs : List
    FieldDesc) (h0 : Part.evr ∈ ps) (h1 : Part.hst ∈ ps) (h2 : Part.mem ∈ ps) (h3 : Part.regs ∈ ps) :
    a.onlyIn ps ((Blk.writeRing b n rel off w fs)) ↔ a.onlyIn ps b := by
  unfold Blk.writeRing; (repeat' split) <;> simp [h0, h1, h2, h3]
@[simp] theorem Blk.writeHst_onlyIn {ps : List Part} {a : Blk} (b : Blk) (off : Nat) (w : Word) (fs : List FieldDesc)
    (h0 : Part.evr ∈ ps) (h1 : Part.hst ∈ ps) (h2 : Part.mem ∈ ps) (h3 : Part.regs ∈ ps) :
    a.onlyIn ps ((Blk.writeHst b off w fs)) ↔ a.onlyIn ps b := by
  unfold Blk.writeHst; (repeat' split) <;> simp [h0, h1, h2, h3]
@[simp] theorem Blk.clpWritten_onlyIn {ps : List Part} {a : Blk} (old b : Blk) (off : Nat) (h0 : Part.air ∈ ps) (h1 :
    Part.axs ∈ ps) (h2 : Part.clp ∈ ps) (h3 : Part.dvt ∈ ps) (h4 : Part.evr ∈ ps) (h5 : Part.fleet ∈ ps) (h6 :
    Part.gns ∈ ps) (h7 : Part.hdl ∈ ps) (h8 : Part.hst ∈ ps) (h9 : Part.inv ∈ ps) (h10 : Part.mem ∈ ps) (h11 :
    Part.out ∈ ps) (h12 : Part.pos ∈ ps) (h13 : Part.regs ∈ ps) :
    a.onlyIn ps (Blk.clpWritten old b off) ↔ a.onlyIn ps b := by
  unfold Blk.clpWritten; dsimp only
  all_goals (repeat' split)
  all_goals (try simp [h0, h1, h2, h3, h4, h5, h6, h7, h8, h9, h10, h11, h12, h13, Blk.foldl_onlyIn, Blk.ite_onlyIn])
  all_goals (try refine (Blk.foldl_onlyIn (fun b x => ?_) _ _).trans ?_)
  all_goals (repeat' split)
  all_goals (try simp [h0, h1, h2, h3, h4, h5, h6, h7, h8, h9, h10, h11, h12, h13, Blk.foldl_onlyIn, Blk.ite_onlyIn])
  all_goals (try refine (Blk.foldl_onlyIn (fun b x => ?_) _ _).trans ?_)
  all_goals (repeat' split)
  all_goals (try simp [h0, h1, h2, h3, h4, h5, h6, h7, h8, h9, h10, h11, h12, h13, Blk.foldl_onlyIn, Blk.ite_onlyIn])
  all_goals (try refine (Blk.foldl_onlyIn (fun b x => ?_) _ _).trans ?_)
  all_goals (repeat' split)
  all_goals (try simp [h0, h1, h2, h3, h4, h5, h6, h7, h8, h9, h10, h11, h12, h13, Blk.foldl_onlyIn, Blk.ite_onlyIn])
@[simp] theorem Blk.writeClp_onlyIn {ps : List Part} {a : Blk} (b : Blk) (off : Nat) (w : Word) (fs : List FieldDesc)
    (h0 : Part.air ∈ ps) (h1 : Part.axs ∈ ps) (h2 : Part.clp ∈ ps) (h3 : Part.dvt ∈ ps) (h4 : Part.evr ∈ ps) (h5 :
    Part.fleet ∈ ps) (h6 : Part.gns ∈ ps) (h7 : Part.hdl ∈ ps) (h8 : Part.hst ∈ ps) (h9 : Part.inv ∈ ps) (h10 :
    Part.mem ∈ ps) (h11 : Part.out ∈ ps) (h12 : Part.pos ∈ ps) (h13 : Part.regs ∈ ps) :
    a.onlyIn ps ((Blk.writeClp b off w fs)) ↔ a.onlyIn ps b := by
  unfold Blk.writeClp; (repeat' split) <;> simp [h0, h1, h2, h3, h4, h5, h6, h7, h8, h9, h10, h11, h12, h13]
@[simp] theorem Blk.writeGns_onlyIn {ps : List Part} {a : Blk} (b : Blk) (off : Nat) (w : Word) (fs : List FieldDesc)
    (h0 : Part.evr ∈ ps) (h1 : Part.mem ∈ ps) (h2 : Part.regs ∈ ps) :
    a.onlyIn ps ((Blk.writeGns b off w fs)) ↔ a.onlyIn ps b := by
  unfold Blk.writeGns; (repeat' split) <;> simp [h0, h1, h2]
@[simp] theorem Blk.writePos_onlyIn {ps : List Part} {a : Blk} (b : Blk) (off : Nat) (w : Word) (fs : List FieldDesc)
    (h0 : Part.air ∈ ps) (h1 : Part.evr ∈ ps) (h2 : Part.mem ∈ ps) (h3 : Part.pos ∈ ps) (h4 : Part.regs ∈ ps) :
    a.onlyIn ps ((Blk.writePos b off w fs)) ↔ a.onlyIn ps b := by
  unfold Blk.writePos; dsimp only; (repeat' split) <;> simp [h0, h1, h2, h3, h4]
@[simp] theorem Blk.sendDueKeys_onlyIn {ps : List Part} {a : Blk} (b : Blk) (h0 : Part.air ∈ ps) (h1 : Part.pwr ∈ ps)
    :
    a.onlyIn ps ((Blk.sendDueKeys b)) ↔ a.onlyIn ps b := by
  unfold Blk.sendDueKeys; try dsimp only
  all_goals (repeat' split)
  all_goals (try refine (Blk.foldl_onlyIn (fun b x => ?_) _ _).trans ?_)
  all_goals (repeat' split)
  all_goals (try simp [h0, h1, Blk.foldl_onlyIn, Blk.ite_onlyIn])
@[simp] theorem Blk.writeAir_onlyIn {ps : List Part} {a : Blk} (b : Blk) (off : Nat) (w : Word) (fs : List FieldDesc)
    (h0 : Part.air ∈ ps) (h1 : Part.evr ∈ ps) (h2 : Part.mem ∈ ps) (h3 : Part.pwr ∈ ps) (h4 : Part.regs ∈ ps) :
    a.onlyIn ps ((Blk.writeAir b off w fs)) ↔ a.onlyIn ps b := by
  unfold Blk.writeAir; dsimp only; (repeat' split) <;> simp [h0, h1, h2, h3, h4]
@[simp] theorem Blk.dropInputs_onlyIn {ps : List Part} {a : Blk} (b : Blk) (n : Nat) (h0 : Part.axs ∈ ps) :
    a.onlyIn ps ((Blk.dropInputs b n)) ↔ a.onlyIn ps b := by
  unfold Blk.dropInputs; simp [h0, Blk.foldl_onlyIn, Blk.ite_onlyIn]
@[simp] theorem Blk.writeAxis_onlyIn {ps : List Part} {a : Blk} (b : Blk) (n rel off : Nat) (w : Word) (fs : List
    FieldDesc) (h0 : Part.axs ∈ ps) (h1 : Part.evr ∈ ps) (h2 : Part.mem ∈ ps) (h3 : Part.regs ∈ ps) :
    a.onlyIn ps ((Blk.writeAxis b n rel off w fs)) ↔ a.onlyIn ps b := by
  unfold Blk.writeAxis; (repeat' split) <;> simp [h0, h1, h2, h3]
@[simp] theorem Blk.writeMaster_onlyIn {ps : List Part} {a : Blk} (b : Blk) (m : Nat) (w : Word) (h0 : Part.evr ∈ ps)
    (h1 : Part.mem ∈ ps) (h2 : Part.regs ∈ ps) :
    a.onlyIn ps ((Blk.writeMaster b m w)) ↔ a.onlyIn ps b := by
  unfold Blk.writeMaster; dsimp only; (repeat' split) <;> simp [h0, h1, h2]
@[simp] theorem Blk.writeAxs_onlyIn {ps : List Part} {a : Blk} (b : Blk) (off : Nat) (w : Word) (fs : List FieldDesc)
    (h0 : Part.axs ∈ ps) (h1 : Part.evr ∈ ps) (h2 : Part.mem ∈ ps) (h3 : Part.regs ∈ ps) :
    a.onlyIn ps ((Blk.writeAxs b off w fs)) ↔ a.onlyIn ps b := by
  unfold Blk.writeAxs; (repeat' split) <;> simp [h0, h1, h2, h3]
@[simp] theorem Blk.writeCtl_onlyIn {ps : List Part} {a : Blk} (b : Blk) (off : Nat) (w : Word) (fs : List FieldDesc)
    (h0 : Part.axs ∈ ps) (h1 : Part.evr ∈ ps) (h2 : Part.mem ∈ ps) (h3 : Part.regs ∈ ps) :
    a.onlyIn ps ((Blk.writeCtl b off w fs)) ↔ a.onlyIn ps b := by
  unfold Blk.writeCtl; (repeat' split) <;> simp [h0, h1, h2, h3]
@[simp] theorem Blk.writeHdl_onlyIn {ps : List Part} {a : Blk} (b : Blk) (off : Nat) (w : Word) (fs : List FieldDesc)
    (h0 : Part.evr ∈ ps) (h1 : Part.fresh ∈ ps) (h2 : Part.hdl ∈ ps) (h3 : Part.mem ∈ ps) (h4 : Part.regs ∈ ps) :
    a.onlyIn ps ((Blk.writeHdl b off w fs)) ↔ a.onlyIn ps b := by
  unfold Blk.writeHdl; (repeat' split) <;> simp [h0, h1, h2, h3, h4]
@[simp] theorem Blk.writeInv_onlyIn {ps : List Part} {a : Blk} (b : Blk) (off : Nat) (w : Word) (fs : List FieldDesc)
    (h0 : Part.evr ∈ ps) (h1 : Part.fleet ∈ ps) (h2 : Part.heldLo ∈ ps) (h3 : Part.inv ∈ ps) (h4 : Part.mem ∈ ps) (h5
    : Part.regs ∈ ps) :
    a.onlyIn ps ((Blk.writeInv b off w fs)) ↔ a.onlyIn ps b := by
  unfold Blk.writeInv; (repeat' split) <;> simp [h0, h1, h2, h3, h4, h5]
@[simp] theorem Blk.writeQueueCfg_onlyIn {ps : List Part} {a : Blk} (b : Blk) (n : Nat) (w : Word) (fs : List
    FieldDesc) (h0 : Part.evr ∈ ps) (h1 : Part.mem ∈ ps) (h2 : Part.regs ∈ ps) :
    a.onlyIn ps ((Blk.writeQueueCfg b n w fs)) ↔ a.onlyIn ps b := by
  unfold Blk.writeQueueCfg; dsimp only; (repeat' split) <;> simp [h0, h1, h2]
@[simp] theorem Blk.writeQueMem_onlyIn {ps : List Part} {a : Blk} (b : Blk) (off : Nat) (w : Word) (fs : List
    FieldDesc) (h0 : Part.evr ∈ ps) (h1 : Part.mem ∈ ps) (h2 : Part.regs ∈ ps) :
    a.onlyIn ps ((Blk.writeQueMem b off w fs)) ↔ a.onlyIn ps b := by
  unfold Blk.writeQueMem; (repeat' split) <;> simp [h0, h1, h2]
@[simp] theorem Blk.writeTmpCfg_onlyIn {ps : List Part} {a : Blk} (b : Blk) (w : Word) (h0 : Part.evr ∈ ps) (h1 :
    Part.mem ∈ ps) (h2 : Part.regs ∈ ps) :
    a.onlyIn ps ((Blk.writeTmpCfg b w)) ↔ a.onlyIn ps b := by
  unfold Blk.writeTmpCfg; dsimp only; (repeat' split) <;> simp [h0, h1, h2]
@[simp] theorem Blk.writeReg_onlyIn {ps : List Part} {a : Blk} (b : Blk) (off : Nat) (w : Word) (h0 : Part.air ∈ ps)
    (h1 : Part.axs ∈ ps) (h2 : Part.clp ∈ ps) (h3 : Part.dvt ∈ ps) (h4 : Part.evr ∈ ps) (h5 : Part.fleet ∈ ps) (h6 :
    Part.fresh ∈ ps) (h7 : Part.gns ∈ ps) (h8 : Part.hdl ∈ ps) (h9 : Part.heldLo ∈ ps) (h10 : Part.hst ∈ ps) (h11 :
    Part.inv ∈ ps) (h12 : Part.mem ∈ ps) (h13 : Part.out ∈ ps) (h14 : Part.pos ∈ ps) (h15 : Part.pwr ∈ ps) (h16 :
    Part.regs ∈ ps) :
    a.onlyIn ps ((Blk.writeReg b off w)) ↔ a.onlyIn ps b := by
  unfold Blk.writeReg; (repeat' split) <;> simp [h0, h1, h2, h3, h4, h5, h6, h7, h8, h9, h10, h11, h12, h13, h14,
      h15, h16]
@[simp] theorem Blk.registerWrite_onlyIn {ps : List Part} {a : Blk} (b : Blk) (off : Nat) (w : Word) (full : Bool)
    (h0 : Part.air ∈ ps) (h1 : Part.axs ∈ ps) (h2 : Part.clp ∈ ps) (h3 : Part.dvt ∈ ps) (h4 : Part.evr ∈ ps) (h5 :
    Part.fleet ∈ ps) (h6 : Part.fresh ∈ ps) (h7 : Part.gns ∈ ps) (h8 : Part.hdl ∈ ps) (h9 : Part.heldLo ∈ ps) (h10 :
    Part.hst ∈ ps) (h11 : Part.inv ∈ ps) (h12 : Part.mem ∈ ps) (h13 : Part.out ∈ ps) (h14 : Part.pos ∈ ps) (h15 :
    Part.pwr ∈ ps) (h16 : Part.regs ∈ ps) :
    a.onlyIn ps ((Blk.registerWrite b off w full)) ↔ a.onlyIn ps b := by
  unfold Blk.registerWrite; (repeat' split) <;> simp [h0, h1, h2, h3, h4, h5, h6, h7, h8, h9, h10, h11, h12, h13,
      h14, h15, h16]
@[simp] theorem Blk.latchedRead_onlyIn {ps : List Part} {a : Blk} (b : Blk) (i : Ident) (off : Nat) (h0 :
    Part.lastRead ∈ ps) (h1 : Part.latch ∈ ps) :
    a.onlyIn ps (b.latchedRead i off) ↔ a.onlyIn ps b :=
  Blk.onlyIn_iff (fun p hp => by cases p <;> first | rfl | exact absurd (by assumption) hp)
@[simp] theorem Blk.readClear_onlyIn {ps : List Part} {a : Blk} (b : Blk) (i : Ident) (off : Nat) (h0 : Part.gns ∈
    ps) (h1 : Part.lastRead ∈ ps) (h2 : Part.pwr ∈ ps) (h3 : Part.regs ∈ ps) :
    a.onlyIn ps ((Blk.readClear b i off)) ↔ a.onlyIn ps b := by
  unfold Blk.readClear; dsimp only; (repeat' split) <;> simp [h0, h1, h2, h3]
@[simp] theorem Blk.tempPeak_onlyIn {ps : List Part} {a : Blk} (b : Blk) (t : Int) (h0 : Part.pwr ∈ ps) (h1 :
    Part.regs ∈ ps) :
    a.onlyIn ps ((Blk.tempPeak b t)) ↔ a.onlyIn ps b := by
  unfold Blk.tempPeak; (repeat' split) <;> simp [h0, h1]
@[simp] theorem Blk.tempWarn_onlyIn {ps : List Part} {a : Blk} (b : Blk) (ts : List Int) (h0 : Part.regs ∈ ps) :
    a.onlyIn ps ((Blk.tempWarn b ts)) ↔ a.onlyIn ps b := by
  unfold Blk.tempWarn; dsimp only; (repeat' split) <;> simp [h0]
@[simp] theorem Blk.measure_onlyIn {ps : List Part} {a : Blk} (x : MonIn) (b : Blk) (h0 : Part.pwr ∈ ps) (h1 :
    Part.regs ∈ ps) :
    a.onlyIn ps ((Blk.measure x b)) ↔ a.onlyIn ps b := by
  unfold Blk.measure; simp [h0, h1, Blk.foldl_onlyIn, Blk.ite_onlyIn]
@[simp] theorem Blk.scrub_onlyIn {ps : List Part} {a : Blk} (err : Option (Fin 8)) (b : Blk) (h0 : Part.mem ∈ ps) (h1
    : Part.regs ∈ ps) :
    a.onlyIn ps ((Blk.scrub err b)) ↔ a.onlyIn ps b := by
  unfold Blk.scrub; (repeat' split) <;> simp [h0, h1]
@[simp] theorem Blk.dropReads_onlyIn {ps : List Part} {a : Blk} (b : Blk) (id : OpId) (h0 : Part.axs ∈ ps) (h1 :
    Part.fleet ∈ ps) (h2 : Part.hst ∈ ps) (h3 : Part.key ∈ ps) :
    a.onlyIn ps ((Blk.dropReads b id)) ↔ a.onlyIn ps b := by
  unfold Blk.dropReads; (repeat' split) <;> simp [h0, h1, h2, h3]
@[simp] theorem Blk.dmaErr_onlyIn {ps : List Part} {a : Blk} (b : Blk) (ring tag addr : Nat) (h0 : Part.axs ∈ ps) (h1
    : Part.fleet ∈ ps) (h2 : Part.hst ∈ ps) (h3 : Part.key ∈ ps) (h4 : Part.out ∈ ps) (h5 : Part.regs ∈ ps) :
    a.onlyIn ps ((Blk.dmaErr b ring tag addr)) ↔ a.onlyIn ps b := by
  unfold Blk.dmaErr; (repeat' split) <;> simp [h0, h1, h2, h3, h4, h5]
@[simp] theorem Blk.epochLost_onlyIn {ps : List Part} {a : Blk} (b : Blk) (mix : Nat) (h0 : Part.pos ∈ ps) :
    a.onlyIn ps ((Blk.epochLost b mix)) ↔ a.onlyIn ps b := by
  unfold Blk.epochLost; (repeat' split) <;> simp [h0]
@[simp] theorem Blk.snapLost_onlyIn {ps : List Part} {a : Blk} (b : Blk) (mix : Nat) (h0 : Part.air ∈ ps) (h1 :
    Part.evr ∈ ps) (h2 : Part.gns ∈ ps) (h3 : Part.hst ∈ ps) (h4 : Part.mem ∈ ps) (h5 : Part.out ∈ ps) (h6 : Part.pos
    ∈ ps) (h7 : Part.regs ∈ ps) :
    a.onlyIn ps ((Blk.snapLost b mix)) ↔ a.onlyIn ps b := by
  unfold Blk.snapLost; (repeat' split) <;> simp [h0, h1, h2, h3, h4, h5, h6, h7]
@[simp] theorem Blk.keyLost_onlyIn {ps : List Part} {a : Blk} (b : Blk) (h0 : Part.hst ∈ ps) (h1 : Part.key ∈ ps) (h2
    : Part.out ∈ ps) (h3 : Part.regs ∈ ps) :
    a.onlyIn ps ((Blk.keyLost b)) ↔ a.onlyIn ps b := by
  unfold Blk.keyLost; (repeat' split) <;> simp [h0, h1, h2, h3]
@[simp] theorem Blk.sampleLost_onlyIn {ps : List Part} {a : Blk} (b : Blk) (n : Nat) (h0 : Part.axs ∈ ps) (h1 :
    Part.clp ∈ ps) (h2 : Part.dvt ∈ ps) (h3 : Part.evr ∈ ps) (h4 : Part.hst ∈ ps) (h5 : Part.mem ∈ ps) (h6 : Part.out
    ∈ ps) (h7 : Part.regs ∈ ps) :
    a.onlyIn ps ((Blk.sampleLost b n)) ↔ a.onlyIn ps b := by
  unfold Blk.sampleLost; (repeat' split) <;> simp [h0, h1, h2, h3, h4, h5, h6, h7]
@[simp] theorem Blk.memReact_onlyIn {ps : List Part} {a : Blk} (b : Blk) (m obj : Nat) (h0 : Part.air ∈ ps) (h1 :
    Part.axs ∈ ps) (h2 : Part.clp ∈ ps) (h3 : Part.dvt ∈ ps) (h4 : Part.evr ∈ ps) (h5 : Part.fleet ∈ ps) (h6 :
    Part.fresh ∈ ps) (h7 : Part.gns ∈ ps) (h8 : Part.hdl ∈ ps) (h9 : Part.hst ∈ ps) (h10 : Part.inv ∈ ps) (h11 :
    Part.key ∈ ps) (h12 : Part.mem ∈ ps) (h13 : Part.out ∈ ps) (h14 : Part.pos ∈ ps) (h15 : Part.pwr ∈ ps) (h16 :
    Part.regs ∈ ps) :
    a.onlyIn ps ((Blk.memReact b m obj)) ↔ a.onlyIn ps b := by
  unfold Blk.memReact; (repeat' split) <;> simp [h0, h1, h2, h3, h4, h5, h6, h7, h8, h9, h10, h11, h12, h13, h14,
      h15, h16]
@[simp] theorem Blk.violation_onlyIn {ps : List Part} {a : Blk} (b : Blk) (a' : MemAcc) (h0 : Part.evr ∈ ps) (h1 :
    Part.mem ∈ ps) (h2 : Part.regs ∈ ps) :
    a.onlyIn ps ((Blk.violation b a')) ↔ a.onlyIn ps b := by
  unfold Blk.violation; dsimp only; (repeat' split) <;> simp [h0, h1, h2]
@[simp] theorem Blk.memAcc_onlyIn {ps : List Part} {a : Blk} (b : Blk) (a' : MemAcc) (h0 : Part.air ∈ ps) (h1 :
    Part.axs ∈ ps) (h2 : Part.clp ∈ ps) (h3 : Part.dvt ∈ ps) (h4 : Part.evr ∈ ps) (h5 : Part.fleet ∈ ps) (h6 :
    Part.fresh ∈ ps) (h7 : Part.gns ∈ ps) (h8 : Part.hdl ∈ ps) (h9 : Part.hst ∈ ps) (h10 : Part.inv ∈ ps) (h11 :
    Part.key ∈ ps) (h12 : Part.mem ∈ ps) (h13 : Part.out ∈ ps) (h14 : Part.pos ∈ ps) (h15 : Part.pwr ∈ ps) (h16 :
    Part.regs ∈ ps) :
    a.onlyIn ps ((Blk.memAcc b a')) ↔ a.onlyIn ps b := by
  unfold Blk.memAcc; dsimp only; (repeat' split) <;> simp [h0, h1, h2, h3, h4, h5, h6, h7, h8, h9, h10, h11, h12,
      h13, h14, h15, h16]
@[simp] theorem Blk.eccBad_onlyIn {ps : List Part} {a : Blk} (b : Blk) (bank addr master obj : Nat) (h0 : Part.air ∈
    ps) (h1 : Part.axs ∈ ps) (h2 : Part.clp ∈ ps) (h3 : Part.dvt ∈ ps) (h4 : Part.evr ∈ ps) (h5 : Part.fleet ∈ ps)
    (h6 : Part.fresh ∈ ps) (h7 : Part.gns ∈ ps) (h8 : Part.hdl ∈ ps) (h9 : Part.hst ∈ ps) (h10 : Part.inv ∈ ps) (h11
    : Part.key ∈ ps) (h12 : Part.mem ∈ ps) (h13 : Part.out ∈ ps) (h14 : Part.pos ∈ ps) (h15 : Part.pwr ∈ ps) (h16 :
    Part.regs ∈ ps) :
    a.onlyIn ps ((Blk.eccBad b bank addr master obj)) ↔ a.onlyIn ps b := by
  unfold Blk.eccBad; (repeat' split) <;> simp [h0, h1, h2, h3, h4, h5, h6, h7, h8, h9, h10, h11, h12, h13, h14, h15,
      h16]


end Sys2Proof.Machine
end

