-- ==== Sys2Proof/Laws/RegFrames.lean ====
section
/-! SUPPORT. Sys2Proof/Laws/RegFrames.lean: the registers that an operation may change: a claim `a.regsOnly os` about what it
gives holds exactly when it holds of what it was given, wherever `os` contains the registers in its lemma's hypotheses. -/

namespace Sys2Proof.Machine

open Sys2Proof

set_option linter.all false
set_option linter.unusedVariables false

theorem lost_mem {n : Nat} (h : n < 64) : Reg.QUE_Q_LOST_COUNT n ∈ itemRegs := by
  simp [itemRegs]; exact .inl ⟨n, h, rfl⟩
theorem void_mem : Reg.QUE_VOID_COUNT ∈ itemRegs := by simp [itemRegs]
theorem ptr_mem : Reg.QUE_PTR_ERR_COUNT ∈ itemRegs := by simp [itemRegs]
theorem drop_mem : Reg.EVR_DROP_COUNT ∈ itemRegs := by simp [itemRegs]

@[simp] theorem Blk.accept_regsOnly {os : List Nat} {a : Blk} (b : Blk) (r : Rec) (h : Reg.EVR_DROP_COUNT ∈ os) :
    a.regsOnly os (b.accept r) ↔ a.regsOnly os b := by
  unfold Blk.accept; split <;> simp [h]

@[simp] theorem Blk.record_regsOnly {os : List Nat} {a : Blk} (b : Blk) (c : Nat) (x : Bytes)
    (h : Reg.EVR_DROP_COUNT ∈ os) : a.regsOnly os (b.record c x) ↔ a.regsOnly os b := by
  unfold Blk.record; repeat' split
  all_goals simp [h]

@[simp] theorem Blk.setQueue_regsOnly {os : List Nat} {a : Blk} (b : Blk) (n : Nat) (q : Queue) :
    a.regsOnly os (b.setQueue n q) ↔ a.regsOnly os b := Iff.rfl

theorem Blk.reserve_regsOnly {os : List Nat} {a : Blk} (b : Blk) (n typ flags : Nat) (data : Bytes)
    (h : Reg.QUE_Q_LOST_COUNT n ∈ os) : a.regsOnly os (b.reserve n typ flags data) ↔ a.regsOnly os b := by
  unfold Blk.reserve; dsimp only
  repeat' split
  all_goals simp [h]

theorem Blk.flushQueue_regsOnly {os : List Nat} {a : Blk} (b : Blk) (n : Nat) (h : Reg.QUE_Q_LOST_COUNT n ∈ os)
    (k : Reg.QUE_VOID_COUNT ∈ os) : a.regsOnly os (b.flushQueue n) ↔ a.regsOnly os b := by
  unfold Blk.flushQueue; dsimp only
  rw [Blk.foldl_regsOnly (fun c i => ?_)]
  · split <;> simp [h]
  · split
    · rw [Blk.reserve_regsOnly _ _ _ _ _ h]; exact Blk.regsOnly_refl _ _
    · simp [k]

theorem Blk.checkQueue_regsOnly {os : List Nat} {a : Blk} (b : Blk) (n : Nat) (h : n < 64) (k : itemRegs ⊆ os) :
    a.regsOnly os (b.checkQueue n) ↔ a.regsOnly os b := by
  have hn := k (lost_mem h)
  have h0 := k (lost_mem (show 0 < 64 by decide))
  have hv := k void_mem
  have hp := k ptr_mem
  have hd := k drop_mem
  unfold Blk.checkQueue Blk.resetQueue; dsimp only
  repeat' split
  · rw [Blk.reserve_regsOnly _ _ _ _ _ h0]; simp [hd, hp, Blk.flushQueue_regsOnly _ _ hn hv]
  · simp [hd, hp, Blk.flushQueue_regsOnly _ _ hn hv]
  · rfl

/-- Producing an item raises no counters but those of `itemRegs`. -/
@[simp] theorem Blk.produce_regsOnly {os : List Nat} {a : Blk} (b : Blk) (n typ : Nat) (data : Bytes) (flags : Nat)
    (k : itemRegs ⊆ os) : a.regsOnly os (b.produce n typ data flags) ↔ a.regsOnly os b := by
  unfold Blk.produce; dsimp only
  split
  · rename_i hq
    have h : n < 64 := by
      unfold Blk.queueOn at hq; simp only [Bool.and_eq_true, decide_eq_true_eq] at hq; exact hq.1
    have hn := k (lost_mem h)
    have h0 := k (lost_mem (show 0 < 64 by decide))
    split
    · rw [Blk.reserve_regsOnly _ _ _ _ _ h0, Blk.checkQueue_regsOnly _ _ (by decide) k,
        Blk.reserve_regsOnly _ _ _ _ _ hn, Blk.checkQueue_regsOnly _ _ h k]
    · rw [Blk.reserve_regsOnly _ _ _ _ _ hn, Blk.checkQueue_regsOnly _ _ h k]
  · rfl

@[simp] theorem Blk.report_regsOnly {os : List Nat} {a : Blk} (b : Blk) (off msb lsb cause flags req app : Nat)
    (h : Reg.SYS_CLAMP_COUNT ∈ os) (h' : Reg.SYS_LAST_CLAMP ∈ os) (k : itemRegs ⊆ os) :
    a.regsOnly os (b.report off msb lsb cause flags req app) ↔ a.regsOnly os b := by
  unfold Blk.report; simp [h, h', k]


@[simp] theorem Blk.mk_regsOnly {os : List Nat} {a : Blk} (b : Blk) u l hl o lr fr h m e i f d c ax ai hd g p k pw :
    a.regsOnly os ⟨u, b.regs, l, hl, o, lr, fr, h, m, e, i, f, d, c, ax, ai, hd, g, p, k, pw⟩ ↔ a.regsOnly os b :=
        Iff.rfl
theorem Blk.ite_regsOnly {ps : List Nat} {a : Blk} {c : Prop} [Decidable c] (x y : Blk) :
    a.regsOnly ps (if c then x else y) ↔ if c then a.regsOnly ps x else a.regsOnly ps y := by split <;> rfl
@[simp] theorem Blk.setRing_regsOnly {ps : List Nat} {a : Blk} (b : Blk) (n : Nat) (r : Ring) :
    a.regsOnly ps ((Blk.setRing b n r)) ↔ a.regsOnly ps b := by
  refine Blk.regsOnly_iff (Blk.onlyIn_regs (ps := [Part.hst]) ?_ (by decide) _)
  simp
@[simp] theorem Blk.setAxis_regsOnly {ps : List Nat} {a : Blk} (b : Blk) (n : Nat) (x : Axis) :
    a.regsOnly ps ((Blk.setAxis b n x)) ↔ a.regsOnly ps b := by
  refine Blk.regsOnly_iff (Blk.onlyIn_regs (ps := [Part.axs]) ?_ (by decide) _)
  simp
@[simp] theorem Blk.setLink_regsOnly {ps : List Nat} {a : Blk} (b : Blk) (m : Nat) (l : Link) :
    a.regsOnly ps ((Blk.setLink b m l)) ↔ a.regsOnly ps b := by
  refine Blk.regsOnly_iff (Blk.onlyIn_regs (ps := [Part.air]) ?_ (by decide) _)
  simp
@[simp] theorem Blk.memError_regsOnly {ps : List Nat} {a : Blk} (b : Blk) (kind master bank addr : Nat) (k0 :
    Reg.EVR_DROP_COUNT ∈ ps) :
    a.regsOnly ps ((Blk.memError b kind master bank addr)) ↔ a.regsOnly ps b := by
  unfold Blk.memError; (repeat' split) <;> simp [k0]
@[simp] theorem Blk.queueEdge_regsOnly {ps : List Nat} {a : Blk} (b : Blk) (n : Nat) (opens : List OpenItem) :
    a.regsOnly ps ((Blk.queueEdge b n opens)) ↔ a.regsOnly ps b := by
  refine Blk.regsOnly_iff (Blk.onlyIn_regs (ps := [Part.mem]) ?_ (by decide) _)
  simp
@[simp] theorem Blk.sendMsix_regsOnly {ps : List Nat} {a : Blk} (b : Blk) (v : Nat) :
    a.regsOnly ps ((Blk.sendMsix b v)) ↔ a.regsOnly ps b := by
  refine Blk.regsOnly_iff (Blk.onlyIn_regs (ps := [Part.hst, Part.out]) ?_ (by decide) _)
  simp
@[simp] theorem Blk.writeEntry_regsOnly {ps : List Nat} {a : Blk} (b : Blk) (cq : Nat) (e : Entry) :
    a.regsOnly ps ((Blk.writeEntry b cq e)) ↔ a.regsOnly ps b := by
  refine Blk.regsOnly_iff (Blk.onlyIn_regs (ps := [Part.hst, Part.out]) ?_ (by decide) _)
  simp
@[simp] theorem Blk.announce_regsOnly {ps : List Nat} {a : Blk} (b : Blk) (cq : Nat) :
    a.regsOnly ps ((Blk.announce b cq)) ↔ a.regsOnly ps b := by
  refine Blk.regsOnly_iff (Blk.onlyIn_regs (ps := [Part.hst, Part.out]) ?_ (by decide) _)
  simp
@[simp] theorem Blk.flushHeld_regsOnly {ps : List Nat} {a : Blk} (b : Blk) (cq : Nat) :
    a.regsOnly ps ((Blk.flushHeld b cq)) ↔ a.regsOnly ps b := by
  refine Blk.regsOnly_iff (Blk.onlyIn_regs (ps := [Part.hst, Part.out]) ?_ (by decide) _)
  simp
@[simp] theorem Blk.cqProduce_regsOnly {ps : List Nat} {a : Blk} (b : Blk) (cq : Nat) (e : Entry) (force : Bool) :
    a.regsOnly ps ((Blk.cqProduce b cq e force)) ↔ a.regsOnly ps b := by
  refine Blk.regsOnly_iff (Blk.onlyIn_regs (ps := [Part.hst, Part.out]) ?_ (by decide) _)
  simp
@[simp] theorem Blk.ringError_regsOnly {ps : List Nat} {a : Blk} (b : Blk) (n status detail : Nat) :
    a.regsOnly ps ((Blk.ringError b n status detail)) ↔ a.regsOnly ps b := by
  refine Blk.regsOnly_iff (Blk.onlyIn_regs (ps := [Part.hst, Part.out]) ?_ (by decide) _)
  simp
@[simp] theorem Blk.deliver_regsOnly {ps : List Nat} {a : Blk} (b : Blk) (id : OpId) (e : Entry) :
    a.regsOnly ps ((Blk.deliver b id e)) ↔ a.regsOnly ps b := by
  refine Blk.regsOnly_iff (Blk.onlyIn_regs (ps := [Part.hst, Part.out]) ?_ (by decide) _)
  simp
@[simp] theorem Blk.runPlane_regsOnly {ps : List Nat} {a : Blk} (b : Blk) (n : Nat) (flush : Bool) :
    a.regsOnly ps ((Blk.runPlane b n flush)) ↔ a.regsOnly ps b := by
  refine Blk.regsOnly_iff (Blk.onlyIn_regs (ps := [Part.hst, Part.out]) ?_ (by decide) _)
  simp
@[simp] theorem Blk.completeAt_regsOnly {ps : List Nat} {a : Blk} (b : Blk) (id : OpId) (status detail epoch time :
    Nat) :
    a.regsOnly ps ((Blk.completeAt b id status detail epoch time)) ↔ a.regsOnly ps b := by
  refine Blk.regsOnly_iff (Blk.onlyIn_regs (ps := [Part.hst, Part.out]) ?_ (by decide) _)
  simp
@[simp] theorem Blk.complete_regsOnly {ps : List Nat} {a : Blk} (b : Blk) (id : OpId) (status detail : Nat) :
    a.regsOnly ps ((Blk.complete b id status detail)) ↔ a.regsOnly ps b := by
  refine Blk.regsOnly_iff (Blk.onlyIn_regs (ps := [Part.hst, Part.out]) ?_ (by decide) _)
  simp
@[simp] theorem Blk.done_regsOnly {ps : List Nat} {a : Blk} (b : Blk) (id : OpId) (detail : Nat) :
    a.regsOnly ps ((Blk.done b id detail)) ↔ a.regsOnly ps b := by
  refine Blk.regsOnly_iff (Blk.onlyIn_regs (ps := [Part.hst, Part.out]) ?_ (by decide) _)
  simp
@[simp] theorem Blk.bad_regsOnly {ps : List Nat} {a : Blk} (b : Blk) (id : OpId) (reason off : Nat) :
    a.regsOnly ps ((Blk.bad b id reason off)) ↔ a.regsOnly ps b := by
  refine Blk.regsOnly_iff (Blk.onlyIn_regs (ps := [Part.hst, Part.out]) ?_ (by decide) _)
  simp
@[simp] theorem Blk.endVisit_regsOnly {ps : List Nat} {a : Blk} (b : Blk) (eligible : Bool) :
    a.regsOnly ps ((Blk.endVisit b eligible)) ↔ a.regsOnly ps b := by
  refine Blk.regsOnly_iff (Blk.onlyIn_regs (ps := [Part.hst]) ?_ (by decide) _)
  simp
@[simp] theorem Blk.recheck_regsOnly {ps : List Nat} {a : Blk} (b : Blk) :
    a.regsOnly ps ((Blk.recheck b)) ↔ a.regsOnly ps b := by
  refine Blk.regsOnly_iff (Blk.onlyIn_regs (ps := [Part.hst]) ?_ (by decide) _)
  simp
@[simp] theorem Blk.enter_regsOnly {ps : List Nat} {a : Blk} (b : Blk) (id : OpId) (fence : Bool) :
    a.regsOnly ps ((Blk.enter b id fence)) ↔ a.regsOnly ps b := by
  refine Blk.regsOnly_iff (Blk.onlyIn_regs (ps := [Part.hst]) ?_ (by decide) _)
  simp
@[simp] theorem Blk.hold_regsOnly {ps : List Nat} {a : Blk} (b : Blk) (d : Desc) :
    a.regsOnly ps ((Blk.hold b d)) ↔ a.regsOnly ps b := by
  refine Blk.regsOnly_iff (Blk.onlyIn_regs (ps := [Part.hst]) ?_ (by decide) _)
  simp
@[simp] theorem Blk.startRaw_regsOnly {ps : List Nat} {a : Blk} (b : Blk) (d : Desc) (f : Blk → Blk)
    (hf : ∀ c, Blk.regsOnly ps c (f c)) : a.regsOnly ps (b.startRaw d f) ↔ a.regsOnly ps b := by
  unfold Blk.startRaw; dsimp only; split
  · simp
  · rw [Blk.regsOnly_iff (hf _)]; simp
@[simp] theorem Blk.start_regsOnly {ps : List Nat} {a : Blk} (b : Blk) (d : Desc) (f : Blk → Blk)
    (hf : ∀ c, Blk.regsOnly ps c (f c)) : a.regsOnly ps (b.start d f) ↔ a.regsOnly ps b := by
  unfold Blk.start
  refine Blk.startRaw_regsOnly b d _ (fun c => ?_)
  split
  · simp
  · exact hf c
@[simp] theorem Blk.syncReady_regsOnly {ps : List Nat} {a : Blk} (b : Blk) (i : Ident) (k0 : Reg.EVR_DROP_COUNT ∈ ps)
    :
    a.regsOnly ps ((Blk.syncReady b i)) ↔ a.regsOnly ps b := by
  unfold Blk.syncReady; dsimp only; (repeat' split) <;> simp [k0]
@[simp] theorem Blk.checked_regsOnly {ps : List Nat} {a : Blk} (b : Blk) (d : Desc) (cs : List (Bool × Nat × Nat)) (f
    : Blk → Blk)
    (hf : ∀ c, Blk.regsOnly ps c (f c)) : a.regsOnly ps (b.checked d cs f) ↔ a.regsOnly ps b := by
  unfold Blk.checked; split
  · simp
  · exact Blk.regsOnly_iff (hf b)
@[simp] theorem Blk.freeBound_regsOnly {ps : List Nat} {a : Blk} (b : Blk) (cq old new size : Nat) :
    a.regsOnly ps ((Blk.freeBound b cq old new size)) ↔ a.regsOnly ps b := by
  refine Blk.regsOnly_iff (Blk.onlyIn_regs (ps := [Part.mem]) ?_ (by decide) _)
  simp
@[simp] theorem Blk.arm_regsOnly {ps : List Nat} {a : Blk} (b : Blk) (cq : Nat) :
    a.regsOnly ps ((Blk.arm b cq)) ↔ a.regsOnly ps b := by
  refine Blk.regsOnly_iff (Blk.onlyIn_regs (ps := [Part.hst, Part.out]) ?_ (by decide) _)
  simp
@[simp] theorem Blk.readSlots_regsOnly {ps : List Nat} {a : Blk} (b : Blk) (n i k : Nat) :
    a.regsOnly ps ((Blk.readSlots b n i k)) ↔ a.regsOnly ps b := by
  refine Blk.regsOnly_iff (Blk.onlyIn_regs (ps := [Part.out]) ?_ (by decide) _)
  simp
@[simp] theorem Blk.fetch_regsOnly {ps : List Nat} {a : Blk} (b : Blk) (nslot : Nat) :
    a.regsOnly ps ((Blk.fetch b nslot)) ↔ a.regsOnly ps b := by
  refine Blk.regsOnly_iff (Blk.onlyIn_regs (ps := [Part.hst, Part.out]) ?_ (by decide) _)
  simp
@[simp] theorem Blk.advance_regsOnly {ps : List Nat} {a : Blk} (b : Blk) (n k : Nat) :
    a.regsOnly ps ((Blk.advance b n k)) ↔ a.regsOnly ps b := by
  refine Blk.regsOnly_iff (Blk.onlyIn_regs (ps := [Part.hst, Part.out]) ?_ (by decide) _)
  simp
@[simp] theorem Blk.useTagless_regsOnly {ps : List Nat} {a : Blk} (b : Blk) :
    a.regsOnly ps ((Blk.useTagless b)) ↔ a.regsOnly ps b := by
  refine Blk.regsOnly_iff (Blk.onlyIn_regs (ps := [Part.hst]) ?_ (by decide) _)
  simp
@[simp] theorem Blk.dispatch_regsOnly {ps : List Nat} {a : Blk} (b : Blk) (d : Desc) (crc : Bool) :
    a.regsOnly ps ((Blk.dispatch b d crc)) ↔ a.regsOnly ps b := by
  refine Blk.regsOnly_iff (Blk.onlyIn_regs (ps := [Part.hst, Part.out]) ?_ (by decide) _)
  simp
@[simp] theorem Blk.moderate_regsOnly {ps : List Nat} {a : Blk} (b : Blk) (t n : Nat) :
    a.regsOnly ps ((Blk.moderate b t n)) ↔ a.regsOnly ps b := by
  refine Blk.regsOnly_iff (Blk.onlyIn_regs (ps := [Part.hst, Part.inv, Part.out]) ?_ (by decide) _)
  simp
@[simp] theorem Blk.batchMarker_regsOnly {ps : List Nat} {a : Blk} (b : Blk) (cq n : Nat) :
    a.regsOnly ps ((Blk.batchMarker b cq n)) ↔ a.regsOnly ps b := by
  refine Blk.regsOnly_iff (Blk.onlyIn_regs (ps := [Part.hst, Part.out]) ?_ (by decide) _)
  simp
@[simp] theorem Blk.deliverOp_regsOnly {ps : List Nat} {a : Blk} (b : Blk) (id : OpId) :
    a.regsOnly ps ((Blk.deliverOp b id)) ↔ a.regsOnly ps b := by
  refine Blk.regsOnly_iff (Blk.onlyIn_regs (ps := [Part.hst, Part.out]) ?_ (by decide) _)
  simp
@[simp] theorem Blk.batchFlush_regsOnly {ps : List Nat} {a : Blk} (b : Blk) :
    a.regsOnly ps ((Blk.batchFlush b)) ↔ a.regsOnly ps b := by
  refine Blk.regsOnly_iff (Blk.onlyIn_regs (ps := [Part.hst, Part.out]) ?_ (by decide) _)
  simp
@[simp] theorem Blk.writeCoal_regsOnly {ps : List Nat} {a : Blk} (b : Blk) (cq : Nat) (c : Coal) :
    a.regsOnly ps ((Blk.writeCoal b cq c)) ↔ a.regsOnly ps b := by
  refine Blk.regsOnly_iff (Blk.onlyIn_regs (ps := [Part.hst, Part.out]) ?_ (by decide) _)
  simp
@[simp] theorem Blk.coalesce_regsOnly {ps : List Nat} {a : Blk} (b : Blk) (mask epoch time : Nat) (k0 :
    Reg.HST_COAL_DROP_COUNT ∈ ps) :
    a.regsOnly ps ((Blk.coalesce b mask epoch time)) ↔ a.regsOnly ps b := by
  unfold Blk.coalesce; (repeat' split) <;> simp [k0]
@[simp] theorem Blk.coalPending_regsOnly {ps : List Nat} {a : Blk} (b : Blk) (k0 : Reg.HST_COAL_DROP_COUNT ∈ ps) :
    a.regsOnly ps ((Blk.coalPending b)) ↔ a.regsOnly ps b := by
  unfold Blk.coalPending; (repeat' split) <;> simp [k0]
@[simp] theorem Blk.enableRing_regsOnly {ps : List Nat} {a : Blk} (b : Blk) (n : Nat) :
    a.regsOnly ps ((Blk.enableRing b n)) ↔ a.regsOnly ps b := by
  refine Blk.regsOnly_iff (Blk.onlyIn_regs (ps := [Part.hst]) ?_ (by decide) _)
  simp
@[simp] theorem Blk.disableRing_regsOnly {ps : List Nat} {a : Blk} (b : Blk) (n : Nat) :
    a.regsOnly ps ((Blk.disableRing b n)) ↔ a.regsOnly ps b := by
  refine Blk.regsOnly_iff (Blk.onlyIn_regs (ps := [Part.hst]) ?_ (by decide) _)
  simp
@[simp] theorem Blk.drainDone_regsOnly {ps : List Nat} {a : Blk} (b : Blk) (n : Nat) :
    a.regsOnly ps ((Blk.drainDone b n)) ↔ a.regsOnly ps b := by
  refine Blk.regsOnly_iff (Blk.onlyIn_regs (ps := [Part.hst]) ?_ (by decide) _)
  simp
@[simp] theorem Blk.persist_regsOnly {ps : List Nat} {a : Blk} (b : Blk) :
    a.regsOnly ps ((Blk.persist b)) ↔ a.regsOnly ps b := by
  refine Blk.regsOnly_iff (Blk.onlyIn_regs (ps := [Part.hst]) ?_ (by decide) _)
  simp
@[simp] theorem Blk.writeMsix_regsOnly {ps : List Nat} {a : Blk} (b : Blk) (v dw : Nat) (x : Word) :
    a.regsOnly ps ((Blk.writeMsix b v dw x)) ↔ a.regsOnly ps b := by
  refine Blk.regsOnly_iff (Blk.onlyIn_regs (ps := [Part.hst, Part.out]) ?_ (by decide) _)
  simp
@[simp] theorem Blk.setHead_regsOnly {ps : List Nat} {a : Blk} (b : Blk) (h : Nat) (x : Head) :
    a.regsOnly ps ((Blk.setHead b h x)) ↔ a.regsOnly ps b := by
  refine Blk.regsOnly_iff (Blk.onlyIn_regs (ps := [Part.hdl]) ?_ (by decide) _)
  simp
@[simp] theorem Blk.headSend_regsOnly {ps : List Nat} {a : Blk} (b : Blk) (h typ : Nat) (body : Bytes) :
    a.regsOnly ps ((Blk.headSend b h typ body)) ↔ a.regsOnly ps b := by
  refine Blk.regsOnly_iff (Blk.onlyIn_regs (ps := [Part.hdl, Part.out]) ?_ (by decide) _)
  simp
@[simp] theorem Blk.headsSend_regsOnly {ps : List Nat} {a : Blk} (b : Blk) (p : Nat → Bool) (typ : Nat) (body :
    Bytes) :
    a.regsOnly ps ((Blk.headsSend b p typ body)) ↔ a.regsOnly ps b := by
  refine Blk.regsOnly_iff (Blk.onlyIn_regs (ps := [Part.hdl, Part.out]) ?_ (by decide) _)
  simp
@[simp] theorem Blk.sendMember_regsOnly {ps : List Nat} {a : Blk} (b : Blk) (mix : Nat) :
    a.regsOnly ps ((Blk.sendMember b mix)) ↔ a.regsOnly ps b := by
  refine Blk.regsOnly_iff (Blk.onlyIn_regs (ps := [Part.hdl, Part.out]) ?_ (by decide) _)
  simp
@[simp] theorem Blk.pushElem_regsOnly {ps : List Nat} {a : Blk} (b : Blk) (mix : Nat) (e : Elem) :
    a.regsOnly ps ((Blk.pushElem b mix e)) ↔ a.regsOnly ps b := by
  refine Blk.regsOnly_iff (Blk.onlyIn_regs (ps := [Part.air]) ?_ (by decide) _)
  simp
@[simp] theorem Blk.dropElems_regsOnly {ps : List Nat} {a : Blk} (b : Blk) (mix : Nat) (p : Elem → Bool) :
    a.regsOnly ps ((Blk.dropElems b mix p)) ↔ a.regsOnly ps b := by
  refine Blk.regsOnly_iff (Blk.onlyIn_regs (ps := [Part.air]) ?_ (by decide) _)
  simp
@[simp] theorem Blk.airReply_regsOnly {ps : List Nat} {a : Blk} (b : Blk) (mix req status detail epoch : Nat) :
    a.regsOnly ps ((Blk.airReply b mix req status detail epoch)) ↔ a.regsOnly ps b := by
  refine Blk.regsOnly_iff (Blk.onlyIn_regs (ps := [Part.air]) ?_ (by decide) _)
  simp
@[simp] theorem Blk.applied_regsOnly {ps : List Nat} {a : Blk} (b : Blk) (e : Effect) (late : Bool) (k0 :
    Reg.MAP_LATE_COUNT ∈ ps) :
    a.regsOnly ps ((Blk.applied b e late)) ↔ a.regsOnly ps b := by
  unfold Blk.applied; (repeat' split) <;> simp [k0]
@[simp] theorem Blk.setCmp_regsOnly {ps : List Nat} {a : Blk} (b : Blk) (n : Nat) (x : CmpUnit) :
    a.regsOnly ps ((Blk.setCmp b n x)) ↔ a.regsOnly ps b := by
  refine Blk.regsOnly_iff (Blk.onlyIn_regs (ps := [Part.inv]) ?_ (by decide) _)
  simp
@[simp] theorem Blk.loadUnit_regsOnly {ps : List Nat} {a : Blk} (b : Blk) (e : Effect) :
    a.regsOnly ps ((Blk.loadUnit b e)) ↔ a.regsOnly ps b := by
  refine Blk.regsOnly_iff (Blk.onlyIn_regs (ps := [Part.inv]) ?_ (by decide) _)
  simp
@[simp] theorem Blk.loadTargets_regsOnly {ps : List Nat} {a : Blk} (b : Blk) :
    a.regsOnly ps ((Blk.loadTargets b)) ↔ a.regsOnly ps b := by
  refine Blk.regsOnly_iff (Blk.onlyIn_regs (ps := [Part.inv]) ?_ (by decide) _)
  simp
@[simp] theorem Blk.airApplied_regsOnly {ps : List Nat} {a : Blk} (b : Blk) (e : Effect) (k0 : Reg.MAP_LATE_COUNT ∈
    ps) :
    a.regsOnly ps ((Blk.airApplied b e)) ↔ a.regsOnly ps b := by
  unfold Blk.airApplied; dsimp only; (repeat' split) <;> simp [k0]
@[simp] theorem Blk.settleAir_regsOnly {ps : List Nat} {a : Blk} (b : Blk) (k0 : Reg.MAP_LATE_COUNT ∈ ps) :
    a.regsOnly ps (b.settleAir) ↔ a.regsOnly ps b := by
  unfold Blk.settleAir
  generalize b.fleet.effects.length = k
  induction k generalizing b with
  | zero => rfl
  | succ n ih => unfold Blk.settleAir.go; split <;> simp [ih, k0, Blk.foldl_regsOnly, Blk.ite_regsOnly]
@[simp] theorem Blk.pushEffects_regsOnly {ps : List Nat} {a : Blk} (b : Blk) (es : List Effect) :
    a.regsOnly ps ((Blk.pushEffects b es)) ↔ a.regsOnly ps b := by
  refine Blk.regsOnly_iff (Blk.onlyIn_regs (ps := [Part.air]) ?_ (by decide) _)
  simp
@[simp] theorem Blk.unload_regsOnly {ps : List Nat} {a : Blk} (b : Blk) (e : Effect) :
    a.regsOnly ps ((Blk.unload b e)) ↔ a.regsOnly ps b := by
  refine Blk.regsOnly_iff (Blk.onlyIn_regs (ps := [Part.inv]) ?_ (by decide) _)
  simp
@[simp] theorem Blk.cancelEffects_regsOnly {ps : List Nat} {a : Blk} (b : Blk) (p : Effect → Bool) :
    a.regsOnly ps ((Blk.cancelEffects b p)) ↔ a.regsOnly ps b := by
  refine Blk.regsOnly_iff (Blk.onlyIn_regs (ps := [Part.air, Part.dvt, Part.fleet, Part.inv]) ?_ (by decide) _)
  simp
@[simp] theorem Blk.memberLeft_regsOnly {ps : List Nat} {a : Blk} (b : Blk) (mix : Nat) (st : MState) (k0 :
    Reg.AIR_EFFECT_DROP_COUNT ∈ ps) :
    a.regsOnly ps ((Blk.memberLeft b mix st)) ↔ a.regsOnly ps b := by
  unfold Blk.memberLeft; simp [k0, Blk.foldl_regsOnly, Blk.ite_regsOnly]
@[simp] theorem Blk.keepFor_regsOnly {ps : List Nat} {a : Blk} (b : Blk) (mix : Nat) :
    a.regsOnly ps ((Blk.keepFor b mix)) ↔ a.regsOnly ps b := by
  refine Blk.regsOnly_iff (Blk.onlyIn_regs (ps := [Part.air]) ?_ (by decide) _)
  simp
@[simp] theorem Blk.memberServices_regsOnly {ps : List Nat} {a : Blk} (b : Blk) (mix : Nat) (old new : MState) :
    a.regsOnly ps ((Blk.memberServices b mix old new)) ↔ a.regsOnly ps b := by
  refine Blk.regsOnly_iff (Blk.onlyIn_regs (ps := [Part.gns, Part.pos]) ?_ (by decide) _)
  simp
@[simp] theorem Blk.memberChanged_regsOnly {ps : List Nat} {a : Blk} (b0 : Blk) (mix : Nat) (old new : MState) (k0 :
    Reg.AIR_EFFECT_DROP_COUNT ∈ ps) :
    a.regsOnly ps ((Blk.memberChanged b0 mix old new)) ↔ a.regsOnly ps b0 := by
  unfold Blk.memberChanged; (repeat' split) <;> simp [k0]
@[simp] theorem Blk.membersChanged_regsOnly {ps : List Nat} {a : Blk} (b : Blk) (old : Coherent) (k0 :
    Reg.AIR_EFFECT_DROP_COUNT ∈ ps) :
    a.regsOnly ps ((Blk.membersChanged b old)) ↔ a.regsOnly ps b := by
  unfold Blk.membersChanged; simp [k0, Blk.foldl_regsOnly, Blk.ite_regsOnly]
@[simp] theorem Blk.dvtItem_regsOnly {ps : List Nat} {a : Blk} (b : Blk) (source mix : Nat) (t : Txn) (status detail
    epoch : Nat) (ki : itemRegs ⊆ ps) :
    a.regsOnly ps ((Blk.dvtItem b source mix t status detail epoch)) ↔ a.regsOnly ps b := by
  unfold Blk.dvtItem; (repeat' split) <;> simp [ki, ki drop_mem]
@[simp] theorem Blk.useQuota_regsOnly {ps : List Nat} {a : Blk} (b : Blk) (mix : Nat) :
    a.regsOnly ps ((Blk.useQuota b mix)) ↔ a.regsOnly ps b := by
  refine Blk.regsOnly_iff (Blk.onlyIn_regs (ps := [Part.fleet]) ?_ (by decide) _)
  simp
@[simp] theorem Blk.answer_regsOnly {ps : List Nat} {a : Blk} (b : Blk) (t : Txn) (status detail epoch : Nat) (commit
    : Bool) (k0 : Reg.AIR_EFFECT_DROP_COUNT ∈ ps) (k1 : Reg.DVT_ABORT_COUNT ∈ ps) (k2 : Reg.DVT_COMMIT_COUNT ∈ ps)
    (k3 : Reg.DVT_DEADLOCK_COUNT ∈ ps) (k4 : Reg.MAP_LATE_COUNT ∈ ps) (ki : itemRegs ⊆ ps) :
    a.regsOnly ps ((Blk.answer b t status detail epoch commit)) ↔ a.regsOnly ps b := by
  unfold Blk.answer; (repeat' split) <;> simp [k0, k1, k2, k3, k4, ki, ki drop_mem]
@[simp] theorem Blk.abort_regsOnly {ps : List Nat} {a : Blk} (b : Blk) (t : Txn) (status detail : Nat) (k0 :
    Reg.AIR_EFFECT_DROP_COUNT ∈ ps) (k1 : Reg.DVT_ABORT_COUNT ∈ ps) (k2 : Reg.DVT_COMMIT_COUNT ∈ ps) (k3 :
    Reg.DVT_DEADLOCK_COUNT ∈ ps) (k4 : Reg.MAP_LATE_COUNT ∈ ps) (ki : itemRegs ⊆ ps) :
    a.regsOnly ps ((Blk.abort b t status detail)) ↔ a.regsOnly ps b := by
  unfold Blk.abort; (repeat' split) <;> simp [k0, k1, k2, k3, k4, ki, ki drop_mem]
@[simp] theorem Blk.copySnaps_regsOnly {ps : List Nat} {a : Blk} (b : Blk) :
    a.regsOnly ps ((Blk.copySnaps b)) ↔ a.regsOnly ps b := by
  refine Blk.regsOnly_iff (Blk.onlyIn_regs (ps := [Part.fleet]) ?_ (by decide) _)
  simp
@[simp] theorem Blk.install_regsOnly {ps : List Nat} {a : Blk} (b : Blk) (c : Coherent) (epoch : Nat) (es : List
    Effect) (k0 : Reg.AIR_EFFECT_DROP_COUNT ∈ ps) :
    a.regsOnly ps ((Blk.install b c epoch es)) ↔ a.regsOnly ps b := by
  unfold Blk.install; (repeat' split) <;> simp [k0]
@[simp] theorem Blk.commit_regsOnly {ps : List Nat} {a : Blk} (b : Blk) (t : Txn) (w : Work) (k0 :
    Reg.AIR_EFFECT_DROP_COUNT ∈ ps) (k1 : Reg.DVT_ABORT_COUNT ∈ ps) (k2 : Reg.DVT_COMMIT_COUNT ∈ ps) (k3 :
    Reg.DVT_DEADLOCK_COUNT ∈ ps) (k4 : Reg.MAP_LATE_COUNT ∈ ps) (ki : itemRegs ⊆ ps) :
    a.regsOnly ps ((Blk.commit b t w)) ↔ a.regsOnly ps b := by
  unfold Blk.commit; (repeat' split) <;> simp [k0, k1, k2, k3, k4, ki, ki drop_mem]
@[simp] theorem Blk.commitLate_regsOnly {ps : List Nat} {a : Blk} (b : Blk) (id : OpId) (w : Work) (k0 :
    Reg.AIR_EFFECT_DROP_COUNT ∈ ps) (k1 : Reg.DVT_COMMIT_COUNT ∈ ps) :
    a.regsOnly ps ((Blk.commitLate b id w)) ↔ a.regsOnly ps b := by
  unfold Blk.commitLate; (repeat' split) <;> simp [k0, k1]
@[simp] theorem Blk.endLate_regsOnly {ps : List Nat} {a : Blk} (b : Blk) (gone : List Effect) :
    a.regsOnly ps ((Blk.endLate b gone)) ↔ a.regsOnly ps b := by
  refine Blk.regsOnly_iff (Blk.onlyIn_regs (ps := [Part.dvt, Part.hst, Part.out]) ?_ (by decide) _)
  simp
@[simp] theorem Blk.dropWait_regsOnly {ps : List Nat} {a : Blk} (b : Blk) (src : Source) :
    a.regsOnly ps ((Blk.dropWait b src)) ↔ a.regsOnly ps b := by
  refine Blk.regsOnly_iff (Blk.onlyIn_regs (ps := [Part.dvt]) ?_ (by decide) _)
  simp
@[simp] theorem Blk.enterWait_regsOnly {ps : List Nat} {a : Blk} (b : Blk) (t : Txn) (onEpoch : Bool) (edges : List
    Edge) (k0 : Reg.AIR_EFFECT_DROP_COUNT ∈ ps) (k1 : Reg.DVT_ABORT_COUNT ∈ ps) (k2 : Reg.DVT_COMMIT_COUNT ∈ ps) (k3
    : Reg.DVT_DEADLOCK_COUNT ∈ ps) (k4 : Reg.MAP_LATE_COUNT ∈ ps) (ki : itemRegs ⊆ ps) :
    a.regsOnly ps ((Blk.enterWait b t onEpoch edges)) ↔ a.regsOnly ps b := by
  unfold Blk.enterWait; (repeat' split) <;> simp [k0, k1, k2, k3, k4, ki, ki drop_mem]
@[simp] theorem Blk.runTxn_regsOnly {ps : List Nat} {a : Blk} (b : Blk) (t : Txn) (k0 : Reg.AIR_EFFECT_DROP_COUNT ∈
    ps) (k1 : Reg.DVT_ABORT_COUNT ∈ ps) (k2 : Reg.DVT_COMMIT_COUNT ∈ ps) (k3 : Reg.DVT_DEADLOCK_COUNT ∈ ps) (k4 :
    Reg.MAP_LATE_COUNT ∈ ps) (ki : itemRegs ⊆ ps) :
    a.regsOnly ps ((Blk.runTxn b t)) ↔ a.regsOnly ps b := by
  unfold Blk.runTxn; (repeat' split) <;> simp [k0, k1, k2, k3, k4, ki, ki drop_mem]
@[simp] theorem Blk.runAgain_regsOnly {ps : List Nat} {a : Blk} (b : Blk) (w : Wait) (k0 : Reg.AIR_EFFECT_DROP_COUNT
    ∈ ps) (k1 : Reg.DVT_ABORT_COUNT ∈ ps) (k2 : Reg.DVT_COMMIT_COUNT ∈ ps) (k3 : Reg.DVT_DEADLOCK_COUNT ∈ ps) (k4 :
    Reg.MAP_LATE_COUNT ∈ ps) (ki : itemRegs ⊆ ps) :
    a.regsOnly ps ((Blk.runAgain b w)) ↔ a.regsOnly ps b := by
  unfold Blk.runAgain; (repeat' split) <;> simp [k0, k1, k2, k3, k4, ki, ki drop_mem]
@[simp] theorem Blk.rejudgeRound_regsOnly {ps : List Nat} {a : Blk} (b : Blk) (k0 : Reg.AIR_EFFECT_DROP_COUNT ∈ ps)
    (k1 : Reg.DVT_ABORT_COUNT ∈ ps) (k2 : Reg.DVT_COMMIT_COUNT ∈ ps) (k3 : Reg.DVT_DEADLOCK_COUNT ∈ ps) (k4 :
    Reg.MAP_LATE_COUNT ∈ ps) (ki : itemRegs ⊆ ps) :
    a.regsOnly ps ((Blk.rejudgeRound b)) ↔ a.regsOnly ps b := by
  unfold Blk.rejudgeRound; simp [k0, k1, k2, k3, k4, ki, ki drop_mem, Blk.foldl_regsOnly, Blk.ite_regsOnly]
@[simp] theorem Blk.rejudge_regsOnly {ps : List Nat} {a : Blk} (b : Blk) (k0 : Reg.AIR_EFFECT_DROP_COUNT ∈ ps) (k1 :
    Reg.DVT_ABORT_COUNT ∈ ps) (k2 : Reg.DVT_COMMIT_COUNT ∈ ps) (k3 : Reg.DVT_DEADLOCK_COUNT ∈ ps) (k4 :
    Reg.MAP_LATE_COUNT ∈ ps) (ki : itemRegs ⊆ ps) :
    a.regsOnly ps (b.rejudge) ↔ a.regsOnly ps b := by
  unfold Blk.rejudge
  generalize b.dvt.waits.length + 1 = k
  induction k generalizing b with
  | zero => rfl
  | succ n ih => unfold Blk.rejudge.go; split <;> simp [ih, k0, k1, k2, k3, k4, ki, ki drop_mem, Blk.foldl_regsOnly,
      Blk.ite_regsOnly]
@[simp] theorem Blk.settleReassoc_regsOnly {ps : List Nat} {a : Blk} (b : Blk) (k0 : Reg.AIR_EFFECT_DROP_COUNT ∈ ps)
    (k1 : Reg.DVT_ABORT_COUNT ∈ ps) (k2 : Reg.DVT_COMMIT_COUNT ∈ ps) (k3 : Reg.DVT_DEADLOCK_COUNT ∈ ps) (k4 :
    Reg.MAP_LATE_COUNT ∈ ps) (ki : itemRegs ⊆ ps) :
    a.regsOnly ps ((Blk.settleReassoc b)) ↔ a.regsOnly ps b := by
  unfold Blk.settleReassoc; simp [k0, k1, k2, k3, k4, ki, ki drop_mem, Blk.foldl_regsOnly, Blk.ite_regsOnly]
@[simp] theorem Blk.airRun_regsOnly {ps : List Nat} {a : Blk} (b : Blk) (mix : Nat) (t : Txn) (k0 :
    Reg.AIR_EFFECT_DROP_COUNT ∈ ps) (k1 : Reg.DVT_ABORT_COUNT ∈ ps) (k2 : Reg.DVT_COMMIT_COUNT ∈ ps) (k3 :
    Reg.DVT_DEADLOCK_COUNT ∈ ps) (k4 : Reg.MAP_LATE_COUNT ∈ ps) (ki : itemRegs ⊆ ps) :
    a.regsOnly ps ((Blk.airRun b mix t)) ↔ a.regsOnly ps b := by
  unfold Blk.airRun; (repeat' split) <;> simp [k0, k1, k2, k3, k4, ki, ki drop_mem]
@[simp] theorem Blk.airTxn_regsOnly {ps : List Nat} {a : Blk} (b : Blk) (mix : Nat) (t : Txn) (k0 :
    Reg.AIR_EFFECT_DROP_COUNT ∈ ps) (k1 : Reg.DVT_ABORT_COUNT ∈ ps) (k2 : Reg.DVT_COMMIT_COUNT ∈ ps) (k3 :
    Reg.DVT_DEADLOCK_COUNT ∈ ps) (k4 : Reg.MAP_LATE_COUNT ∈ ps) (ki : itemRegs ⊆ ps) :
    a.regsOnly ps ((Blk.airTxn b mix t)) ↔ a.regsOnly ps b := by
  unfold Blk.airTxn; (repeat' split) <;> simp [k0, k1, k2, k3, k4, ki, ki drop_mem]
@[simp] theorem Blk.admitTxn_regsOnly {ps : List Nat} {a : Blk} (b : Blk) (mix : Nat) (t : Txn) (k0 :
    Reg.AIR_EFFECT_DROP_COUNT ∈ ps) (k1 : Reg.DVT_ABORT_COUNT ∈ ps) (k2 : Reg.DVT_COMMIT_COUNT ∈ ps) (k3 :
    Reg.DVT_DEADLOCK_COUNT ∈ ps) (k4 : Reg.MAP_LATE_COUNT ∈ ps) (ki : itemRegs ⊆ ps) :
    a.regsOnly ps ((Blk.admitTxn b mix t)) ↔ a.regsOnly ps b := by
  unfold Blk.admitTxn; dsimp only; (repeat' split) <;> simp [k0, k1, k2, k3, k4, ki, ki drop_mem]
@[simp] theorem Blk.ahead_regsOnly {ps : List Nat} {a : Blk} (b : Blk) (k0 : Reg.AIR_EFFECT_DROP_COUNT ∈ ps) (k1 :
    Reg.DVT_ABORT_COUNT ∈ ps) (k2 : Reg.DVT_COMMIT_COUNT ∈ ps) (k3 : Reg.DVT_DEADLOCK_COUNT ∈ ps) (k4 :
    Reg.MAP_LATE_COUNT ∈ ps) (ki : itemRegs ⊆ ps) :
    a.regsOnly ps ((Blk.ahead b)) ↔ a.regsOnly ps b := by
  unfold Blk.ahead; (repeat' split) <;> simp [k0, k1, k2, k3, k4, ki, ki drop_mem]
@[simp] theorem Blk.noteTurn_regsOnly {ps : List Nat} {a : Blk} (b : Blk) (air : Bool) :
    a.regsOnly ps ((Blk.noteTurn b air)) ↔ a.regsOnly ps b := by
  refine Blk.regsOnly_iff (Blk.onlyIn_regs (ps := [Part.dvt]) ?_ (by decide) _)
  simp
@[simp] theorem Blk.runReleased_regsOnly {ps : List Nat} {a : Blk} (b : Blk) (w : Wait) (k0 :
    Reg.AIR_EFFECT_DROP_COUNT ∈ ps) (k1 : Reg.DVT_ABORT_COUNT ∈ ps) (k2 : Reg.DVT_COMMIT_COUNT ∈ ps) (k3 :
    Reg.DVT_DEADLOCK_COUNT ∈ ps) (k4 : Reg.MAP_LATE_COUNT ∈ ps) (ki : itemRegs ⊆ ps) :
    a.regsOnly ps ((Blk.runReleased b w)) ↔ a.regsOnly ps b := by
  unfold Blk.runReleased; (repeat' split) <;> simp [k0, k1, k2, k3, k4, ki, ki drop_mem]
@[simp] theorem Blk.runAdmitted_regsOnly {ps : List Nat} {a : Blk} (b : Blk) (p : Nat × Txn) (k0 :
    Reg.AIR_EFFECT_DROP_COUNT ∈ ps) (k1 : Reg.DVT_ABORT_COUNT ∈ ps) (k2 : Reg.DVT_COMMIT_COUNT ∈ ps) (k3 :
    Reg.DVT_DEADLOCK_COUNT ∈ ps) (k4 : Reg.MAP_LATE_COUNT ∈ ps) (ki : itemRegs ⊆ ps) :
    a.regsOnly ps ((Blk.runAdmitted b p)) ↔ a.regsOnly ps b := by
  unfold Blk.runAdmitted; (repeat' split) <;> simp [k0, k1, k2, k3, k4, ki, ki drop_mem]
theorem Blk.takeTurn_regsOnly {ps : List Nat} {a b' : Blk} (b : Blk) (host : Bool) (k0 : Reg.AIR_EFFECT_DROP_COUNT ∈
    ps) (k1 : Reg.DVT_ABORT_COUNT ∈ ps) (k2 : Reg.DVT_COMMIT_COUNT ∈ ps) (k3 : Reg.DVT_DEADLOCK_COUNT ∈ ps) (k4 :
    Reg.MAP_LATE_COUNT ∈ ps) (ki : itemRegs ⊆ ps)
    (h : b.takeTurn host = some b') : a.regsOnly ps b' ↔ a.regsOnly ps b := by
  unfold Blk.takeTurn at h
  repeat' split at h
  all_goals first | (simp at h; done) | (simp only [Option.some.injEq] at h; subst h; (repeat' split) <;> simp [k0,
      k1, k2, k3, k4, ki, ki drop_mem, Blk.foldl_regsOnly, Blk.ite_regsOnly])
@[simp] theorem Blk.takeTurns_regsOnly {ps : List Nat} {a : Blk} (b : Blk) (host : Bool) (k0 :
    Reg.AIR_EFFECT_DROP_COUNT ∈ ps) (k1 : Reg.DVT_ABORT_COUNT ∈ ps) (k2 : Reg.DVT_COMMIT_COUNT ∈ ps) (k3 :
    Reg.DVT_DEADLOCK_COUNT ∈ ps) (k4 : Reg.MAP_LATE_COUNT ∈ ps) (ki : itemRegs ⊆ ps) :
    a.regsOnly ps (b.takeTurns host) ↔ a.regsOnly ps b := by
  unfold Blk.takeTurns
  generalize b.dvt.waits.length + b.dvt.admission.length = k
  induction k generalizing b with
  | zero => rfl
  | succ n ih =>
    unfold Blk.takeTurns.go; split
    · rfl
    · rename_i b' hb; rw [ih, Blk.takeTurn_regsOnly b host k0 k1 k2 k3 k4 ki hb]
@[simp] theorem Blk.runHost_regsOnly {ps : List Nat} {a : Blk} (b : Blk) (t : Txn) (freeze : Bool) (k0 :
    Reg.AIR_EFFECT_DROP_COUNT ∈ ps) (k1 : Reg.DVT_ABORT_COUNT ∈ ps) (k2 : Reg.DVT_COMMIT_COUNT ∈ ps) (k3 :
    Reg.DVT_DEADLOCK_COUNT ∈ ps) (k4 : Reg.MAP_LATE_COUNT ∈ ps) (ki : itemRegs ⊆ ps) :
    a.regsOnly ps ((Blk.runHost b t freeze)) ↔ a.regsOnly ps b := by
  unfold Blk.runHost; (repeat' split) <;> simp [k0, k1, k2, k3, k4, ki, ki drop_mem]
@[simp] theorem Blk.hostTxn_regsOnly {ps : List Nat} {a : Blk} (b : Blk) (t : Txn) (freeze : Bool) (k0 :
    Reg.AIR_EFFECT_DROP_COUNT ∈ ps) (k1 : Reg.DVT_ABORT_COUNT ∈ ps) (k2 : Reg.DVT_COMMIT_COUNT ∈ ps) (k3 :
    Reg.DVT_DEADLOCK_COUNT ∈ ps) (k4 : Reg.MAP_LATE_COUNT ∈ ps) (ki : itemRegs ⊆ ps) :
    a.regsOnly ps ((Blk.hostTxn b t freeze)) ↔ a.regsOnly ps b := by
  unfold Blk.hostTxn; (repeat' split) <;> simp [k0, k1, k2, k3, k4, ki, ki drop_mem]
@[simp] theorem Blk.waitCancel_regsOnly {ps : List Nat} {a : Blk} (d : Desc) (b : Blk) (k0 :
    Reg.AIR_EFFECT_DROP_COUNT ∈ ps) (k1 : Reg.DVT_ABORT_COUNT ∈ ps) (k2 : Reg.DVT_COMMIT_COUNT ∈ ps) (k3 :
    Reg.DVT_DEADLOCK_COUNT ∈ ps) (k4 : Reg.MAP_LATE_COUNT ∈ ps) (ki : itemRegs ⊆ ps) :
    a.regsOnly ps ((Blk.waitCancel d b)) ↔ a.regsOnly ps b := by
  unfold Blk.waitCancel; dsimp only; (repeat' split) <;> simp [k0, k1, k2, k3, k4, ki, ki drop_mem]
@[simp] theorem Blk.waitsRead_regsOnly {ps : List Nat} {a : Blk} (d : Desc) (b : Blk) :
    a.regsOnly ps ((Blk.waitsRead d b)) ↔ a.regsOnly ps b := by
  refine Blk.regsOnly_iff (Blk.onlyIn_regs (ps := [Part.hst, Part.out]) ?_ (by decide) _)
  simp
@[simp] theorem Blk.timeoutWaits_regsOnly {ps : List Nat} {a : Blk} (b : Blk) (p : Wait → Bool) (cause : Nat) (k0 :
    Reg.AIR_EFFECT_DROP_COUNT ∈ ps) (k1 : Reg.DVT_ABORT_COUNT ∈ ps) (k2 : Reg.DVT_COMMIT_COUNT ∈ ps) (k3 :
    Reg.DVT_DEADLOCK_COUNT ∈ ps) (k4 : Reg.MAP_LATE_COUNT ∈ ps) (ki : itemRegs ⊆ ps) :
    a.regsOnly ps ((Blk.timeoutWaits b p cause)) ↔ a.regsOnly ps b := by
  unfold Blk.timeoutWaits; simp [k0, k1, k2, k3, k4, ki, ki drop_mem, Blk.foldl_regsOnly, Blk.ite_regsOnly]
@[simp] theorem Blk.waitLimit_regsOnly {ps : List Nat} {a : Blk} (b0 : Blk) (t : Nat) (k0 : Reg.AIR_EFFECT_DROP_COUNT
    ∈ ps) (k1 : Reg.DVT_ABORT_COUNT ∈ ps) (k2 : Reg.DVT_COMMIT_COUNT ∈ ps) (k3 : Reg.DVT_DEADLOCK_COUNT ∈ ps) (k4 :
    Reg.MAP_LATE_COUNT ∈ ps) (ki : itemRegs ⊆ ps) :
    a.regsOnly ps ((Blk.waitLimit b0 t)) ↔ a.regsOnly ps b0 := by
  unfold Blk.waitLimit; dsimp only; (repeat' split) <;> simp [k0, k1, k2, k3, k4, ki, ki drop_mem]
@[simp] theorem Blk.afterLimit_regsOnly {ps : List Nat} {a : Blk} (b0 : Blk) (t : Nat) (k0 :
    Reg.AIR_EFFECT_DROP_COUNT ∈ ps) (k1 : Reg.DVT_ABORT_COUNT ∈ ps) (k2 : Reg.DVT_COMMIT_COUNT ∈ ps) (k3 :
    Reg.DVT_DEADLOCK_COUNT ∈ ps) (k4 : Reg.MAP_LATE_COUNT ∈ ps) (ki : itemRegs ⊆ ps) :
    a.regsOnly ps ((Blk.afterLimit b0 t)) ↔ a.regsOnly ps b0 := by
  unfold Blk.afterLimit; (repeat' split) <;> simp [k0, k1, k2, k3, k4, ki, ki drop_mem]
@[simp] theorem Blk.airJudge_regsOnly {ps : List Nat} {a : Blk} (b : Blk) (k0 : Reg.AIR_EFFECT_DROP_COUNT ∈ ps) (k1 :
    Reg.DVT_ABORT_COUNT ∈ ps) (k2 : Reg.DVT_COMMIT_COUNT ∈ ps) (k3 : Reg.DVT_DEADLOCK_COUNT ∈ ps) (k4 :
    Reg.MAP_LATE_COUNT ∈ ps) (ki : itemRegs ⊆ ps) :
    a.regsOnly ps b.airJudge ↔ a.regsOnly ps b := by
  unfold Blk.airJudge
  generalize b.dvt.waits.length + 1 = k
  have go : ∀ (k : Nat) (c : Blk), a.regsOnly ps (Blk.airJudge.go k c) ↔ a.regsOnly ps c := by
    intro k
    induction k with
    | zero => intro c; rfl
    | succ n ih => intro c; unfold Blk.airJudge.go; (repeat' split) <;> simp [ih, k0, k1, k2, k3, k4, ki, ki
        drop_mem, Blk.foldl_regsOnly, Blk.ite_regsOnly]
  rw [go]; simp [k0, k1, k2, k3, k4, ki, ki drop_mem, Blk.foldl_regsOnly, Blk.ite_regsOnly]
@[simp] theorem Blk.quotaPeriod_regsOnly {ps : List Nat} {a : Blk} (b : Blk) :
    a.regsOnly ps ((Blk.quotaPeriod b)) ↔ a.regsOnly ps b := by
  refine Blk.regsOnly_iff (Blk.onlyIn_regs (ps := [Part.dvt, Part.fleet]) ?_ (by decide) _)
  simp
@[simp] theorem Blk.runDevice_regsOnly {ps : List Nat} {a : Blk} (b : Blk) (mix : Nat) (acts : List Bytes) (k0 :
    Reg.AIR_EFFECT_DROP_COUNT ∈ ps) (k1 : Reg.DVT_ABORT_COUNT ∈ ps) (k2 : Reg.DVT_COMMIT_COUNT ∈ ps) (k3 :
    Reg.DVT_DEADLOCK_COUNT ∈ ps) (k4 : Reg.MAP_LATE_COUNT ∈ ps) (ki : itemRegs ⊆ ps) :
    a.regsOnly ps ((Blk.runDevice b mix acts)) ↔ a.regsOnly ps b := by
  unfold Blk.runDevice; (repeat' split) <;> simp [k0, k1, k2, k3, k4, ki, ki drop_mem]
@[simp] theorem Blk.yield_regsOnly {ps : List Nat} {a : Blk} (b : Blk) (k0 : Reg.AIR_EFFECT_DROP_COUNT ∈ ps) (k1 :
    Reg.DVT_ABORT_COUNT ∈ ps) (k2 : Reg.DVT_COMMIT_COUNT ∈ ps) (k3 : Reg.DVT_DEADLOCK_COUNT ∈ ps) (k4 :
    Reg.MAP_LATE_COUNT ∈ ps) (ki : itemRegs ⊆ ps) :
    a.regsOnly ps b.yield ↔ a.regsOnly ps b := by
  unfold Blk.yield; split
  · rename_i hb; exact Blk.takeTurn_regsOnly b false k0 k1 k2 k3 k4 ki hb
  · simp [k0, k1, k2, k3, k4, ki, ki drop_mem, Blk.foldl_regsOnly, Blk.ite_regsOnly]
  · rfl
@[simp] theorem Blk.device_regsOnly {ps : List Nat} {a : Blk} (b : Blk) (mix : Nat) (c : DevCause) (k0 :
    Reg.AIR_EFFECT_DROP_COUNT ∈ ps) (k1 : Reg.DVT_ABORT_COUNT ∈ ps) (k2 : Reg.DVT_COMMIT_COUNT ∈ ps) (k3 :
    Reg.DVT_DEADLOCK_COUNT ∈ ps) (k4 : Reg.MAP_LATE_COUNT ∈ ps) (ki : itemRegs ⊆ ps) :
    a.regsOnly ps ((Blk.device b mix c)) ↔ a.regsOnly ps b := by
  unfold Blk.device; dsimp only; (repeat' split) <;> simp [k0, k1, k2, k3, k4, ki, ki drop_mem]
@[simp] theorem Blk.taskDone_regsOnly {ps : List Nat} {a : Blk} (b : Blk) (mix task : Nat) (req : Option Nat) (k0 :
    Reg.AIR_EFFECT_DROP_COUNT ∈ ps) (k1 : Reg.DVT_ABORT_COUNT ∈ ps) (k2 : Reg.DVT_COMMIT_COUNT ∈ ps) (k3 :
    Reg.DVT_DEADLOCK_COUNT ∈ ps) (k4 : Reg.MAP_LATE_COUNT ∈ ps) (ki : itemRegs ⊆ ps) :
    a.regsOnly ps ((Blk.taskDone b mix task req)) ↔ a.regsOnly ps b := by
  unfold Blk.taskDone; dsimp only; (repeat' split) <;> simp [k0, k1, k2, k3, k4, ki, ki drop_mem]
@[simp] theorem Blk.replayOne_regsOnly {ps : List Nat} {a : Blk} (b : Blk) (mix : Nat) (d : Deferral) (k0 :
    Reg.AIR_EFFECT_DROP_COUNT ∈ ps) (k1 : Reg.DVT_ABORT_COUNT ∈ ps) (k2 : Reg.DVT_COMMIT_COUNT ∈ ps) (k3 :
    Reg.DVT_DEADLOCK_COUNT ∈ ps) (k4 : Reg.MAP_LATE_COUNT ∈ ps) (ki : itemRegs ⊆ ps) :
    a.regsOnly ps ((Blk.replayOne b mix d)) ↔ a.regsOnly ps b := by
  unfold Blk.replayOne; (repeat' split) <;> simp [k0, k1, k2, k3, k4, ki, ki drop_mem]
@[simp] theorem Blk.replay_regsOnly {ps : List Nat} {a : Blk} (b : Blk) (k0 : Reg.AIR_EFFECT_DROP_COUNT ∈ ps) (k1 :
    Reg.DVT_ABORT_COUNT ∈ ps) (k2 : Reg.DVT_COMMIT_COUNT ∈ ps) (k3 : Reg.DVT_DEADLOCK_COUNT ∈ ps) (k4 :
    Reg.MAP_LATE_COUNT ∈ ps) (ki : itemRegs ⊆ ps) :
    a.regsOnly ps ((Blk.replay b)) ↔ a.regsOnly ps b := by
  unfold Blk.replay; simp [k0, k1, k2, k3, k4, ki, ki drop_mem, Blk.foldl_regsOnly, Blk.ite_regsOnly]
@[simp] theorem Blk.srcActive_regsOnly {ps : List Nat} {a : Blk} (b : Blk) (bit : Nat) (on : Bool) :
    a.regsOnly ps ((Blk.srcActive b bit on)) ↔ a.regsOnly ps b := by
  refine Blk.regsOnly_iff (Blk.onlyIn_regs (ps := [Part.clp]) ?_ (by decide) _)
  simp
@[simp] theorem Blk.syncInternal_regsOnly {ps : List Nat} {a : Blk} (b : Blk) :
    a.regsOnly ps ((Blk.syncInternal b)) ↔ a.regsOnly ps b := by
  refine Blk.regsOnly_iff (Blk.onlyIn_regs (ps := [Part.clp]) ?_ (by decide) _)
  simp
@[simp] theorem Blk.noteCmon_regsOnly {ps : List Nat} {a : Blk} (b old : Blk) :
    a.regsOnly ps ((Blk.noteCmon b old)) ↔ a.regsOnly ps b := by
  refine Blk.regsOnly_iff (Blk.onlyIn_regs (ps := [Part.clp]) ?_ (by decide) _)
  simp
@[simp] theorem Blk.noteCmonCfg_regsOnly {ps : List Nat} {a : Blk} (b old : Blk) :
    a.regsOnly ps ((Blk.noteCmonCfg b old)) ↔ a.regsOnly ps b := by
  refine Blk.regsOnly_iff (Blk.onlyIn_regs (ps := [Part.clp]) ?_ (by decide) _)
  simp
@[simp] theorem Blk.setGroup_regsOnly {ps : List Nat} {a : Blk} (b : Blk) (g : Nat) (st : GState) :
    a.regsOnly ps ((Blk.setGroup b g st)) ↔ a.regsOnly ps b := by
  refine Blk.regsOnly_iff (Blk.onlyIn_regs (ps := [Part.clp]) ?_ (by decide) _)
  simp
@[simp] theorem Blk.mapLoad_regsOnly {ps : List Nat} {a : Blk} (d : Desc) (b : Blk) :
    a.regsOnly ps ((Blk.mapLoad d b)) ↔ a.regsOnly ps b := by
  refine Blk.regsOnly_iff (Blk.onlyIn_regs (ps := [Part.fleet, Part.hst, Part.out]) ?_ (by decide) _)
  simp
@[simp] theorem Blk.imageRead_regsOnly {ps : List Nat} {a : Blk} (image : Bytes) (b : Blk) :
    a.regsOnly ps ((Blk.imageRead image b)) ↔ a.regsOnly ps b := by
  refine Blk.regsOnly_iff (Blk.onlyIn_regs (ps := [Part.fleet, Part.hst, Part.out]) ?_ (by decide) _)
  simp
@[simp] theorem Blk.tellStates_regsOnly {ps : List Nat} {a : Blk} (b : Blk) (rel : Nat) :
    a.regsOnly ps ((Blk.tellStates b rel)) ↔ a.regsOnly ps b := by
  refine Blk.regsOnly_iff (Blk.onlyIn_regs (ps := [Part.air]) ?_ (by decide) _)
  simp
@[simp] theorem Blk.eccMasks_regsOnly {ps : List Nat} {a : Blk} (b : Blk) :
    a.regsOnly ps ((Blk.eccMasks b).2.2) ↔ a.regsOnly ps b := by
  refine Blk.regsOnly_iff (Blk.onlyIn_regs (ps := [Part.fresh]) ?_ (by decide) _)
  simp
@[simp] theorem Blk.switchMap_regsOnly {ps : List Nat} {a : Blk} (b : Blk) (m : SiteMap) (k0 :
    Reg.AIR_EFFECT_DROP_COUNT ∈ ps) (k1 : Reg.DVT_ABORT_COUNT ∈ ps) (k2 : Reg.DVT_COMMIT_COUNT ∈ ps) (k3 :
    Reg.DVT_DEADLOCK_COUNT ∈ ps) (k4 : Reg.MAP_LATE_COUNT ∈ ps) (ki : itemRegs ⊆ ps) :
    a.regsOnly ps (b.switchMap m) ↔ a.regsOnly ps b := by
  unfold Blk.switchMap
  dsimp only
  simp only [Blk.tellStates_regsOnly, k0, k1, k2, k3, k4, ki, ki drop_mem, Blk.foldl_regsOnly, Blk.ite_regsOnly]
  rw [Blk.foldl_regsOnly (fun c x => by simp [k0, k1, k2, k3, k4, ki, ki drop_mem, Blk.foldl_regsOnly,
      Blk.ite_regsOnly]), Blk.foldl_regsOnly (fun c x => by simp [k0, k1, k2, k3, k4, ki, ki drop_mem,
      Blk.foldl_regsOnly, Blk.ite_regsOnly])]
  simp only [Blk.record_regsOnly, Blk.membersChanged_regsOnly, Blk.syncInternal_regsOnly, Blk.bump_regsOnly, k0, k1,
      k2, k3, k4, ki, ki drop_mem, Blk.foldl_regsOnly, Blk.ite_regsOnly]
  generalize hb : (if b.inService then b.copySnaps else b) = b0
  have e : a.regsOnly ps b0 ↔ a.regsOnly ps b := by subst hb; split <;> simp [k0, k1, k2, k3, k4, ki, ki drop_mem,
      Blk.foldl_regsOnly, Blk.ite_regsOnly]
  rw [← e, Blk.regsOnly_iff (b := (b0.eccMasks.2.2.cancelEffects fun _ => true)) (fun p hp => ?_)]
  · simp [k0, k1, k2, k3, k4, ki, ki drop_mem, Blk.foldl_regsOnly, Blk.ite_regsOnly]
  · cases p <;> first | rfl | exact absurd (by assumption) hp
@[simp] theorem Blk.mapSwitch_regsOnly {ps : List Nat} {a : Blk} (d : Desc) (b : Blk) (k0 : Reg.AIR_EFFECT_DROP_COUNT
    ∈ ps) (k1 : Reg.DVT_ABORT_COUNT ∈ ps) (k2 : Reg.DVT_COMMIT_COUNT ∈ ps) (k3 : Reg.DVT_DEADLOCK_COUNT ∈ ps) (k4 :
    Reg.MAP_LATE_COUNT ∈ ps) (ki : itemRegs ⊆ ps) :
    a.regsOnly ps (Blk.mapSwitch d b) ↔ a.regsOnly ps b := by
  unfold Blk.mapSwitch; dsimp only
  have e := Blk.settleAir_regsOnly (ps := ps) (a := a) b (by assumption)
  rw [← e]
  generalize b.settleAir = b1
  (repeat' split) <;> simp [k0, k1, k2, k3, k4, ki, ki drop_mem, Blk.foldl_regsOnly, Blk.ite_regsOnly]
@[simp] theorem Blk.beginSnap_regsOnly {ps : List Nat} {a : Blk} (b : Blk) (d : Desc) (v : SnapView) (e : Nat) :
    a.regsOnly ps ((Blk.beginSnap b d v e)) ↔ a.regsOnly ps b := by
  refine Blk.regsOnly_iff (Blk.onlyIn_regs (ps := [Part.fleet, Part.hst, Part.out]) ?_ (by decide) _)
  simp
@[simp] theorem Blk.snapshot_regsOnly {ps : List Nat} {a : Blk} (d : Desc) (b0 : Blk) (k0 : Reg.MAP_LATE_COUNT ∈ ps) :
    a.regsOnly ps ((Blk.snapshot d b0)) ↔ a.regsOnly ps b0 := by
  unfold Blk.snapshot; dsimp only; (repeat' split) <;> simp [k0]
@[simp] theorem Blk.snapAtEpoch_regsOnly {ps : List Nat} {a : Blk} (b : Blk) (k0 : Reg.MAP_LATE_COUNT ∈ ps) :
    a.regsOnly ps ((Blk.snapAtEpoch b)) ↔ a.regsOnly ps b := by
  unfold Blk.snapAtEpoch; simp [k0, Blk.foldl_regsOnly, Blk.ite_regsOnly]
@[simp] theorem Blk.snapTimeout_regsOnly {ps : List Nat} {a : Blk} (b0 : Blk) (t : Nat) :
    a.regsOnly ps ((Blk.snapTimeout b0 t)) ↔ a.regsOnly ps b0 := by
  refine Blk.regsOnly_iff (Blk.onlyIn_regs (ps := [Part.fleet, Part.hst, Part.inv, Part.out]) ?_ (by decide) _)
  simp
@[simp] theorem Blk.runQueued_regsOnly {ps : List Nat} {a : Blk} (b : Blk) (k0 : Reg.MAP_LATE_COUNT ∈ ps) :
    a.regsOnly ps b.runQueued ↔ a.regsOnly ps b := by
  unfold Blk.runQueued
  generalize b.fleet.snapQueue.length = k
  induction k generalizing b with
  | zero => rfl
  | succ n ih => unfold Blk.runQueued.go; (repeat' split) <;> simp [ih, k0, Blk.foldl_regsOnly, Blk.ite_regsOnly]
@[simp] theorem Blk.snapWritten_regsOnly {ps : List Nat} {a : Blk} (b : Blk) (k0 : Reg.MAP_LATE_COUNT ∈ ps) :
    a.regsOnly ps ((Blk.snapWritten b)) ↔ a.regsOnly ps b := by
  unfold Blk.snapWritten; dsimp only; repeat' split
  all_goals simp [k0, Blk.foldl_regsOnly, Blk.ite_regsOnly]
@[simp] theorem Blk.applyMark_regsOnly {ps : List Nat} {a : Blk} (b : Blk) (e : Effect) (k0 : Reg.MAP_LATE_COUNT ∈
    ps) (ki : itemRegs ⊆ ps) :
    a.regsOnly ps ((Blk.applyMark b e)) ↔ a.regsOnly ps b := by
  unfold Blk.applyMark; (repeat' split) <;> simp [k0, ki, ki drop_mem]
@[simp] theorem Blk.applyMarks_regsOnly {ps : List Nat} {a : Blk} (b0 : Blk) (t : Nat) (k0 : Reg.MAP_LATE_COUNT ∈ ps)
    (ki : itemRegs ⊆ ps) :
    a.regsOnly ps ((Blk.applyMarks b0 t)) ↔ a.regsOnly ps b0 := by
  unfold Blk.applyMarks; simp [k0, ki, ki drop_mem, Blk.foldl_regsOnly, Blk.ite_regsOnly]
@[simp] theorem Blk.queueBind_regsOnly {ps : List Nat} {a : Blk} (d : Desc) (b : Blk) :
    a.regsOnly ps ((Blk.queueBind d b)) ↔ a.regsOnly ps b := by
  refine Blk.regsOnly_iff (Blk.onlyIn_regs (ps := [Part.hst, Part.mem, Part.out]) ?_ (by decide) _)
  simp
@[simp] theorem Blk.queueUnbind_regsOnly {ps : List Nat} {a : Blk} (d : Desc) (b : Blk) :
    a.regsOnly ps ((Blk.queueUnbind d b)) ↔ a.regsOnly ps b := by
  refine Blk.regsOnly_iff (Blk.onlyIn_regs (ps := [Part.hst, Part.mem, Part.out]) ?_ (by decide) _)
  simp
@[simp] theorem Blk.invEdge_regsOnly {ps : List Nat} {a : Blk} (b : Blk) :
    a.regsOnly ps ((Blk.invEdge b)) ↔ a.regsOnly ps b := by
  refine Blk.regsOnly_iff (Blk.onlyIn_regs (ps := [Part.inv]) ?_ (by decide) _)
  simp
@[simp] theorem Blk.toRc_regsOnly {ps : List Nat} {a : Blk} (b : Blk)  :
    a.regsOnly ps b.toRc ↔ a.regsOnly ps b := by
  refine Blk.regsOnly_iff (fun p hp => ?_)
  unfold Blk.toRc; split <;> cases p <;> first | rfl | exact absurd (by assumption) hp
@[simp] theorem Blk.invItem_regsOnly {ps : List Nat} {a : Blk} (b : Blk) (typ : Nat) (data : Bytes) (ki : itemRegs ⊆
    ps) :
    a.regsOnly ps ((Blk.invItem b typ data)) ↔ a.regsOnly ps b := by
  unfold Blk.invItem; (repeat' split) <;> simp [ki, ki drop_mem]
@[simp] theorem Blk.timeItem_regsOnly {ps : List Nat} {a : Blk} (b : Blk) (event old new port : Nat) (value : Int)
    (ki : itemRegs ⊆ ps) :
    a.regsOnly ps ((Blk.timeItem b event old new port value)) ↔ a.regsOnly ps b := by
  unfold Blk.timeItem; (repeat' split) <;> simp [ki, ki drop_mem]
@[simp] theorem Blk.setLan_regsOnly {ps : List Nat} {a : Blk} (b : Blk) (p : Nat) (x : LanPort) :
    a.regsOnly ps ((Blk.setLan b p x)) ↔ a.regsOnly ps b := by
  refine Blk.regsOnly_iff (Blk.onlyIn_regs (ps := [Part.inv]) ?_ (by decide) _)
  simp
@[simp] theorem Blk.select_regsOnly {ps : List Nat} {a : Blk} (b : Blk) (sel : Nat) (ki : itemRegs ⊆ ps) :
    a.regsOnly ps ((Blk.select b sel)) ↔ a.regsOnly ps b := by
  unfold Blk.select; dsimp only; (repeat' split) <;> simp [ki, ki drop_mem]
@[simp] theorem Blk.setTimeState_regsOnly {ps : List Nat} {a : Blk} (b : Blk) (st : TimeState) (ki : itemRegs ⊆ ps) :
    a.regsOnly ps ((Blk.setTimeState b st)) ↔ a.regsOnly ps b := by
  unfold Blk.setTimeState; dsimp only; (repeat' split) <;> simp [ki, ki drop_mem]
@[simp] theorem Blk.evalTime_regsOnly {ps : List Nat} {a : Blk} (b : Blk) (ki : itemRegs ⊆ ps) :
    a.regsOnly ps ((Blk.evalTime b)) ↔ a.regsOnly ps b := by
  unfold Blk.evalTime; dsimp only; (repeat' split) <;> simp [ki, ki drop_mem]
@[simp] theorem Blk.storeSeconds_regsOnly {ps : List Nat} {a : Blk} (b : Blk) :
    a.regsOnly ps ((Blk.storeSeconds b)) ↔ a.regsOnly ps b := by
  refine Blk.regsOnly_iff (Blk.onlyIn_regs (ps := [Part.inv]) ?_ (by decide) _)
  simp
@[simp] theorem Blk.secondsAt_regsOnly {ps : List Nat} {a : Blk} (t : Nat) (b : Blk) :
    a.regsOnly ps ((Blk.secondsAt t b)) ↔ a.regsOnly ps b := by
  refine Blk.regsOnly_iff (Blk.onlyIn_regs (ps := [Part.inv]) ?_ (by decide) _)
  simp
@[simp] theorem Blk.ppsOut_regsOnly {ps : List Nat} {a : Blk} (b0 : Blk) (t : Nat) :
    a.regsOnly ps ((Blk.ppsOut b0 t)) ↔ a.regsOnly ps b0 := by
  refine Blk.regsOnly_iff (Blk.onlyIn_regs (ps := [Part.inv, Part.out]) ?_ (by decide) _)
  simp
@[simp] theorem Blk.ppsIn_regsOnly {ps : List Nat} {a : Blk} (b0 : Blk) (t : Nat) (rising : Bool) (ki : itemRegs ⊆
    ps) :
    a.regsOnly ps ((Blk.ppsIn b0 t rising)) ↔ a.regsOnly ps b0 := by
  unfold Blk.ppsIn; dsimp only; (repeat' split) <;> simp [ki, ki drop_mem]
@[simp] theorem Blk.ppsLoss_regsOnly {ps : List Nat} {a : Blk} (b0 : Blk) (t : Nat) (ki : itemRegs ⊆ ps) :
    a.regsOnly ps ((Blk.ppsLoss b0 t)) ↔ a.regsOnly ps b0 := by
  unfold Blk.ppsLoss; dsimp only; (repeat' split) <;> simp [ki, ki drop_mem]
@[simp] theorem Blk.holdLo_regsOnly {ps : List Nat} {a : Blk} (b : Blk) (off : Nat) (w : Word) :
    a.regsOnly ps ((Blk.holdLo b off w)) ↔ a.regsOnly ps b := by
  refine Blk.regsOnly_iff (Blk.onlyIn_regs (ps := [Part.heldLo]) ?_ (by decide) _)
  simp
@[simp] theorem Blk.timeStep_regsOnly {ps : List Nat} {a : Blk} (d : Desc) (b : Blk) :
    a.regsOnly ps ((Blk.timeStep d b)) ↔ a.regsOnly ps b := by
  refine Blk.regsOnly_iff (Blk.onlyIn_regs (ps := [Part.hst, Part.inv, Part.out]) ?_ (by decide) _)
  simp
@[simp] theorem Blk.stepApply_regsOnly {ps : List Nat} {a : Blk} (b0 : Blk) (ki : itemRegs ⊆ ps) :
    a.regsOnly ps ((Blk.stepApply b0)) ↔ a.regsOnly ps b0 := by
  unfold Blk.stepApply; dsimp only; (repeat' split) <;> simp [ki, ki drop_mem]
@[simp] theorem Blk.ptpRx_regsOnly {ps : List Nat} {a : Blk} (b : Blk) (p : Nat) (frame : Bytes) :
    a.regsOnly ps ((Blk.ptpRx b p frame)) ↔ a.regsOnly ps b := by
  refine Blk.regsOnly_iff (Blk.onlyIn_regs (ps := [Part.inv]) ?_ (by decide) _)
  simp
@[simp] theorem Blk.ptpTx_regsOnly {ps : List Nat} {a : Blk} (b : Blk) (p : Nat) (frame : Bytes) :
    a.regsOnly ps ((Blk.ptpTx b p frame)) ↔ a.regsOnly ps b := by
  refine Blk.regsOnly_iff (Blk.onlyIn_regs (ps := [Part.inv]) ?_ (by decide) _)
  simp
@[simp] theorem Blk.lanRx_regsOnly {ps : List Nat} {a : Blk} (t p : Nat) (frame : Bytes) (b0 : Blk) (k0 :
    Reg.INV_LAN_DROP_COUNT ∈ ps) (ki : itemRegs ⊆ ps) :
    a.regsOnly ps ((Blk.lanRx t p frame b0)) ↔ a.regsOnly ps b0 := by
  unfold Blk.lanRx; dsimp only; (repeat' split) <;> simp [k0, ki, ki drop_mem]
@[simp] theorem Blk.lanEnd_regsOnly {ps : List Nat} {a : Blk} (t p : Nat) (b0 : Blk) (ki : itemRegs ⊆ ps) :
    a.regsOnly ps ((Blk.lanEnd t p b0)) ↔ a.regsOnly ps b0 := by
  unfold Blk.lanEnd; dsimp only; (repeat' split) <;> simp [ki, ki drop_mem]
@[simp] theorem Blk.lanSend_regsOnly {ps : List Nat} {a : Blk} (t : Nat) (d : Desc) (frame : Bytes) (b0 : Blk) :
    a.regsOnly ps ((Blk.lanSend t d frame b0)) ↔ a.regsOnly ps b0 := by
  refine Blk.regsOnly_iff (Blk.onlyIn_regs (ps := [Part.hst, Part.inv, Part.out]) ?_ (by decide) _)
  simp
@[simp] theorem Blk.lanRxBind_regsOnly {ps : List Nat} {a : Blk} (d : Desc) (b : Blk) :
    a.regsOnly ps ((Blk.lanRxBind d b)) ↔ a.regsOnly ps b := by
  refine Blk.regsOnly_iff (Blk.onlyIn_regs (ps := [Part.hst, Part.inv, Part.out]) ?_ (by decide) _)
  simp
@[simp] theorem Blk.fireUnit_regsOnly {ps : List Nat} {a : Blk} (b : Blk) (n : Nat) (k0 : Reg.INV_CMP_LATE_COUNT ∈
    ps) (ki : itemRegs ⊆ ps) :
    a.regsOnly ps ((Blk.fireUnit b n)) ↔ a.regsOnly ps b := by
  unfold Blk.fireUnit; dsimp only; (repeat' split) <;> simp [k0, ki, ki drop_mem]
@[simp] theorem Blk.firedEffect_regsOnly {ps : List Nat} {a : Blk} (b : Blk) (n : Nat) (x : CmpUnit) (k0 :
    Reg.MAP_LATE_COUNT ∈ ps) :
    a.regsOnly ps ((Blk.firedEffect b n x)) ↔ a.regsOnly ps b := by
  unfold Blk.firedEffect; (repeat' split) <;> simp [k0]
@[simp] theorem Blk.fireDue_regsOnly {ps : List Nat} {a : Blk} (b : Blk) (n : Nat) (k0 : Reg.INV_CMP_LATE_COUNT ∈ ps)
    (k1 : Reg.MAP_LATE_COUNT ∈ ps) (ki : itemRegs ⊆ ps) :
    a.regsOnly ps ((Blk.fireDue b n)) ↔ a.regsOnly ps b := by
  unfold Blk.fireDue; dsimp only; (repeat' split) <;> simp [k0, k1, ki, ki drop_mem]
@[simp] theorem Blk.armDue_regsOnly {ps : List Nat} {a : Blk} (b : Blk) (n : Nat) (k0 : Reg.INV_CMP_LATE_COUNT ∈ ps)
    (k1 : Reg.MAP_LATE_COUNT ∈ ps) (ki : itemRegs ⊆ ps) :
    a.regsOnly ps ((Blk.armDue b n)) ↔ a.regsOnly ps b := by
  unfold Blk.armDue; (repeat' split) <;> simp [k0, k1, ki, ki drop_mem]
@[simp] theorem Blk.compareFire_regsOnly {ps : List Nat} {a : Blk} (b0 : Blk) (t n : Nat) (k0 :
    Reg.INV_CMP_LATE_COUNT ∈ ps) (k1 : Reg.MAP_LATE_COUNT ∈ ps) (ki : itemRegs ⊆ ps) :
    a.regsOnly ps ((Blk.compareFire b0 t n)) ↔ a.regsOnly ps b0 := by
  unfold Blk.compareFire; simp [k0, k1, ki, ki drop_mem, Blk.foldl_regsOnly, Blk.ite_regsOnly]
@[simp] theorem Blk.hostArm_regsOnly {ps : List Nat} {a : Blk} (b : Blk) (n : Nat) (k0 : Reg.INV_CMP_LATE_COUNT ∈ ps)
    (k1 : Reg.MAP_LATE_COUNT ∈ ps) (ki : itemRegs ⊆ ps) :
    a.regsOnly ps ((Blk.hostArm b n)) ↔ a.regsOnly ps b := by
  unfold Blk.hostArm; dsimp only; (repeat' split) <;> simp [k0, k1, ki, ki drop_mem]
@[simp] theorem Blk.modMot_regsOnly {ps : List Nat} {a : Blk} (b : Blk) (n : Nat) (f : AxMot → AxMot) :
    a.regsOnly ps ((Blk.modMot b n f)) ↔ a.regsOnly ps b := by
  refine Blk.regsOnly_iff (Blk.onlyIn_regs (ps := [Part.axs]) ?_ (by decide) _)
  simp
@[simp] theorem Blk.modIo_regsOnly {ps : List Nat} {a : Blk} (b : Blk) (n : Nat) (f : AxIo → AxIo) :
    a.regsOnly ps ((Blk.modIo b n f)) ↔ a.regsOnly ps b := by
  refine Blk.regsOnly_iff (Blk.onlyIn_regs (ps := [Part.axs]) ?_ (by decide) _)
  simp
@[simp] theorem Blk.modLoop_regsOnly {ps : List Nat} {a : Blk} (b : Blk) (n : Nat) (f : AxLoop → AxLoop) :
    a.regsOnly ps ((Blk.modLoop b n f)) ↔ a.regsOnly ps b := by
  refine Blk.regsOnly_iff (Blk.onlyIn_regs (ps := [Part.axs]) ?_ (by decide) _)
  simp
@[simp] theorem Blk.axsItem_regsOnly {ps : List Nat} {a : Blk} (b : Blk) (n event : Nat) (value : Int) (epoch : Nat)
    (ki : itemRegs ⊆ ps) :
    a.regsOnly ps ((Blk.axsItem b n event value epoch)) ↔ a.regsOnly ps b := by
  unfold Blk.axsItem; (repeat' split) <;> simp [ki, ki drop_mem]
@[simp] theorem Blk.finishEff_regsOnly {ps : List Nat} {a : Blk} (b : Blk) (e : Nat × Nat) :
    a.regsOnly ps ((Blk.finishEff b e)) ↔ a.regsOnly ps b := by
  refine Blk.regsOnly_iff (Blk.onlyIn_regs (ps := [Part.dvt]) ?_ (by decide) _)
  simp
@[simp] theorem Blk.finishAll_regsOnly {ps : List Nat} {a : Blk} (b : Blk) (n : Nat) :
    a.regsOnly ps ((Blk.finishAll b n)) ↔ a.regsOnly ps b := by
  refine Blk.regsOnly_iff (Blk.onlyIn_regs (ps := [Part.axs, Part.dvt]) ?_ (by decide) _)
  simp
@[simp] theorem Blk.disarm_regsOnly {ps : List Nat} {a : Blk} (b : Blk) (n : Nat) :
    a.regsOnly ps ((Blk.disarm b n)) ↔ a.regsOnly ps b := by
  refine Blk.regsOnly_iff (Blk.onlyIn_regs (ps := [Part.axs, Part.dvt, Part.hst, Part.out]) ?_ (by decide) _)
  simp
@[simp] theorem Blk.markDone_regsOnly {ps : List Nat} {a : Blk} (b : Blk) (n : Nat) :
    a.regsOnly ps ((Blk.markDone b n)) ↔ a.regsOnly ps b := by
  refine Blk.regsOnly_iff (Blk.onlyIn_regs (ps := [Part.axs]) ?_ (by decide) _)
  simp
@[simp] theorem Blk.completeAxis_regsOnly {ps : List Nat} {a : Blk} (b : Blk) (n : Nat) :
    a.regsOnly ps ((Blk.completeAxis b n)) ↔ a.regsOnly ps b := by
  refine Blk.regsOnly_iff (Blk.onlyIn_regs (ps := [Part.axs, Part.dvt]) ?_ (by decide) _)
  simp
@[simp] theorem Blk.setGMove_regsOnly {ps : List Nat} {a : Blk} (b : Blk) (g : Nat) (x : GMove) :
    a.regsOnly ps ((Blk.setGMove b g x)) ↔ a.regsOnly ps b := by
  refine Blk.regsOnly_iff (Blk.onlyIn_regs (ps := [Part.axs]) ?_ (by decide) _)
  simp
@[simp] theorem Blk.delGMove_regsOnly {ps : List Nat} {a : Blk} (b : Blk) (g : Nat) :
    a.regsOnly ps ((Blk.delGMove b g)) ↔ a.regsOnly ps b := by
  refine Blk.regsOnly_iff (Blk.onlyIn_regs (ps := [Part.axs]) ?_ (by decide) _)
  simp
@[simp] theorem Blk.slowGroup_regsOnly {ps : List Nat} {a : Blk} (b : Blk) (g : Nat) (dec : Nat → Int) (jerk : Bool)
    (turn : Option Nat) :
    a.regsOnly ps ((Blk.slowGroup b g dec jerk turn)) ↔ a.regsOnly ps b := by
  refine Blk.regsOnly_iff (Blk.onlyIn_regs (ps := [Part.axs]) ?_ (by decide) _)
  simp
@[simp] theorem Blk.leaveGroup_regsOnly {ps : List Nat} {a : Blk} (b : Blk) (g n : Nat) (dec : Nat → Int) (jerk :
    Bool) (turn : Option Nat) :
    a.regsOnly ps ((Blk.leaveGroup b g n dec jerk turn)) ↔ a.regsOnly ps b := by
  refine Blk.regsOnly_iff (Blk.onlyIn_regs (ps := [Part.axs, Part.dvt]) ?_ (by decide) _)
  simp
@[simp] theorem Blk.dropWaiting_regsOnly {ps : List Nat} {a : Blk} (b : Blk) (n : Nat) :
    a.regsOnly ps ((Blk.dropWaiting b n)) ↔ a.regsOnly ps b := by
  refine Blk.regsOnly_iff (Blk.onlyIn_regs (ps := [Part.axs, Part.dvt]) ?_ (by decide) _)
  simp
@[simp] theorem Blk.endMotion_regsOnly {ps : List Nat} {a : Blk} (b : Blk) (n : Nat) (dec : Nat → Int) (jerk : Bool)
    (turn : Option Nat) :
    a.regsOnly ps ((Blk.endMotion b n dec jerk turn)) ↔ a.regsOnly ps b := by
  refine Blk.regsOnly_iff (Blk.onlyIn_regs (ps := [Part.axs, Part.dvt, Part.hst, Part.out]) ?_ (by decide) _)
  simp
@[simp] theorem Blk.noteFault_regsOnly {ps : List Nat} {a : Blk} (b : Blk) (n code epoch : Nat) (ki : itemRegs ⊆ ps) :
    a.regsOnly ps ((Blk.noteFault b n code epoch)) ↔ a.regsOnly ps b := by
  unfold Blk.noteFault; (repeat' split) <;> simp [ki, ki drop_mem]
@[simp] theorem Blk.holdAt_regsOnly {ps : List Nat} {a : Blk} (b : Blk) (n : Nat) :
    a.regsOnly ps ((Blk.holdAt b n)) ↔ a.regsOnly ps b := by
  refine Blk.regsOnly_iff (Blk.onlyIn_regs (ps := [Part.axs]) ?_ (by decide) _)
  simp
@[simp] theorem Blk.decelAxis_regsOnly {ps : List Nat} {a : Blk} (b : Blk) (n : Nat) (dec j : Int) (soft : Bool) :
    a.regsOnly ps ((Blk.decelAxis b n dec j soft)) ↔ a.regsOnly ps b := by
  refine Blk.regsOnly_iff (Blk.onlyIn_regs (ps := [Part.axs]) ?_ (by decide) _)
  simp
@[simp] theorem Blk.groupFaults_regsOnly {ps : List Nat} {a : Blk} (b : Blk) (g n : Nat) (ki : itemRegs ⊆ ps) :
    a.regsOnly ps ((Blk.groupFaults b g n)) ↔ a.regsOnly ps b := by
  unfold Blk.groupFaults; simp [ki, ki drop_mem, Blk.foldl_regsOnly, Blk.ite_regsOnly]
@[simp] theorem Blk.groupStop_regsOnly {ps : List Nat} {a : Blk} (b : Blk) (g n : Nat) (ki : itemRegs ⊆ ps) :
    a.regsOnly ps ((Blk.groupStop b g n)) ↔ a.regsOnly ps b := by
  unfold Blk.groupStop; (repeat' split) <;> simp [ki, ki drop_mem]
@[simp] theorem Blk.react_regsOnly {ps : List Nat} {a : Blk} (b : Blk) (n code severity : Nat) (ki : itemRegs ⊆ ps) :
    a.regsOnly ps ((Blk.react b n code severity)) ↔ a.regsOnly ps b := by
  unfold Blk.react; (repeat' split) <;> simp [ki, ki drop_mem]
@[simp] theorem Blk.faultAt_regsOnly {ps : List Nat} {a : Blk} (b : Blk) (n code epoch : Nat) (ki : itemRegs ⊆ ps) :
    a.regsOnly ps ((Blk.faultAt b n code epoch)) ↔ a.regsOnly ps b := by
  unfold Blk.faultAt; dsimp only; (repeat' split) <;> simp [ki, ki drop_mem]
@[simp] theorem Blk.raiseFault_regsOnly {ps : List Nat} {a : Blk} (b : Blk) (n code : Nat) (ki : itemRegs ⊆ ps) :
    a.regsOnly ps ((Blk.raiseFault b n code)) ↔ a.regsOnly ps b := by
  unfold Blk.raiseFault; (repeat' split) <;> simp [ki, ki drop_mem]
@[simp] theorem Blk.postFault_regsOnly {ps : List Nat} {a : Blk} (b : Blk) (n code : Nat) :
    a.regsOnly ps ((Blk.postFault b n code)) ↔ a.regsOnly ps b := by
  refine Blk.regsOnly_iff (Blk.onlyIn_regs (ps := [Part.axs]) ?_ (by decide) _)
  simp
@[simp] theorem Blk.masterFault_regsOnly {ps : List Nat} {a : Blk} (b : Blk) (ch : Nat) (ki : itemRegs ⊆ ps) :
    a.regsOnly ps ((Blk.masterFault b ch)) ↔ a.regsOnly ps b := by
  unfold Blk.masterFault; simp [ki, ki drop_mem, Blk.foldl_regsOnly, Blk.ite_regsOnly]
@[simp] theorem Blk.cutAxes_regsOnly {ps : List Nat} {a : Blk} (b : Blk) (g : Nat) :
    a.regsOnly ps ((Blk.cutAxes b g)) ↔ a.regsOnly ps b := by
  refine Blk.regsOnly_iff (Blk.onlyIn_regs (ps := [Part.axs, Part.dvt, Part.hst, Part.out]) ?_ (by decide) _)
  simp
@[simp] theorem Blk.rampAxis_regsOnly {ps : List Nat} {a : Blk} (b : Blk) (n : Nat) :
    a.regsOnly ps ((Blk.rampAxis b n)) ↔ a.regsOnly ps b := by
  refine Blk.regsOnly_iff (Blk.onlyIn_regs (ps := [Part.axs, Part.dvt, Part.hst, Part.out]) ?_ (by decide) _)
  simp
@[simp] theorem Blk.rampAxes_regsOnly {ps : List Nat} {a : Blk} (b : Blk) (gs : List Nat) :
    a.regsOnly ps ((Blk.rampAxes b gs)) ↔ a.regsOnly ps b := by
  refine Blk.regsOnly_iff (Blk.onlyIn_regs (ps := [Part.axs, Part.dvt, Part.hst, Part.out]) ?_ (by decide) _)
  simp
@[simp] theorem Blk.rebase_regsOnly {ps : List Nat} {a : Blk} (b : Blk) (n : Nat) :
    a.regsOnly ps ((Blk.rebase b n)) ↔ a.regsOnly ps b := by
  refine Blk.regsOnly_iff (Blk.onlyIn_regs (ps := [Part.axs]) ?_ (by decide) _)
  simp
@[simp] theorem Blk.shiftPos_regsOnly {ps : List Nat} {a : Blk} (b : Blk) (n : Nat) (k : Int) :
    a.regsOnly ps ((Blk.shiftPos b n k)) ↔ a.regsOnly ps b := by
  refine Blk.regsOnly_iff (Blk.onlyIn_regs (ps := [Part.axs]) ?_ (by decide) _)
  simp
@[simp] theorem Blk.latchAt_regsOnly {ps : List Nat} {a : Blk} (b : Blk) (n : Nat) (raw : Int) (ki : itemRegs ⊆ ps) :
    a.regsOnly ps ((Blk.latchAt b n raw)) ↔ a.regsOnly ps b := by
  unfold Blk.latchAt; (repeat' split) <;> simp [ki, ki drop_mem]
@[simp] theorem Blk.homeJog_regsOnly {ps : List Nat} {a : Blk} (b : Blk) (n : Nat) (h : HomePlan) (ph : HomePhase)
    (speed : Int) :
    a.regsOnly ps ((Blk.homeJog b n h ph speed)) ↔ a.regsOnly ps b := by
  refine Blk.regsOnly_iff (Blk.onlyIn_regs (ps := [Part.axs]) ?_ (by decide) _)
  simp
@[simp] theorem Blk.homeStop_regsOnly {ps : List Nat} {a : Blk} (b : Blk) (n : Nat) (h : HomePlan) (ph : HomePhase)
    (dec : Int) :
    a.regsOnly ps ((Blk.homeStop b n h ph dec)) ↔ a.regsOnly ps b := by
  refine Blk.regsOnly_iff (Blk.onlyIn_regs (ps := [Part.axs]) ?_ (by decide) _)
  simp
@[simp] theorem Blk.homeFinal_regsOnly {ps : List Nat} {a : Blk} (b : Blk) (n : Nat) (h : HomePlan) :
    a.regsOnly ps ((Blk.homeFinal b n h)) ↔ a.regsOnly ps b := by
  refine Blk.regsOnly_iff (Blk.onlyIn_regs (ps := [Part.axs]) ?_ (by decide) _)
  simp
@[simp] theorem Blk.homeStart_regsOnly {ps : List Nat} {a : Blk} (b : Blk) (n method : Nat) (ki : itemRegs ⊆ ps) :
    a.regsOnly ps ((Blk.homeStart b n method)) ↔ a.regsOnly ps b := by
  unfold Blk.homeStart; dsimp only; (repeat' split) <;> simp [ki, ki drop_mem]
@[simp] theorem Blk.homeRest_regsOnly {ps : List Nat} {a : Blk} (b : Blk) (n : Nat) :
    a.regsOnly ps ((Blk.homeRest b n)) ↔ a.regsOnly ps b := by
  refine Blk.regsOnly_iff (Blk.onlyIn_regs (ps := [Part.axs]) ?_ (by decide) _)
  simp
@[simp] theorem Blk.homeEdge_regsOnly {ps : List Nat} {a : Blk} (b : Blk) (n : Nat) (h : HomePlan) (which : Nat)
    (active : Bool) (pos : Int) (ki : itemRegs ⊆ ps) :
    a.regsOnly ps ((Blk.homeEdge b n h which active pos)) ↔ a.regsOnly ps b := by
  unfold Blk.homeEdge; dsimp only; (repeat' split) <;> simp [ki, ki drop_mem]
@[simp] theorem Blk.homeZ_regsOnly {ps : List Nat} {a : Blk} (b : Blk) (n : Nat) (h : HomePlan) (pos : Int) (ki :
    itemRegs ⊆ ps) :
    a.regsOnly ps ((Blk.homeZ b n h pos)) ↔ a.regsOnly ps b := by
  unfold Blk.homeZ; (repeat' split) <;> simp [ki, ki drop_mem]
@[simp] theorem Blk.homeAdvance_regsOnly {ps : List Nat} {a : Blk} (b : Blk) (n : Nat) (h : HomePlan) (ki : itemRegs
    ⊆ ps) :
    a.regsOnly ps ((Blk.homeAdvance b n h)) ↔ a.regsOnly ps b := by
  unfold Blk.homeAdvance; dsimp only; (repeat' split) <;> simp [ki, ki drop_mem]
@[simp] theorem Blk.losePhase_regsOnly {ps : List Nat} {a : Blk} (b : Blk) (n : Nat) (offset : Int) (ki : itemRegs ⊆
    ps) :
    a.regsOnly ps ((Blk.losePhase b n offset)) ↔ a.regsOnly ps b := by
  unfold Blk.losePhase; (repeat' split) <;> simp [ki, ki drop_mem]
@[simp] theorem Blk.sourced_regsOnly {ps : List Nat} {a : Blk} (b : Blk) (n : Nat) (want offset : Int) (cap : Option
    (Nat × Nat)) (ki : itemRegs ⊆ ps) :
    a.regsOnly ps ((Blk.sourced b n want offset cap).1) ↔ a.regsOnly ps b := by
  unfold Blk.sourced; dsimp only; (repeat' split) <;> simp [ki, ki drop_mem]
@[simp] theorem Blk.engage_regsOnly {ps : List Nat} {a : Blk} (b : Blk) (n : Nat) (p : GearPlan) (dm : Int) (ki :
    itemRegs ⊆ ps) :
    a.regsOnly ps ((Blk.engage b n p dm)) ↔ a.regsOnly ps b := by
  unfold Blk.engage; dsimp only; (repeat' split) <;> simp [ki, ki drop_mem]
@[simp] theorem Blk.geared_regsOnly {ps : List Nat} {a : Blk} (b : Blk) (n : Nat) (p : GearPlan) (dm : Int) (ki :
    itemRegs ⊆ ps) :
    a.regsOnly ps ((Blk.geared b n p dm)) ↔ a.regsOnly ps b := by
  unfold Blk.geared; dsimp only; (repeat' split) <;> simp [ki, ki drop_mem]
@[simp] theorem Blk.capRest_regsOnly {ps : List Nat} {a : Blk} (b : Blk) (n : Nat) (cap : Option (Nat × Nat)) :
    a.regsOnly ps ((Blk.capRest b n cap)) ↔ a.regsOnly ps b := by
  refine Blk.regsOnly_iff (Blk.onlyIn_regs (ps := [Part.axs]) ?_ (by decide) _)
  simp
@[simp] theorem Blk.following_regsOnly {ps : List Nat} {a : Blk} (b : Blk) (n : Nat) (p : FollowPlan) (ki : itemRegs
    ⊆ ps) :
    a.regsOnly ps ((Blk.following b n p)) ↔ a.regsOnly ps b := by
  unfold Blk.following; dsimp only; (repeat' split) <;> simp [ki, ki drop_mem]
@[simp] theorem Blk.startTable_regsOnly {ps : List Nat} {a : Blk} (b : Blk) (n : Nat) (p : TablePlan) (delayed :
    Bool) (k0 : Reg.MAP_LATE_COUNT ∈ ps) (ki : itemRegs ⊆ ps) :
    a.regsOnly ps ((Blk.startTable b n p delayed)) ↔ a.regsOnly ps b := by
  unfold Blk.startTable; (repeat' split) <;> simp [k0, ki, ki drop_mem]
@[simp] theorem Blk.runTable_regsOnly {ps : List Nat} {a : Blk} (b : Blk) (n : Nat) (p : TablePlan) :
    a.regsOnly ps ((Blk.runTable b n p)) ↔ a.regsOnly ps b := by
  refine Blk.regsOnly_iff (Blk.onlyIn_regs (ps := [Part.axs]) ?_ (by decide) _)
  simp
@[simp] theorem Blk.followMv_regsOnly {ps : List Nat} {a : Blk} (b : Blk) (n : Nat) (mv : Mv) (ki : itemRegs ⊆ ps) :
    a.regsOnly ps ((Blk.followMv b n mv).1) ↔ a.regsOnly ps b := by
  unfold Blk.followMv; dsimp only; (repeat' split) <;> simp [ki, ki drop_mem]
@[simp] theorem Blk.tableAdvance_regsOnly {ps : List Nat} {a : Blk} (b : Blk) (n : Nat) (p : TablePlan) (k0 :
    Reg.MAP_LATE_COUNT ∈ ps) (ki : itemRegs ⊆ ps) :
    a.regsOnly ps ((Blk.tableAdvance b n p)) ↔ a.regsOnly ps b := by
  unfold Blk.tableAdvance; dsimp only; (repeat' split) <;> simp [k0, ki, ki drop_mem]
@[simp] theorem Blk.cameToRest_regsOnly {ps : List Nat} {a : Blk} (b : Blk) (n : Nat) (soft : Bool) (ki : itemRegs ⊆
    ps) :
    a.regsOnly ps ((Blk.cameToRest b n soft)) ↔ a.regsOnly ps b := by
  unfold Blk.cameToRest; (repeat' split) <;> simp [ki, ki drop_mem]
@[simp] theorem Blk.onPath_regsOnly {ps : List Nat} {a : Blk} (b : Blk) (n g : Nat) :
    a.regsOnly ps ((Blk.onPath b n g)) ↔ a.regsOnly ps b := by
  refine Blk.regsOnly_iff (Blk.onlyIn_regs (ps := [Part.axs]) ?_ (by decide) _)
  simp
@[simp] theorem Blk.axAdvance_regsOnly {ps : List Nat} {a : Blk} (b : Blk) (n : Nat) (dm : Int) (k0 :
    Reg.MAP_LATE_COUNT ∈ ps) (ki : itemRegs ⊆ ps) :
    a.regsOnly ps ((Blk.axAdvance b n dm)) ↔ a.regsOnly ps b := by
  unfold Blk.axAdvance; dsimp only; (repeat' split) <;> simp [k0, ki, ki drop_mem]
@[simp] theorem Blk.softWatch_regsOnly {ps : List Nat} {a : Blk} (b : Blk) (n : Nat) :
    a.regsOnly ps ((Blk.softWatch b n)) ↔ a.regsOnly ps b := by
  refine Blk.regsOnly_iff (Blk.onlyIn_regs (ps := [Part.axs, Part.dvt, Part.hst, Part.out]) ?_ (by decide) _)
  simp
@[simp] theorem Blk.inputAt_regsOnly {ps : List Nat} {a : Blk} (b : Blk) (n which : Nat) (active : Bool) (pos : Int)
    (ki : itemRegs ⊆ ps) :
    a.regsOnly ps ((Blk.inputAt b n which active pos)) ↔ a.regsOnly ps b := by
  unfold Blk.inputAt; dsimp only; (repeat' split) <;> simp [ki, ki drop_mem]
@[simp] theorem Blk.drainInbox_regsOnly {ps : List Nat} {a : Blk} (b : Blk) (n : Nat) (ki : itemRegs ⊆ ps) :
    a.regsOnly ps ((Blk.drainInbox b n)) ↔ a.regsOnly ps b := by
  unfold Blk.drainInbox; try dsimp only
  all_goals (repeat' split)
  all_goals (try refine (Blk.foldl_regsOnly (fun b x => ?_) _ _).trans ?_)
  all_goals (repeat' split)
  all_goals (try simp [ki, ki drop_mem, Blk.foldl_regsOnly, Blk.ite_regsOnly])
@[simp] theorem Blk.engageNow_regsOnly {ps : List Nat} {a : Blk} (b : Blk) (n : Nat) (r : Ratio) (eff : Nat × Nat) :
    a.regsOnly ps ((Blk.engageNow b n r eff)) ↔ a.regsOnly ps b := by
  refine Blk.regsOnly_iff (Blk.onlyIn_regs (ps := [Part.axs, Part.dvt, Part.hst, Part.out]) ?_ (by decide) _)
  simp
@[simp] theorem Blk.changeRatio_regsOnly {ps : List Nat} {a : Blk} (b : Blk) (n : Nat) (p : GearPlan) (a' : Arm)
    (past dm m : Int) (ki : itemRegs ⊆ ps) :
    a.regsOnly ps ((Blk.changeRatio b n p a' past dm m)) ↔ a.regsOnly ps b := by
  unfold Blk.changeRatio; (repeat' split) <;> simp [ki, ki drop_mem]
@[simp] theorem Blk.tryArm_regsOnly {ps : List Nat} {a : Blk} (b : Blk) (n : Nat) (dm m : Int) (ki : itemRegs ⊆ ps) :
    a.regsOnly ps ((Blk.tryArm b n dm m)) ↔ a.regsOnly ps b := by
  unfold Blk.tryArm; dsimp only; (repeat' split) <;> simp [ki, ki drop_mem]
@[simp] theorem Blk.armGear_regsOnly {ps : List Nat} {a : Blk} (b : Blk) (n : Nat) (r : Ratio) (pos : Int) (eff : Nat
    × Nat) (dm m : Int) (ki : itemRegs ⊆ ps) :
    a.regsOnly ps ((Blk.armGear b n r pos eff dm m)) ↔ a.regsOnly ps b := by
  unfold Blk.armGear; (repeat' split) <;> simp [ki, ki drop_mem]
@[simp] theorem Blk.dropEffect_regsOnly {ps : List Nat} {a : Blk} (b : Blk) (e : Effect) (k0 : Reg.AXS_DROP_COUNT ∈
    ps) :
    a.regsOnly ps ((Blk.dropEffect b e)) ↔ a.regsOnly ps b := by
  unfold Blk.dropEffect; (repeat' split) <;> simp [k0]
@[simp] theorem Blk.doneNow_regsOnly {ps : List Nat} {a : Blk} (b : Blk) (n : Nat) (e : Effect) :
    a.regsOnly ps ((Blk.doneNow b n e)) ↔ a.regsOnly ps b := by
  refine Blk.regsOnly_iff (Blk.onlyIn_regs (ps := [Part.axs, Part.dvt]) ?_ (by decide) _)
  simp
@[simp] theorem Blk.takeOver_regsOnly {ps : List Nat} {a : Blk} (b : Blk) (n : Nat) (e : Effect) :
    a.regsOnly ps ((Blk.takeOver b n e)) ↔ a.regsOnly ps b := by
  refine Blk.regsOnly_iff (Blk.onlyIn_regs (ps := [Part.axs, Part.dvt, Part.hst, Part.out]) ?_ (by decide) _)
  simp
@[simp] theorem Blk.applyTable_regsOnly {ps : List Nat} {a : Blk} (b : Blk) (n : Nat) (e : Effect) (k0 :
    Reg.MAP_LATE_COUNT ∈ ps) (ki : itemRegs ⊆ ps) :
    a.regsOnly ps ((Blk.applyTable b n e)) ↔ a.regsOnly ps b := by
  unfold Blk.applyTable; dsimp only; (repeat' split) <;> simp [k0, ki, ki drop_mem]
@[simp] theorem Blk.startLine_regsOnly {ps : List Nat} {a : Blk} (b : Blk) (e : Effect) :
    a.regsOnly ps ((Blk.startLine b e)) ↔ a.regsOnly ps b := by
  refine Blk.regsOnly_iff (Blk.onlyIn_regs (ps := [Part.axs]) ?_ (by decide) _)
  simp
@[simp] theorem Blk.applyGroup_regsOnly {ps : List Nat} {a : Blk} (b : Blk) (e : Effect) :
    a.regsOnly ps ((Blk.applyGroup b e)) ↔ a.regsOnly ps b := by
  refine Blk.regsOnly_iff (Blk.onlyIn_regs (ps := [Part.axs, Part.dvt, Part.hst, Part.out]) ?_ (by decide) _)
  simp
@[simp] theorem Blk.applyAxis_regsOnly {ps : List Nat} {a : Blk} (b : Blk) (n : Nat) (e : Effect) (dm m : Int) (k0 :
    Reg.MAP_LATE_COUNT ∈ ps) (ki : itemRegs ⊆ ps) :
    a.regsOnly ps ((Blk.applyAxis b n e dm m)) ↔ a.regsOnly ps b := by
  unfold Blk.applyAxis; dsimp only; (repeat' split) <;> simp [k0, ki, ki drop_mem]
@[simp] theorem Blk.dueAxis_regsOnly {ps : List Nat} {a : Blk} (b : Blk) (n : Nat) (e : Effect) (dm m : Int) (k0 :
    Reg.AXS_DROP_COUNT ∈ ps) (k1 : Reg.MAP_LATE_COUNT ∈ ps) (ki : itemRegs ⊆ ps) :
    a.regsOnly ps ((Blk.dueAxis b n e dm m)) ↔ a.regsOnly ps b := by
  unfold Blk.dueAxis; dsimp only; (repeat' split) <;> simp [k0, k1, ki, ki drop_mem]
@[simp] theorem Blk.dueGroup_regsOnly {ps : List Nat} {a : Blk} (b : Blk) (e : Effect) (k0 : Reg.AXS_DROP_COUNT ∈ ps)
    (k1 : Reg.MAP_LATE_COUNT ∈ ps) (ki : itemRegs ⊆ ps) :
    a.regsOnly ps ((Blk.dueGroup b e)) ↔ a.regsOnly ps b := by
  unfold Blk.dueGroup; try dsimp only
  all_goals (repeat' split)
  all_goals (try refine (Blk.foldl_regsOnly (fun b x => ?_) _ _).trans ?_)
  all_goals (repeat' split)
  all_goals (try simp [k0, k1, ki, ki drop_mem, Blk.foldl_regsOnly, Blk.ite_regsOnly])
@[simp] theorem Blk.readSp_regsOnly {ps : List Nat} {a : Blk} (b : Blk) (n : Nat) (u : Int) :
    a.regsOnly ps ((Blk.readSp b n u)) ↔ a.regsOnly ps b := by
  refine Blk.regsOnly_iff (Blk.onlyIn_regs (ps := [Part.axs]) ?_ (by decide) _)
  simp
@[simp] theorem Blk.takeCounts_regsOnly {ps : List Nat} {a : Blk} (b : Blk) (x : AxisIn) :
    a.regsOnly ps ((Blk.takeCounts b x)) ↔ a.regsOnly ps b := by
  refine Blk.regsOnly_iff (Blk.onlyIn_regs (ps := [Part.axs]) ?_ (by decide) _)
  simp
@[simp] theorem Blk.applyShadow_regsOnly {ps : List Nat} {a : Blk} (b : Blk) (n : Nat) :
    a.regsOnly ps ((Blk.applyShadow b n)) ↔ a.regsOnly ps b := by
  refine Blk.regsOnly_iff (Blk.onlyIn_regs (ps := [Part.axs]) ?_ (by decide) _)
  simp
@[simp] theorem Blk.resetLoop_regsOnly {ps : List Nat} {a : Blk} (b : Blk) (n : Nat) :
    a.regsOnly ps ((Blk.resetLoop b n)) ↔ a.regsOnly ps b := by
  refine Blk.regsOnly_iff (Blk.onlyIn_regs (ps := [Part.axs]) ?_ (by decide) _)
  simp
@[simp] theorem Blk.current_regsOnly {ps : List Nat} {a : Blk} (b : Blk) (n : Nat) (ena : Bool) :
    a.regsOnly ps ((Blk.current b n ena)) ↔ a.regsOnly ps b := by
  refine Blk.regsOnly_iff (Blk.onlyIn_regs (ps := [Part.axs]) ?_ (by decide) _)
  simp
@[simp] theorem Blk.emitSteps_regsOnly {ps : List Nat} {a : Blk} (b : Blk) (n s : Nat) (ena : Bool) :
    a.regsOnly ps ((Blk.emitSteps b n s ena)) ↔ a.regsOnly ps b := by
  refine Blk.regsOnly_iff (Blk.onlyIn_regs (ps := [Part.axs, Part.out]) ?_ (by decide) _)
  simp
@[simp] theorem Blk.supervise_regsOnly {ps : List Nat} {a : Blk} (b : Blk) (n : Nat) :
    a.regsOnly ps ((Blk.supervise b n)) ↔ a.regsOnly ps b := by
  refine Blk.regsOnly_iff (Blk.onlyIn_regs (ps := [Part.axs]) ?_ (by decide) _)
  simp
@[simp] theorem Blk.inPosition_regsOnly {ps : List Nat} {a : Blk} (b : Blk) (n : Nat) :
    a.regsOnly ps ((Blk.inPosition b n)) ↔ a.regsOnly ps b := by
  refine Blk.regsOnly_iff (Blk.onlyIn_regs (ps := [Part.axs, Part.dvt]) ?_ (by decide) _)
  simp
@[simp] theorem Blk.groupDone_regsOnly {ps : List Nat} {a : Blk} (b : Blk) (g : Nat) :
    a.regsOnly ps ((Blk.groupDone b g)) ↔ a.regsOnly ps b := by
  refine Blk.regsOnly_iff (Blk.onlyIn_regs (ps := [Part.axs, Part.dvt]) ?_ (by decide) _)
  simp
@[simp] theorem Blk.stillTest_regsOnly {ps : List Nat} {a : Blk} (b : Blk) (n : Nat) (before : Int) :
    a.regsOnly ps ((Blk.stillTest b n before)) ↔ a.regsOnly ps b := by
  refine Blk.regsOnly_iff (Blk.onlyIn_regs (ps := [Part.axs]) ?_ (by decide) _)
  simp
@[simp] theorem Blk.reportAxis_regsOnly {ps : List Nat} {a : Blk} (b : Blk) (n : Nat) :
    a.regsOnly ps ((Blk.reportAxis b n)) ↔ a.regsOnly ps b := by
  refine Blk.regsOnly_iff (Blk.onlyIn_regs (ps := [Part.dvt]) ?_ (by decide) _)
  simp
@[simp] theorem Blk.keepPos_regsOnly {ps : List Nat} {a : Blk} (b : Blk) (n : Nat) :
    a.regsOnly ps ((Blk.keepPos b n)) ↔ a.regsOnly ps b := by
  refine Blk.regsOnly_iff (Blk.onlyIn_regs (ps := [Part.axs]) ?_ (by decide) _)
  simp
@[simp] theorem Blk.groupPath_regsOnly {ps : List Nat} {a : Blk} (due : List Nat) (b : Blk) (g : Nat) :
    a.regsOnly ps ((Blk.groupPath due b g)) ↔ a.regsOnly ps b := by
  refine Blk.regsOnly_iff (Blk.onlyIn_regs (ps := [Part.axs]) ?_ (by decide) _)
  simp
@[simp] theorem Blk.groupTurn_regsOnly {ps : List Nat} {a : Blk} (due : List Nat) (b : Blk) (g : Nat) (ki : itemRegs
    ⊆ ps) :
    a.regsOnly ps ((Blk.groupTurn due b g)) ↔ a.regsOnly ps b := by
  unfold Blk.groupTurn; dsimp only; repeat' split
  all_goals simp [ki, ki drop_mem, Blk.foldl_regsOnly, Blk.ite_regsOnly]
@[simp] theorem Blk.beginMotion_regsOnly {ps : List Nat} {a : Blk} (prev : AxMot) (b : Blk) (n : Nat) (ki : itemRegs
    ⊆ ps) :
    a.regsOnly ps ((Blk.beginMotion prev b n)) ↔ a.regsOnly ps b := by
  unfold Blk.beginMotion; (repeat' split) <;> simp [ki, ki drop_mem]
@[simp] theorem Blk.beginMotions_regsOnly {ps : List Nat} {a : Blk} (due : List Nat) (prev : Nat → AxMot) (was b :
    Blk) (ki : itemRegs ⊆ ps) :
    a.regsOnly ps (Blk.beginMotions due prev was b) ↔ a.regsOnly ps b := by
  unfold Blk.beginMotions; dsimp only
  rw [Blk.foldl_regsOnly (fun b x => ?_), Blk.foldl_regsOnly (fun b x => ?_)]
  all_goals (repeat' split) <;> simp [ki, ki drop_mem, Blk.foldl_regsOnly, Blk.ite_regsOnly]
@[simp] theorem Blk.standstills_regsOnly {ps : List Nat} {a : Blk} (b : Blk) :
    a.regsOnly ps ((Blk.standstills b)) ↔ a.regsOnly ps b := by
  refine Blk.regsOnly_iff (Blk.onlyIn_regs (ps := [Part.clp]) ?_ (by decide) _)
  simp
@[simp] theorem Blk.loadPeak_regsOnly {ps : List Nat} {a : Blk} (b : Blk) (k0 : Reg.CTL_LOAD_PEAK ∈ ps) :
    a.regsOnly ps ((Blk.loadPeak b)) ↔ a.regsOnly ps b := by
  unfold Blk.loadPeak; (repeat' split) <;> simp [k0]
@[simp] theorem Blk.zEdge_regsOnly {ps : List Nat} {a : Blk} (b0 : Blk) (t n : Nat) (pos : Int) :
    a.regsOnly ps ((Blk.zEdge b0 t n pos)) ↔ a.regsOnly ps b0 := by
  refine Blk.regsOnly_iff (Blk.onlyIn_regs (ps := [Part.axs, Part.inv]) ?_ (by decide) _)
  simp
@[simp] theorem Blk.stallExpiry_regsOnly {ps : List Nat} {a : Blk} (b0 : Blk) (t n : Nat) (ki : itemRegs ⊆ ps) :
    a.regsOnly ps ((Blk.stallExpiry b0 t n)) ↔ a.regsOnly ps b0 := by
  unfold Blk.stallExpiry; dsimp only; (repeat' split) <;> simp [ki, ki drop_mem]
@[simp] theorem Blk.feExpiry_regsOnly {ps : List Nat} {a : Blk} (b0 : Blk) (t n : Nat) (ki : itemRegs ⊆ ps) :
    a.regsOnly ps ((Blk.feExpiry b0 t n)) ↔ a.regsOnly ps b0 := by
  unfold Blk.feExpiry; dsimp only; (repeat' split) <;> simp [ki, ki drop_mem]
@[simp] theorem Blk.spExpiry_regsOnly {ps : List Nat} {a : Blk} (b0 : Blk) (t n : Nat) (ki : itemRegs ⊆ ps) :
    a.regsOnly ps ((Blk.spExpiry b0 t n)) ↔ a.regsOnly ps b0 := by
  unfold Blk.spExpiry; dsimp only; (repeat' split) <;> simp [ki, ki drop_mem]
@[simp] theorem Blk.setTable_regsOnly {ps : List Nat} {a : Blk} (b : Blk) (i : Nat) (t : SegTable) :
    a.regsOnly ps ((Blk.setTable b i t)) ↔ a.regsOnly ps b := by
  refine Blk.regsOnly_iff (Blk.onlyIn_regs (ps := [Part.axs]) ?_ (by decide) _)
  simp
@[simp] theorem Blk.tableLoad_regsOnly {ps : List Nat} {a : Blk} (d : Desc) (b : Blk) :
    a.regsOnly ps ((Blk.tableLoad d b)) ↔ a.regsOnly ps b := by
  refine Blk.regsOnly_iff (Blk.onlyIn_regs (ps := [Part.axs, Part.hst, Part.out]) ?_ (by decide) _)
  simp
@[simp] theorem Blk.tableValidated_regsOnly {ps : List Nat} {a : Blk} (b : Blk) (i : Nat) (img : Bytes) :
    a.regsOnly ps ((Blk.tableValidated b i img)) ↔ a.regsOnly ps b := by
  refine Blk.regsOnly_iff (Blk.onlyIn_regs (ps := [Part.axs, Part.hst, Part.out]) ?_ (by decide) _)
  simp
@[simp] theorem Blk.tableFree_regsOnly {ps : List Nat} {a : Blk} (d : Desc) (b : Blk) :
    a.regsOnly ps ((Blk.tableFree d b)) ↔ a.regsOnly ps b := by
  refine Blk.regsOnly_iff (Blk.onlyIn_regs (ps := [Part.axs, Part.hst, Part.out]) ?_ (by decide) _)
  simp
@[simp] theorem Blk.faultClear_regsOnly {ps : List Nat} {a : Blk} (d : Desc) (b : Blk) :
    a.regsOnly ps ((Blk.faultClear d b)) ↔ a.regsOnly ps b := by
  refine Blk.regsOnly_iff (Blk.onlyIn_regs (ps := [Part.axs, Part.hst, Part.out]) ?_ (by decide) _)
  simp
@[simp] theorem Blk.setPos_regsOnly {ps : List Nat} {a : Blk} (d : Desc) (b : Blk) :
    a.regsOnly ps ((Blk.setPos d b)) ↔ a.regsOnly ps b := by
  refine Blk.regsOnly_iff (Blk.onlyIn_regs (ps := [Part.axs, Part.hst, Part.out]) ?_ (by decide) _)
  simp
@[simp] theorem Blk.axsRead_regsOnly {ps : List Nat} {a : Blk} (d : Desc) (b : Blk) :
    a.regsOnly ps ((Blk.axsRead d b)) ↔ a.regsOnly ps b := by
  refine Blk.regsOnly_iff (Blk.onlyIn_regs (ps := [Part.hst, Part.out]) ?_ (by decide) _)
  simp
@[simp] theorem Blk.modeChanged_regsOnly {ps : List Nat} {a : Blk} (b : Blk) (n old : Nat) :
    a.regsOnly ps ((Blk.modeChanged b n old)) ↔ a.regsOnly ps b := by
  refine Blk.regsOnly_iff (Blk.onlyIn_regs (ps := [Part.axs]) ?_ (by decide) _)
  simp
@[simp] theorem Blk.endWaits_regsOnly {ps : List Nat} {a : Blk} (b : Blk) (k0 : Reg.AIR_EFFECT_DROP_COUNT ∈ ps) (k1 :
    Reg.DVT_ABORT_COUNT ∈ ps) (k2 : Reg.DVT_COMMIT_COUNT ∈ ps) (k3 : Reg.DVT_DEADLOCK_COUNT ∈ ps) (k4 :
    Reg.MAP_LATE_COUNT ∈ ps) (ki : itemRegs ⊆ ps) :
    a.regsOnly ps ((Blk.endWaits b)) ↔ a.regsOnly ps b := by
  unfold Blk.endWaits; simp [k0, k1, k2, k3, k4, ki, ki drop_mem, Blk.foldl_regsOnly, Blk.ite_regsOnly]
@[simp] theorem Blk.cancelLater_regsOnly {ps : List Nat} {a : Blk} (b : Blk) :
    a.regsOnly ps ((Blk.cancelLater b)) ↔ a.regsOnly ps b := by
  refine Blk.regsOnly_iff (Blk.onlyIn_regs (ps := [Part.air, Part.dvt, Part.fleet, Part.inv]) ?_ (by decide) _)
  simp
@[simp] theorem Blk.noteRoutes_regsOnly {ps : List Nat} {a : Blk} (b : Blk) :
    a.regsOnly ps ((Blk.noteRoutes b)) ↔ a.regsOnly ps b := by
  refine Blk.regsOnly_iff (Blk.onlyIn_regs (ps := [Part.air]) ?_ (by decide) _)
  simp
@[simp] theorem Blk.commitStop_regsOnly {ps : List Nat} {a : Blk} (b0 : Blk) (k0 : Reg.AIR_EFFECT_DROP_COUNT ∈ ps)
    (k1 : Reg.DVT_ABORT_COUNT ∈ ps) (k2 : Reg.DVT_COMMIT_COUNT ∈ ps) (k3 : Reg.DVT_DEADLOCK_COUNT ∈ ps) (k4 :
    Reg.MAP_LATE_COUNT ∈ ps) (ki : itemRegs ⊆ ps) :
    a.regsOnly ps ((Blk.commitStop b0)) ↔ a.regsOnly ps b0 := by
  unfold Blk.commitStop; dsimp only; (repeat' split) <;> simp [k0, k1, k2, k3, k4, ki, ki drop_mem]
@[simp] theorem Blk.stopGroups_regsOnly {ps : List Nat} {a : Blk} (b : Blk) :
    a.regsOnly ps ((Blk.stopGroups b)) ↔ a.regsOnly ps b := by
  refine Blk.regsOnly_iff (Blk.onlyIn_regs (ps := [Part.axs, Part.clp, Part.dvt, Part.hst, Part.out]) ?_ (by decide)
      _)
  simp
@[simp] theorem Blk.stopIdleAxes_regsOnly {ps : List Nat} {a : Blk} (b : Blk) :
    a.regsOnly ps ((Blk.stopIdleAxes b)) ↔ a.regsOnly ps b := by
  refine Blk.regsOnly_iff (Blk.onlyIn_regs (ps := [Part.axs, Part.dvt, Part.hst, Part.out]) ?_ (by decide) _)
  simp
@[simp] theorem Blk.endResumes_regsOnly {ps : List Nat} {a : Blk} (b : Blk) :
    a.regsOnly ps ((Blk.endResumes b)) ↔ a.regsOnly ps b := by
  refine Blk.regsOnly_iff (Blk.onlyIn_regs (ps := [Part.air, Part.clp, Part.hst, Part.out]) ?_ (by decide) _)
  simp
@[simp] theorem Blk.latchSource_regsOnly {ps : List Nat} {a : Blk} (b : Blk) (bit : Nat) :
    a.regsOnly ps ((Blk.latchSource b bit)) ↔ a.regsOnly ps b := by
  refine Blk.regsOnly_iff (Blk.onlyIn_regs (ps := [Part.clp]) ?_ (by decide) _)
  simp
@[simp] theorem Blk.assertSource_regsOnly {ps : List Nat} {a : Blk} (b0 : Blk) (bit cat mix : Nat) (k0 :
    Reg.AIR_EFFECT_DROP_COUNT ∈ ps) (k1 : Reg.CLP_STOP_COUNT ∈ ps) (k2 : Reg.DVT_ABORT_COUNT ∈ ps) (k3 :
    Reg.DVT_COMMIT_COUNT ∈ ps) (k4 : Reg.DVT_DEADLOCK_COUNT ∈ ps) (k5 : Reg.MAP_LATE_COUNT ∈ ps) (ki : itemRegs ⊆ ps)
    :
    a.regsOnly ps ((Blk.assertSource b0 bit cat mix)) ↔ a.regsOnly ps b0 := by
  unfold Blk.assertSource; dsimp only; (repeat' split) <;> simp [k0, k1, k2, k3, k4, k5, ki, ki drop_mem]
@[simp] theorem Blk.assertLasting_regsOnly {ps : List Nat} {a : Blk} (b : Blk) (bit cat mix : Nat) (k0 :
    Reg.AIR_EFFECT_DROP_COUNT ∈ ps) (k1 : Reg.CLP_STOP_COUNT ∈ ps) (k2 : Reg.DVT_ABORT_COUNT ∈ ps) (k3 :
    Reg.DVT_COMMIT_COUNT ∈ ps) (k4 : Reg.DVT_DEADLOCK_COUNT ∈ ps) (k5 : Reg.MAP_LATE_COUNT ∈ ps) (ki : itemRegs ⊆ ps)
    :
    a.regsOnly ps ((Blk.assertLasting b bit cat mix)) ↔ a.regsOnly ps b := by
  unfold Blk.assertLasting; (repeat' split) <;> simp [k0, k1, k2, k3, k4, k5, ki, ki drop_mem]
@[simp] theorem Blk.clampFault_regsOnly {ps : List Nat} {a : Blk} (b : Blk) (code arg : Nat) (latched : Bool) (k0 :
    Reg.EVR_DROP_COUNT ∈ ps) :
    a.regsOnly ps ((Blk.clampFault b code arg latched)) ↔ a.regsOnly ps b := by
  unfold Blk.clampFault; (repeat' split) <;> simp [k0]
@[simp] theorem Blk.siteFault_regsOnly {ps : List Nat} {a : Blk} (b : Blk) (code arg : Nat) (k0 :
    Reg.AIR_EFFECT_DROP_COUNT ∈ ps) (k1 : Reg.CLP_STOP_COUNT ∈ ps) (k2 : Reg.DVT_ABORT_COUNT ∈ ps) (k3 :
    Reg.DVT_COMMIT_COUNT ∈ ps) (k4 : Reg.DVT_DEADLOCK_COUNT ∈ ps) (k5 : Reg.MAP_LATE_COUNT ∈ ps) (ki : itemRegs ⊆ ps)
    :
    a.regsOnly ps ((Blk.siteFault b code arg)) ↔ a.regsOnly ps b := by
  unfold Blk.siteFault; (repeat' split) <;> simp [k0, k1, k2, k3, k4, k5, ki, ki drop_mem]
@[simp] theorem Blk.suppressBeacons_regsOnly {ps : List Nat} {a : Blk} (b : Blk) :
    a.regsOnly ps ((Blk.suppressBeacons b)) ↔ a.regsOnly ps b := by
  refine Blk.regsOnly_iff (Blk.onlyIn_regs (ps := [Part.clp]) ?_ (by decide) _)
  simp
@[simp] theorem Blk.setLoop_regsOnly {ps : List Nat} {a : Blk} (b : Blk) (n : Nat) (x : Loop) :
    a.regsOnly ps ((Blk.setLoop b n x)) ↔ a.regsOnly ps b := by
  refine Blk.regsOnly_iff (Blk.onlyIn_regs (ps := [Part.clp]) ?_ (by decide) _)
  simp
@[simp] theorem Blk.loopSource_regsOnly {ps : List Nat} {a : Blk} (b : Blk) (n : Nat) (k0 : Reg.AIR_EFFECT_DROP_COUNT
    ∈ ps) (k1 : Reg.CLP_STOP_COUNT ∈ ps) (k2 : Reg.DVT_ABORT_COUNT ∈ ps) (k3 : Reg.DVT_COMMIT_COUNT ∈ ps) (k4 :
    Reg.DVT_DEADLOCK_COUNT ∈ ps) (k5 : Reg.MAP_LATE_COUNT ∈ ps) (ki : itemRegs ⊆ ps) :
    a.regsOnly ps ((Blk.loopSource b n)) ↔ a.regsOnly ps b := by
  unfold Blk.loopSource; dsimp only; (repeat' split) <;> simp [k0, k1, k2, k3, k4, k5, ki, ki drop_mem]
@[simp] theorem Blk.loopCleared_regsOnly {ps : List Nat} {a : Blk} (b : Blk) (n : Nat) :
    a.regsOnly ps ((Blk.loopCleared b n)) ↔ a.regsOnly ps b := by
  refine Blk.regsOnly_iff (Blk.onlyIn_regs (ps := [Part.clp]) ?_ (by decide) _)
  simp
@[simp] theorem Blk.writeStopReq_regsOnly {ps : List Nat} {a : Blk} (b : Blk) (w : Word) (k0 :
    Reg.AIR_EFFECT_DROP_COUNT ∈ ps) (k1 : Reg.CLP_STOP_COUNT ∈ ps) (k2 : Reg.CLP_STOP_REQ ∈ ps) (k3 :
    Reg.DVT_ABORT_COUNT ∈ ps) (k4 : Reg.DVT_COMMIT_COUNT ∈ ps) (k5 : Reg.DVT_DEADLOCK_COUNT ∈ ps) (k6 :
    Reg.MAP_LATE_COUNT ∈ ps) (ki : itemRegs ⊆ ps) :
    a.regsOnly ps ((Blk.writeStopReq b w)) ↔ a.regsOnly ps b := by
  unfold Blk.writeStopReq; (repeat' split) <;> simp [k0, k1, k2, k3, k4, k5, k6, ki, ki drop_mem]
@[simp] theorem Blk.writeHb_regsOnly {ps : List Nat} {a : Blk} (b : Blk) (w : Word) (k0 : Reg.CLP_HB_BAD_COUNT ∈ ps) :
    a.regsOnly ps ((Blk.writeHb b w)) ↔ a.regsOnly ps b := by
  unfold Blk.writeHb; dsimp only; (repeat' split) <;> simp [k0]
@[simp] theorem Blk.hbTimeout_regsOnly {ps : List Nat} {a : Blk} (b0 : Blk) (t : Nat) (k0 : Reg.AIR_EFFECT_DROP_COUNT
    ∈ ps) (k1 : Reg.CLP_STOP_COUNT ∈ ps) (k2 : Reg.DVT_ABORT_COUNT ∈ ps) (k3 : Reg.DVT_COMMIT_COUNT ∈ ps) (k4 :
    Reg.DVT_DEADLOCK_COUNT ∈ ps) (k5 : Reg.MAP_LATE_COUNT ∈ ps) (ki : itemRegs ⊆ ps) :
    a.regsOnly ps ((Blk.hbTimeout b0 t)) ↔ a.regsOnly ps b0 := by
  unfold Blk.hbTimeout; dsimp only; (repeat' split) <;> simp [k0, k1, k2, k3, k4, k5, ki, ki drop_mem]
@[simp] theorem Blk.stopDesc_regsOnly {ps : List Nat} {a : Blk} (d : Desc) (b : Blk) (k0 : Reg.AIR_EFFECT_DROP_COUNT
    ∈ ps) (k1 : Reg.CLP_STOP_COUNT ∈ ps) (k2 : Reg.DVT_ABORT_COUNT ∈ ps) (k3 : Reg.DVT_COMMIT_COUNT ∈ ps) (k4 :
    Reg.DVT_DEADLOCK_COUNT ∈ ps) (k5 : Reg.MAP_LATE_COUNT ∈ ps) (ki : itemRegs ⊆ ps) :
    a.regsOnly ps ((Blk.stopDesc d b)) ↔ a.regsOnly ps b := by
  unfold Blk.stopDesc; dsimp only; (repeat' split) <;> simp [k0, k1, k2, k3, k4, k5, ki, ki drop_mem]
@[simp] theorem Blk.cmonMismatch_regsOnly {ps : List Nat} {a : Blk} (b0 : Blk) (m : Nat) (isOpen : Bool) (held t :
    Nat) (k0 : Reg.AIR_EFFECT_DROP_COUNT ∈ ps) (k1 : Reg.CLP_STOP_COUNT ∈ ps) (k2 : Reg.DVT_ABORT_COUNT ∈ ps) (k3 :
    Reg.DVT_COMMIT_COUNT ∈ ps) (k4 : Reg.DVT_DEADLOCK_COUNT ∈ ps) (k5 : Reg.MAP_LATE_COUNT ∈ ps) (ki : itemRegs ⊆ ps)
    :
    a.regsOnly ps ((Blk.cmonMismatch b0 m isOpen held t)) ↔ a.regsOnly ps b0 := by
  unfold Blk.cmonMismatch; dsimp only; (repeat' split) <;> simp [k0, k1, k2, k3, k4, k5, ki, ki drop_mem]
@[simp] theorem Blk.pllLost_regsOnly {ps : List Nat} {a : Blk} (b : Blk) (island : Island) (refclk : Bool) (k0 :
    Reg.AIR_EFFECT_DROP_COUNT ∈ ps) (k1 : Reg.CLP_STOP_COUNT ∈ ps) (k2 : Reg.DVT_ABORT_COUNT ∈ ps) (k3 :
    Reg.DVT_COMMIT_COUNT ∈ ps) (k4 : Reg.DVT_DEADLOCK_COUNT ∈ ps) (k5 : Reg.MAP_LATE_COUNT ∈ ps) (ki : itemRegs ⊆ ps)
    :
    a.regsOnly ps ((Blk.pllLost b island refclk)) ↔ a.regsOnly ps b := by
  unfold Blk.pllLost; (repeat' split) <;> simp [k0, k1, k2, k3, k4, k5, ki, ki drop_mem]
@[simp] theorem Blk.windowLate_regsOnly {ps : List Nat} {a : Blk} (t : Nat) (b0 : Blk) (k0 : Reg.EVR_DROP_COUNT ∈ ps)
    :
    a.regsOnly ps ((Blk.windowLate t b0)) ↔ a.regsOnly ps b0 := by
  unfold Blk.windowLate; dsimp only; (repeat' split) <;> simp [k0]
@[simp] theorem Blk.keyNotReady_regsOnly {ps : List Nat} {a : Blk} (t : Nat) (b0 : Blk) (k0 :
    Reg.AIR_EFFECT_DROP_COUNT ∈ ps) (k1 : Reg.CLP_STOP_COUNT ∈ ps) (k2 : Reg.DVT_ABORT_COUNT ∈ ps) (k3 :
    Reg.DVT_COMMIT_COUNT ∈ ps) (k4 : Reg.DVT_DEADLOCK_COUNT ∈ ps) (k5 : Reg.MAP_LATE_COUNT ∈ ps) (ki : itemRegs ⊆ ps)
    :
    a.regsOnly ps ((Blk.keyNotReady t b0)) ↔ a.regsOnly ps b0 := by
  unfold Blk.keyNotReady; dsimp only; (repeat' split) <;> simp [k0, k1, k2, k3, k4, k5, ki, ki drop_mem]
@[simp] theorem Blk.passingFault_regsOnly {ps : List Nat} {a : Blk} (b : Blk) (code : Nat) (f : Clp → Clp) (k0 :
    Reg.AIR_EFFECT_DROP_COUNT ∈ ps) (k1 : Reg.CLP_STOP_COUNT ∈ ps) (k2 : Reg.DVT_ABORT_COUNT ∈ ps) (k3 :
    Reg.DVT_COMMIT_COUNT ∈ ps) (k4 : Reg.DVT_DEADLOCK_COUNT ∈ ps) (k5 : Reg.MAP_LATE_COUNT ∈ ps) (ki : itemRegs ⊆ ps)
    :
    a.regsOnly ps ((Blk.passingFault b code f)) ↔ a.regsOnly ps b := by
  unfold Blk.passingFault; (repeat' split) <;> simp [k0, k1, k2, k3, k4, k5, ki, ki drop_mem]
@[simp] theorem Blk.vfieldBad_regsOnly {ps : List Nat} {a : Blk} (b : Blk) (die : Nat) (rev : Bool) (k0 :
    Reg.AIR_EFFECT_DROP_COUNT ∈ ps) (k1 : Reg.CLP_STOP_COUNT ∈ ps) (k2 : Reg.DVT_ABORT_COUNT ∈ ps) (k3 :
    Reg.DVT_COMMIT_COUNT ∈ ps) (k4 : Reg.DVT_DEADLOCK_COUNT ∈ ps) (k5 : Reg.MAP_LATE_COUNT ∈ ps) (k6 : Reg.MON_STATUS
    ∈ ps) (ki : itemRegs ⊆ ps) :
    a.regsOnly ps ((Blk.vfieldBad b die rev)) ↔ a.regsOnly ps b := by
  unfold Blk.vfieldBad; (repeat' split) <;> simp [k0, k1, k2, k3, k4, k5, k6, ki, ki drop_mem]
@[simp] theorem Blk.vfieldGood_regsOnly {ps : List Nat} {a : Blk} (b0 : Blk) (t die held : Nat) (k0 : Reg.MON_STATUS
    ∈ ps) :
    a.regsOnly ps ((Blk.vfieldGood b0 t die held)) ↔ a.regsOnly ps b0 := by
  unfold Blk.vfieldGood; dsimp only; (repeat' split) <;> simp [k0]
@[simp] theorem Blk.dieTemp_regsOnly {ps : List Nat} {a : Blk} (b : Blk) (isOver : Bool) (k0 :
    Reg.AIR_EFFECT_DROP_COUNT ∈ ps) (k1 : Reg.CLP_STOP_COUNT ∈ ps) (k2 : Reg.DVT_ABORT_COUNT ∈ ps) (k3 :
    Reg.DVT_COMMIT_COUNT ∈ ps) (k4 : Reg.DVT_DEADLOCK_COUNT ∈ ps) (k5 : Reg.MAP_LATE_COUNT ∈ ps) (k6 : Reg.MON_STATUS
    ∈ ps) (ki : itemRegs ⊆ ps) :
    a.regsOnly ps ((Blk.dieTemp b isOver)) ↔ a.regsOnly ps b := by
  unfold Blk.dieTemp; (repeat' split) <;> simp [k0, k1, k2, k3, k4, k5, k6, ki, ki drop_mem]
@[simp] theorem Blk.rampExpiry_regsOnly {ps : List Nat} {a : Blk} (b0 : Blk) (t g : Nat) :
    a.regsOnly ps ((Blk.rampExpiry b0 t g)) ↔ a.regsOnly ps b0 := by
  refine Blk.regsOnly_iff (Blk.onlyIn_regs (ps := [Part.axs, Part.clp, Part.dvt, Part.hst, Part.inv, Part.out]) ?_
      (by decide) _)
  simp
@[simp] theorem Blk.stuckOn_regsOnly {ps : List Nat} {a : Blk} (b : Blk) (g : Nat) (chB : Bool) (k0 :
    Reg.AIR_EFFECT_DROP_COUNT ∈ ps) (k1 : Reg.CLP_STOP_COUNT ∈ ps) (k2 : Reg.DVT_ABORT_COUNT ∈ ps) (k3 :
    Reg.DVT_COMMIT_COUNT ∈ ps) (k4 : Reg.DVT_DEADLOCK_COUNT ∈ ps) (k5 : Reg.MAP_LATE_COUNT ∈ ps) (ki : itemRegs ⊆ ps)
    :
    a.regsOnly ps ((Blk.stuckOn b g chB)) ↔ a.regsOnly ps b := by
  unfold Blk.stuckOn; dsimp only; (repeat' split) <;> simp [k0, k1, k2, k3, k4, k5, ki, ki drop_mem]
@[simp] theorem Blk.darkTest_regsOnly {ps : List Nat} {a : Blk} (b : Blk) (g : Nat) (chB followed : Bool) (k0 :
    Reg.AIR_EFFECT_DROP_COUNT ∈ ps) (k1 : Reg.CLP_STOP_COUNT ∈ ps) (k2 : Reg.DVT_ABORT_COUNT ∈ ps) (k3 :
    Reg.DVT_COMMIT_COUNT ∈ ps) (k4 : Reg.DVT_DEADLOCK_COUNT ∈ ps) (k5 : Reg.MAP_LATE_COUNT ∈ ps) (ki : itemRegs ⊆ ps)
    :
    a.regsOnly ps ((Blk.darkTest b g chB followed)) ↔ a.regsOnly ps b := by
  unfold Blk.darkTest; (repeat' split) <;> simp [k0, k1, k2, k3, k4, k5, ki, ki drop_mem]
@[simp] theorem Blk.deadOutput_regsOnly {ps : List Nat} {a : Blk} (b : Blk) (g : Nat) (ki : itemRegs ⊆ ps) :
    a.regsOnly ps ((Blk.deadOutput b g)) ↔ a.regsOnly ps b := by
  unfold Blk.deadOutput; (repeat' split) <;> simp [ki, ki drop_mem]
@[simp] theorem Blk.readback_regsOnly {ps : List Nat} {a : Blk} (b : Blk) (g : Nat) (chB readsOn : Bool) (k0 :
    Reg.AIR_EFFECT_DROP_COUNT ∈ ps) (k1 : Reg.CLP_STOP_COUNT ∈ ps) (k2 : Reg.DVT_ABORT_COUNT ∈ ps) (k3 :
    Reg.DVT_COMMIT_COUNT ∈ ps) (k4 : Reg.DVT_DEADLOCK_COUNT ∈ ps) (k5 : Reg.MAP_LATE_COUNT ∈ ps) (ki : itemRegs ⊆ ps)
    :
    a.regsOnly ps ((Blk.readback b g chB readsOn)) ↔ a.regsOnly ps b := by
  unfold Blk.readback; (repeat' split) <;> simp [k0, k1, k2, k3, k4, k5, ki, ki drop_mem]
@[simp] theorem Blk.stoOn_regsOnly {ps : List Nat} {a : Blk} (b0 : Blk) (t : Nat) :
    a.regsOnly ps ((Blk.stoOn b0 t)) ↔ a.regsOnly ps b0 := by
  refine Blk.regsOnly_iff (Blk.onlyIn_regs (ps := [Part.clp, Part.inv]) ?_ (by decide) _)
  simp
@[simp] theorem Blk.commitRelease_regsOnly {ps : List Nat} {a : Blk} (b : Blk) (k0 : Reg.AIR_EFFECT_DROP_COUNT ∈ ps)
    (k1 : Reg.DVT_ABORT_COUNT ∈ ps) (k2 : Reg.DVT_COMMIT_COUNT ∈ ps) (k3 : Reg.DVT_DEADLOCK_COUNT ∈ ps) (k4 :
    Reg.MAP_LATE_COUNT ∈ ps) (ki : itemRegs ⊆ ps) :
    a.regsOnly ps ((Blk.commitRelease b)) ↔ a.regsOnly ps b := by
  unfold Blk.commitRelease; simp [k0, k1, k2, k3, k4, ki, ki drop_mem, Blk.foldl_regsOnly, Blk.ite_regsOnly]
@[simp] theorem Blk.release_regsOnly {ps : List Nat} {a : Blk} (d : Desc) (b : Blk) (k0 : Reg.AIR_EFFECT_DROP_COUNT ∈
    ps) (k1 : Reg.DVT_ABORT_COUNT ∈ ps) (k2 : Reg.DVT_COMMIT_COUNT ∈ ps) (k3 : Reg.DVT_DEADLOCK_COUNT ∈ ps) (k4 :
    Reg.MAP_LATE_COUNT ∈ ps) (ki : itemRegs ⊆ ps) :
    a.regsOnly ps ((Blk.release d b)) ↔ a.regsOnly ps b := by
  unfold Blk.release; (repeat' split) <;> simp [k0, k1, k2, k3, k4, ki, ki drop_mem]
@[simp] theorem Blk.groupRelease_regsOnly {ps : List Nat} {a : Blk} (d : Desc) (b : Blk) :
    a.regsOnly ps ((Blk.groupRelease d b)) ↔ a.regsOnly ps b := by
  refine Blk.regsOnly_iff (Blk.onlyIn_regs (ps := [Part.clp, Part.hst, Part.out]) ?_ (by decide) _)
  simp
@[simp] theorem Blk.holdPeriod_regsOnly {ps : List Nat} {a : Blk} (b : Blk) (p : Nat) :
    a.regsOnly ps ((Blk.holdPeriod b p)) ↔ a.regsOnly ps b := by
  refine Blk.regsOnly_iff (Blk.onlyIn_regs (ps := [Part.air]) ?_ (by decide) _)
  simp
@[simp] theorem Blk.holdKeys_regsOnly {ps : List Nat} {a : Blk} (b : Blk) :
    a.regsOnly ps ((Blk.holdKeys b)) ↔ a.regsOnly ps b := by
  refine Blk.regsOnly_iff (Blk.onlyIn_regs (ps := [Part.air]) ?_ (by decide) _)
  simp
@[simp] theorem Blk.unseal_regsOnly {ps : List Nat} {a : Blk} (b : Blk) (i : Ident) (k0 : Reg.EVR_DROP_COUNT ∈ ps) :
    a.regsOnly ps ((Blk.unseal b i)) ↔ a.regsOnly ps b := by
  unfold Blk.unseal; dsimp only; (repeat' split) <;> simp [k0]
@[simp] theorem Blk.zeroise_regsOnly {ps : List Nat} {a : Blk} (b : Blk) (p : Nat → CacheEntry → Bool) :
    a.regsOnly ps ((Blk.zeroise b p)) ↔ a.regsOnly ps b := by
  refine Blk.regsOnly_iff (Blk.onlyIn_regs (ps := [Part.key]) ?_ (by decide) _)
  simp
@[simp] theorem Blk.fillCache_regsOnly {ps : List Nat} {a : Blk} (b : Blk) (n : Nat) (e : CacheEntry) :
    a.regsOnly ps ((Blk.fillCache b n e).1) ↔ a.regsOnly ps b := by
  refine Blk.regsOnly_iff (Blk.onlyIn_regs (ps := [Part.key]) ?_ (by decide) _)
  simp
@[simp] theorem Blk.keyDone_regsOnly {ps : List Nat} {a : Blk} (b : Blk) (id : OpId) (status detail : Nat) (k0 :
    Reg.KEY_ATTR_COUNT ∈ ps) (k1 : Reg.KEY_OP_COUNT ∈ ps) :
    a.regsOnly ps ((Blk.keyDone b id status detail)) ↔ a.regsOnly ps b := by
  unfold Blk.keyDone; (repeat' split) <;> simp [k0, k1]
@[simp] theorem Blk.keyOp_regsOnly {ps : List Nat} {a : Blk} (i : Ident) (d : Desc) (cs : List (Bool × Nat × Nat)) (f
    : Blk → Blk) (b : Blk)
    (hf : ∀ c, Blk.regsOnly ps c (f c)) (k0 : Reg.KEY_ATTR_COUNT ∈ ps) (k1 : Reg.KEY_OP_COUNT ∈ ps) : a.regsOnly ps
        (Blk.keyOp i d cs f b) ↔ a.regsOnly ps b := by
  unfold Blk.keyOp
  refine Blk.start_regsOnly b d _ (fun c => ?_)
  rw [Blk.checked_regsOnly c d cs _ (fun e => ?_)]
  · exact Blk.regsOnly_refl _ _
  · split
    · simp [k0, k1]
    · exact hf e
@[simp] theorem Blk.withHandle_regsOnly {ps : List Nat} {a : Blk} (b : Blk) (id : OpId) (h : Nat) (f : Nat →
    CacheEntry → Blk)
    (hf : ∀ n e, a.regsOnly ps (f n e) ↔ a.regsOnly ps b) (k0 : Reg.KEY_ATTR_COUNT ∈ ps) (k1 : Reg.KEY_OP_COUNT ∈ ps)
        : a.regsOnly ps (b.withHandle id h f) ↔ a.regsOnly ps b := by
  unfold Blk.withHandle; dsimp only; repeat' split
  · simp [k0, k1]
  · exact hf _ _
  · simp [k0, k1]
@[simp] theorem Blk.withAttr_regsOnly {ps : List Nat} {a : Blk} (b : Blk) (id : OpId) (h attr : Nat) (f : Nat →
    CacheEntry → Blk)
    (hf : ∀ n e, a.regsOnly ps (f n e) ↔ a.regsOnly ps b) (k0 : Reg.KEY_ATTR_COUNT ∈ ps) (k1 : Reg.KEY_OP_COUNT ∈ ps)
        : a.regsOnly ps (b.withAttr id h attr f) ↔ a.regsOnly ps b := by
  unfold Blk.withAttr
  refine Blk.withHandle_regsOnly b id h _ (fun n e => ?_) k0 k1
  split
  · exact hf n e
  · simp [k0, k1]
@[simp] theorem Blk.useChallenge_regsOnly {ps : List Nat} {a : Blk} (b : Blk) (p : Nat) :
    a.regsOnly ps ((Blk.useChallenge b p)) ↔ a.regsOnly ps b := by
  refine Blk.regsOnly_iff (Blk.onlyIn_regs (ps := [Part.key]) ?_ (by decide) _)
  simp
@[simp] theorem Blk.authFail_regsOnly {ps : List Nat} {a : Blk} (b : Blk) (id : OpId) (p : Nat) (k0 :
    Reg.EVR_DROP_COUNT ∈ ps) (k1 : Reg.KEY_ATTR_COUNT ∈ ps) (k2 : Reg.KEY_AUTH_FAIL_COUNT ∈ ps) (k3 :
    Reg.KEY_OP_COUNT ∈ ps) :
    a.regsOnly ps ((Blk.authFail b id p)) ↔ a.regsOnly ps b := by
  unfold Blk.authFail; (repeat' split) <;> simp [k0, k1, k2, k3]
@[simp] theorem Blk.changeStore_regsOnly {ps : List Nat} {a : Blk} (b : Blk) (id : OpId) (image : Tab StoreEntry)
    (drop detail : Option Nat) :
    a.regsOnly ps ((Blk.changeStore b id image drop detail)) ↔ a.regsOnly ps b := by
  refine Blk.regsOnly_iff (Blk.onlyIn_regs (ps := [Part.key]) ?_ (by decide) _)
  simp
@[simp] theorem Blk.keyInstall_regsOnly {ps : List Nat} {a : Blk} (i : Ident) (d : Desc) (site : Bytes) (b : Blk) (k0
    : Reg.KEY_ATTR_COUNT ∈ ps) (k1 : Reg.KEY_OP_COUNT ∈ ps) :
    a.regsOnly ps (Blk.keyInstall i d site b) ↔ a.regsOnly ps b := by
  unfold Blk.keyInstall
  refine Blk.keyOp_regsOnly _ _ _ _ _ (fun c => ?_) (by assumption) (by assumption)
  (repeat' split) <;> (try dsimp only) <;> (repeat' split) <;> (try simp [k0, k1, Blk.foldl_regsOnly,
      Blk.ite_regsOnly])
@[simp] theorem Blk.importBlob_regsOnly {ps : List Nat} {a : Blk} (b : Blk) (d : Desc) (wrapper blob : Bytes) (k0 :
    Reg.KEY_ATTR_COUNT ∈ ps) (k1 : Reg.KEY_OP_COUNT ∈ ps) :
    a.regsOnly ps ((Blk.importBlob b d wrapper blob)) ↔ a.regsOnly ps b := by
  unfold Blk.importBlob; dsimp only; (repeat' split) <;> simp [k0, k1]
@[simp] theorem Blk.keyImport_regsOnly {ps : List Nat} {a : Blk} (i : Ident) (d : Desc) (blob : Bytes) (b : Blk) (k0
    : Reg.KEY_ATTR_COUNT ∈ ps) (k1 : Reg.KEY_OP_COUNT ∈ ps) :
    a.regsOnly ps (Blk.keyImport i d blob b) ↔ a.regsOnly ps b := by
  unfold Blk.keyImport
  refine Blk.keyOp_regsOnly _ _ _ _ _ (fun c => ?_) (by assumption) (by assumption)
  (repeat' split) <;> (try dsimp only) <;> (repeat' split) <;> (try simp [k0, k1, Blk.foldl_regsOnly,
      Blk.ite_regsOnly])
@[simp] theorem Blk.keyDelete_regsOnly {ps : List Nat} {a : Blk} (i : Ident) (d : Desc) (b : Blk) (k0 :
    Reg.KEY_ATTR_COUNT ∈ ps) (k1 : Reg.KEY_OP_COUNT ∈ ps) :
    a.regsOnly ps (Blk.keyDelete i d b) ↔ a.regsOnly ps b := by
  unfold Blk.keyDelete
  refine Blk.keyOp_regsOnly _ _ _ _ _ (fun c => ?_) (by assumption) (by assumption)
  (repeat' split) <;> (try dsimp only) <;> (repeat' split) <;> (try simp [k0, k1, Blk.foldl_regsOnly,
      Blk.ite_regsOnly])
@[simp] theorem Blk.storeDone_regsOnly {ps : List Nat} {a : Blk} (i : Ident) (b : Blk) (k0 : Reg.KEY_ATTR_COUNT ∈ ps)
    (k1 : Reg.KEY_OP_COUNT ∈ ps) :
    a.regsOnly ps ((Blk.storeDone i b)) ↔ a.regsOnly ps b := by
  unfold Blk.storeDone; dsimp only; (repeat' split) <;> simp [k0, k1]
@[simp] theorem Blk.keyLoad_regsOnly {ps : List Nat} {a : Blk} (i : Ident) (d : Desc) (b : Blk) (k0 :
    Reg.KEY_ATTR_COUNT ∈ ps) (k1 : Reg.KEY_OP_COUNT ∈ ps) :
    a.regsOnly ps (Blk.keyLoad i d b) ↔ a.regsOnly ps b := by
  unfold Blk.keyLoad
  refine Blk.keyOp_regsOnly _ _ _ _ _ (fun c => ?_) (by assumption) (by assumption)
  (repeat' split) <;> (try dsimp only) <;> (repeat' split) <;> (try simp [k0, k1, Blk.foldl_regsOnly,
      Blk.ite_regsOnly])
@[simp] theorem Blk.beginKey_regsOnly {ps : List Nat} {a : Blk} (d : Desc) (data aux : Bytes) (b : Blk) :
    a.regsOnly ps ((Blk.beginKey d data aux b)) ↔ a.regsOnly ps b := by
  refine Blk.regsOnly_iff (Blk.onlyIn_regs (ps := [Part.key]) ?_ (by decide) _)
  simp
@[simp] theorem Blk.cipherDone_regsOnly {ps : List Nat} {a : Blk} (b : Blk) (r : KeyRun) (k0 : Reg.KEY_ATTR_COUNT ∈
    ps) (k1 : Reg.KEY_OP_COUNT ∈ ps) :
    a.regsOnly ps (b.cipherDone r) ↔ a.regsOnly ps b := by
  unfold Blk.cipherDone
  refine Blk.withAttr_regsOnly _ _ _ _ _ (fun n e => ?_) (by assumption) (by assumption)
  (repeat' split) <;> simp [k0, k1, Blk.foldl_regsOnly, Blk.ite_regsOnly]
@[simp] theorem Blk.deriveDone_regsOnly {ps : List Nat} {a : Blk} (b : Blk) (r : KeyRun) (k0 : Reg.KEY_ATTR_COUNT ∈
    ps) (k1 : Reg.KEY_OP_COUNT ∈ ps) :
    a.regsOnly ps ((Blk.deriveDone b r)) ↔ a.regsOnly ps b := by
  unfold Blk.deriveDone; dsimp only; repeat' split
  all_goals simp [k0, k1, Blk.foldl_regsOnly, Blk.ite_regsOnly]
@[simp] theorem Blk.hashDone_regsOnly {ps : List Nat} {a : Blk} (b : Blk) (r : KeyRun) (k0 : Reg.KEY_ATTR_COUNT ∈ ps)
    (k1 : Reg.KEY_OP_COUNT ∈ ps) :
    a.regsOnly ps ((Blk.hashDone b r)) ↔ a.regsOnly ps b := by
  unfold Blk.hashDone; (repeat' split) <;> simp [k0, k1]
@[simp] theorem Blk.keyOpDone_regsOnly {ps : List Nat} {a : Blk} (b0 : Blk) (k0 : Reg.KEY_ATTR_COUNT ∈ ps) (k1 :
    Reg.KEY_OP_COUNT ∈ ps) :
    a.regsOnly ps ((Blk.keyOpDone b0)) ↔ a.regsOnly ps b0 := by
  unfold Blk.keyOpDone; (repeat' split) <;> simp [k0, k1]
@[simp] theorem Blk.keyExport_regsOnly {ps : List Nat} {a : Blk} (i : Ident) (d : Desc) (b : Blk) (k0 :
    Reg.KEY_ATTR_COUNT ∈ ps) (k1 : Reg.KEY_OP_COUNT ∈ ps) :
    a.regsOnly ps (Blk.keyExport i d b) ↔ a.regsOnly ps b := by
  unfold Blk.keyExport
  refine Blk.keyOp_regsOnly _ _ _ _ _ (fun c => ?_) (by assumption) (by assumption)
  refine (Blk.withAttr_regsOnly (ps := ps) _ _ _ _ _ (fun n e => ?_) (by assumption) (by assumption)).2
      (Blk.regsOnly_refl _ _)
  (repeat' split) <;> (try dsimp only) <;> (repeat' split) <;> (try simp [k0, k1, Blk.foldl_regsOnly,
      Blk.ite_regsOnly])
@[simp] theorem Blk.keyEvict_regsOnly {ps : List Nat} {a : Blk} (i : Ident) (d : Desc) (b : Blk) (k0 :
    Reg.KEY_ATTR_COUNT ∈ ps) (k1 : Reg.KEY_OP_COUNT ∈ ps) :
    a.regsOnly ps (Blk.keyEvict i d b) ↔ a.regsOnly ps b := by
  unfold Blk.keyEvict
  refine Blk.keyOp_regsOnly _ _ _ _ _ (fun c => ?_) (by assumption) (by assumption)
  refine (Blk.withHandle_regsOnly (ps := ps) _ _ _ _ (fun n e => ?_) (by assumption) (by assumption)).2
      (Blk.regsOnly_refl _ _)
  (repeat' split) <;> (try dsimp only) <;> (repeat' split) <;> (try simp [k0, k1, Blk.foldl_regsOnly,
      Blk.ite_regsOnly])
@[simp] theorem Blk.keyChallenge_regsOnly {ps : List Nat} {a : Blk} (i : Ident) (d : Desc) (b : Blk) (k0 :
    Reg.KEY_ATTR_COUNT ∈ ps) (k1 : Reg.KEY_OP_COUNT ∈ ps) :
    a.regsOnly ps (Blk.keyChallenge i d b) ↔ a.regsOnly ps b := by
  unfold Blk.keyChallenge
  refine Blk.keyOp_regsOnly _ _ _ _ _ (fun c => ?_) (by assumption) (by assumption)
  (repeat' split) <;> (try dsimp only) <;> (repeat' split) <;> (try simp [k0, k1, Blk.foldl_regsOnly,
      Blk.ite_regsOnly])
@[simp] theorem Blk.tamperCleared_regsOnly {ps : List Nat} {a : Blk} (b : Blk) (i : Ident) (id : OpId) (k0 :
    Reg.EVR_DROP_COUNT ∈ ps) (k1 : Reg.KEY_ATTR_COUNT ∈ ps) (k2 : Reg.KEY_OP_COUNT ∈ ps) :
    a.regsOnly ps ((Blk.tamperCleared b i id)) ↔ a.regsOnly ps b := by
  unfold Blk.tamperCleared; (repeat' split) <;> simp [k0, k1, k2]
@[simp] theorem Blk.tamperAck_regsOnly {ps : List Nat} {a : Blk} (i : Ident) (d : Desc) (b : Blk) (k0 :
    Reg.EVR_DROP_COUNT ∈ ps) (k1 : Reg.KEY_ATTR_COUNT ∈ ps) (k2 : Reg.KEY_AUTH_FAIL_COUNT ∈ ps) (k3 :
    Reg.KEY_OP_COUNT ∈ ps) :
    a.regsOnly ps (Blk.tamperAck i d b) ↔ a.regsOnly ps b := by
  unfold Blk.tamperAck
  refine Blk.keyOp_regsOnly _ _ _ _ _ (fun c => ?_) (by assumption) (by assumption)
  (repeat' split) <;> (try dsimp only) <;> (repeat' split) <;> (try simp [k0, k1, k2, k3, Blk.foldl_regsOnly,
      Blk.ite_regsOnly])
@[simp] theorem Blk.dropAirKeys_regsOnly {ps : List Nat} {a : Blk} (b : Blk) :
    a.regsOnly ps ((Blk.dropAirKeys b)) ↔ a.regsOnly ps b := by
  refine Blk.regsOnly_iff (Blk.onlyIn_regs (ps := [Part.air, Part.hdl]) ?_ (by decide) _)
  simp
@[simp] theorem Blk.airHold_regsOnly {ps : List Nat} {a : Blk} (t : Nat) (b0 : Blk) :
    a.regsOnly ps ((Blk.airHold t b0)) ↔ a.regsOnly ps b0 := by
  refine Blk.regsOnly_iff (Blk.onlyIn_regs (ps := [Part.air, Part.axs, Part.hdl, Part.inv, Part.key]) ?_ (by decide)
      _)
  simp
@[simp] theorem Blk.recordCommit_regsOnly {ps : List Nat} {a : Blk} (b : Blk) (k0 : Reg.EVR_DROP_COUNT ∈ ps) :
    a.regsOnly ps ((Blk.recordCommit b)) ↔ a.regsOnly ps b := by
  unfold Blk.recordCommit; dsimp only; (repeat' split) <;> simp [k0]
@[simp] theorem Blk.recorderScan_regsOnly {ps : List Nat} {a : Blk} (b : Blk) (wakeOff : Bool) (k0 :
    Reg.EVR_BAD_COUNT ∈ ps) (k1 : Reg.EVR_DROP_COUNT ∈ ps) :
    a.regsOnly ps ((Blk.recorderScan b wakeOff)) ↔ a.regsOnly ps b := by
  unfold Blk.recorderScan; simp [k0, k1, Blk.foldl_regsOnly, Blk.ite_regsOnly]
@[simp] theorem Blk.latchRecord_regsOnly {ps : List Nat} {a : Blk} (b : Blk) (code : Nat) (args : Bytes) :
    a.regsOnly ps ((Blk.latchRecord b code args)) ↔ a.regsOnly ps b := by
  refine Blk.regsOnly_iff (Blk.onlyIn_regs (ps := [Part.evr]) ?_ (by decide) _)
  simp
@[simp] theorem Blk.evrRead_regsOnly {ps : List Nat} {a : Blk} (d : Desc) (b : Blk) :
    a.regsOnly ps ((Blk.evrRead d b)) ↔ a.regsOnly ps b := by
  refine Blk.regsOnly_iff (Blk.onlyIn_regs (ps := [Part.evr, Part.hst, Part.out]) ?_ (by decide) _)
  simp
@[simp] theorem Blk.evrReadDone_regsOnly {ps : List Nat} {a : Blk} (b : Blk) :
    a.regsOnly ps ((Blk.evrReadDone b)) ↔ a.regsOnly ps b := by
  refine Blk.regsOnly_iff (Blk.onlyIn_regs (ps := [Part.evr, Part.hst, Part.out]) ?_ (by decide) _)
  simp
@[simp] theorem Blk.evrClear_regsOnly {ps : List Nat} {a : Blk} (d : Desc) (b : Blk) (k0 : Reg.EVR_AUTH_FAIL_COUNT ∈
    ps) (k1 : Reg.EVR_DROP_COUNT ∈ ps) :
    a.regsOnly ps ((Blk.evrClear d b)) ↔ a.regsOnly ps b := by
  unfold Blk.evrClear; dsimp only; (repeat' split) <;> simp [k0, k1]
@[simp] theorem Blk.clearStart_regsOnly {ps : List Nat} {a : Blk} (b : Blk) (k0 : Reg.AIR_EFFECT_DROP_COUNT ∈ ps) (k1
    : Reg.DVT_ABORT_COUNT ∈ ps) (k2 : Reg.DVT_COMMIT_COUNT ∈ ps) (k3 : Reg.DVT_DEADLOCK_COUNT ∈ ps) (k4 :
    Reg.MAP_LATE_COUNT ∈ ps) (ki : itemRegs ⊆ ps) :
    a.regsOnly ps ((Blk.clearStart b)) ↔ a.regsOnly ps b := by
  unfold Blk.clearStart; (repeat' split) <;> simp [k0, k1, k2, k3, k4, ki, ki drop_mem]
@[simp] theorem Blk.clearComplete_regsOnly {ps : List Nat} {a : Blk} (b : Blk) :
    a.regsOnly ps ((Blk.clearComplete b)) ↔ a.regsOnly ps b := by
  refine Blk.regsOnly_iff (Blk.onlyIn_regs (ps := [Part.evr, Part.hst, Part.out]) ?_ (by decide) _)
  simp
@[simp] theorem Blk.loseSeconds_regsOnly {ps : List Nat} {a : Blk} (b : Blk) (k : Nat) :
    a.regsOnly ps ((Blk.loseSeconds b k)) ↔ a.regsOnly ps b := by
  refine Blk.regsOnly_iff (Blk.onlyIn_regs (ps := [Part.fresh, Part.inv]) ?_ (by decide) _)
  simp
@[simp] theorem Blk.badRecords_regsOnly {ps : List Nat} {a : Blk} (b : Blk) (n : Nat) (k0 : Reg.EVR_BAD_COUNT ∈ ps) :
    a.regsOnly ps ((Blk.badRecords b n)) ↔ a.regsOnly ps b := by
  unfold Blk.badRecords; (repeat' split) <;> simp [k0]
@[simp] theorem Blk.losePerm_regsOnly {ps : List Nat} {a : Blk} (b : Blk) (k : Nat) (k0 : Reg.EVR_BAD_COUNT ∈ ps) :
    a.regsOnly ps ((Blk.losePerm b k)) ↔ a.regsOnly ps b := by
  unfold Blk.losePerm; (repeat' split) <;> simp [k0]
@[simp] theorem Blk.loseCirc_regsOnly {ps : List Nat} {a : Blk} (b : Blk) (k : Nat) (k0 : Reg.EVR_BAD_COUNT ∈ ps) :
    a.regsOnly ps ((Blk.loseCirc b k)) ↔ a.regsOnly ps b := by
  unfold Blk.loseCirc; (repeat' split) <;> simp [k0]
@[simp] theorem Blk.loseBlock_regsOnly {ps : List Nat} {a : Blk} (b : Blk) (n : Nat) (k0 : Reg.EVR_BAD_COUNT ∈ ps) :
    a.regsOnly ps ((Blk.loseBlock b n)) ↔ a.regsOnly ps b := by
  unfold Blk.loseBlock; (repeat' split) <;> simp [k0]
@[simp] theorem Blk.mramRead_regsOnly {ps : List Nat} {a : Blk} (b : Blk) (r : MramRead) (k0 : Reg.EVR_BAD_COUNT ∈
    ps) (k1 : Reg.EVR_DROP_COUNT ∈ ps) (k2 : Reg.MEM_MRAM_BAD_COUNT ∈ ps) (k3 : Reg.MEM_MRAM_REREAD_COUNT ∈ ps) :
    a.regsOnly ps ((Blk.mramRead b r)) ↔ a.regsOnly ps b := by
  unfold Blk.mramRead; (repeat' split) <;> simp [k0, k1, k2, k3]
@[simp] theorem Blk.hlRx_regsOnly {ps : List Nat} {a : Blk} (b : Blk) (h typ : Nat) (frame : Bytes) (k0 :
    Reg.HDL_HCRC_ERR_COUNT ∈ ps) (k1 : Reg.HDL_MIC_ERR_COUNT ∈ ps) :
    a.regsOnly ps ((Blk.hlRx b h typ frame).2) ↔ a.regsOnly ps b := by
  unfold Blk.hlRx; dsimp only; (repeat' split) <;> simp [k0, k1]
@[simp] theorem Blk.txSend_regsOnly {ps : List Nat} {a : Blk} (b : Blk) (h launch phy sts short : Nat) (v psdu :
    Bytes) :
    a.regsOnly ps ((Blk.txSend b h launch phy sts short v psdu)) ↔ a.regsOnly ps b := by
  refine Blk.regsOnly_iff (Blk.onlyIn_regs (ps := [Part.hdl, Part.out]) ?_ (by decide) _)
  simp
@[simp] theorem Blk.setHState_regsOnly {ps : List Nat} {a : Blk} (b : Blk) (h : Nat) (st : HState) (k0 :
    Reg.EVR_DROP_COUNT ∈ ps) :
    a.regsOnly ps ((Blk.setHState b h st)) ↔ a.regsOnly ps b := by
  unfold Blk.setHState; dsimp only; (repeat' split) <;> simp [k0]
@[simp] theorem Blk.failover_regsOnly {ps : List Nat} {a : Blk} (b : Blk) (h : Nat) :
    a.regsOnly ps ((Blk.failover b h)) ↔ a.regsOnly ps b := by
  refine Blk.regsOnly_iff (Blk.onlyIn_regs (ps := [Part.air]) ?_ (by decide) _)
  simp
@[simp] theorem Blk.headLost_regsOnly {ps : List Nat} {a : Blk} (b : Blk) (h : Nat) (k0 : Reg.EVR_DROP_COUNT ∈ ps) :
    a.regsOnly ps ((Blk.headLost b h)) ↔ a.regsOnly ps b := by
  unfold Blk.headLost; (repeat' split) <;> simp [k0]
@[simp] theorem Blk.sendKeys_regsOnly {ps : List Nat} {a : Blk} (b : Blk) (h : Nat) (qs : List Nat) :
    a.regsOnly ps (b.sendKeys h qs) ↔ a.regsOnly ps b := by
  refine Blk.regsOnly_iff (Blk.onlyIn_regs (ps := [Part.hdl, Part.out]) ?_ (by decide) _)
  simp
@[simp] theorem Blk.sendMembers_regsOnly {ps : List Nat} {a : Blk} (b : Blk) (h : Nat) :
    a.regsOnly ps ((Blk.sendMembers b h)) ↔ a.regsOnly ps b := by
  refine Blk.regsOnly_iff (Blk.onlyIn_regs (ps := [Part.hdl, Part.out]) ?_ (by decide) _)
  simp
@[simp] theorem Blk.helloRefused_regsOnly {ps : List Nat} {a : Blk} (b : Blk) (h eui : Nat) (k0 : Reg.EVR_DROP_COUNT
    ∈ ps) (k1 : Reg.HDL_REFUSE_COUNT ∈ ps) :
    a.regsOnly ps ((Blk.helloRefused b h eui)) ↔ a.regsOnly ps b := by
  unfold Blk.helloRefused; dsimp only; (repeat' split) <;> simp [k0, k1]
@[simp] theorem Blk.join_regsOnly {ps : List Nat} {a : Blk} (b0 : Blk) (h : Nat) (site : Bytes) (src : Bytes) (f :
    HlRx) (p : Bytes) (k0 : Reg.EVR_DROP_COUNT ∈ ps) :
    a.regsOnly ps ((Blk.join b0 h site src f p)) ↔ a.regsOnly ps b0 := by
  unfold Blk.join; dsimp only; (repeat' split) <;> simp [k0]
@[simp] theorem Blk.hello_regsOnly {ps : List Nat} {a : Blk} (b : Blk) (h : Nat) (frame : Bytes) (k0 :
    Reg.EVR_DROP_COUNT ∈ ps) (k1 : Reg.HDL_HCRC_ERR_COUNT ∈ ps) (k2 : Reg.HDL_MIC_ERR_COUNT ∈ ps) (k3 :
    Reg.HDL_REFUSE_COUNT ∈ ps) :
    a.regsOnly ps ((Blk.hello b h frame)) ↔ a.regsOnly ps b := by
  unfold Blk.hello; dsimp only; (repeat' split) <;> simp [k0, k1, k2, k3]
@[simp] theorem Blk.exchange_regsOnly {ps : List Nat} {a : Blk} (b : Blk) (h : Nat) (e : Exch) (k0 :
    Reg.HDL_OUTLIER_COUNT ∈ ps) :
    a.regsOnly ps ((Blk.exchange b h e)) ↔ a.regsOnly ps b := by
  unfold Blk.exchange; dsimp only; (repeat' split) <;> simp [k0]
@[simp] theorem Blk.hbUp_regsOnly {ps : List Nat} {a : Blk} (h : Nat) (frame : Bytes) (t4 : Nat) (b : Blk) (k0 :
    Reg.EVR_DROP_COUNT ∈ ps) (k1 : Reg.HDL_HCRC_ERR_COUNT ∈ ps) (k2 : Reg.HDL_MIC_ERR_COUNT ∈ ps) (k3 :
    Reg.HDL_OUTLIER_COUNT ∈ ps) :
    a.regsOnly ps (Blk.hbUp h frame t4 b) ↔ a.regsOnly ps b := by
  have e := Blk.hlRx_regsOnly (ps := ps) (a := a) (b.moveTo (t4 / 65536)) h 0x04 frame (by assumption) (by assumption)
  unfold Blk.hbUp; try dsimp only
  generalize (b.moveTo (t4 / 65536)).hlRx h 0x04 frame = r at e ⊢
  obtain ⟨r, b1⟩ := r
  first
  | rw [← e]
  | rw [Blk.moveTo_regsOnly _ _ ] at e; rw [← e]
  cases r with
  | none => rfl
  | some x =>
    dsimp only at *
    (repeat' split) <;> simp [k0, k1, k2, k3, Blk.foldl_regsOnly, Blk.ite_regsOnly]
@[simp] theorem Blk.meanPs_regsOnly {ps : List Nat} {a : Blk} (b : Blk) (mm : Option Int) :
    a.regsOnly ps ((Blk.meanPs b mm).2) ↔ a.regsOnly ps b := by
  refine Blk.regsOnly_iff (Blk.onlyIn_regs (ps := [Part.fresh]) ?_ (by decide) _)
  simp
@[simp] theorem Blk.stepFound_regsOnly {ps : List Nat} {a : Blk} (b : Blk) (h : Nat) (prev m : Option Int) (k0 :
    Reg.EVR_DROP_COUNT ∈ ps) :
    a.regsOnly ps ((Blk.stepFound b h prev m)) ↔ a.regsOnly ps b := by
  unfold Blk.stepFound; dsimp only; (repeat' split) <;> simp [k0]
@[simp] theorem Blk.setDelays_regsOnly {ps : List Nat} {a : Blk} (b : Blk) (h : Nat) (mm : Option Int) :
    a.regsOnly ps ((Blk.setDelays b h mm)) ↔ a.regsOnly ps b := by
  refine Blk.regsOnly_iff (Blk.onlyIn_regs (ps := [Part.hdl]) ?_ (by decide) _)
  simp
@[simp] theorem Blk.headState_regsOnly {ps : List Nat} {a : Blk} (b : Blk) (h : Nat) (k0 : Reg.EVR_DROP_COUNT ∈ ps) :
    a.regsOnly ps ((Blk.headState b h)) ↔ a.regsOnly ps b := by
  unfold Blk.headState; dsimp only; (repeat' split) <;> simp [k0]
@[simp] theorem Blk.holdExpiry_regsOnly {ps : List Nat} {a : Blk} (t h : Nat) (b0 : Blk) (k0 : Reg.EVR_DROP_COUNT ∈
    ps) :
    a.regsOnly ps ((Blk.holdExpiry t h b0)) ↔ a.regsOnly ps b0 := by
  unfold Blk.holdExpiry; dsimp only; (repeat' split) <;> simp [k0]
@[simp] theorem Blk.recalStart_regsOnly {ps : List Nat} {a : Blk} (b : Blk) (h : Nat) (a' : Int) :
    a.regsOnly ps ((Blk.recalStart b h a')) ↔ a.regsOnly ps b := by
  refine Blk.regsOnly_iff (Blk.onlyIn_regs (ps := [Part.hdl]) ?_ (by decide) _)
  simp
@[simp] theorem Blk.holdAsym_regsOnly {ps : List Nat} {a : Blk} (b : Blk) (h : Nat) :
    a.regsOnly ps ((Blk.holdAsym b h).2) ↔ a.regsOnly ps b := by
  refine Blk.regsOnly_iff (Blk.onlyIn_regs (ps := [Part.fresh]) ?_ (by decide) _)
  simp
@[simp] theorem Blk.windowReport_regsOnly {ps : List Nat} {a : Blk} (b : Blk) (h pos : Nat) :
    a.regsOnly ps ((Blk.windowReport b h pos)) ↔ a.regsOnly ps b := by
  refine Blk.regsOnly_iff (Blk.onlyIn_regs (ps := [Part.hdl]) ?_ (by decide) _)
  simp
@[simp] theorem Blk.txReport_regsOnly {ps : List Nat} {a : Blk} (h : Nat) (frame : Bytes) (b : Blk) (k0 :
    Reg.HDL_HCRC_ERR_COUNT ∈ ps) (k1 : Reg.HDL_LATE_COUNT ∈ ps) (k2 : Reg.HDL_MIC_ERR_COUNT ∈ ps) :
    a.regsOnly ps (Blk.txReport h frame b) ↔ a.regsOnly ps b := by
  have e := Blk.hlRx_regsOnly (ps := ps) (a := a) b h 0x06 frame (by assumption) (by assumption)
  unfold Blk.txReport; try dsimp only
  generalize b.hlRx h 0x06 frame = r at e ⊢
  obtain ⟨r, b1⟩ := r
  first
  | rw [← e]
  | rw [Blk.moveTo_regsOnly _ _ ] at e; rw [← e]
  cases r with
  | none => rfl
  | some x =>
    dsimp only at *
    (repeat' split) <;> simp [k0, k1, k2, Blk.foldl_regsOnly, Blk.ite_regsOnly]
@[simp] theorem Blk.judgeWindow_regsOnly {ps : List Nat} {a : Blk} (b : Blk) :
    a.regsOnly ps ((Blk.judgeWindow b)) ↔ a.regsOnly ps b := by
  refine Blk.regsOnly_iff (Blk.onlyIn_regs (ps := [Part.hdl]) ?_ (by decide) _)
  simp
@[simp] theorem Blk.sendWindow_regsOnly {ps : List Nat} {a : Blk} (b : Blk) (t mask : Nat) :
    a.regsOnly ps ((Blk.sendWindow b t mask)) ↔ a.regsOnly ps b := by
  refine Blk.regsOnly_iff (Blk.onlyIn_regs (ps := [Part.hdl, Part.out]) ?_ (by decide) _)
  simp
@[simp] theorem Blk.stopWindow_regsOnly {ps : List Nat} {a : Blk} (t0 : Nat) (b0 : Blk) :
    a.regsOnly ps ((Blk.stopWindow t0 b0)) ↔ a.regsOnly ps b0 := by
  refine Blk.regsOnly_iff (Blk.onlyIn_regs (ps := [Part.hdl, Part.inv, Part.out]) ?_ (by decide) _)
  simp
@[simp] theorem Blk.hbLoss_regsOnly {ps : List Nat} {a : Blk} (t h : Nat) (b0 : Blk) (k0 : Reg.EVR_DROP_COUNT ∈ ps) :
    a.regsOnly ps ((Blk.hbLoss t h b0)) ↔ a.regsOnly ps b0 := by
  unfold Blk.hbLoss; dsimp only; (repeat' split) <;> simp [k0]
@[simp] theorem Blk.sgmii_regsOnly {ps : List Nat} {a : Blk} (b : Blk) (p : Nat) (up : Bool) (k0 : Reg.EVR_DROP_COUNT
    ∈ ps) :
    a.regsOnly ps ((Blk.sgmii b p up)) ↔ a.regsOnly ps b := by
  unfold Blk.sgmii; (repeat' split) <;> simp [k0]
@[simp] theorem Blk.setFilter_regsOnly {ps : List Nat} {a : Blk} (b : Blk) (mix : Nat) (f : Filter) :
    a.regsOnly ps ((Blk.setFilter b mix f)) ↔ a.regsOnly ps b := by
  refine Blk.regsOnly_iff (Blk.onlyIn_regs (ps := [Part.pos]) ?_ (by decide) _)
  simp
@[simp] theorem Blk.withdraw_regsOnly {ps : List Nat} {a : Blk} (b : Blk) (mix : Nat) (k0 : Reg.POS_FIX_LOSS_COUNT ∈
    ps) :
    a.regsOnly ps ((Blk.withdraw b mix)) ↔ a.regsOnly ps b := by
  unfold Blk.withdraw; dsimp only; (repeat' split) <;> simp [k0]
@[simp] theorem Blk.initFilter_regsOnly {ps : List Nat} {a : Blk} (b0 : Blk) (mix : Nat) (k0 : Reg.POS_FIX_LOSS_COUNT
    ∈ ps) :
    a.regsOnly ps ((Blk.initFilter b0 mix)) ↔ a.regsOnly ps b0 := by
  unfold Blk.initFilter; (repeat' split) <;> simp [k0]
@[simp] theorem Blk.clearFilter_regsOnly {ps : List Nat} {a : Blk} (b : Blk) (mix : Nat) :
    a.regsOnly ps ((Blk.clearFilter b mix)) ↔ a.regsOnly ps b := by
  refine Blk.regsOnly_iff (Blk.onlyIn_regs (ps := [Part.pos]) ?_ (by decide) _)
  simp
@[simp] theorem Blk.readyFilter_regsOnly {ps : List Nat} {a : Blk} (b : Blk) (mix : Nat) (k0 : Reg.POS_FIX_LOSS_COUNT
    ∈ ps) :
    a.regsOnly ps ((Blk.readyFilter b mix)) ↔ a.regsOnly ps b := by
  unfold Blk.readyFilter; (repeat' split) <;> simp [k0]
@[simp] theorem Blk.orbitLoad_regsOnly {ps : List Nat} {a : Blk} (d : Desc) (set : Bytes) (b : Blk) :
    a.regsOnly ps ((Blk.orbitLoad d set b)) ↔ a.regsOnly ps b := by
  refine Blk.regsOnly_iff (Blk.onlyIn_regs (ps := [Part.hst, Part.out, Part.pos]) ?_ (by decide) _)
  simp
@[simp] theorem Blk.orbitActivate_regsOnly {ps : List Nat} {a : Blk} (t : Nat) (b0 : Blk) :
    a.regsOnly ps ((Blk.orbitActivate t b0)) ↔ a.regsOnly ps b0 := by
  refine Blk.regsOnly_iff (Blk.onlyIn_regs (ps := [Part.hst, Part.inv, Part.out, Part.pos]) ?_ (by decide) _)
  simp
@[simp] theorem Blk.dropOldSet_regsOnly {ps : List Nat} {a : Blk} (b : Blk) :
    a.regsOnly ps ((Blk.dropOldSet b)) ↔ a.regsOnly ps b := by
  refine Blk.regsOnly_iff (Blk.onlyIn_regs (ps := [Part.pos]) ?_ (by decide) _)
  simp
@[simp] theorem Blk.posRefSet_regsOnly {ps : List Nat} {a : Blk} (d : Desc) (b : Blk) :
    a.regsOnly ps ((Blk.posRefSet d b)) ↔ a.regsOnly ps b := by
  refine Blk.regsOnly_iff (Blk.onlyIn_regs (ps := [Part.fresh, Part.hst, Part.out, Part.pos]) ?_ (by decide) _)
  simp
@[simp] theorem Blk.takeRef_regsOnly {ps : List Nat} {a : Blk} (b : Blk) (k0 : Reg.EVR_DROP_COUNT ∈ ps) (k1 :
    Reg.POS_FIX_LOSS_COUNT ∈ ps) :
    a.regsOnly ps ((Blk.takeRef b)) ↔ a.regsOnly ps b := by
  unfold Blk.takeRef; dsimp only; repeat' split
  all_goals simp [k0, k1, Blk.foldl_regsOnly, Blk.ite_regsOnly]
@[simp] theorem Blk.queueEpoch_regsOnly {ps : List Nat} {a : Blk} (b : Blk) (e : Epoch) :
    a.regsOnly ps ((Blk.queueEpoch b e)) ↔ a.regsOnly ps b := by
  refine Blk.regsOnly_iff (Blk.onlyIn_regs (ps := [Part.pos]) ?_ (by decide) _)
  simp
@[simp] theorem Blk.payloadFailed_regsOnly {ps : List Nat} {a : Blk} (b0 : Blk) (mix t0 : Nat) (ms : List Mark) (k0 :
    Reg.POS_OBS_DROP_COUNT ∈ ps) :
    a.regsOnly ps ((Blk.payloadFailed b0 mix t0 ms)) ↔ a.regsOnly ps b0 := by
  unfold Blk.payloadFailed; dsimp only; (repeat' split) <;> simp [k0]
@[simp] theorem Blk.payloadDone_regsOnly {ps : List Nat} {a : Blk} (b : Blk) (mix : Nat) (p : Payload) (t0 : Nat) (k0
    : Reg.POS_FIX_LOSS_COUNT ∈ ps) (k1 : Reg.POS_OBS_DROP_COUNT ∈ ps) :
    a.regsOnly ps ((Blk.payloadDone b mix p t0)) ↔ a.regsOnly ps b := by
  unfold Blk.payloadDone; dsimp only; (repeat' split) <;> simp [k0, k1]
@[simp] theorem Blk.obsFragment_regsOnly {ps : List Nat} {a : Blk} (b : Blk) (mix : Nat) (body : Bytes) (t0 : Nat)
    (k0 : Reg.POS_FIX_LOSS_COUNT ∈ ps) (k1 : Reg.POS_OBS_DROP_COUNT ∈ ps) :
    a.regsOnly ps ((Blk.obsFragment b mix body t0)) ↔ a.regsOnly ps b := by
  unfold Blk.obsFragment; dsimp only; (repeat' split) <;> simp [k0, k1]
@[simp] theorem Blk.obsTimeout_regsOnly {ps : List Nat} {a : Blk} (t mix : Nat) (b0 : Blk) (k0 :
    Reg.POS_OBS_DROP_COUNT ∈ ps) :
    a.regsOnly ps ((Blk.obsTimeout t mix b0)) ↔ a.regsOnly ps b0 := by
  unfold Blk.obsTimeout; dsimp only; (repeat' split) <;> simp [k0]
@[simp] theorem Blk.uwbEpoch_regsOnly {ps : List Nat} {a : Blk} (b : Blk) (mix arrival t0 : Nat) (k0 :
    Reg.POS_FIX_LOSS_COUNT ∈ ps) :
    a.regsOnly ps ((Blk.uwbEpoch b mix arrival t0)) ↔ a.regsOnly ps b := by
  unfold Blk.uwbEpoch; (repeat' split) <;> simp [k0]
@[simp] theorem Blk.furtherMark_regsOnly {ps : List Nat} {a : Blk} (b : Blk) (mix arrival t0 : Nat) (ms : List Mark)
    (k0 : Reg.POS_FIX_LOSS_COUNT ∈ ps) :
    a.regsOnly ps ((Blk.furtherMark b mix arrival t0 ms)) ↔ a.regsOnly ps b := by
  unfold Blk.furtherMark; dsimp only; (repeat' split) <;> simp [k0]
@[simp] theorem Blk.setStep_regsOnly {ps : List Nat} {a : Blk} (b : Blk) (k demand : Nat) (k0 : Reg.EVR_DROP_COUNT ∈
    ps) :
    a.regsOnly ps ((Blk.setStep b k demand)) ↔ a.regsOnly ps b := by
  unfold Blk.setStep; (repeat' split) <;> simp [k0]
@[simp] theorem Blk.degradeNow_regsOnly {ps : List Nat} {a : Blk} (b : Blk) (k0 : Reg.EVR_DROP_COUNT ∈ ps) :
    a.regsOnly ps ((Blk.degradeNow b)) ↔ a.regsOnly ps b := by
  unfold Blk.degradeNow; dsimp only; (repeat' split) <;> simp [k0]
@[simp] theorem Blk.degradeEval_regsOnly {ps : List Nat} {a : Blk} (t : Nat) (b0 : Blk) (k0 : Reg.EVR_DROP_COUNT ∈
    ps) :
    a.regsOnly ps ((Blk.degradeEval t b0)) ↔ a.regsOnly ps b0 := by
  unfold Blk.degradeEval; (repeat' split) <;> simp [k0]
@[simp] theorem Blk.epochAdmit_regsOnly {ps : List Nat} {a : Blk} (b : Blk) (k0 : Reg.POS_OBS_DROP_COUNT ∈ ps) (k1 :
    Reg.POS_SKIP_COUNT ∈ ps) :
    a.regsOnly ps ((Blk.epochAdmit b)) ↔ a.regsOnly ps b := by
  unfold Blk.epochAdmit; (repeat' split) <;> simp [k0, k1]
@[simp] theorem Blk.searchDeadline_regsOnly {ps : List Nat} {a : Blk} (t mix : Nat) (b0 : Blk) (k0 :
    Reg.POS_SEARCH_ABORT_COUNT ∈ ps) :
    a.regsOnly ps ((Blk.searchDeadline t mix b0)) ↔ a.regsOnly ps b0 := by
  unfold Blk.searchDeadline; dsimp only; (repeat' split) <;> simp [k0]
@[simp] theorem Blk.headResid_regsOnly {ps : List Nat} {a : Blk} (b : Blk) (h : Nat) (r : Int) (k0 :
    Reg.EVR_DROP_COUNT ∈ ps) :
    a.regsOnly ps ((Blk.headResid b h r)) ↔ a.regsOnly ps b := by
  unfold Blk.headResid; dsimp only; (repeat' split) <;> simp [k0]
@[simp] theorem Blk.headSet_regsOnly {ps : List Nat} {a : Blk} (d : Desc) (tab : Bytes) (b : Blk) :
    a.regsOnly ps ((Blk.headSet d tab b)) ↔ a.regsOnly ps b := by
  refine Blk.regsOnly_iff (Blk.onlyIn_regs (ps := [Part.hst, Part.out, Part.pos]) ?_ (by decide) _)
  simp
@[simp] theorem Blk.takeHeads_regsOnly {ps : List Nat} {a : Blk} (b : Blk) :
    a.regsOnly ps ((Blk.takeHeads b)) ↔ a.regsOnly ps b := by
  refine Blk.regsOnly_iff (Blk.onlyIn_regs (ps := [Part.hst, Part.out, Part.pos]) ?_ (by decide) _)
  simp
@[simp] theorem Blk.filterReset_regsOnly {ps : List Nat} {a : Blk} (d : Desc) (b : Blk) (k0 : Reg.POS_FIX_LOSS_COUNT
    ∈ ps) :
    a.regsOnly ps ((Blk.filterReset d b)) ↔ a.regsOnly ps b := by
  unfold Blk.filterReset; simp [k0, Blk.foldl_regsOnly, Blk.ite_regsOnly]
@[simp] theorem Blk.offerRead_regsOnly {ps : List Nat} {a : Blk} (d : Desc) (b : Blk) :
    a.regsOnly ps ((Blk.offerRead d b)) ↔ a.regsOnly ps b := by
  refine Blk.regsOnly_iff (Blk.onlyIn_regs (ps := [Part.hst, Part.out]) ?_ (by decide) _)
  simp
@[simp] theorem Blk.rtcmOut_regsOnly {ps : List Nat} {a : Blk} (b : Blk) (t : Nat) (sats : List RefSat) (ki :
    itemRegs ⊆ ps) :
    a.regsOnly ps ((Blk.rtcmOut b t sats)) ↔ a.regsOnly ps b := by
  unfold Blk.rtcmOut; dsimp only; (repeat' split) <;> simp [ki, ki drop_mem]
@[simp] theorem Blk.posEpoch_regsOnly {ps : List Nat} {a : Blk} (b : Blk) (t : Nat) (r : RefEpoch) (ki : itemRegs ⊆
    ps) :
    a.regsOnly ps ((Blk.posEpoch b t r)) ↔ a.regsOnly ps b := by
  unfold Blk.posEpoch; (repeat' split) <;> simp [ki, ki drop_mem]
@[simp] theorem Blk.checkFix_regsOnly {ps : List Nat} {a : Blk} (b : Blk) (e : Epoch) (ref : Config.V3) (x : Est)
    (sats : List SatIn) (k0 : Reg.POS_FIX_LOSS_COUNT ∈ ps) :
    a.regsOnly ps ((Blk.checkFix b e ref x sats)) ↔ a.regsOnly ps b := by
  unfold Blk.checkFix; dsimp only; (repeat' split) <;> simp [k0]
@[simp] theorem Blk.tryFix_regsOnly {ps : List Nat} {a : Blk} (b : Blk) (e : Epoch) (s : Found) (refOk : Bool) :
    a.regsOnly ps ((Blk.tryFix b e s refOk)) ↔ a.regsOnly ps b := by
  refine Blk.regsOnly_iff (Blk.onlyIn_regs (ps := [Part.pos]) ?_ (by decide) _)
  simp
@[simp] theorem Blk.revalidate_regsOnly {ps : List Nat} {a : Blk} (b : Blk) (e : Epoch) (s : Found) (k0 :
    Reg.POS_FIX_LOSS_COUNT ∈ ps) :
    a.regsOnly ps ((Blk.revalidate b e s)) ↔ a.regsOnly ps b := by
  unfold Blk.revalidate; dsimp only; (repeat' split) <;> simp [k0]
@[simp] theorem Blk.searchFix_regsOnly {ps : List Nat} {a : Blk} (b : Blk) (e : Epoch) (ref : Config.V3) (x : Est)
    (sats : List SatIn) (refOk : Bool) (k0 : Reg.POS_FIX_LOSS_COUNT ∈ ps) :
    a.regsOnly ps ((Blk.searchFix b e ref x sats refOk)) ↔ a.regsOnly ps b := by
  unfold Blk.searchFix; dsimp only; (repeat' split) <;> simp [k0]
@[simp] theorem Blk.deliverSol_regsOnly {ps : List Nat} {a : Blk} (b : Blk) (e : Epoch) (item : Bytes) (valid : Bool)
    (s : Sol) (k0 : Reg.AIR_EFFECT_DROP_COUNT ∈ ps) (k1 : Reg.DVT_ABORT_COUNT ∈ ps) (k2 : Reg.DVT_COMMIT_COUNT ∈ ps)
    (k3 : Reg.DVT_DEADLOCK_COUNT ∈ ps) (k4 : Reg.MAP_LATE_COUNT ∈ ps) (ki : itemRegs ⊆ ps) :
    a.regsOnly ps ((Blk.deliverSol b e item valid s)) ↔ a.regsOnly ps b := by
  unfold Blk.deliverSol; dsimp only; (repeat' split) <;> simp [k0, k1, k2, k3, k4, ki, ki drop_mem]
@[simp] theorem Blk.storeFilter_regsOnly {ps : List Nat} {a : Blk} (b : Blk) (e : Epoch) (u : Updated) (sats : List
    SatIn) (s : Sol) (heading : Nat) (out : Config.V3) :
    a.regsOnly ps ((Blk.storeFilter b e u sats s heading out)) ↔ a.regsOnly ps b := by
  refine Blk.regsOnly_iff (Blk.onlyIn_regs (ps := [Part.pos]) ?_ (by decide) _)
  simp
@[simp] theorem Blk.emitSol_regsOnly {ps : List Nat} {a : Blk} (b : Blk) (e : Epoch) (s : Sol) (heading : Nat) (kept
    : Bool) (k0 : Reg.AIR_EFFECT_DROP_COUNT ∈ ps) (k1 : Reg.DVT_ABORT_COUNT ∈ ps) (k2 : Reg.DVT_COMMIT_COUNT ∈ ps)
    (k3 : Reg.DVT_DEADLOCK_COUNT ∈ ps) (k4 : Reg.MAP_LATE_COUNT ∈ ps) (ki : itemRegs ⊆ ps) :
    a.regsOnly ps ((Blk.emitSol b e s heading kept)) ↔ a.regsOnly ps b := by
  unfold Blk.emitSol; (repeat' split) <;> simp [k0, k1, k2, k3, k4, ki, ki drop_mem]
@[simp] theorem Blk.noSolution_regsOnly {ps : List Nat} {a : Blk} (b : Blk) (e : Epoch) (k0 :
    Reg.AIR_EFFECT_DROP_COUNT ∈ ps) (k1 : Reg.DVT_ABORT_COUNT ∈ ps) (k2 : Reg.DVT_COMMIT_COUNT ∈ ps) (k3 :
    Reg.DVT_DEADLOCK_COUNT ∈ ps) (k4 : Reg.MAP_LATE_COUNT ∈ ps) (ki : itemRegs ⊆ ps) :
    a.regsOnly ps ((Blk.noSolution b e)) ↔ a.regsOnly ps b := by
  unfold Blk.noSolution; (repeat' split) <;> simp [k0, k1, k2, k3, k4, ki, ki drop_mem]
@[simp] theorem Blk.ageFilter_regsOnly {ps : List Nat} {a : Blk} (b : Blk) (e : Epoch) (k0 : Reg.POS_FIX_LOSS_COUNT ∈
    ps) :
    a.regsOnly ps ((Blk.ageFilter b e)) ↔ a.regsOnly ps b := by
  unfold Blk.ageFilter; dsimp only; (repeat' split) <;> simp [k0]
@[simp] theorem Blk.solveFrom_regsOnly {ps : List Nat} {a : Blk} (b : Blk) (e : Epoch) (x0 : Est) (obs : List ObsSat)
    (as : List Arrival) (tSol : Int) (k0 : Reg.AIR_EFFECT_DROP_COUNT ∈ ps) (k1 : Reg.DVT_ABORT_COUNT ∈ ps) (k2 :
        Reg.DVT_COMMIT_COUNT ∈ ps) (k3 : Reg.DVT_DEADLOCK_COUNT ∈ ps) (k4 : Reg.MAP_LATE_COUNT ∈ ps) (k5 :
        Reg.POS_FIX_LOSS_COUNT ∈ ps) (ki : itemRegs ⊆ ps) : a.regsOnly ps (b.solveFrom e x0 obs as tSol) ↔ a.regsOnly
        ps b := by
  have g : ∀ (ref : Option Config.V3) (u : Updated) (all sats : List SatIn) (k : Bool), a.regsOnly ps (match ref with
      | none => b
      | some p => if !u.dd then b else (b.checkFix e p u.est all).searchFix e p u.est sats k) ↔ a.regsOnly ps b := by
    intro ref u all sats k
    cases ref <;> dsimp only <;> (repeat' split) <;> simp [k0, k1, k2, k3, k4, k5, ki, ki drop_mem,
        Blk.foldl_regsOnly, Blk.ite_regsOnly]
  unfold Blk.solveFrom
  extract_lets f recs t r ref x1 used codes code clk dt all x2 sats u b1 b2 f2 mode out s heading kept
  rw [Blk.emitSol_regsOnly, Blk.storeFilter_regsOnly] <;> try assumption
  have e2 : a.regsOnly ps b2 ↔ a.regsOnly ps b1 := by
    refine Blk.foldl_regsOnly (fun c q => ?_) _ _
    simp [k0, k1, k2, k3, k4, k5, ki, ki drop_mem, Blk.foldl_regsOnly, Blk.ite_regsOnly]
  exact e2.trans (g ref u all (sats.filter (SatIn.has 1)) (!r.bad))
@[simp] theorem Blk.solve_regsOnly {ps : List Nat} {a : Blk} (b0 : Blk) (e : Epoch) (k0 : Reg.AIR_EFFECT_DROP_COUNT ∈
    ps) (k1 : Reg.DVT_ABORT_COUNT ∈ ps) (k2 : Reg.DVT_COMMIT_COUNT ∈ ps) (k3 : Reg.DVT_DEADLOCK_COUNT ∈ ps) (k4 :
    Reg.MAP_LATE_COUNT ∈ ps) (k5 : Reg.POS_FIX_LOSS_COUNT ∈ ps) (ki : itemRegs ⊆ ps) :
    a.regsOnly ps ((Blk.solve b0 e)) ↔ a.regsOnly ps b0 := by
  unfold Blk.solve; dsimp only; (repeat' split) <;> simp [k0, k1, k2, k3, k4, k5, ki, ki drop_mem]
@[simp] theorem Blk.solutionComplete_regsOnly {ps : List Nat} {a : Blk} (t : Nat) (b0 : Blk) (k0 :
    Reg.AIR_EFFECT_DROP_COUNT ∈ ps) (k1 : Reg.DVT_ABORT_COUNT ∈ ps) (k2 : Reg.DVT_COMMIT_COUNT ∈ ps) (k3 :
    Reg.DVT_DEADLOCK_COUNT ∈ ps) (k4 : Reg.MAP_LATE_COUNT ∈ ps) (k5 : Reg.POS_FIX_LOSS_COUNT ∈ ps) (ki : itemRegs ⊆
    ps) :
    a.regsOnly ps ((Blk.solutionComplete t b0)) ↔ a.regsOnly ps b0 := by
  unfold Blk.solutionComplete; dsimp only; (repeat' split) <;> simp [k0, k1, k2, k3, k4, k5, ki, ki drop_mem]
@[simp] theorem Blk.setAnt_regsOnly {ps : List Nat} {a : Blk} (b : Blk) (st : Nat) (k0 : Reg.EVR_DROP_COUNT ∈ ps) :
    a.regsOnly ps ((Blk.setAnt b st)) ↔ a.regsOnly ps b := by
  unfold Blk.setAnt; dsimp only; (repeat' split) <;> simp [k0]
@[simp] theorem Blk.antSample_regsOnly {ps : List Nat} {a : Blk} (b : Blk) (i : Nat) (k0 : Reg.EVR_DROP_COUNT ∈ ps) :
    a.regsOnly ps ((Blk.antSample b i)) ↔ a.regsOnly ps b := by
  unfold Blk.antSample; dsimp only; (repeat' split) <;> simp [k0]
@[simp] theorem Blk.antRetry_regsOnly {ps : List Nat} {a : Blk} (t : Nat) (b0 : Blk) (k0 : Reg.EVR_DROP_COUNT ∈ ps) :
    a.regsOnly ps ((Blk.antRetry t b0)) ↔ a.regsOnly ps b0 := by
  unfold Blk.antRetry; dsimp only; (repeat' split) <;> simp [k0]
@[simp] theorem Blk.agc_regsOnly {ps : List Nat} {a : Blk} (b : Blk) (rms : Nat) (pIn : Int) :
    a.regsOnly ps ((Blk.agc b rms pIn)) ↔ a.regsOnly ps b := by
  refine Blk.regsOnly_iff (Blk.onlyIn_regs (ps := [Part.gns]) ?_ (by decide) _)
  simp
@[simp] theorem Blk.setNotch_regsOnly {ps : List Nat} {a : Blk} (b : Blk) (n : Nat) (x : Notch) :
    a.regsOnly ps ((Blk.setNotch b n x)) ↔ a.regsOnly ps b := by
  refine Blk.regsOnly_iff (Blk.onlyIn_regs (ps := [Part.gns]) ?_ (by decide) _)
  simp
@[simp] theorem Blk.holdNotch_regsOnly {ps : List Nat} {a : Blk} (b : Blk) (lines : List SpecLine) (n : Nat) :
    a.regsOnly ps ((Blk.holdNotch b lines n)) ↔ a.regsOnly ps b := by
  refine Blk.regsOnly_iff (Blk.onlyIn_regs (ps := [Part.gns]) ?_ (by decide) _)
  simp
@[simp] theorem Blk.notchOn_regsOnly {ps : List Nat} {a : Blk} (b : Blk) (n : Nat) (l : SpecLine) :
    a.regsOnly ps ((Blk.notchOn b n l)) ↔ a.regsOnly ps b := by
  refine Blk.regsOnly_iff (Blk.onlyIn_regs (ps := [Part.gns]) ?_ (by decide) _)
  simp
@[simp] theorem Blk.newLine_regsOnly {ps : List Nat} {a : Blk} (b : Blk) (l : SpecLine) :
    a.regsOnly ps ((Blk.newLine b l)) ↔ a.regsOnly ps b := by
  refine Blk.regsOnly_iff (Blk.onlyIn_regs (ps := [Part.gns]) ?_ (by decide) _)
  simp
@[simp] theorem Blk.spectrum_regsOnly {ps : List Nat} {a : Blk} (b : Blk) (lines : List SpecLine) (k0 :
    Reg.EVR_DROP_COUNT ∈ ps) :
    a.regsOnly ps ((Blk.spectrum b lines)) ↔ a.regsOnly ps b := by
  unfold Blk.spectrum; simp [k0, Blk.foldl_regsOnly, Blk.ite_regsOnly]
@[simp] theorem Blk.jamUpdate_regsOnly {ps : List Nat} {a : Blk} (b : Blk) (k0 : Reg.EVR_DROP_COUNT ∈ ps) :
    a.regsOnly ps ((Blk.jamUpdate b)) ↔ a.regsOnly ps b := by
  unfold Blk.jamUpdate; dsimp only; (repeat' split) <;> simp [k0]
@[simp] theorem Blk.setChan_regsOnly {ps : List Nat} {a : Blk} (b : Blk) (n : Nat) (c : GChan) :
    a.regsOnly ps ((Blk.setChan b n c)) ↔ a.regsOnly ps b := by
  refine Blk.regsOnly_iff (Blk.onlyIn_regs (ps := [Part.gns]) ?_ (by decide) _)
  simp
@[simp] theorem Blk.freeChan_regsOnly {ps : List Nat} {a : Blk} (b : Blk) (n : Nat) :
    a.regsOnly ps ((Blk.freeChan b n)) ↔ a.regsOnly ps b := by
  refine Blk.regsOnly_iff (Blk.onlyIn_regs (ps := [Part.gns]) ?_ (by decide) _)
  simp
@[simp] theorem Blk.assign_regsOnly {ps : List Nat} {a : Blk} (b : Blk) (sys svid elev : Nat) :
    a.regsOnly ps ((Blk.assign b sys svid elev)) ↔ a.regsOnly ps b := by
  refine Blk.regsOnly_iff (Blk.onlyIn_regs (ps := [Part.gns]) ?_ (by decide) _)
  simp
@[simp] theorem Blk.searchOn_regsOnly {ps : List Nat} {a : Blk} (b0 : Blk) (n : Nat) :
    a.regsOnly ps ((Blk.searchOn b0 n)) ↔ a.regsOnly ps b0 := by
  refine Blk.regsOnly_iff (Blk.onlyIn_regs (ps := [Part.gns]) ?_ (by decide) _)
  simp
@[simp] theorem Blk.reviewChan_regsOnly {ps : List Nat} {a : Blk} (b : Blk) (n : Nat) :
    a.regsOnly ps ((Blk.reviewChan b n)) ↔ a.regsOnly ps b := by
  refine Blk.regsOnly_iff (Blk.onlyIn_regs (ps := [Part.gns]) ?_ (by decide) _)
  simp
@[simp] theorem Blk.chanReview_regsOnly {ps : List Nat} {a : Blk} (t : Nat) (b0 : Blk) :
    a.regsOnly ps ((Blk.chanReview t b0)) ↔ a.regsOnly ps b0 := by
  refine Blk.regsOnly_iff (Blk.onlyIn_regs (ps := [Part.gns, Part.inv]) ?_ (by decide) _)
  simp
@[simp] theorem Blk.acqDone_regsOnly {ps : List Nat} {a : Blk} (b : Blk) (n : Nat) (o : AcqObs) :
    a.regsOnly ps ((Blk.acqDone b n o)) ↔ a.regsOnly ps b := by
  refine Blk.regsOnly_iff (Blk.onlyIn_regs (ps := [Part.gns]) ?_ (by decide) _)
  simp
@[simp] theorem Blk.trackOne_regsOnly {ps : List Nat} {a : Blk} (b : Blk) (x : TrkIn) (k0 : Reg.GNS_SLIP_COUNT ∈ ps) :
    a.regsOnly ps ((Blk.trackOne b x)) ↔ a.regsOnly ps b := by
  unfold Blk.trackOne; dsimp only; (repeat' split) <;> simp [k0]
@[simp] theorem Blk.preamble_regsOnly {ps : List Nat} {a : Blk} (b : Blk) (n : Nat) :
    a.regsOnly ps ((Blk.preamble b n)) ↔ a.regsOnly ps b := by
  refine Blk.regsOnly_iff (Blk.onlyIn_regs (ps := [Part.fresh, Part.gns]) ?_ (by decide) _)
  simp
@[simp] theorem Blk.gnsRestart_regsOnly {ps : List Nat} {a : Blk} (d : Desc) (b : Blk) :
    a.regsOnly ps ((Blk.gnsRestart d b)) ↔ a.regsOnly ps b := by
  refine Blk.regsOnly_iff (Blk.onlyIn_regs (ps := [Part.gns, Part.hst, Part.out]) ?_ (by decide) _)
  simp
@[simp] theorem Blk.gnsSpectrum_regsOnly {ps : List Nat} {a : Blk} (d : Desc) (bins : Bytes) (b : Blk) :
    a.regsOnly ps ((Blk.gnsSpectrum d bins b)) ↔ a.regsOnly ps b := by
  refine Blk.regsOnly_iff (Blk.onlyIn_regs (ps := [Part.hst, Part.out]) ?_ (by decide) _)
  simp
@[simp] theorem Blk.startPhase_regsOnly {ps : List Nat} {a : Blk} (b : Blk) (t n : Nat) (c : GChan) (o : RefObs) :
    a.regsOnly ps ((Blk.startPhase b t n c o)) ↔ a.regsOnly ps b := by
  refine Blk.regsOnly_iff (Blk.onlyIn_regs (ps := [Part.fresh, Part.gns]) ?_ (by decide) _)
  simp
@[simp] theorem Blk.epochChan_regsOnly {ps : List Nat} {a : Blk} (t : Nat) (obs : List RefObs) (b : Blk) (n : Nat)
    (k0 : Reg.GNS_SLIP_COUNT ∈ ps) :
    a.regsOnly ps ((Blk.epochChan t obs b n)) ↔ a.regsOnly ps b := by
  unfold Blk.epochChan; dsimp only; (repeat' split) <;> simp [k0]
@[simp] theorem Blk.estimateSelf_regsOnly {ps : List Nat} {a : Blk} (b : Blk) (t : Nat) (sats : List RefSat) :
    a.regsOnly ps ((Blk.estimateSelf b t sats)) ↔ a.regsOnly ps b := by
  refine Blk.regsOnly_iff (Blk.onlyIn_regs (ps := [Part.gns]) ?_ (by decide) _)
  simp
@[simp] theorem Blk.timing_regsOnly {ps : List Nat} {a : Blk} (b : Blk) (t : Nat) (sats : List RefSat) (ki : itemRegs
    ⊆ ps) :
    a.regsOnly ps ((Blk.timing b t sats)) ↔ a.regsOnly ps b := by
  unfold Blk.timing; (repeat' split) <;> simp [ki, ki drop_mem]
@[simp] theorem Blk.refEpoch_regsOnly {ps : List Nat} {a : Blk} (t : Nat) (obs : List RefObs) (b0 : Blk) (k0 :
    Reg.GNS_SLIP_COUNT ∈ ps) (k1 : Reg.POS_FIX_LOSS_COUNT ∈ ps) (ki : itemRegs ⊆ ps) :
    a.regsOnly ps ((Blk.refEpoch t obs b0)) ↔ a.regsOnly ps b0 := by
  unfold Blk.refEpoch; simp [k0, k1, ki, ki drop_mem, Blk.foldl_regsOnly, Blk.ite_regsOnly]
@[simp] theorem Blk.navItem_regsOnly {ps : List Nat} {a : Blk} (b : Blk) (n first nSym : Nat) (known gap : Bool) (sym
    : Bytes) (ki : itemRegs ⊆ ps) :
    a.regsOnly ps ((Blk.navItem b n first nSym known gap sym)) ↔ a.regsOnly ps b := by
  unfold Blk.navItem; dsimp only; (repeat' split) <;> simp [ki, ki drop_mem]
@[simp] theorem Blk.keepSnap_regsOnly {ps : List Nat} {a : Blk} (b : Blk) (mix : Nat) (f : Config.SnapFix)  :
    a.regsOnly ps (b.keepSnap mix f) ↔ a.regsOnly ps b := by
  unfold Blk.keepSnap; simp [Blk.foldl_regsOnly, Blk.ite_regsOnly]
@[simp] theorem Blk.endSnap_regsOnly {ps : List Nat} {a : Blk} (b : Blk) (s : GSnap) (status detail nSv : Nat)
    (sol : Option SnapSol) (ki : itemRegs ⊆ ps) : a.regsOnly ps (b.endSnap s status detail nSv sol) ↔ a.regsOnly ps b
        := by
  unfold Blk.endSnap; dsimp only
  generalize snapResult status _ s.id nSv _ sol = res
  cases s.host <;> cases sol <;> dsimp only <;> (repeat' split) <;> simp [ki, ki drop_mem, Blk.foldl_regsOnly,
      Blk.ite_regsOnly]
@[simp] theorem Blk.dropSnap_regsOnly {ps : List Nat} {a : Blk} (b : Blk) (s : GSnap) :
    a.regsOnly ps ((Blk.dropSnap b s)) ↔ a.regsOnly ps b := by
  refine Blk.regsOnly_iff (Blk.onlyIn_regs (ps := [Part.gns]) ?_ (by decide) _)
  simp
@[simp] theorem Blk.snapBusy_regsOnly {ps : List Nat} {a : Blk} (b : Blk) (mix snapId : Nat) (k0 :
    Reg.GNS_SNAP_BUSY_COUNT ∈ ps) :
    a.regsOnly ps ((Blk.snapBusy b mix snapId)) ↔ a.regsOnly ps b := by
  unfold Blk.snapBusy; (repeat' split) <;> simp [k0]
@[simp] theorem Blk.addFrag_regsOnly {ps : List Nat} {a : Blk} (b : Blk) (s : GSnap) (i : Nat) (data : Bytes) (ki :
    itemRegs ⊆ ps) :
    a.regsOnly ps ((Blk.addFrag b s i data)) ↔ a.regsOnly ps b := by
  unfold Blk.addFrag; dsimp only; (repeat' split) <;> simp [ki, ki drop_mem]
@[simp] theorem Blk.snapHeader_regsOnly {ps : List Nat} {a : Blk} (b : Blk) (mix snapId cnt : Nat) (h : Bytes) (k0 :
    Reg.GNS_SNAP_BUSY_COUNT ∈ ps) (ki : itemRegs ⊆ ps) :
    a.regsOnly ps ((Blk.snapHeader b mix snapId cnt h)) ↔ a.regsOnly ps b := by
  unfold Blk.snapHeader; dsimp only; (repeat' split) <;> simp [k0, ki, ki drop_mem]
@[simp] theorem Blk.snapFragment_regsOnly {ps : List Nat} {a : Blk} (b : Blk) (mix : Nat) (body : Bytes) (k0 :
    Reg.GNS_SNAP_BUSY_COUNT ∈ ps) (ki : itemRegs ⊆ ps) :
    a.regsOnly ps ((Blk.snapFragment b mix body)) ↔ a.regsOnly ps b := by
  unfold Blk.snapFragment; dsimp only; (repeat' split) <;> simp [k0, ki, ki drop_mem]
@[simp] theorem Blk.snapFragTimeout_regsOnly {ps : List Nat} {a : Blk} (t : Nat) (b0 : Blk) (ki : itemRegs ⊆ ps) :
    a.regsOnly ps ((Blk.snapFragTimeout t b0)) ↔ a.regsOnly ps b0 := by
  unfold Blk.snapFragTimeout; simp [ki, ki drop_mem, Blk.foldl_regsOnly, Blk.ite_regsOnly]
@[simp] theorem Blk.snapStart_regsOnly {ps : List Nat} {a : Blk} (t : Nat) (b0 : Blk) (ki : itemRegs ⊆ ps) :
    a.regsOnly ps ((Blk.snapStart t b0)) ↔ a.regsOnly ps b0 := by
  unfold Blk.snapStart; dsimp only; (repeat' split) <;> simp [ki, ki drop_mem]
@[simp] theorem Blk.snapEnds_regsOnly {ps : List Nat} {a : Blk} (t : Nat) (dets : List SnapDet) (b0 : Blk) (ki :
    itemRegs ⊆ ps) :
    a.regsOnly ps ((Blk.snapEnds t dets b0)) ↔ a.regsOnly ps b0 := by
  unfold Blk.snapEnds; dsimp only; (repeat' split) <;> simp [ki, ki drop_mem]
@[simp] theorem Blk.snapHost_regsOnly {ps : List Nat} {a : Blk} (d : Desc) (data : Bytes) (b : Blk) (k0 :
    Reg.GNS_SNAP_BUSY_COUNT ∈ ps) (ki : itemRegs ⊆ ps) :
    a.regsOnly ps ((Blk.snapHost d data b)) ↔ a.regsOnly ps b := by
  unfold Blk.snapHost; dsimp only; repeat' split
  all_goals simp [k0, ki, ki drop_mem, Blk.foldl_regsOnly, Blk.ite_regsOnly]
@[simp] theorem Blk.sendAll_regsOnly {ps : List Nat} {a : Blk} (b : Blk) (chan9 : Bool) (launch phy sts : Nat) (v
    psdu : Bytes) :
    a.regsOnly ps ((Blk.sendAll b chan9 launch phy sts v psdu)) ↔ a.regsOnly ps b := by
  refine Blk.regsOnly_iff (Blk.onlyIn_regs (ps := [Part.hdl, Part.out]) ?_ (by decide) _)
  simp
@[simp] theorem Blk.sendSched_regsOnly {ps : List Nat} {a : Blk} (b : Blk) (mix : Nat) :
    a.regsOnly ps ((Blk.sendSched b mix)) ↔ a.regsOnly ps b := by
  refine Blk.regsOnly_iff (Blk.onlyIn_regs (ps := [Part.air]) ?_ (by decide) _)
  simp
theorem fillEach_regsOnly {ps : List Nat} {a : Blk} (kind lo hi : Nat) (f : Blk → Nat → Blk) (hf : ∀ b m,
    Blk.regsOnly ps b (f b m)) (ms : List Nat) (x : Filling) :
    a.regsOnly ps (fillEach kind lo hi f ms x).1 ↔ a.regsOnly ps x.1 := by
  unfold fillEach
  induction ms generalizing x with
  | nil => rfl
  | cons m ms ih => rw [List.foldl_cons, ih]; split; · rfl
                    exact Blk.regsOnly_iff (hf _ _)
theorem fold_regsOnly {α : Type} {ps : List Nat} {a : Blk} (f : Filling → α → Filling) (hf : ∀ (x : Filling) y,
    Blk.regsOnly ps x.1 (f x y).1) (l : List α) (x : Filling) :
    a.regsOnly ps (l.foldl f x).1 ↔ a.regsOnly ps x.1 := by
  induction l generalizing x with
  | nil => rfl
  | cons m ms ih => rw [List.foldl_cons, ih, Blk.regsOnly_iff (hf _ _)]
@[simp] theorem Blk.fillPolls_regsOnly {ps : List Nat} {a : Blk} (n : Nat) (ms : List Nat) (x : Filling)  :
    a.regsOnly ps (Blk.fillPolls n ms x).1 ↔ a.regsOnly ps x.1 := by
  unfold Blk.fillPolls
  refine fold_regsOnly _ (fun x y => ?_) _ _
  dsimp only; (repeat' split) <;> simp [Blk.foldl_regsOnly, Blk.ite_regsOnly]
@[simp] theorem Blk.noteUplink_regsOnly {ps : List Nat} {a : Blk} (n : Nat) (b : Blk) (mix : Nat) :
    a.regsOnly ps ((Blk.noteUplink n b mix)) ↔ a.regsOnly ps b := by
  refine Blk.regsOnly_iff (Blk.onlyIn_regs (ps := [Part.air]) ?_ (by decide) _)
  simp
@[simp] theorem Blk.fillObs_regsOnly {ps : List Nat} {a : Blk} (n : Nat) (c9 : Bool) (ms : List Nat) (x : Filling)
    (k0 : Reg.AIR_DEFER_COUNT ∈ ps) :
    a.regsOnly ps (Blk.fillObs n c9 ms x).1 ↔ a.regsOnly ps x.1 := by
  unfold Blk.fillObs
  extract_lets b all k
  rw [fillEach_regsOnly _ _ _ _ (fun b m => by simp [Blk.noteUplink, k0, Blk.foldl_regsOnly, Blk.ite_regsOnly])]
  clear_value all k
  split
  · simp [b, k0, Blk.foldl_regsOnly, Blk.ite_regsOnly]
  · rfl
@[simp] theorem Blk.fillPos_regsOnly {ps : List Nat} {a : Blk} (c9 f : Bool) (us : List Nat) (x : Filling)  :
    a.regsOnly ps (Blk.fillPos c9 f us x).1 ↔ a.regsOnly ps x.1 := by
  unfold Blk.fillPos
  dsimp only
  rw [fold_regsOnly _ (fun x y => ?_), fold_regsOnly _ (fun x y => ?_)]
  · simp [Blk.foldl_regsOnly, Blk.ite_regsOnly]
  all_goals (try dsimp only); (repeat' split) <;> simp [Blk.foldl_regsOnly, Blk.ite_regsOnly]
@[simp] theorem Blk.fillAlive_regsOnly {ps : List Nat} {a : Blk} (n : Nat) (ms : List Nat) (x : Filling)  :
    a.regsOnly ps (Blk.fillAlive n ms x).1 ↔ a.regsOnly ps x.1 := by
  unfold Blk.fillAlive
  exact fillEach_regsOnly _ _ _ _ (fun b m => by simp [Blk.foldl_regsOnly, Blk.ite_regsOnly]) _ _
@[simp] theorem Blk.remindUnheard_regsOnly {ps : List Nat} {a : Blk} (n : Nat) (ms : List Nat) (b : Blk) :
    a.regsOnly ps ((Blk.remindUnheard n ms b)) ↔ a.regsOnly ps b := by
  refine Blk.regsOnly_iff (Blk.onlyIn_regs (ps := [Part.air]) ?_ (by decide) _)
  simp
@[simp] theorem Blk.fillDown_regsOnly {ps : List Nat} {a : Blk} (n : Nat) (c9 : Bool) (ms : List Nat) (x : Filling)  :
    a.regsOnly ps (Blk.fillDown n c9 ms x).1 ↔ a.regsOnly ps x.1 := by
  unfold Blk.fillDown
  dsimp only
  rw [fold_regsOnly _ (fun x y => ?_)]
  · unfold Blk.remindUnheard
    refine Blk.foldl_regsOnly (fun b x => ?_) _ _
    dsimp only; split <;> simp [Blk.foldl_regsOnly, Blk.ite_regsOnly]
  · exact (fillEach_regsOnly _ _ _ _ (fun b m => by simp [Blk.foldl_regsOnly, Blk.ite_regsOnly]) _ _).2
      (Blk.regsOnly_refl _ _)
@[simp] theorem Blk.fillContention_regsOnly {ps : List Nat} {a : Blk} (c : Bool) (ms : List Nat) (x : Filling) :
    a.regsOnly ps (Blk.fillContention c ms x).1 ↔ a.regsOnly ps x.1 := by
  unfold Blk.fillContention
  rw [fillPlain_fst, fillPlain_fst]
@[simp] theorem Blk.fillMore_regsOnly {ps : List Nat} {a : Blk} (c9 : Bool) (ms : List Nat) (x : Filling)  :
    a.regsOnly ps (Blk.fillMore c9 ms x).1 ↔ a.regsOnly ps x.1 := by
  unfold Blk.fillMore
  exact fillEach_regsOnly _ _ _ _ (fun b m => by simp [Blk.foldl_regsOnly, Blk.ite_regsOnly]) _ _
@[simp] theorem Blk.fillChan_regsOnly {ps : List Nat} {a : Blk} (n : Nat) (chan9 : Bool) (b : Blk) (k0 :
    Reg.AIR_DEFER_COUNT ∈ ps) :
    a.regsOnly ps (Blk.fillChan n chan9 b).1 ↔ a.regsOnly ps b := by
  unfold Blk.fillChan; simp [k0, Blk.foldl_regsOnly, Blk.ite_regsOnly]
@[simp] theorem Blk.prepare_regsOnly {ps : List Nat} {a : Blk} (b : Blk) (n : Nat) (k0 : Reg.AIR_DEFER_COUNT ∈ ps) :
    a.regsOnly ps (b.prepare n).2 ↔ a.regsOnly ps b := by
  unfold Blk.prepare; dsimp only; (repeat' split) <;> simp [k0, Blk.foldl_regsOnly, Blk.ite_regsOnly]
@[simp] theorem Blk.bcopy_regsOnly {ps : List Nat} {a : Blk} (b : Blk) (chan9 : Bool) (t : Nat) :
    a.regsOnly ps ((Blk.bcopy b chan9 t)) ↔ a.regsOnly ps b := by
  refine Blk.regsOnly_iff (Blk.onlyIn_regs (ps := [Part.air, Part.out]) ?_ (by decide) _)
  simp
@[simp] theorem Blk.beacon_regsOnly {ps : List Nat} {a : Blk} (b : Blk) (t : Nat) (chan9 : Bool) :
    a.regsOnly ps ((Blk.beacon b t chan9)) ↔ a.regsOnly ps b := by
  refine Blk.regsOnly_iff (Blk.onlyIn_regs (ps := [Part.air, Part.hdl, Part.out]) ?_ (by decide) _)
  simp
@[simp] theorem Blk.superframe_regsOnly {ps : List Nat} {a : Blk} (t : Nat) (b : Blk) (k0 : Reg.AIR_DEFER_COUNT ∈ ps)
    :
    a.regsOnly ps (Blk.superframe t b) ↔ a.regsOnly ps b := by
  unfold Blk.superframe; dsimp only
  split
  · generalize hb : Blk.modAir _ _ = b1
    have e := Blk.prepare_regsOnly (ps := ps) (a := a) b1 (t / 10000000) (by assumption)
    generalize b1.prepare (t / 10000000) = r at e ⊢
    obtain ⟨m, b2⟩ := r
    simp [k0, Blk.foldl_regsOnly, Blk.ite_regsOnly] at e ⊢
    try rw [e]
    rw [← hb]; simp [k0, Blk.foldl_regsOnly, Blk.ite_regsOnly]
  · simp [k0, Blk.foldl_regsOnly, Blk.ite_regsOnly]
@[simp] theorem Blk.rxplan_regsOnly {ps : List Nat} {a : Blk} (b : Blk) (k0 : Reg.AIR_DEFER_COUNT ∈ ps) :
    a.regsOnly ps b.rxplan ↔ a.regsOnly ps b := by
  unfold Blk.rxplan; dsimp only
  split
  · have e := Blk.prepare_regsOnly (ps := ps) (a := a) b (b.sfIndex + 1) (by assumption)
    generalize b.prepare (b.sfIndex + 1) = r at e ⊢
    obtain ⟨m, b1⟩ := r
    rw [← e]
    dsimp only at *
    rw [Blk.foldl_regsOnly (fun c x => ?_)]
    · simp [k0, Blk.foldl_regsOnly, Blk.ite_regsOnly]
    · split <;> simp [k0, Blk.foldl_regsOnly, Blk.ite_regsOnly]
  · rfl
@[simp] theorem Blk.readRx_regsOnly {ps : List Nat} {a : Blk} (b : Blk) (h : Nat) (frame : Bytes) (k0 :
    Reg.HDL_HCRC_ERR_COUNT ∈ ps) (k1 : Reg.HDL_MIC_ERR_COUNT ∈ ps) :
    a.regsOnly ps (b.readRx h frame).2 ↔ a.regsOnly ps b := by
  have e := Blk.hlRx_regsOnly (ps := ps) (a := a) b h 0x07 frame (by assumption) (by assumption)
  unfold Blk.readRx
  generalize b.hlRx h 0x07 frame = r at e ⊢
  obtain ⟨r, b1⟩ := r
  rw [← e]; cases r with
  | none => rfl
  | some x => dsimp only; split <;> rfl
@[simp] theorem Blk.micFail_regsOnly {ps : List Nat} {a : Blk} (b : Blk) (mix : Nat) (k0 : Reg.AIR_EFFECT_DROP_COUNT
    ∈ ps) (k1 : Reg.AIR_MIC_FAIL_COUNT ∈ ps) (k2 : Reg.DVT_ABORT_COUNT ∈ ps) (k3 : Reg.DVT_COMMIT_COUNT ∈ ps) (k4 :
    Reg.DVT_DEADLOCK_COUNT ∈ ps) (k5 : Reg.MAP_LATE_COUNT ∈ ps) (ki : itemRegs ⊆ ps) :
    a.regsOnly ps ((Blk.micFail b mix)) ↔ a.regsOnly ps b := by
  unfold Blk.micFail; dsimp only; (repeat' split) <;> simp [k0, k1, k2, k3, k4, k5, ki, ki drop_mem]
@[simp] theorem Blk.checkUp_regsOnly {ps : List Nat} {a : Blk} (b : Blk) (mix : Nat) (x : AirRxFrame) (k0 :
    Reg.AIR_EFFECT_DROP_COUNT ∈ ps) (k1 : Reg.AIR_MIC_FAIL_COUNT ∈ ps) (k2 : Reg.DVT_ABORT_COUNT ∈ ps) (k3 :
    Reg.DVT_COMMIT_COUNT ∈ ps) (k4 : Reg.DVT_DEADLOCK_COUNT ∈ ps) (k5 : Reg.MAP_LATE_COUNT ∈ ps) (k6 :
    Reg.POS_FIX_LOSS_COUNT ∈ ps) (ki : itemRegs ⊆ ps) :
    a.regsOnly ps (b.checkUp mix x).2 ↔ a.regsOnly ps b := by
  unfold Blk.checkUp; dsimp only; (repeat' split) <;> simp [k0, k1, k2, k3, k4, k5, k6, ki, ki drop_mem,
      Blk.foldl_regsOnly, Blk.ite_regsOnly]
@[simp] theorem Blk.firstFrame_regsOnly {ps : List Nat} {a : Blk} (b : Blk) (mix : Nat) (k0 :
    Reg.AIR_EFFECT_DROP_COUNT ∈ ps) (k1 : Reg.DVT_ABORT_COUNT ∈ ps) (k2 : Reg.DVT_COMMIT_COUNT ∈ ps) (k3 :
    Reg.DVT_DEADLOCK_COUNT ∈ ps) (k4 : Reg.MAP_LATE_COUNT ∈ ps) (ki : itemRegs ⊆ ps) :
    a.regsOnly ps ((Blk.firstFrame b mix)) ↔ a.regsOnly ps b := by
  unfold Blk.firstFrame; dsimp only; (repeat' split) <;> simp [k0, k1, k2, k3, k4, ki, ki drop_mem]
@[simp] theorem Blk.offerPolls_regsOnly {ps : List Nat} {a : Blk} (b : Blk) (mix i : Nat) :
    a.regsOnly ps ((Blk.offerPolls b mix i)) ↔ a.regsOnly ps b := by
  refine Blk.regsOnly_iff (Blk.onlyIn_regs (ps := [Part.air]) ?_ (by decide) _)
  simp
@[simp] theorem Blk.grant_regsOnly {ps : List Nat} {a : Blk} (b : Blk) (mix ms : Nat) :
    a.regsOnly ps ((Blk.grant b mix ms)) ↔ a.regsOnly ps b := by
  refine Blk.regsOnly_iff (Blk.onlyIn_regs (ps := [Part.air]) ?_ (by decide) _)
  simp
@[simp] theorem Blk.sleepReq_regsOnly {ps : List Nat} {a : Blk} (b : Blk) (mix ms : Nat) (k0 :
    Reg.AIR_EFFECT_DROP_COUNT ∈ ps) (k1 : Reg.DVT_ABORT_COUNT ∈ ps) (k2 : Reg.DVT_COMMIT_COUNT ∈ ps) (k3 :
    Reg.DVT_DEADLOCK_COUNT ∈ ps) (k4 : Reg.MAP_LATE_COUNT ∈ ps) (ki : itemRegs ⊆ ps) :
    a.regsOnly ps ((Blk.sleepReq b mix ms)) ↔ a.regsOnly ps b := by
  unfold Blk.sleepReq; dsimp only; (repeat' split) <;> simp [k0, k1, k2, k3, k4, ki, ki drop_mem]
@[simp] theorem Blk.request_regsOnly {ps : List Nat} {a : Blk} (b : Blk) (mix req : Nat) (f : Blk → Blk)
    (hf : ∀ c, Blk.regsOnly ps c (f c)) : a.regsOnly ps (b.request mix req f) ↔ a.regsOnly ps b := by
  unfold Blk.request; dsimp only; repeat' split
  all_goals first
    | simp
    | (rw [Blk.regsOnly_iff (hf _)]; simp)
@[simp] theorem Blk.taskElem_regsOnly {ps : List Nat} {a : Blk} (b : Blk) (mix req handle : Nat) (k0 :
    Reg.AIR_EFFECT_DROP_COUNT ∈ ps) (k1 : Reg.DVT_ABORT_COUNT ∈ ps) (k2 : Reg.DVT_COMMIT_COUNT ∈ ps) (k3 :
    Reg.DVT_DEADLOCK_COUNT ∈ ps) (k4 : Reg.MAP_LATE_COUNT ∈ ps) (ki : itemRegs ⊆ ps) :
    a.regsOnly ps ((Blk.taskElem b mix req handle)) ↔ a.regsOnly ps b := by
  unfold Blk.taskElem; (repeat' split) <;> simp [k0, k1, k2, k3, k4, ki, ki drop_mem]
@[simp] theorem Blk.stopReq_regsOnly {ps : List Nat} {a : Blk} (b0 : Blk) (mix : Nat) (body : Bytes) (k0 :
    Reg.AIR_EFFECT_DROP_COUNT ∈ ps) (k1 : Reg.CLP_STOP_COUNT ∈ ps) (k2 : Reg.DVT_ABORT_COUNT ∈ ps) (k3 :
    Reg.DVT_COMMIT_COUNT ∈ ps) (k4 : Reg.DVT_DEADLOCK_COUNT ∈ ps) (k5 : Reg.MAP_LATE_COUNT ∈ ps) (ki : itemRegs ⊆ ps)
    :
    a.regsOnly ps ((Blk.stopReq b0 mix body)) ↔ a.regsOnly ps b0 := by
  unfold Blk.stopReq; dsimp only; (repeat' split) <;> simp [k0, k1, k2, k3, k4, k5, ki, ki drop_mem]
@[simp] theorem Blk.keyAck_regsOnly {ps : List Nat} {a : Blk} (b : Blk) (mix p : Nat) :
    a.regsOnly ps ((Blk.keyAck b mix p)) ↔ a.regsOnly ps b := by
  refine Blk.regsOnly_iff (Blk.onlyIn_regs (ps := [Part.air]) ?_ (by decide) _)
  simp
@[simp] theorem Blk.element_regsOnly {ps : List Nat} {a : Blk} (b : Blk) (mix : Nat) (x : AirRxFrame) (etype : Nat)
    (body : Bytes) (k0 : Reg.AIR_EFFECT_DROP_COUNT ∈ ps) (k1 : Reg.CLP_STOP_COUNT ∈ ps) (k2 : Reg.DVT_ABORT_COUNT ∈
    ps) (k3 : Reg.DVT_COMMIT_COUNT ∈ ps) (k4 : Reg.DVT_DEADLOCK_COUNT ∈ ps) (k5 : Reg.GNS_SNAP_BUSY_COUNT ∈ ps) (k6 :
    Reg.MAP_LATE_COUNT ∈ ps) (k7 : Reg.POS_FIX_LOSS_COUNT ∈ ps) (k8 : Reg.POS_OBS_DROP_COUNT ∈ ps) (ki : itemRegs ⊆
    ps) :
    a.regsOnly ps ((Blk.element b mix x etype body)) ↔ a.regsOnly ps b := by
  unfold Blk.element; (repeat' split) <;> simp [k0, k1, k2, k3, k4, k5, k6, k7, k8, ki, ki drop_mem]
@[simp] theorem Blk.accepted_regsOnly {ps : List Nat} {a : Blk} (b : Blk) (mix : Nat) (x : AirRxFrame) (body : Bytes)
    (k0 : Reg.AIR_EFFECT_DROP_COUNT ∈ ps) (k1 : Reg.CLP_STOP_COUNT ∈ ps) (k2 : Reg.DVT_ABORT_COUNT ∈ ps) (k3 :
    Reg.DVT_COMMIT_COUNT ∈ ps) (k4 : Reg.DVT_DEADLOCK_COUNT ∈ ps) (k5 : Reg.GNS_SNAP_BUSY_COUNT ∈ ps) (k6 :
    Reg.MAP_LATE_COUNT ∈ ps) (k7 : Reg.POS_FIX_LOSS_COUNT ∈ ps) (k8 : Reg.POS_OBS_DROP_COUNT ∈ ps) (ki : itemRegs ⊆
    ps) :
    a.regsOnly ps ((Blk.accepted b mix x body)) ↔ a.regsOnly ps b := by
  unfold Blk.accepted; dsimp only; repeat' split
  all_goals simp [k0, k1, k2, k3, k4, k5, k6, k7, k8, ki, ki drop_mem, Blk.foldl_regsOnly, Blk.ite_regsOnly]
@[simp] theorem Blk.upFrame_regsOnly {ps : List Nat} {a : Blk} (h : Nat) (frame : Bytes) (b : Blk) (k0 :
    Reg.AIR_EFFECT_DROP_COUNT ∈ ps) (k1 : Reg.AIR_MIC_FAIL_COUNT ∈ ps) (k2 : Reg.CLP_STOP_COUNT ∈ ps) (k3 :
    Reg.DVT_ABORT_COUNT ∈ ps) (k4 : Reg.DVT_COMMIT_COUNT ∈ ps) (k5 : Reg.DVT_DEADLOCK_COUNT ∈ ps) (k6 :
    Reg.GNS_SNAP_BUSY_COUNT ∈ ps) (k7 : Reg.HDL_HCRC_ERR_COUNT ∈ ps) (k8 : Reg.HDL_MIC_ERR_COUNT ∈ ps) (k9 :
    Reg.MAP_LATE_COUNT ∈ ps) (k10 : Reg.POS_FIX_LOSS_COUNT ∈ ps) (k11 : Reg.POS_OBS_DROP_COUNT ∈ ps) (ki : itemRegs ⊆
    ps) :
    a.regsOnly ps (Blk.upFrame h frame b) ↔ a.regsOnly ps b := by
  have e := Blk.readRx_regsOnly (ps := ps) (a := a) b h frame (by assumption) (by assumption)
  unfold Blk.upFrame; try dsimp only
  generalize b.readRx h frame = r at e ⊢
  obtain ⟨r, b1⟩ := r
  first
  | rw [← e]
  | rw [Blk.moveTo_regsOnly _ _ ] at e; rw [← e]
  cases r with
  | none => rfl
  | some x =>
    dsimp only at *
    split
    · rfl
    split
    · rfl
    · rename_i mix _
      have e := Blk.checkUp_regsOnly (ps := ps) (a := a) b1 mix x (by assumption) (by assumption) (by assumption) (by
          assumption) (by assumption) (by assumption) (by assumption) (by assumption)
      rw [← e]
      generalize b1.checkUp mix x = r
      obtain ⟨r, b2⟩ := r
      cases r with
      | none => rfl
      | some body => dsimp only; (repeat' split) <;> simp [k0, k1, k2, k3, k4, k5, k6, k7, k8, k9, k10, k11, ki, ki
          drop_mem, Blk.foldl_regsOnly, Blk.ite_regsOnly]
@[simp] theorem Blk.windowPoll_regsOnly {ps : List Nat} {a : Blk} (b : Blk) (mix : Nat) (x : AirRxFrame) (k0 :
    Reg.AIR_COLLIDE_COUNT ∈ ps) :
    a.regsOnly ps ((Blk.windowPoll b mix x)) ↔ a.regsOnly ps b := by
  unfold Blk.windowPoll; dsimp only; (repeat' split) <;> simp [k0]
@[simp] theorem Blk.resyncPoll_regsOnly {ps : List Nat} {a : Blk} (b : Blk) (mix : Nat) (x : AirRxFrame) :
    a.regsOnly ps ((Blk.resyncPoll b mix x)) ↔ a.regsOnly ps b := by
  refine Blk.regsOnly_iff (Blk.onlyIn_regs (ps := [Part.air]) ?_ (by decide) _)
  simp
@[simp] theorem Blk.pollFrame_regsOnly {ps : List Nat} {a : Blk} (h : Nat) (frame : Bytes) (b : Blk) (k0 :
    Reg.AIR_COLLIDE_COUNT ∈ ps) (k1 : Reg.AIR_EFFECT_DROP_COUNT ∈ ps) (k2 : Reg.AIR_MIC_FAIL_COUNT ∈ ps) (k3 :
    Reg.CLP_STOP_COUNT ∈ ps) (k4 : Reg.DVT_ABORT_COUNT ∈ ps) (k5 : Reg.DVT_COMMIT_COUNT ∈ ps) (k6 :
    Reg.DVT_DEADLOCK_COUNT ∈ ps) (k7 : Reg.GNS_SNAP_BUSY_COUNT ∈ ps) (k8 : Reg.HDL_HCRC_ERR_COUNT ∈ ps) (k9 :
    Reg.HDL_MIC_ERR_COUNT ∈ ps) (k10 : Reg.MAP_LATE_COUNT ∈ ps) (k11 : Reg.POS_FIX_LOSS_COUNT ∈ ps) (k12 :
    Reg.POS_OBS_DROP_COUNT ∈ ps) (ki : itemRegs ⊆ ps) :
    a.regsOnly ps (Blk.pollFrame h frame b) ↔ a.regsOnly ps b := by
  have e := Blk.readRx_regsOnly (ps := ps) (a := a) b h frame (by assumption) (by assumption)
  unfold Blk.pollFrame; try dsimp only
  generalize b.readRx h frame = r at e ⊢
  obtain ⟨r, b1⟩ := r
  first
  | rw [← e]
  | rw [Blk.moveTo_regsOnly _ _ ] at e; rw [← e]
  cases r with
  | none => rfl
  | some x =>
    dsimp only at *
    split
    · rfl
    split
    · rfl
    · rename_i mix _
      have e := Blk.checkUp_regsOnly (ps := ps) (a := a) b1 mix x (by assumption) (by assumption) (by assumption) (by
          assumption) (by assumption) (by assumption) (by assumption) (by assumption)
      rw [← e]
      generalize b1.checkUp mix x = r
      obtain ⟨r, b2⟩ := r
      cases r with
      | none => rfl
      | some body => dsimp only; (repeat' split) <;> simp [k0, k1, k2, k3, k4, k5, k6, k7, k8, k9, k10, k11, k12, ki,
          ki drop_mem, Blk.foldl_regsOnly, Blk.ite_regsOnly]
@[simp] theorem Blk.respondWith_regsOnly {ps : List Nat} {a : Blk} (b : Blk) (r : AssocReq) (status mix chan state
    retry : Nat) (nonce : Bytes) (wait : Nat) :
    a.regsOnly ps ((Blk.respondWith b r status mix chan state retry nonce wait)) ↔ a.regsOnly ps b := by
  refine Blk.regsOnly_iff (Blk.onlyIn_regs (ps := [Part.air]) ?_ (by decide) _)
  simp
@[simp] theorem Blk.respond_regsOnly {ps : List Nat} {a : Blk} (b : Blk) (r : AssocReq) (status chan state retry wait
    : Nat) :
    a.regsOnly ps ((Blk.respond b r status chan state retry wait)) ↔ a.regsOnly ps b := by
  refine Blk.regsOnly_iff (Blk.onlyIn_regs (ps := [Part.air, Part.fresh]) ?_ (by decide) _)
  simp
@[simp] theorem Blk.evictGone_regsOnly {ps : List Nat} {a : Blk} (b : Blk) (mix : Nat) (k0 : Reg.MAP_LATE_COUNT ∈ ps)
    :
    a.regsOnly ps ((Blk.evictGone b mix)) ↔ a.regsOnly ps b := by
  unfold Blk.evictGone; (repeat' split) <;> simp [k0]
@[simp] theorem Blk.admitAs_regsOnly {ps : List Nat} {a : Blk} (b0 : Blk) (site : Bytes) (r : AssocReq) (mix : Nat)
    (fresh : Bool) (k0 : Reg.AIR_EFFECT_DROP_COUNT ∈ ps) (k1 : Reg.DVT_ABORT_COUNT ∈ ps) (k2 : Reg.DVT_COMMIT_COUNT ∈
    ps) (k3 : Reg.DVT_DEADLOCK_COUNT ∈ ps) (k4 : Reg.MAP_LATE_COUNT ∈ ps) (ki : itemRegs ⊆ ps) :
    a.regsOnly ps ((Blk.admitAs b0 site r mix fresh)) ↔ a.regsOnly ps b0 := by
  unfold Blk.admitAs; dsimp only; (repeat' split) <;> simp [k0, k1, k2, k3, k4, ki, ki drop_mem]
@[simp] theorem Blk.makeWait_regsOnly {ps : List Nat} {a : Blk} (b : Blk) (r : AssocReq) :
    a.regsOnly ps ((Blk.makeWait b r)) ↔ a.regsOnly ps b := by
  refine Blk.regsOnly_iff (Blk.onlyIn_regs (ps := [Part.air, Part.fresh]) ?_ (by decide) _)
  simp
@[simp] theorem Blk.answerAssoc_regsOnly {ps : List Nat} {a : Blk} (b : Blk) (site : Bytes) (r : AssocReq) (k0 :
    Reg.AIR_EFFECT_DROP_COUNT ∈ ps) (k1 : Reg.DVT_ABORT_COUNT ∈ ps) (k2 : Reg.DVT_COMMIT_COUNT ∈ ps) (k3 :
    Reg.DVT_DEADLOCK_COUNT ∈ ps) (k4 : Reg.MAP_LATE_COUNT ∈ ps) (ki : itemRegs ⊆ ps) :
    a.regsOnly ps ((Blk.answerAssoc b site r)) ↔ a.regsOnly ps b := by
  unfold Blk.answerAssoc; (repeat' split) <;> simp [k0, k1, k2, k3, k4, ki, ki drop_mem]
@[simp] theorem Blk.assocReq_regsOnly {ps : List Nat} {a : Blk} (h : Nat) (frame : Bytes) (b : Blk) (k0 :
    Reg.AIR_EFFECT_DROP_COUNT ∈ ps) (k1 : Reg.AIR_MIC_FAIL_COUNT ∈ ps) (k2 : Reg.AIR_REFUSE_COUNT ∈ ps) (k3 :
    Reg.DVT_ABORT_COUNT ∈ ps) (k4 : Reg.DVT_COMMIT_COUNT ∈ ps) (k5 : Reg.DVT_DEADLOCK_COUNT ∈ ps) (k6 :
    Reg.HDL_HCRC_ERR_COUNT ∈ ps) (k7 : Reg.HDL_MIC_ERR_COUNT ∈ ps) (k8 : Reg.MAP_LATE_COUNT ∈ ps) (ki : itemRegs ⊆
    ps) :
    a.regsOnly ps (Blk.assocReq h frame b) ↔ a.regsOnly ps b := by
  have e := Blk.readRx_regsOnly (ps := ps) (a := a) b h frame (by assumption) (by assumption)
  unfold Blk.assocReq; try dsimp only
  generalize b.readRx h frame = r at e ⊢
  obtain ⟨r, b1⟩ := r
  first
  | rw [← e]
  | rw [Blk.moveTo_regsOnly _ _ ] at e; rw [← e]
  cases r with
  | none => rfl
  | some x =>
    dsimp only at *
    (repeat' split) <;> simp [k0, k1, k2, k3, k4, k5, k6, k7, k8, ki, ki drop_mem, Blk.foldl_regsOnly,
        Blk.ite_regsOnly]
@[simp] theorem Blk.assocTimeout_regsOnly {ps : List Nat} {a : Blk} (t mix : Nat) (b0 : Blk) (k0 :
    Reg.AIR_EFFECT_DROP_COUNT ∈ ps) (k1 : Reg.DVT_ABORT_COUNT ∈ ps) (k2 : Reg.DVT_COMMIT_COUNT ∈ ps) (k3 :
    Reg.DVT_DEADLOCK_COUNT ∈ ps) (k4 : Reg.MAP_LATE_COUNT ∈ ps) (ki : itemRegs ⊆ ps) :
    a.regsOnly ps ((Blk.assocTimeout t mix b0)) ↔ a.regsOnly ps b0 := by
  unfold Blk.assocTimeout; dsimp only; (repeat' split) <;> simp [k0, k1, k2, k3, k4, ki, ki drop_mem]
@[simp] theorem Blk.useSlot_regsOnly {ps : List Nat} {a : Blk} (b : Blk) (chan9 : Bool) (s : Nat) (p : Owner → Bool) :
    a.regsOnly ps ((Blk.useSlot b chan9 s p)) ↔ a.regsOnly ps b := by
  refine Blk.regsOnly_iff (Blk.onlyIn_regs (ps := [Part.air]) ?_ (by decide) _)
  simp
@[simp] theorem Blk.freshSched_regsOnly {ps : List Nat} {a : Blk} (b : Blk) (mix : Nat) :
    a.regsOnly ps ((Blk.freshSched b mix)) ↔ a.regsOnly ps b := by
  refine Blk.regsOnly_iff (Blk.onlyIn_regs (ps := [Part.air]) ?_ (by decide) _)
  simp
@[simp] theorem Blk.downTx_regsOnly {ps : List Nat} {a : Blk} (mix : Nat) (b0 : Blk) :
    a.regsOnly ps ((Blk.downTx mix b0)) ↔ a.regsOnly ps b0 := by
  refine Blk.regsOnly_iff (Blk.onlyIn_regs (ps := [Part.air, Part.hdl, Part.out]) ?_ (by decide) _)
  simp
@[simp] theorem Blk.ackEffect_regsOnly {ps : List Nat} {a : Blk} (b : Blk) (k : Nat × Nat) :
    a.regsOnly ps ((Blk.ackEffect b k)) ↔ a.regsOnly ps b := by
  refine Blk.regsOnly_iff (Blk.onlyIn_regs (ps := [Part.fleet]) ?_ (by decide) _)
  simp
@[simp] theorem Blk.resumeCount_regsOnly {ps : List Nat} {a : Blk} (b : Blk) (mix : Nat) (did : Bool) (epoch : Nat) :
    a.regsOnly ps ((Blk.resumeCount b mix did epoch)) ↔ a.regsOnly ps b := by
  refine Blk.regsOnly_iff (Blk.onlyIn_regs (ps := [Part.clp, Part.hst, Part.out]) ?_ (by decide) _)
  simp
@[simp] theorem Blk.resumeAck_regsOnly {ps : List Nat} {a : Blk} (b : Blk) (mix : Nat) (k0 :
    Reg.AIR_EFFECT_DROP_COUNT ∈ ps) (k1 : Reg.DVT_ABORT_COUNT ∈ ps) (k2 : Reg.DVT_COMMIT_COUNT ∈ ps) (k3 :
    Reg.DVT_DEADLOCK_COUNT ∈ ps) (k4 : Reg.MAP_LATE_COUNT ∈ ps) (ki : itemRegs ⊆ ps) :
    a.regsOnly ps ((Blk.resumeAck b mix)) ↔ a.regsOnly ps b := by
  unfold Blk.resumeAck; (repeat' split) <;> simp [k0, k1, k2, k3, k4, ki, ki drop_mem]
@[simp] theorem Blk.schedAck_regsOnly {ps : List Nat} {a : Blk} (b : Blk) (mix : Nat) (k0 : Reg.AIR_EFFECT_DROP_COUNT
    ∈ ps) (k1 : Reg.DVT_ABORT_COUNT ∈ ps) (k2 : Reg.DVT_COMMIT_COUNT ∈ ps) (k3 : Reg.DVT_DEADLOCK_COUNT ∈ ps) (k4 :
    Reg.MAP_LATE_COUNT ∈ ps) (ki : itemRegs ⊆ ps) :
    a.regsOnly ps ((Blk.schedAck b mix)) ↔ a.regsOnly ps b := by
  unfold Blk.schedAck; dsimp only; (repeat' split) <;> simp [k0, k1, k2, k3, k4, ki, ki drop_mem]
@[simp] theorem Blk.elemAck_regsOnly {ps : List Nat} {a : Blk} (mix : Nat) (b : Blk) (e : Elem) (k0 :
    Reg.AIR_EFFECT_DROP_COUNT ∈ ps) (k1 : Reg.DVT_ABORT_COUNT ∈ ps) (k2 : Reg.DVT_COMMIT_COUNT ∈ ps) (k3 :
    Reg.DVT_DEADLOCK_COUNT ∈ ps) (k4 : Reg.MAP_LATE_COUNT ∈ ps) (ki : itemRegs ⊆ ps) :
    a.regsOnly ps ((Blk.elemAck mix b e)) ↔ a.regsOnly ps b := by
  unfold Blk.elemAck; (repeat' split) <;> simp [k0, k1, k2, k3, k4, ki, ki drop_mem]
@[simp] theorem Blk.memberAcked_regsOnly {ps : List Nat} {a : Blk} (mix : Nat) (off : Int) (b : Blk) (k0 :
    Reg.AIR_EFFECT_DROP_COUNT ∈ ps) (k1 : Reg.DVT_ABORT_COUNT ∈ ps) (k2 : Reg.DVT_COMMIT_COUNT ∈ ps) (k3 :
    Reg.DVT_DEADLOCK_COUNT ∈ ps) (k4 : Reg.MAP_LATE_COUNT ∈ ps) (ki : itemRegs ⊆ ps) :
    a.regsOnly ps ((Blk.memberAcked mix off b)) ↔ a.regsOnly ps b := by
  unfold Blk.memberAcked; simp [k0, k1, k2, k3, k4, ki, ki drop_mem, Blk.foldl_regsOnly, Blk.ite_regsOnly]
@[simp] theorem Blk.downAck_regsOnly {ps : List Nat} {a : Blk} (t h : Nat) (frame : Bytes) (b : Blk) (k0 :
    Reg.AIR_EFFECT_DROP_COUNT ∈ ps) (k1 : Reg.DVT_ABORT_COUNT ∈ ps) (k2 : Reg.DVT_COMMIT_COUNT ∈ ps) (k3 :
    Reg.DVT_DEADLOCK_COUNT ∈ ps) (k4 : Reg.HDL_HCRC_ERR_COUNT ∈ ps) (k5 : Reg.HDL_MIC_ERR_COUNT ∈ ps) (k6 :
    Reg.MAP_LATE_COUNT ∈ ps) (ki : itemRegs ⊆ ps) :
    a.regsOnly ps (Blk.downAck t h frame b) ↔ a.regsOnly ps b := by
  have e := Blk.hlRx_regsOnly (ps := ps) (a := a) (b.moveTo t) h 0x07 frame (by assumption) (by assumption)
  unfold Blk.downAck; try dsimp only
  generalize (b.moveTo t).hlRx h 0x07 frame = r at e ⊢
  obtain ⟨r, b1⟩ := r
  first
  | rw [← e]
  | rw [Blk.moveTo_regsOnly _ _ ] at e; rw [← e]
  cases r with
  | none => rfl
  | some x =>
    dsimp only at *
    (repeat' split) <;> simp [k0, k1, k2, k3, k4, k5, k6, ki, ki drop_mem, Blk.foldl_regsOnly, Blk.ite_regsOnly]
@[simp] theorem Blk.downNoAck_regsOnly {ps : List Nat} {a : Blk} (mix : Nat) (b0 : Blk) (k0 : Reg.AIR_NOACK_COUNT ∈
    ps) :
    a.regsOnly ps ((Blk.downNoAck mix b0)) ↔ a.regsOnly ps b0 := by
  unfold Blk.downNoAck; try dsimp only
  all_goals (repeat' split)
  all_goals (try refine (Blk.foldl_regsOnly (fun b x => ?_) _ _).trans ?_)
  all_goals (repeat' split)
  all_goals (try simp [k0, Blk.foldl_regsOnly, Blk.ite_regsOnly])
@[simp] theorem Blk.uplinkMissed_regsOnly {ps : List Nat} {a : Blk} (mix : Nat) (b : Blk) (k0 :
    Reg.AIR_EFFECT_DROP_COUNT ∈ ps) (k1 : Reg.AIR_MISS_COUNT ∈ ps) (k2 : Reg.DVT_ABORT_COUNT ∈ ps) (k3 :
    Reg.DVT_COMMIT_COUNT ∈ ps) (k4 : Reg.DVT_DEADLOCK_COUNT ∈ ps) (k5 : Reg.MAP_LATE_COUNT ∈ ps) (ki : itemRegs ⊆ ps)
    :
    a.regsOnly ps ((Blk.uplinkMissed mix b)) ↔ a.regsOnly ps b := by
  unfold Blk.uplinkMissed; dsimp only; (repeat' split) <;> simp [k0, k1, k2, k3, k4, k5, ki, ki drop_mem]
@[simp] theorem Blk.posDl_regsOnly {ps : List Nat} {a : Blk} (chan9 : Bool) (s : Nat) (b : Blk) :
    a.regsOnly ps ((Blk.posDl chan9 s b)) ↔ a.regsOnly ps b := by
  refine Blk.regsOnly_iff (Blk.onlyIn_regs (ps := [Part.air, Part.hdl, Part.out]) ?_ (by decide) _)
  simp
@[simp] theorem Blk.sendBcast_regsOnly {ps : List Nat} {a : Blk} (b : Blk) (chan9 : Bool) (s : Nat) (q : Bcast) :
    a.regsOnly ps ((Blk.sendBcast b chan9 s q)) ↔ a.regsOnly ps b := by
  refine Blk.regsOnly_iff (Blk.onlyIn_regs (ps := [Part.air, Part.hdl, Part.out]) ?_ (by decide) _)
  simp
@[simp] theorem Blk.bcastTx_regsOnly {ps : List Nat} {a : Blk} (chan9 : Bool) (b : Blk) :
    a.regsOnly ps ((Blk.bcastTx chan9 b)) ↔ a.regsOnly ps b := by
  refine Blk.regsOnly_iff (Blk.onlyIn_regs (ps := [Part.air, Part.hdl, Part.out]) ?_ (by decide) _)
  simp
@[simp] theorem Blk.deliverKeys_regsOnly {ps : List Nat} {a : Blk} (b : Blk) :
    a.regsOnly ps ((Blk.deliverKeys b)) ↔ a.regsOnly ps b := by
  refine Blk.regsOnly_iff (Blk.onlyIn_regs (ps := [Part.air, Part.hdl, Part.out]) ?_ (by decide) _)
  simp
@[simp] theorem Blk.copyHeard_regsOnly {ps : List Nat} {a : Blk} (b : Blk) (sfn cnt : Nat) (k0 : Reg.EVR_DROP_COUNT ∈
    ps) :
    a.regsOnly ps ((Blk.copyHeard b sfn cnt)) ↔ a.regsOnly ps b := by
  unfold Blk.copyHeard; dsimp only; (repeat' split) <;> simp [k0]
@[simp] theorem Blk.bcopyRx_regsOnly {ps : List Nat} {a : Blk} (port : Nat) (frame : Bytes) (b : Blk) (k0 :
    Reg.EVR_DROP_COUNT ∈ ps) :
    a.regsOnly ps ((Blk.bcopyRx port frame b)) ↔ a.regsOnly ps b := by
  unfold Blk.bcopyRx; dsimp only; (repeat' split) <;> simp [k0]
@[simp] theorem Blk.beaconMissed_regsOnly {ps : List Nat} {a : Blk} (b : Blk) (k0 : Reg.EVR_DROP_COUNT ∈ ps) :
    a.regsOnly ps ((Blk.beaconMissed b)) ↔ a.regsOnly ps b := by
  unfold Blk.beaconMissed; dsimp only; (repeat' split) <;> simp [k0]
@[simp] theorem Blk.airSend_regsOnly {ps : List Nat} {a : Blk} (d : Desc) (data : Bytes) (b : Blk) :
    a.regsOnly ps ((Blk.airSend d data b)) ↔ a.regsOnly ps b := by
  refine Blk.regsOnly_iff (Blk.onlyIn_regs (ps := [Part.air, Part.hst, Part.out]) ?_ (by decide) _)
  simp
@[simp] theorem Blk.airRxBind_regsOnly {ps : List Nat} {a : Blk} (d : Desc) (b : Blk) :
    a.regsOnly ps ((Blk.airRxBind d b)) ↔ a.regsOnly ps b := by
  refine Blk.regsOnly_iff (Blk.onlyIn_regs (ps := [Part.air, Part.hst, Part.out]) ?_ (by decide) _)
  simp
@[simp] theorem Blk.airAdmit_regsOnly {ps : List Nat} {a : Blk} (d : Desc) (b : Blk) :
    a.regsOnly ps ((Blk.airAdmit d b)) ↔ a.regsOnly ps b := by
  refine Blk.regsOnly_iff (Blk.onlyIn_regs (ps := [Part.air, Part.hst, Part.out]) ?_ (by decide) _)
  simp
@[simp] theorem Blk.membersRead_regsOnly {ps : List Nat} {a : Blk} (d : Desc) (b : Blk) :
    a.regsOnly ps ((Blk.membersRead d b)) ↔ a.regsOnly ps b := by
  refine Blk.regsOnly_iff (Blk.onlyIn_regs (ps := [Part.hst, Part.out]) ?_ (by decide) _)
  simp
@[simp] theorem Blk.resume_regsOnly {ps : List Nat} {a : Blk} (d : Desc) (b : Blk)  :
    a.regsOnly ps (Blk.resume d b) ↔ a.regsOnly ps b := by
  unfold Blk.resume; dsimp only
  refine Blk.checked_regsOnly _ _ _ _ (fun c => ?_)
  (repeat' split) <;> simp [Blk.foldl_regsOnly, Blk.ite_regsOnly, Blk.foldl_regsOnly]
@[simp] theorem Blk.resumeTimeout_regsOnly {ps : List Nat} {a : Blk} (t : Nat) (b0 : Blk) :
    a.regsOnly ps ((Blk.resumeTimeout t b0)) ↔ a.regsOnly ps b0 := by
  refine Blk.regsOnly_iff (Blk.onlyIn_regs (ps := [Part.air, Part.clp, Part.hst, Part.inv, Part.out]) ?_ (by decide)
      _)
  simp
@[simp] theorem Blk.sendSurveyFrames_regsOnly {ps : List Nat} {a : Blk} (b : Blk) :
    a.regsOnly ps ((Blk.sendSurveyFrames b)) ↔ a.regsOnly ps b := by
  refine Blk.regsOnly_iff (Blk.onlyIn_regs (ps := [Part.hdl, Part.out]) ?_ (by decide) _)
  simp
@[simp] theorem Blk.surveyStart_regsOnly {ps : List Nat} {a : Blk} (b : Blk) (op : Option OpId) (items ref addr :
    Nat) :
    a.regsOnly ps ((Blk.surveyStart b op items ref addr)) ↔ a.regsOnly ps b := by
  refine Blk.regsOnly_iff (Blk.onlyIn_regs (ps := [Part.clp, Part.hdl, Part.out, Part.pwr]) ?_ (by decide) _)
  simp
@[simp] theorem Blk.survey_regsOnly {ps : List Nat} {a : Blk} (d : Desc) (b : Blk) :
    a.regsOnly ps ((Blk.survey d b)) ↔ a.regsOnly ps b := by
  refine Blk.regsOnly_iff (Blk.onlyIn_regs (ps := [Part.clp, Part.hdl, Part.hst, Part.out, Part.pwr]) ?_ (by decide)
      _)
  simp
@[simp] theorem Blk.surveyComplete_regsOnly {ps : List Nat} {a : Blk} (x : SurveyIn) (b0 : Blk) (k0 : Reg.MON_SURVEY
    ∈ ps) (k1 : Reg.MON_SURVEY_SEQ ∈ ps) :
    a.regsOnly ps ((Blk.surveyComplete x b0)) ↔ a.regsOnly ps b0 := by
  unfold Blk.surveyComplete; (repeat' split) <;> simp [k0, k1]
@[simp] theorem Blk.surveyRead_regsOnly {ps : List Nat} {a : Blk} (d : Desc) (b : Blk)  :
    a.regsOnly ps (Blk.surveyRead d b) ↔ a.regsOnly ps b := by
  unfold Blk.surveyRead
  refine Blk.checked_regsOnly _ _ _ _ (fun c => ?_)
  (repeat' split) <;> simp [Blk.foldl_regsOnly, Blk.ite_regsOnly]
@[simp] theorem Blk.startSource_regsOnly {ps : List Nat} {a : Blk} (b : Blk) (bit : Nat) (k0 : Reg.EVR_DROP_COUNT ∈
    ps) :
    a.regsOnly ps ((Blk.startSource b bit)) ↔ a.regsOnly ps b := by
  unfold Blk.startSource; (repeat' split) <;> simp [k0]
@[simp] theorem Blk.startSources_regsOnly {ps : List Nat} {a : Blk} (b : Blk) (k0 : Reg.EVR_DROP_COUNT ∈ ps) :
    a.regsOnly ps ((Blk.startSources b)) ↔ a.regsOnly ps b := by
  unfold Blk.startSources; (repeat' split) <;> simp [k0]
@[simp] theorem Blk.recordPower_regsOnly {ps : List Nat} {a : Blk} (b : Blk) (old new : Nat) (k0 : Reg.EVR_DROP_COUNT
    ∈ ps) :
    a.regsOnly ps ((Blk.recordPower b old new)) ↔ a.regsOnly ps b := by
  unfold Blk.recordPower; (repeat' split) <;> simp [k0]
@[simp] theorem Blk.commitStaged_regsOnly {ps : List Nat} {a : Blk} (b : Blk) :
    a.regsOnly ps ((Blk.commitStaged b)) ↔ a.regsOnly ps b := by
  refine Blk.regsOnly_iff (Blk.onlyIn_regs (ps := [Part.evr]) ?_ (by decide) _)
  simp
@[simp] theorem Blk.sleepTo_regsOnly {ps : List Nat} {a : Blk} (b : Blk) (ms : Nat) :
    a.regsOnly ps ((Blk.sleepTo b ms)) ↔ a.regsOnly ps b := by
  refine Blk.regsOnly_iff (Blk.onlyIn_regs (ps := [Part.inv]) ?_ (by decide) _)
  simp
@[simp] theorem Blk.clampWoken_regsOnly {ps : List Nat} {a : Blk} (b : Blk) :
    a.regsOnly ps ((Blk.clampWoken b)) ↔ a.regsOnly ps b := by
  refine Blk.regsOnly_iff (Blk.onlyIn_regs (ps := [Part.clp]) ?_ (by decide) _)
  simp
@[simp] theorem Blk.bootClocks_regsOnly {ps : List Nat} {a : Blk} (b : Blk) :
    a.regsOnly ps ((Blk.bootClocks b)) ↔ a.regsOnly ps b := by
  refine Blk.regsOnly_iff (Blk.onlyIn_regs (ps := [Part.inv, Part.mem, Part.pwr]) ?_ (by decide) _)
  simp
@[simp] theorem Blk.restartTime_regsOnly {ps : List Nat} {a : Blk} (b : Blk) :
    a.regsOnly ps ((Blk.restartTime b)) ↔ a.regsOnly ps b := by
  refine Blk.regsOnly_iff (Blk.onlyIn_regs (ps := [Part.inv, Part.pwr]) ?_ (by decide) _)
  simp
@[simp] theorem Blk.bootUnseal_regsOnly {ps : List Nat} {a : Blk} (i : Ident) (b : Blk) (k0 : Reg.EVR_DROP_COUNT ∈
    ps) :
    a.regsOnly ps ((Blk.bootUnseal i b)) ↔ a.regsOnly ps b := by
  unfold Blk.bootUnseal; (repeat' split) <;> simp [k0]
@[simp] theorem Blk.bootService_regsOnly {ps : List Nat} {a : Blk} (i : Ident) (b : Blk) (k0 : Reg.SYS_CLAMP_COUNT ∈
    ps) (k1 : Reg.SYS_LAST_CLAMP ∈ ps) (ki : itemRegs ⊆ ps) :
    a.regsOnly ps ((Blk.bootService i b)) ↔ a.regsOnly ps b := by
  unfold Blk.bootService; (repeat' split) <;> simp [k0, k1, ki, ki drop_mem]
@[simp] theorem Blk.doneWritten_regsOnly {ps : List Nat} {a : Blk} (b : Blk) (id : OpId) (detail : Nat) :
    a.regsOnly ps ((Blk.doneWritten b id detail)) ↔ a.regsOnly ps b := by
  refine Blk.regsOnly_iff (Blk.onlyIn_regs (ps := [Part.hst, Part.out]) ?_ (by decide) _)
  simp
@[simp] theorem Blk.powerState_regsOnly {ps : List Nat} {a : Blk} (d : Desc) (b : Blk) (k0 : Reg.EVR_DROP_COUNT ∈ ps)
    :
    a.regsOnly ps ((Blk.powerState d b)) ↔ a.regsOnly ps b := by
  unfold Blk.powerState; simp [k0, Blk.foldl_regsOnly, Blk.ite_regsOnly]
@[simp] theorem Blk.wakeInfo_regsOnly {ps : List Nat} {a : Blk} (d : Desc) (b : Blk) :
    a.regsOnly ps ((Blk.wakeInfo d b)) ↔ a.regsOnly ps b := by
  refine Blk.regsOnly_iff (Blk.onlyIn_regs (ps := [Part.hst, Part.out]) ?_ (by decide) _)
  simp
@[simp] theorem Blk.sealKeys_regsOnly {ps : List Nat} {a : Blk} (b : Blk) :
    a.regsOnly ps ((Blk.sealKeys b)) ↔ a.regsOnly ps b := by
  refine Blk.regsOnly_iff (Blk.onlyIn_regs (ps := [Part.air, Part.hdl, Part.key]) ?_ (by decide) _)
  simp
@[simp] theorem Blk.endKeyOps_regsOnly {ps : List Nat} {a : Blk} (b : Blk) (k0 : Reg.KEY_ATTR_COUNT ∈ ps) (k1 :
    Reg.KEY_OP_COUNT ∈ ps) :
    a.regsOnly ps ((Blk.endKeyOps b)) ↔ a.regsOnly ps b := by
  unfold Blk.endKeyOps; dsimp only; repeat' split
  all_goals simp [k0, k1, Blk.foldl_regsOnly, Blk.ite_regsOnly]
@[simp] theorem Blk.tamperRun_regsOnly {ps : List Nat} {a : Blk} (b : Blk) (src : Nat) (k0 :
    Reg.AIR_EFFECT_DROP_COUNT ∈ ps) (k1 : Reg.CLP_STOP_COUNT ∈ ps) (k2 : Reg.DVT_ABORT_COUNT ∈ ps) (k3 :
    Reg.DVT_COMMIT_COUNT ∈ ps) (k4 : Reg.DVT_DEADLOCK_COUNT ∈ ps) (k5 : Reg.KEY_ATTR_COUNT ∈ ps) (k6 :
    Reg.KEY_OP_COUNT ∈ ps) (k7 : Reg.MAP_LATE_COUNT ∈ ps) (ki : itemRegs ⊆ ps) :
    a.regsOnly ps ((Blk.tamperRun b src)) ↔ a.regsOnly ps b := by
  unfold Blk.tamperRun; (repeat' split) <;> simp [k0, k1, k2, k3, k4, k5, k6, k7, ki, ki drop_mem]
@[simp] theorem Blk.tamperNoted_regsOnly {ps : List Nat} {a : Blk} (b : Blk) (src phase : Nat) (k0 :
    Reg.EVR_DROP_COUNT ∈ ps) :
    a.regsOnly ps ((Blk.tamperNoted b src phase)) ↔ a.regsOnly ps b := by
  unfold Blk.tamperNoted; (repeat' split) <;> simp [k0]
@[simp] theorem Blk.lcRefused_regsOnly {ps : List Nat} {a : Blk} (i : Ident) (d : Desc) (b : Blk) (k0 :
    Reg.EVR_DROP_COUNT ∈ ps) (k1 : Reg.KEY_ATTR_COUNT ∈ ps) (k2 : Reg.KEY_AUTH_FAIL_COUNT ∈ ps) (k3 :
    Reg.KEY_OP_COUNT ∈ ps) :
    a.regsOnly ps (Blk.lcRefused i d b) ↔ a.regsOnly ps b := by
  unfold Blk.lcRefused
  refine Blk.keyOp_regsOnly _ _ _ _ _ (fun c => ?_) (by assumption) (by assumption)
  (repeat' split) <;> (try dsimp only) <;> (repeat' split) <;> (try simp [k0, k1, k2, k3, Blk.foldl_regsOnly,
      Blk.ite_regsOnly])
@[simp] theorem Blk.clpWritten_regsOnly {ps : List Nat} {a : Blk} (old b : Blk) (off : Nat) (k0 :
    Reg.AIR_EFFECT_DROP_COUNT ∈ ps) (k1 : Reg.CLP_STOP_COUNT ∈ ps) (k2 : Reg.DVT_ABORT_COUNT ∈ ps) (k3 :
    Reg.DVT_COMMIT_COUNT ∈ ps) (k4 : Reg.DVT_DEADLOCK_COUNT ∈ ps) (k5 : Reg.MAP_LATE_COUNT ∈ ps) (ki : itemRegs ⊆ ps)
    :
    a.regsOnly ps (Blk.clpWritten old b off) ↔ a.regsOnly ps b := by
  unfold Blk.clpWritten; dsimp only
  all_goals (repeat' split)
  all_goals (try simp [k0, k1, k2, k3, k4, k5, ki, ki drop_mem, Blk.foldl_regsOnly, Blk.ite_regsOnly])
  all_goals (try refine (Blk.foldl_regsOnly (fun b x => ?_) _ _).trans ?_)
  all_goals (repeat' split)
  all_goals (try simp [k0, k1, k2, k3, k4, k5, ki, ki drop_mem, Blk.foldl_regsOnly, Blk.ite_regsOnly])
  all_goals (try refine (Blk.foldl_regsOnly (fun b x => ?_) _ _).trans ?_)
  all_goals (repeat' split)
  all_goals (try simp [k0, k1, k2, k3, k4, k5, ki, ki drop_mem, Blk.foldl_regsOnly, Blk.ite_regsOnly])
  all_goals (try refine (Blk.foldl_regsOnly (fun b x => ?_) _ _).trans ?_)
  all_goals (repeat' split)
  all_goals (try simp [k0, k1, k2, k3, k4, k5, ki, ki drop_mem, Blk.foldl_regsOnly, Blk.ite_regsOnly])
@[simp] theorem Blk.sendDueKeys_regsOnly {ps : List Nat} {a : Blk} (b : Blk) :
    a.regsOnly ps ((Blk.sendDueKeys b)) ↔ a.regsOnly ps b := by
  refine Blk.regsOnly_iff (Blk.onlyIn_regs (ps := [Part.air, Part.pwr]) ?_ (by decide) _)
  simp
@[simp] theorem Blk.dropInputs_regsOnly {ps : List Nat} {a : Blk} (b : Blk) (n : Nat) :
    a.regsOnly ps ((Blk.dropInputs b n)) ↔ a.regsOnly ps b := by
  refine Blk.regsOnly_iff (Blk.onlyIn_regs (ps := [Part.axs]) ?_ (by decide) _)
  simp
@[simp] theorem Blk.latchedRead_regsOnly {ps : List Nat} {a : Blk} (b : Blk) (i : Ident) (off : Nat)  :
    a.regsOnly ps (b.latchedRead i off) ↔ a.regsOnly ps b :=
  Blk.regsOnly_iff (fun p hp => by cases p <;> first | rfl | exact absurd (by assumption) hp)
@[simp] theorem Blk.tempWarn_regsOnly {ps : List Nat} {a : Blk} (b : Blk) (ts : List Int) (k0 : Reg.MON_STATUS ∈ ps) :
    a.regsOnly ps ((Blk.tempWarn b ts)) ↔ a.regsOnly ps b := by
  unfold Blk.tempWarn; dsimp only; (repeat' split) <;> simp [k0]
@[simp] theorem Blk.scrub_regsOnly {ps : List Nat} {a : Blk} (err : Option (Fin 8)) (b : Blk) (k0 :
    Reg.MEM_ECC_CORR_COUNT ∈ ps) :
    a.regsOnly ps ((Blk.scrub err b)) ↔ a.regsOnly ps b := by
  unfold Blk.scrub; (repeat' split) <;> simp [k0]
@[simp] theorem Blk.dropReads_regsOnly {ps : List Nat} {a : Blk} (b : Blk) (id : OpId) :
    a.regsOnly ps ((Blk.dropReads b id)) ↔ a.regsOnly ps b := by
  refine Blk.regsOnly_iff (Blk.onlyIn_regs (ps := [Part.axs, Part.fleet, Part.hst, Part.key]) ?_ (by decide) _)
  simp
@[simp] theorem Blk.dmaErr_regsOnly {ps : List Nat} {a : Blk} (b : Blk) (ring tag addr : Nat) (k0 :
    Reg.KEY_ATTR_COUNT ∈ ps) (k1 : Reg.KEY_OP_COUNT ∈ ps) :
    a.regsOnly ps ((Blk.dmaErr b ring tag addr)) ↔ a.regsOnly ps b := by
  unfold Blk.dmaErr; (repeat' split) <;> simp [k0, k1]
@[simp] theorem Blk.epochLost_regsOnly {ps : List Nat} {a : Blk} (b : Blk) (mix : Nat) :
    a.regsOnly ps ((Blk.epochLost b mix)) ↔ a.regsOnly ps b := by
  refine Blk.regsOnly_iff (Blk.onlyIn_regs (ps := [Part.pos]) ?_ (by decide) _)
  simp
@[simp] theorem Blk.snapLost_regsOnly {ps : List Nat} {a : Blk} (b : Blk) (mix : Nat) (ki : itemRegs ⊆ ps) :
    a.regsOnly ps ((Blk.snapLost b mix)) ↔ a.regsOnly ps b := by
  unfold Blk.snapLost; (repeat' split) <;> simp [ki, ki drop_mem]
@[simp] theorem Blk.keyLost_regsOnly {ps : List Nat} {a : Blk} (b : Blk) (k0 : Reg.KEY_ATTR_COUNT ∈ ps) (k1 :
    Reg.KEY_OP_COUNT ∈ ps) :
    a.regsOnly ps ((Blk.keyLost b)) ↔ a.regsOnly ps b := by
  unfold Blk.keyLost; (repeat' split) <;> simp [k0, k1]
@[simp] theorem Blk.violation_regsOnly {ps : List Nat} {a : Blk} (b : Blk) (a' : MemAcc) (k0 : Reg.EVR_DROP_COUNT ∈
    ps) (k1 : Reg.MEM_VIOL_COUNT ∈ ps) :
    a.regsOnly ps ((Blk.violation b a')) ↔ a.regsOnly ps b := by
  unfold Blk.violation; dsimp only; (repeat' split) <;> simp [k0, k1]

end Sys2Proof.Machine
end

