-- ==== Sys2Proof/Laws/State.lean ====
section
/-! SUPPORT. Sys2Proof/Laws/State.lean: every part of the block's working state after each of its named updates, so that no
proof unfolds a record update. -/

namespace Sys2Proof.Machine

open Sys2Proof

@[simp] theorem Blk.setReg_uid (b : Blk) (o : Nat) (w : Word) : (b.setReg o w).uid = b.uid := rfl
@[simp] theorem Blk.setReg_latch (b : Blk) (o : Nat) (w : Word) : (b.setReg o w).latch = b.latch := rfl
@[simp] theorem Blk.setReg_heldLo (b : Blk) (o : Nat) (w : Word) : (b.setReg o w).heldLo = b.heldLo := rfl
@[simp] theorem Blk.setReg_out (b : Blk) (o : Nat) (w : Word) : (b.setReg o w).out = b.out := rfl
@[simp] theorem Blk.setReg_lastRead (b : Blk) (o : Nat) (w : Word) : (b.setReg o w).lastRead = b.lastRead := rfl
@[simp] theorem Blk.setReg_fresh (b : Blk) (o : Nat) (w : Word) : (b.setReg o w).fresh = b.fresh := rfl
@[simp] theorem Blk.setReg_hst (b : Blk) (o : Nat) (w : Word) : (b.setReg o w).hst = b.hst := rfl
@[simp] theorem Blk.setReg_mem (b : Blk) (o : Nat) (w : Word) : (b.setReg o w).mem = b.mem := rfl
@[simp] theorem Blk.setReg_evr (b : Blk) (o : Nat) (w : Word) : (b.setReg o w).evr = b.evr := rfl
@[simp] theorem Blk.setReg_inv (b : Blk) (o : Nat) (w : Word) : (b.setReg o w).inv = b.inv := rfl
@[simp] theorem Blk.setReg_fleet (b : Blk) (o : Nat) (w : Word) : (b.setReg o w).fleet = b.fleet := rfl
@[simp] theorem Blk.setReg_dvt (b : Blk) (o : Nat) (w : Word) : (b.setReg o w).dvt = b.dvt := rfl
@[simp] theorem Blk.setReg_clp (b : Blk) (o : Nat) (w : Word) : (b.setReg o w).clp = b.clp := rfl
@[simp] theorem Blk.setReg_axs (b : Blk) (o : Nat) (w : Word) : (b.setReg o w).axs = b.axs := rfl
@[simp] theorem Blk.setReg_air (b : Blk) (o : Nat) (w : Word) : (b.setReg o w).air = b.air := rfl
@[simp] theorem Blk.setReg_hdl (b : Blk) (o : Nat) (w : Word) : (b.setReg o w).hdl = b.hdl := rfl
@[simp] theorem Blk.setReg_gns (b : Blk) (o : Nat) (w : Word) : (b.setReg o w).gns = b.gns := rfl
@[simp] theorem Blk.setReg_pos (b : Blk) (o : Nat) (w : Word) : (b.setReg o w).pos = b.pos := rfl
@[simp] theorem Blk.setReg_key (b : Blk) (o : Nat) (w : Word) : (b.setReg o w).key = b.key := rfl
@[simp] theorem Blk.setReg_pwr (b : Blk) (o : Nat) (w : Word) : (b.setReg o w).pwr = b.pwr := rfl

@[simp] theorem Blk.bump_uid (b : Blk) (o n : Nat) : (b.bump o n).uid = b.uid := rfl
@[simp] theorem Blk.bump_latch (b : Blk) (o n : Nat) : (b.bump o n).latch = b.latch := rfl
@[simp] theorem Blk.bump_heldLo (b : Blk) (o n : Nat) : (b.bump o n).heldLo = b.heldLo := rfl
@[simp] theorem Blk.bump_out (b : Blk) (o n : Nat) : (b.bump o n).out = b.out := rfl
@[simp] theorem Blk.bump_lastRead (b : Blk) (o n : Nat) : (b.bump o n).lastRead = b.lastRead := rfl
@[simp] theorem Blk.bump_fresh (b : Blk) (o n : Nat) : (b.bump o n).fresh = b.fresh := rfl
@[simp] theorem Blk.bump_hst (b : Blk) (o n : Nat) : (b.bump o n).hst = b.hst := rfl
@[simp] theorem Blk.bump_mem (b : Blk) (o n : Nat) : (b.bump o n).mem = b.mem := rfl
@[simp] theorem Blk.bump_evr (b : Blk) (o n : Nat) : (b.bump o n).evr = b.evr := rfl
@[simp] theorem Blk.bump_inv (b : Blk) (o n : Nat) : (b.bump o n).inv = b.inv := rfl
@[simp] theorem Blk.bump_fleet (b : Blk) (o n : Nat) : (b.bump o n).fleet = b.fleet := rfl
@[simp] theorem Blk.bump_dvt (b : Blk) (o n : Nat) : (b.bump o n).dvt = b.dvt := rfl
@[simp] theorem Blk.bump_clp (b : Blk) (o n : Nat) : (b.bump o n).clp = b.clp := rfl
@[simp] theorem Blk.bump_axs (b : Blk) (o n : Nat) : (b.bump o n).axs = b.axs := rfl
@[simp] theorem Blk.bump_air (b : Blk) (o n : Nat) : (b.bump o n).air = b.air := rfl
@[simp] theorem Blk.bump_hdl (b : Blk) (o n : Nat) : (b.bump o n).hdl = b.hdl := rfl
@[simp] theorem Blk.bump_gns (b : Blk) (o n : Nat) : (b.bump o n).gns = b.gns := rfl
@[simp] theorem Blk.bump_pos (b : Blk) (o n : Nat) : (b.bump o n).pos = b.pos := rfl
@[simp] theorem Blk.bump_key (b : Blk) (o n : Nat) : (b.bump o n).key = b.key := rfl
@[simp] theorem Blk.bump_pwr (b : Blk) (o n : Nat) : (b.bump o n).pwr = b.pwr := rfl

@[simp] theorem Blk.setFlag_uid (b : Blk) (o i : Nat) : (b.setFlag o i).uid = b.uid := rfl
@[simp] theorem Blk.setFlag_latch (b : Blk) (o i : Nat) : (b.setFlag o i).latch = b.latch := rfl
@[simp] theorem Blk.setFlag_heldLo (b : Blk) (o i : Nat) : (b.setFlag o i).heldLo = b.heldLo := rfl
@[simp] theorem Blk.setFlag_out (b : Blk) (o i : Nat) : (b.setFlag o i).out = b.out := rfl
@[simp] theorem Blk.setFlag_lastRead (b : Blk) (o i : Nat) : (b.setFlag o i).lastRead = b.lastRead := rfl
@[simp] theorem Blk.setFlag_fresh (b : Blk) (o i : Nat) : (b.setFlag o i).fresh = b.fresh := rfl
@[simp] theorem Blk.setFlag_hst (b : Blk) (o i : Nat) : (b.setFlag o i).hst = b.hst := rfl
@[simp] theorem Blk.setFlag_mem (b : Blk) (o i : Nat) : (b.setFlag o i).mem = b.mem := rfl
@[simp] theorem Blk.setFlag_evr (b : Blk) (o i : Nat) : (b.setFlag o i).evr = b.evr := rfl
@[simp] theorem Blk.setFlag_inv (b : Blk) (o i : Nat) : (b.setFlag o i).inv = b.inv := rfl
@[simp] theorem Blk.setFlag_fleet (b : Blk) (o i : Nat) : (b.setFlag o i).fleet = b.fleet := rfl
@[simp] theorem Blk.setFlag_dvt (b : Blk) (o i : Nat) : (b.setFlag o i).dvt = b.dvt := rfl
@[simp] theorem Blk.setFlag_clp (b : Blk) (o i : Nat) : (b.setFlag o i).clp = b.clp := rfl
@[simp] theorem Blk.setFlag_axs (b : Blk) (o i : Nat) : (b.setFlag o i).axs = b.axs := rfl
@[simp] theorem Blk.setFlag_air (b : Blk) (o i : Nat) : (b.setFlag o i).air = b.air := rfl
@[simp] theorem Blk.setFlag_hdl (b : Blk) (o i : Nat) : (b.setFlag o i).hdl = b.hdl := rfl
@[simp] theorem Blk.setFlag_gns (b : Blk) (o i : Nat) : (b.setFlag o i).gns = b.gns := rfl
@[simp] theorem Blk.setFlag_pos (b : Blk) (o i : Nat) : (b.setFlag o i).pos = b.pos := rfl
@[simp] theorem Blk.setFlag_key (b : Blk) (o i : Nat) : (b.setFlag o i).key = b.key := rfl
@[simp] theorem Blk.setFlag_pwr (b : Blk) (o i : Nat) : (b.setFlag o i).pwr = b.pwr := rfl

@[simp] theorem Blk.clrFlag_uid (b : Blk) (o i : Nat) : (b.clrFlag o i).uid = b.uid := rfl
@[simp] theorem Blk.clrFlag_latch (b : Blk) (o i : Nat) : (b.clrFlag o i).latch = b.latch := rfl
@[simp] theorem Blk.clrFlag_heldLo (b : Blk) (o i : Nat) : (b.clrFlag o i).heldLo = b.heldLo := rfl
@[simp] theorem Blk.clrFlag_out (b : Blk) (o i : Nat) : (b.clrFlag o i).out = b.out := rfl
@[simp] theorem Blk.clrFlag_lastRead (b : Blk) (o i : Nat) : (b.clrFlag o i).lastRead = b.lastRead := rfl
@[simp] theorem Blk.clrFlag_fresh (b : Blk) (o i : Nat) : (b.clrFlag o i).fresh = b.fresh := rfl
@[simp] theorem Blk.clrFlag_hst (b : Blk) (o i : Nat) : (b.clrFlag o i).hst = b.hst := rfl
@[simp] theorem Blk.clrFlag_mem (b : Blk) (o i : Nat) : (b.clrFlag o i).mem = b.mem := rfl
@[simp] theorem Blk.clrFlag_evr (b : Blk) (o i : Nat) : (b.clrFlag o i).evr = b.evr := rfl
@[simp] theorem Blk.clrFlag_inv (b : Blk) (o i : Nat) : (b.clrFlag o i).inv = b.inv := rfl
@[simp] theorem Blk.clrFlag_fleet (b : Blk) (o i : Nat) : (b.clrFlag o i).fleet = b.fleet := rfl
@[simp] theorem Blk.clrFlag_dvt (b : Blk) (o i : Nat) : (b.clrFlag o i).dvt = b.dvt := rfl
@[simp] theorem Blk.clrFlag_clp (b : Blk) (o i : Nat) : (b.clrFlag o i).clp = b.clp := rfl
@[simp] theorem Blk.clrFlag_axs (b : Blk) (o i : Nat) : (b.clrFlag o i).axs = b.axs := rfl
@[simp] theorem Blk.clrFlag_air (b : Blk) (o i : Nat) : (b.clrFlag o i).air = b.air := rfl
@[simp] theorem Blk.clrFlag_hdl (b : Blk) (o i : Nat) : (b.clrFlag o i).hdl = b.hdl := rfl
@[simp] theorem Blk.clrFlag_gns (b : Blk) (o i : Nat) : (b.clrFlag o i).gns = b.gns := rfl
@[simp] theorem Blk.clrFlag_pos (b : Blk) (o i : Nat) : (b.clrFlag o i).pos = b.pos := rfl
@[simp] theorem Blk.clrFlag_key (b : Blk) (o i : Nat) : (b.clrFlag o i).key = b.key := rfl
@[simp] theorem Blk.clrFlag_pwr (b : Blk) (o i : Nat) : (b.clrFlag o i).pwr = b.pwr := rfl

@[simp] theorem Blk.emit_uid (b : Blk) (o : Out) : (b.emit o).uid = b.uid := rfl
@[simp] theorem Blk.emit_regs (b : Blk) (o : Out) : (b.emit o).regs = b.regs := rfl
@[simp] theorem Blk.emit_latch (b : Blk) (o : Out) : (b.emit o).latch = b.latch := rfl
@[simp] theorem Blk.emit_heldLo (b : Blk) (o : Out) : (b.emit o).heldLo = b.heldLo := rfl
@[simp] theorem Blk.emit_lastRead (b : Blk) (o : Out) : (b.emit o).lastRead = b.lastRead := rfl
@[simp] theorem Blk.emit_fresh (b : Blk) (o : Out) : (b.emit o).fresh = b.fresh := rfl
@[simp] theorem Blk.emit_hst (b : Blk) (o : Out) : (b.emit o).hst = b.hst := rfl
@[simp] theorem Blk.emit_mem (b : Blk) (o : Out) : (b.emit o).mem = b.mem := rfl
@[simp] theorem Blk.emit_evr (b : Blk) (o : Out) : (b.emit o).evr = b.evr := rfl
@[simp] theorem Blk.emit_inv (b : Blk) (o : Out) : (b.emit o).inv = b.inv := rfl
@[simp] theorem Blk.emit_fleet (b : Blk) (o : Out) : (b.emit o).fleet = b.fleet := rfl
@[simp] theorem Blk.emit_dvt (b : Blk) (o : Out) : (b.emit o).dvt = b.dvt := rfl
@[simp] theorem Blk.emit_clp (b : Blk) (o : Out) : (b.emit o).clp = b.clp := rfl
@[simp] theorem Blk.emit_axs (b : Blk) (o : Out) : (b.emit o).axs = b.axs := rfl
@[simp] theorem Blk.emit_air (b : Blk) (o : Out) : (b.emit o).air = b.air := rfl
@[simp] theorem Blk.emit_hdl (b : Blk) (o : Out) : (b.emit o).hdl = b.hdl := rfl
@[simp] theorem Blk.emit_gns (b : Blk) (o : Out) : (b.emit o).gns = b.gns := rfl
@[simp] theorem Blk.emit_pos (b : Blk) (o : Out) : (b.emit o).pos = b.pos := rfl
@[simp] theorem Blk.emit_key (b : Blk) (o : Out) : (b.emit o).key = b.key := rfl
@[simp] theorem Blk.emit_pwr (b : Blk) (o : Out) : (b.emit o).pwr = b.pwr := rfl
@[simp] theorem Blk.emit_reg (b : Blk) (o : Out) (k : Nat) : (b.emit o).reg k = b.reg k := rfl

@[simp] theorem Blk.setRing_uid (b : Blk) (n : Nat) (r : Ring) : (b.setRing n r).uid = b.uid := rfl
@[simp] theorem Blk.setRing_regs (b : Blk) (n : Nat) (r : Ring) : (b.setRing n r).regs = b.regs := rfl
@[simp] theorem Blk.setRing_latch (b : Blk) (n : Nat) (r : Ring) : (b.setRing n r).latch = b.latch := rfl
@[simp] theorem Blk.setRing_heldLo (b : Blk) (n : Nat) (r : Ring) : (b.setRing n r).heldLo = b.heldLo := rfl
@[simp] theorem Blk.setRing_out (b : Blk) (n : Nat) (r : Ring) : (b.setRing n r).out = b.out := rfl
@[simp] theorem Blk.setRing_lastRead (b : Blk) (n : Nat) (r : Ring) : (b.setRing n r).lastRead = b.lastRead := rfl
@[simp] theorem Blk.setRing_fresh (b : Blk) (n : Nat) (r : Ring) : (b.setRing n r).fresh = b.fresh := rfl
@[simp] theorem Blk.setRing_mem (b : Blk) (n : Nat) (r : Ring) : (b.setRing n r).mem = b.mem := rfl
@[simp] theorem Blk.setRing_evr (b : Blk) (n : Nat) (r : Ring) : (b.setRing n r).evr = b.evr := rfl
@[simp] theorem Blk.setRing_inv (b : Blk) (n : Nat) (r : Ring) : (b.setRing n r).inv = b.inv := rfl
@[simp] theorem Blk.setRing_fleet (b : Blk) (n : Nat) (r : Ring) : (b.setRing n r).fleet = b.fleet := rfl
@[simp] theorem Blk.setRing_dvt (b : Blk) (n : Nat) (r : Ring) : (b.setRing n r).dvt = b.dvt := rfl
@[simp] theorem Blk.setRing_clp (b : Blk) (n : Nat) (r : Ring) : (b.setRing n r).clp = b.clp := rfl
@[simp] theorem Blk.setRing_axs (b : Blk) (n : Nat) (r : Ring) : (b.setRing n r).axs = b.axs := rfl
@[simp] theorem Blk.setRing_air (b : Blk) (n : Nat) (r : Ring) : (b.setRing n r).air = b.air := rfl
@[simp] theorem Blk.setRing_hdl (b : Blk) (n : Nat) (r : Ring) : (b.setRing n r).hdl = b.hdl := rfl
@[simp] theorem Blk.setRing_gns (b : Blk) (n : Nat) (r : Ring) : (b.setRing n r).gns = b.gns := rfl
@[simp] theorem Blk.setRing_pos (b : Blk) (n : Nat) (r : Ring) : (b.setRing n r).pos = b.pos := rfl
@[simp] theorem Blk.setRing_key (b : Blk) (n : Nat) (r : Ring) : (b.setRing n r).key = b.key := rfl
@[simp] theorem Blk.setRing_pwr (b : Blk) (n : Nat) (r : Ring) : (b.setRing n r).pwr = b.pwr := rfl
@[simp] theorem Blk.setRing_reg (b : Blk) (n : Nat) (r : Ring) (k : Nat) : (b.setRing n r).reg k = b.reg k := rfl

@[simp] theorem Blk.setQueue_uid (b : Blk) (n : Nat) (q : Queue) : (b.setQueue n q).uid = b.uid := rfl
@[simp] theorem Blk.setQueue_regs (b : Blk) (n : Nat) (q : Queue) : (b.setQueue n q).regs = b.regs := rfl
@[simp] theorem Blk.setQueue_latch (b : Blk) (n : Nat) (q : Queue) : (b.setQueue n q).latch = b.latch := rfl
@[simp] theorem Blk.setQueue_heldLo (b : Blk) (n : Nat) (q : Queue) : (b.setQueue n q).heldLo = b.heldLo := rfl
@[simp] theorem Blk.setQueue_out (b : Blk) (n : Nat) (q : Queue) : (b.setQueue n q).out = b.out := rfl
@[simp] theorem Blk.setQueue_lastRead (b : Blk) (n : Nat) (q : Queue) : (b.setQueue n q).lastRead = b.lastRead := rfl
@[simp] theorem Blk.setQueue_fresh (b : Blk) (n : Nat) (q : Queue) : (b.setQueue n q).fresh = b.fresh := rfl
@[simp] theorem Blk.setQueue_hst (b : Blk) (n : Nat) (q : Queue) : (b.setQueue n q).hst = b.hst := rfl
@[simp] theorem Blk.setQueue_evr (b : Blk) (n : Nat) (q : Queue) : (b.setQueue n q).evr = b.evr := rfl
@[simp] theorem Blk.setQueue_inv (b : Blk) (n : Nat) (q : Queue) : (b.setQueue n q).inv = b.inv := rfl
@[simp] theorem Blk.setQueue_fleet (b : Blk) (n : Nat) (q : Queue) : (b.setQueue n q).fleet = b.fleet := rfl
@[simp] theorem Blk.setQueue_dvt (b : Blk) (n : Nat) (q : Queue) : (b.setQueue n q).dvt = b.dvt := rfl
@[simp] theorem Blk.setQueue_clp (b : Blk) (n : Nat) (q : Queue) : (b.setQueue n q).clp = b.clp := rfl
@[simp] theorem Blk.setQueue_axs (b : Blk) (n : Nat) (q : Queue) : (b.setQueue n q).axs = b.axs := rfl
@[simp] theorem Blk.setQueue_air (b : Blk) (n : Nat) (q : Queue) : (b.setQueue n q).air = b.air := rfl
@[simp] theorem Blk.setQueue_hdl (b : Blk) (n : Nat) (q : Queue) : (b.setQueue n q).hdl = b.hdl := rfl
@[simp] theorem Blk.setQueue_gns (b : Blk) (n : Nat) (q : Queue) : (b.setQueue n q).gns = b.gns := rfl
@[simp] theorem Blk.setQueue_pos (b : Blk) (n : Nat) (q : Queue) : (b.setQueue n q).pos = b.pos := rfl
@[simp] theorem Blk.setQueue_key (b : Blk) (n : Nat) (q : Queue) : (b.setQueue n q).key = b.key := rfl
@[simp] theorem Blk.setQueue_pwr (b : Blk) (n : Nat) (q : Queue) : (b.setQueue n q).pwr = b.pwr := rfl
@[simp] theorem Blk.setQueue_reg (b : Blk) (n : Nat) (q : Queue) (k : Nat) : (b.setQueue n q).reg k = b.reg k := rfl

@[simp] theorem Blk.setAxis_uid (b : Blk) (n : Nat) (x : Axis) : (b.setAxis n x).uid = b.uid := rfl
@[simp] theorem Blk.setAxis_regs (b : Blk) (n : Nat) (x : Axis) : (b.setAxis n x).regs = b.regs := rfl
@[simp] theorem Blk.setAxis_latch (b : Blk) (n : Nat) (x : Axis) : (b.setAxis n x).latch = b.latch := rfl
@[simp] theorem Blk.setAxis_heldLo (b : Blk) (n : Nat) (x : Axis) : (b.setAxis n x).heldLo = b.heldLo := rfl
@[simp] theorem Blk.setAxis_out (b : Blk) (n : Nat) (x : Axis) : (b.setAxis n x).out = b.out := rfl
@[simp] theorem Blk.setAxis_lastRead (b : Blk) (n : Nat) (x : Axis) : (b.setAxis n x).lastRead = b.lastRead := rfl
@[simp] theorem Blk.setAxis_fresh (b : Blk) (n : Nat) (x : Axis) : (b.setAxis n x).fresh = b.fresh := rfl
@[simp] theorem Blk.setAxis_hst (b : Blk) (n : Nat) (x : Axis) : (b.setAxis n x).hst = b.hst := rfl
@[simp] theorem Blk.setAxis_mem (b : Blk) (n : Nat) (x : Axis) : (b.setAxis n x).mem = b.mem := rfl
@[simp] theorem Blk.setAxis_evr (b : Blk) (n : Nat) (x : Axis) : (b.setAxis n x).evr = b.evr := rfl
@[simp] theorem Blk.setAxis_inv (b : Blk) (n : Nat) (x : Axis) : (b.setAxis n x).inv = b.inv := rfl
@[simp] theorem Blk.setAxis_fleet (b : Blk) (n : Nat) (x : Axis) : (b.setAxis n x).fleet = b.fleet := rfl
@[simp] theorem Blk.setAxis_dvt (b : Blk) (n : Nat) (x : Axis) : (b.setAxis n x).dvt = b.dvt := rfl
@[simp] theorem Blk.setAxis_clp (b : Blk) (n : Nat) (x : Axis) : (b.setAxis n x).clp = b.clp := rfl
@[simp] theorem Blk.setAxis_air (b : Blk) (n : Nat) (x : Axis) : (b.setAxis n x).air = b.air := rfl
@[simp] theorem Blk.setAxis_hdl (b : Blk) (n : Nat) (x : Axis) : (b.setAxis n x).hdl = b.hdl := rfl
@[simp] theorem Blk.setAxis_gns (b : Blk) (n : Nat) (x : Axis) : (b.setAxis n x).gns = b.gns := rfl
@[simp] theorem Blk.setAxis_pos (b : Blk) (n : Nat) (x : Axis) : (b.setAxis n x).pos = b.pos := rfl
@[simp] theorem Blk.setAxis_key (b : Blk) (n : Nat) (x : Axis) : (b.setAxis n x).key = b.key := rfl
@[simp] theorem Blk.setAxis_pwr (b : Blk) (n : Nat) (x : Axis) : (b.setAxis n x).pwr = b.pwr := rfl
@[simp] theorem Blk.setAxis_reg (b : Blk) (n : Nat) (x : Axis) (k : Nat) : (b.setAxis n x).reg k = b.reg k := rfl

@[simp] theorem Blk.setLink_uid (b : Blk) (m : Nat) (l : Link) : (b.setLink m l).uid = b.uid := rfl
@[simp] theorem Blk.setLink_regs (b : Blk) (m : Nat) (l : Link) : (b.setLink m l).regs = b.regs := rfl
@[simp] theorem Blk.setLink_latch (b : Blk) (m : Nat) (l : Link) : (b.setLink m l).latch = b.latch := rfl
@[simp] theorem Blk.setLink_heldLo (b : Blk) (m : Nat) (l : Link) : (b.setLink m l).heldLo = b.heldLo := rfl
@[simp] theorem Blk.setLink_out (b : Blk) (m : Nat) (l : Link) : (b.setLink m l).out = b.out := rfl
@[simp] theorem Blk.setLink_lastRead (b : Blk) (m : Nat) (l : Link) : (b.setLink m l).lastRead = b.lastRead := rfl
@[simp] theorem Blk.setLink_fresh (b : Blk) (m : Nat) (l : Link) : (b.setLink m l).fresh = b.fresh := rfl
@[simp] theorem Blk.setLink_hst (b : Blk) (m : Nat) (l : Link) : (b.setLink m l).hst = b.hst := rfl
@[simp] theorem Blk.setLink_mem (b : Blk) (m : Nat) (l : Link) : (b.setLink m l).mem = b.mem := rfl
@[simp] theorem Blk.setLink_evr (b : Blk) (m : Nat) (l : Link) : (b.setLink m l).evr = b.evr := rfl
@[simp] theorem Blk.setLink_inv (b : Blk) (m : Nat) (l : Link) : (b.setLink m l).inv = b.inv := rfl
@[simp] theorem Blk.setLink_fleet (b : Blk) (m : Nat) (l : Link) : (b.setLink m l).fleet = b.fleet := rfl
@[simp] theorem Blk.setLink_dvt (b : Blk) (m : Nat) (l : Link) : (b.setLink m l).dvt = b.dvt := rfl
@[simp] theorem Blk.setLink_clp (b : Blk) (m : Nat) (l : Link) : (b.setLink m l).clp = b.clp := rfl
@[simp] theorem Blk.setLink_axs (b : Blk) (m : Nat) (l : Link) : (b.setLink m l).axs = b.axs := rfl
@[simp] theorem Blk.setLink_hdl (b : Blk) (m : Nat) (l : Link) : (b.setLink m l).hdl = b.hdl := rfl
@[simp] theorem Blk.setLink_gns (b : Blk) (m : Nat) (l : Link) : (b.setLink m l).gns = b.gns := rfl
@[simp] theorem Blk.setLink_pos (b : Blk) (m : Nat) (l : Link) : (b.setLink m l).pos = b.pos := rfl
@[simp] theorem Blk.setLink_key (b : Blk) (m : Nat) (l : Link) : (b.setLink m l).key = b.key := rfl
@[simp] theorem Blk.setLink_pwr (b : Blk) (m : Nat) (l : Link) : (b.setLink m l).pwr = b.pwr := rfl
@[simp] theorem Blk.setLink_reg (b : Blk) (m : Nat) (l : Link) (k : Nat) : (b.setLink m l).reg k = b.reg k := rfl

@[simp] theorem Blk.setHead_uid (b : Blk) (h : Nat) (x : Head) : (b.setHead h x).uid = b.uid := rfl
@[simp] theorem Blk.setHead_regs (b : Blk) (h : Nat) (x : Head) : (b.setHead h x).regs = b.regs := rfl
@[simp] theorem Blk.setHead_latch (b : Blk) (h : Nat) (x : Head) : (b.setHead h x).latch = b.latch := rfl
@[simp] theorem Blk.setHead_heldLo (b : Blk) (h : Nat) (x : Head) : (b.setHead h x).heldLo = b.heldLo := rfl
@[simp] theorem Blk.setHead_out (b : Blk) (h : Nat) (x : Head) : (b.setHead h x).out = b.out := rfl
@[simp] theorem Blk.setHead_lastRead (b : Blk) (h : Nat) (x : Head) : (b.setHead h x).lastRead = b.lastRead := rfl
@[simp] theorem Blk.setHead_fresh (b : Blk) (h : Nat) (x : Head) : (b.setHead h x).fresh = b.fresh := rfl
@[simp] theorem Blk.setHead_hst (b : Blk) (h : Nat) (x : Head) : (b.setHead h x).hst = b.hst := rfl
@[simp] theorem Blk.setHead_mem (b : Blk) (h : Nat) (x : Head) : (b.setHead h x).mem = b.mem := rfl
@[simp] theorem Blk.setHead_evr (b : Blk) (h : Nat) (x : Head) : (b.setHead h x).evr = b.evr := rfl
@[simp] theorem Blk.setHead_inv (b : Blk) (h : Nat) (x : Head) : (b.setHead h x).inv = b.inv := rfl
@[simp] theorem Blk.setHead_fleet (b : Blk) (h : Nat) (x : Head) : (b.setHead h x).fleet = b.fleet := rfl
@[simp] theorem Blk.setHead_dvt (b : Blk) (h : Nat) (x : Head) : (b.setHead h x).dvt = b.dvt := rfl
@[simp] theorem Blk.setHead_clp (b : Blk) (h : Nat) (x : Head) : (b.setHead h x).clp = b.clp := rfl
@[simp] theorem Blk.setHead_axs (b : Blk) (h : Nat) (x : Head) : (b.setHead h x).axs = b.axs := rfl
@[simp] theorem Blk.setHead_air (b : Blk) (h : Nat) (x : Head) : (b.setHead h x).air = b.air := rfl
@[simp] theorem Blk.setHead_gns (b : Blk) (h : Nat) (x : Head) : (b.setHead h x).gns = b.gns := rfl
@[simp] theorem Blk.setHead_pos (b : Blk) (h : Nat) (x : Head) : (b.setHead h x).pos = b.pos := rfl
@[simp] theorem Blk.setHead_key (b : Blk) (h : Nat) (x : Head) : (b.setHead h x).key = b.key := rfl
@[simp] theorem Blk.setHead_pwr (b : Blk) (h : Nat) (x : Head) : (b.setHead h x).pwr = b.pwr := rfl
@[simp] theorem Blk.setHead_reg (b : Blk) (h : Nat) (x : Head) (k : Nat) : (b.setHead h x).reg k = b.reg k := rfl

@[simp] theorem Blk.setCmp_uid (b : Blk) (n : Nat) (x : CmpUnit) : (b.setCmp n x).uid = b.uid := rfl
@[simp] theorem Blk.setCmp_regs (b : Blk) (n : Nat) (x : CmpUnit) : (b.setCmp n x).regs = b.regs := rfl
@[simp] theorem Blk.setCmp_latch (b : Blk) (n : Nat) (x : CmpUnit) : (b.setCmp n x).latch = b.latch := rfl
@[simp] theorem Blk.setCmp_heldLo (b : Blk) (n : Nat) (x : CmpUnit) : (b.setCmp n x).heldLo = b.heldLo := rfl
@[simp] theorem Blk.setCmp_out (b : Blk) (n : Nat) (x : CmpUnit) : (b.setCmp n x).out = b.out := rfl
@[simp] theorem Blk.setCmp_lastRead (b : Blk) (n : Nat) (x : CmpUnit) : (b.setCmp n x).lastRead = b.lastRead := rfl
@[simp] theorem Blk.setCmp_fresh (b : Blk) (n : Nat) (x : CmpUnit) : (b.setCmp n x).fresh = b.fresh := rfl
@[simp] theorem Blk.setCmp_hst (b : Blk) (n : Nat) (x : CmpUnit) : (b.setCmp n x).hst = b.hst := rfl
@[simp] theorem Blk.setCmp_mem (b : Blk) (n : Nat) (x : CmpUnit) : (b.setCmp n x).mem = b.mem := rfl
@[simp] theorem Blk.setCmp_evr (b : Blk) (n : Nat) (x : CmpUnit) : (b.setCmp n x).evr = b.evr := rfl
@[simp] theorem Blk.setCmp_fleet (b : Blk) (n : Nat) (x : CmpUnit) : (b.setCmp n x).fleet = b.fleet := rfl
@[simp] theorem Blk.setCmp_dvt (b : Blk) (n : Nat) (x : CmpUnit) : (b.setCmp n x).dvt = b.dvt := rfl
@[simp] theorem Blk.setCmp_clp (b : Blk) (n : Nat) (x : CmpUnit) : (b.setCmp n x).clp = b.clp := rfl
@[simp] theorem Blk.setCmp_axs (b : Blk) (n : Nat) (x : CmpUnit) : (b.setCmp n x).axs = b.axs := rfl
@[simp] theorem Blk.setCmp_air (b : Blk) (n : Nat) (x : CmpUnit) : (b.setCmp n x).air = b.air := rfl
@[simp] theorem Blk.setCmp_hdl (b : Blk) (n : Nat) (x : CmpUnit) : (b.setCmp n x).hdl = b.hdl := rfl
@[simp] theorem Blk.setCmp_gns (b : Blk) (n : Nat) (x : CmpUnit) : (b.setCmp n x).gns = b.gns := rfl
@[simp] theorem Blk.setCmp_pos (b : Blk) (n : Nat) (x : CmpUnit) : (b.setCmp n x).pos = b.pos := rfl
@[simp] theorem Blk.setCmp_key (b : Blk) (n : Nat) (x : CmpUnit) : (b.setCmp n x).key = b.key := rfl
@[simp] theorem Blk.setCmp_pwr (b : Blk) (n : Nat) (x : CmpUnit) : (b.setCmp n x).pwr = b.pwr := rfl
@[simp] theorem Blk.setCmp_reg (b : Blk) (n : Nat) (x : CmpUnit) (k : Nat) : (b.setCmp n x).reg k = b.reg k := rfl

@[simp] theorem Blk.setLan_uid (b : Blk) (p : Nat) (x : LanPort) : (b.setLan p x).uid = b.uid := rfl
@[simp] theorem Blk.setLan_regs (b : Blk) (p : Nat) (x : LanPort) : (b.setLan p x).regs = b.regs := rfl
@[simp] theorem Blk.setLan_latch (b : Blk) (p : Nat) (x : LanPort) : (b.setLan p x).latch = b.latch := rfl
@[simp] theorem Blk.setLan_heldLo (b : Blk) (p : Nat) (x : LanPort) : (b.setLan p x).heldLo = b.heldLo := rfl
@[simp] theorem Blk.setLan_out (b : Blk) (p : Nat) (x : LanPort) : (b.setLan p x).out = b.out := rfl
@[simp] theorem Blk.setLan_lastRead (b : Blk) (p : Nat) (x : LanPort) : (b.setLan p x).lastRead = b.lastRead := rfl
@[simp] theorem Blk.setLan_fresh (b : Blk) (p : Nat) (x : LanPort) : (b.setLan p x).fresh = b.fresh := rfl
@[simp] theorem Blk.setLan_hst (b : Blk) (p : Nat) (x : LanPort) : (b.setLan p x).hst = b.hst := rfl
@[simp] theorem Blk.setLan_mem (b : Blk) (p : Nat) (x : LanPort) : (b.setLan p x).mem = b.mem := rfl
@[simp] theorem Blk.setLan_evr (b : Blk) (p : Nat) (x : LanPort) : (b.setLan p x).evr = b.evr := rfl
@[simp] theorem Blk.setLan_fleet (b : Blk) (p : Nat) (x : LanPort) : (b.setLan p x).fleet = b.fleet := rfl
@[simp] theorem Blk.setLan_dvt (b : Blk) (p : Nat) (x : LanPort) : (b.setLan p x).dvt = b.dvt := rfl
@[simp] theorem Blk.setLan_clp (b : Blk) (p : Nat) (x : LanPort) : (b.setLan p x).clp = b.clp := rfl
@[simp] theorem Blk.setLan_axs (b : Blk) (p : Nat) (x : LanPort) : (b.setLan p x).axs = b.axs := rfl
@[simp] theorem Blk.setLan_air (b : Blk) (p : Nat) (x : LanPort) : (b.setLan p x).air = b.air := rfl
@[simp] theorem Blk.setLan_hdl (b : Blk) (p : Nat) (x : LanPort) : (b.setLan p x).hdl = b.hdl := rfl
@[simp] theorem Blk.setLan_gns (b : Blk) (p : Nat) (x : LanPort) : (b.setLan p x).gns = b.gns := rfl
@[simp] theorem Blk.setLan_pos (b : Blk) (p : Nat) (x : LanPort) : (b.setLan p x).pos = b.pos := rfl
@[simp] theorem Blk.setLan_key (b : Blk) (p : Nat) (x : LanPort) : (b.setLan p x).key = b.key := rfl
@[simp] theorem Blk.setLan_pwr (b : Blk) (p : Nat) (x : LanPort) : (b.setLan p x).pwr = b.pwr := rfl
@[simp] theorem Blk.setLan_reg (b : Blk) (p : Nat) (x : LanPort) (k : Nat) : (b.setLan p x).reg k = b.reg k := rfl

@[simp] theorem Blk.modHst_uid (b : Blk) (f : Hst → Hst) : (b.modHst f).uid = b.uid := rfl
@[simp] theorem Blk.modHst_regs (b : Blk) (f : Hst → Hst) : (b.modHst f).regs = b.regs := rfl
@[simp] theorem Blk.modHst_latch (b : Blk) (f : Hst → Hst) : (b.modHst f).latch = b.latch := rfl
@[simp] theorem Blk.modHst_heldLo (b : Blk) (f : Hst → Hst) : (b.modHst f).heldLo = b.heldLo := rfl
@[simp] theorem Blk.modHst_out (b : Blk) (f : Hst → Hst) : (b.modHst f).out = b.out := rfl
@[simp] theorem Blk.modHst_lastRead (b : Blk) (f : Hst → Hst) : (b.modHst f).lastRead = b.lastRead := rfl
@[simp] theorem Blk.modHst_fresh (b : Blk) (f : Hst → Hst) : (b.modHst f).fresh = b.fresh := rfl
@[simp] theorem Blk.modHst_hst (b : Blk) (f : Hst → Hst) : (b.modHst f).hst = f b.hst := rfl
@[simp] theorem Blk.modHst_mem (b : Blk) (f : Hst → Hst) : (b.modHst f).mem = b.mem := rfl
@[simp] theorem Blk.modHst_evr (b : Blk) (f : Hst → Hst) : (b.modHst f).evr = b.evr := rfl
@[simp] theorem Blk.modHst_inv (b : Blk) (f : Hst → Hst) : (b.modHst f).inv = b.inv := rfl
@[simp] theorem Blk.modHst_fleet (b : Blk) (f : Hst → Hst) : (b.modHst f).fleet = b.fleet := rfl
@[simp] theorem Blk.modHst_dvt (b : Blk) (f : Hst → Hst) : (b.modHst f).dvt = b.dvt := rfl
@[simp] theorem Blk.modHst_clp (b : Blk) (f : Hst → Hst) : (b.modHst f).clp = b.clp := rfl
@[simp] theorem Blk.modHst_axs (b : Blk) (f : Hst → Hst) : (b.modHst f).axs = b.axs := rfl
@[simp] theorem Blk.modHst_air (b : Blk) (f : Hst → Hst) : (b.modHst f).air = b.air := rfl
@[simp] theorem Blk.modHst_hdl (b : Blk) (f : Hst → Hst) : (b.modHst f).hdl = b.hdl := rfl
@[simp] theorem Blk.modHst_gns (b : Blk) (f : Hst → Hst) : (b.modHst f).gns = b.gns := rfl
@[simp] theorem Blk.modHst_pos (b : Blk) (f : Hst → Hst) : (b.modHst f).pos = b.pos := rfl
@[simp] theorem Blk.modHst_key (b : Blk) (f : Hst → Hst) : (b.modHst f).key = b.key := rfl
@[simp] theorem Blk.modHst_pwr (b : Blk) (f : Hst → Hst) : (b.modHst f).pwr = b.pwr := rfl
@[simp] theorem Blk.modHst_reg (b : Blk) (f : Hst → Hst) (k : Nat) : (b.modHst f).reg k = b.reg k := rfl

@[simp] theorem Blk.modMem_uid (b : Blk) (f : Mem → Mem) : (b.modMem f).uid = b.uid := rfl
@[simp] theorem Blk.modMem_regs (b : Blk) (f : Mem → Mem) : (b.modMem f).regs = b.regs := rfl
@[simp] theorem Blk.modMem_latch (b : Blk) (f : Mem → Mem) : (b.modMem f).latch = b.latch := rfl
@[simp] theorem Blk.modMem_heldLo (b : Blk) (f : Mem → Mem) : (b.modMem f).heldLo = b.heldLo := rfl
@[simp] theorem Blk.modMem_out (b : Blk) (f : Mem → Mem) : (b.modMem f).out = b.out := rfl
@[simp] theorem Blk.modMem_lastRead (b : Blk) (f : Mem → Mem) : (b.modMem f).lastRead = b.lastRead := rfl
@[simp] theorem Blk.modMem_fresh (b : Blk) (f : Mem → Mem) : (b.modMem f).fresh = b.fresh := rfl
@[simp] theorem Blk.modMem_hst (b : Blk) (f : Mem → Mem) : (b.modMem f).hst = b.hst := rfl
@[simp] theorem Blk.modMem_mem (b : Blk) (f : Mem → Mem) : (b.modMem f).mem = f b.mem := rfl
@[simp] theorem Blk.modMem_evr (b : Blk) (f : Mem → Mem) : (b.modMem f).evr = b.evr := rfl
@[simp] theorem Blk.modMem_inv (b : Blk) (f : Mem → Mem) : (b.modMem f).inv = b.inv := rfl
@[simp] theorem Blk.modMem_fleet (b : Blk) (f : Mem → Mem) : (b.modMem f).fleet = b.fleet := rfl
@[simp] theorem Blk.modMem_dvt (b : Blk) (f : Mem → Mem) : (b.modMem f).dvt = b.dvt := rfl
@[simp] theorem Blk.modMem_clp (b : Blk) (f : Mem → Mem) : (b.modMem f).clp = b.clp := rfl
@[simp] theorem Blk.modMem_axs (b : Blk) (f : Mem → Mem) : (b.modMem f).axs = b.axs := rfl
@[simp] theorem Blk.modMem_air (b : Blk) (f : Mem → Mem) : (b.modMem f).air = b.air := rfl
@[simp] theorem Blk.modMem_hdl (b : Blk) (f : Mem → Mem) : (b.modMem f).hdl = b.hdl := rfl
@[simp] theorem Blk.modMem_gns (b : Blk) (f : Mem → Mem) : (b.modMem f).gns = b.gns := rfl
@[simp] theorem Blk.modMem_pos (b : Blk) (f : Mem → Mem) : (b.modMem f).pos = b.pos := rfl
@[simp] theorem Blk.modMem_key (b : Blk) (f : Mem → Mem) : (b.modMem f).key = b.key := rfl
@[simp] theorem Blk.modMem_pwr (b : Blk) (f : Mem → Mem) : (b.modMem f).pwr = b.pwr := rfl
@[simp] theorem Blk.modMem_reg (b : Blk) (f : Mem → Mem) (k : Nat) : (b.modMem f).reg k = b.reg k := rfl

@[simp] theorem Blk.modEvr_uid (b : Blk) (f : Evr → Evr) : (b.modEvr f).uid = b.uid := rfl
@[simp] theorem Blk.modEvr_regs (b : Blk) (f : Evr → Evr) : (b.modEvr f).regs = b.regs := rfl
@[simp] theorem Blk.modEvr_latch (b : Blk) (f : Evr → Evr) : (b.modEvr f).latch = b.latch := rfl
@[simp] theorem Blk.modEvr_heldLo (b : Blk) (f : Evr → Evr) : (b.modEvr f).heldLo = b.heldLo := rfl
@[simp] theorem Blk.modEvr_out (b : Blk) (f : Evr → Evr) : (b.modEvr f).out = b.out := rfl
@[simp] theorem Blk.modEvr_lastRead (b : Blk) (f : Evr → Evr) : (b.modEvr f).lastRead = b.lastRead := rfl
@[simp] theorem Blk.modEvr_fresh (b : Blk) (f : Evr → Evr) : (b.modEvr f).fresh = b.fresh := rfl
@[simp] theorem Blk.modEvr_hst (b : Blk) (f : Evr → Evr) : (b.modEvr f).hst = b.hst := rfl
@[simp] theorem Blk.modEvr_mem (b : Blk) (f : Evr → Evr) : (b.modEvr f).mem = b.mem := rfl
@[simp] theorem Blk.modEvr_evr (b : Blk) (f : Evr → Evr) : (b.modEvr f).evr = f b.evr := rfl
@[simp] theorem Blk.modEvr_inv (b : Blk) (f : Evr → Evr) : (b.modEvr f).inv = b.inv := rfl
@[simp] theorem Blk.modEvr_fleet (b : Blk) (f : Evr → Evr) : (b.modEvr f).fleet = b.fleet := rfl
@[simp] theorem Blk.modEvr_dvt (b : Blk) (f : Evr → Evr) : (b.modEvr f).dvt = b.dvt := rfl
@[simp] theorem Blk.modEvr_clp (b : Blk) (f : Evr → Evr) : (b.modEvr f).clp = b.clp := rfl
@[simp] theorem Blk.modEvr_axs (b : Blk) (f : Evr → Evr) : (b.modEvr f).axs = b.axs := rfl
@[simp] theorem Blk.modEvr_air (b : Blk) (f : Evr → Evr) : (b.modEvr f).air = b.air := rfl
@[simp] theorem Blk.modEvr_hdl (b : Blk) (f : Evr → Evr) : (b.modEvr f).hdl = b.hdl := rfl
@[simp] theorem Blk.modEvr_gns (b : Blk) (f : Evr → Evr) : (b.modEvr f).gns = b.gns := rfl
@[simp] theorem Blk.modEvr_pos (b : Blk) (f : Evr → Evr) : (b.modEvr f).pos = b.pos := rfl
@[simp] theorem Blk.modEvr_key (b : Blk) (f : Evr → Evr) : (b.modEvr f).key = b.key := rfl
@[simp] theorem Blk.modEvr_pwr (b : Blk) (f : Evr → Evr) : (b.modEvr f).pwr = b.pwr := rfl
@[simp] theorem Blk.modEvr_reg (b : Blk) (f : Evr → Evr) (k : Nat) : (b.modEvr f).reg k = b.reg k := rfl

@[simp] theorem Blk.modInv_uid (b : Blk) (f : Inv → Inv) : (b.modInv f).uid = b.uid := rfl
@[simp] theorem Blk.modInv_regs (b : Blk) (f : Inv → Inv) : (b.modInv f).regs = b.regs := rfl
@[simp] theorem Blk.modInv_latch (b : Blk) (f : Inv → Inv) : (b.modInv f).latch = b.latch := rfl
@[simp] theorem Blk.modInv_heldLo (b : Blk) (f : Inv → Inv) : (b.modInv f).heldLo = b.heldLo := rfl
@[simp] theorem Blk.modInv_out (b : Blk) (f : Inv → Inv) : (b.modInv f).out = b.out := rfl
@[simp] theorem Blk.modInv_lastRead (b : Blk) (f : Inv → Inv) : (b.modInv f).lastRead = b.lastRead := rfl
@[simp] theorem Blk.modInv_fresh (b : Blk) (f : Inv → Inv) : (b.modInv f).fresh = b.fresh := rfl
@[simp] theorem Blk.modInv_hst (b : Blk) (f : Inv → Inv) : (b.modInv f).hst = b.hst := rfl
@[simp] theorem Blk.modInv_mem (b : Blk) (f : Inv → Inv) : (b.modInv f).mem = b.mem := rfl
@[simp] theorem Blk.modInv_evr (b : Blk) (f : Inv → Inv) : (b.modInv f).evr = b.evr := rfl
@[simp] theorem Blk.modInv_inv (b : Blk) (f : Inv → Inv) : (b.modInv f).inv = f b.inv := rfl
@[simp] theorem Blk.modInv_fleet (b : Blk) (f : Inv → Inv) : (b.modInv f).fleet = b.fleet := rfl
@[simp] theorem Blk.modInv_dvt (b : Blk) (f : Inv → Inv) : (b.modInv f).dvt = b.dvt := rfl
@[simp] theorem Blk.modInv_clp (b : Blk) (f : Inv → Inv) : (b.modInv f).clp = b.clp := rfl
@[simp] theorem Blk.modInv_axs (b : Blk) (f : Inv → Inv) : (b.modInv f).axs = b.axs := rfl
@[simp] theorem Blk.modInv_air (b : Blk) (f : Inv → Inv) : (b.modInv f).air = b.air := rfl
@[simp] theorem Blk.modInv_hdl (b : Blk) (f : Inv → Inv) : (b.modInv f).hdl = b.hdl := rfl
@[simp] theorem Blk.modInv_gns (b : Blk) (f : Inv → Inv) : (b.modInv f).gns = b.gns := rfl
@[simp] theorem Blk.modInv_pos (b : Blk) (f : Inv → Inv) : (b.modInv f).pos = b.pos := rfl
@[simp] theorem Blk.modInv_key (b : Blk) (f : Inv → Inv) : (b.modInv f).key = b.key := rfl
@[simp] theorem Blk.modInv_pwr (b : Blk) (f : Inv → Inv) : (b.modInv f).pwr = b.pwr := rfl
@[simp] theorem Blk.modInv_reg (b : Blk) (f : Inv → Inv) (k : Nat) : (b.modInv f).reg k = b.reg k := rfl

@[simp] theorem Blk.modFleet_uid (b : Blk) (f : Fleet → Fleet) : (b.modFleet f).uid = b.uid := rfl
@[simp] theorem Blk.modFleet_regs (b : Blk) (f : Fleet → Fleet) : (b.modFleet f).regs = b.regs := rfl
@[simp] theorem Blk.modFleet_latch (b : Blk) (f : Fleet → Fleet) : (b.modFleet f).latch = b.latch := rfl
@[simp] theorem Blk.modFleet_heldLo (b : Blk) (f : Fleet → Fleet) : (b.modFleet f).heldLo = b.heldLo := rfl
@[simp] theorem Blk.modFleet_out (b : Blk) (f : Fleet → Fleet) : (b.modFleet f).out = b.out := rfl
@[simp] theorem Blk.modFleet_lastRead (b : Blk) (f : Fleet → Fleet) : (b.modFleet f).lastRead = b.lastRead := rfl
@[simp] theorem Blk.modFleet_fresh (b : Blk) (f : Fleet → Fleet) : (b.modFleet f).fresh = b.fresh := rfl
@[simp] theorem Blk.modFleet_hst (b : Blk) (f : Fleet → Fleet) : (b.modFleet f).hst = b.hst := rfl
@[simp] theorem Blk.modFleet_mem (b : Blk) (f : Fleet → Fleet) : (b.modFleet f).mem = b.mem := rfl
@[simp] theorem Blk.modFleet_evr (b : Blk) (f : Fleet → Fleet) : (b.modFleet f).evr = b.evr := rfl
@[simp] theorem Blk.modFleet_inv (b : Blk) (f : Fleet → Fleet) : (b.modFleet f).inv = b.inv := rfl
@[simp] theorem Blk.modFleet_fleet (b : Blk) (f : Fleet → Fleet) : (b.modFleet f).fleet = f b.fleet := rfl
@[simp] theorem Blk.modFleet_dvt (b : Blk) (f : Fleet → Fleet) : (b.modFleet f).dvt = b.dvt := rfl
@[simp] theorem Blk.modFleet_clp (b : Blk) (f : Fleet → Fleet) : (b.modFleet f).clp = b.clp := rfl
@[simp] theorem Blk.modFleet_axs (b : Blk) (f : Fleet → Fleet) : (b.modFleet f).axs = b.axs := rfl
@[simp] theorem Blk.modFleet_air (b : Blk) (f : Fleet → Fleet) : (b.modFleet f).air = b.air := rfl
@[simp] theorem Blk.modFleet_hdl (b : Blk) (f : Fleet → Fleet) : (b.modFleet f).hdl = b.hdl := rfl
@[simp] theorem Blk.modFleet_gns (b : Blk) (f : Fleet → Fleet) : (b.modFleet f).gns = b.gns := rfl
@[simp] theorem Blk.modFleet_pos (b : Blk) (f : Fleet → Fleet) : (b.modFleet f).pos = b.pos := rfl
@[simp] theorem Blk.modFleet_key (b : Blk) (f : Fleet → Fleet) : (b.modFleet f).key = b.key := rfl
@[simp] theorem Blk.modFleet_pwr (b : Blk) (f : Fleet → Fleet) : (b.modFleet f).pwr = b.pwr := rfl
@[simp] theorem Blk.modFleet_reg (b : Blk) (f : Fleet → Fleet) (k : Nat) : (b.modFleet f).reg k = b.reg k := rfl

@[simp] theorem Blk.modDvt_uid (b : Blk) (f : Dvt → Dvt) : (b.modDvt f).uid = b.uid := rfl
@[simp] theorem Blk.modDvt_regs (b : Blk) (f : Dvt → Dvt) : (b.modDvt f).regs = b.regs := rfl
@[simp] theorem Blk.modDvt_latch (b : Blk) (f : Dvt → Dvt) : (b.modDvt f).latch = b.latch := rfl
@[simp] theorem Blk.modDvt_heldLo (b : Blk) (f : Dvt → Dvt) : (b.modDvt f).heldLo = b.heldLo := rfl
@[simp] theorem Blk.modDvt_out (b : Blk) (f : Dvt → Dvt) : (b.modDvt f).out = b.out := rfl
@[simp] theorem Blk.modDvt_lastRead (b : Blk) (f : Dvt → Dvt) : (b.modDvt f).lastRead = b.lastRead := rfl
@[simp] theorem Blk.modDvt_fresh (b : Blk) (f : Dvt → Dvt) : (b.modDvt f).fresh = b.fresh := rfl
@[simp] theorem Blk.modDvt_hst (b : Blk) (f : Dvt → Dvt) : (b.modDvt f).hst = b.hst := rfl
@[simp] theorem Blk.modDvt_mem (b : Blk) (f : Dvt → Dvt) : (b.modDvt f).mem = b.mem := rfl
@[simp] theorem Blk.modDvt_evr (b : Blk) (f : Dvt → Dvt) : (b.modDvt f).evr = b.evr := rfl
@[simp] theorem Blk.modDvt_inv (b : Blk) (f : Dvt → Dvt) : (b.modDvt f).inv = b.inv := rfl
@[simp] theorem Blk.modDvt_fleet (b : Blk) (f : Dvt → Dvt) : (b.modDvt f).fleet = b.fleet := rfl
@[simp] theorem Blk.modDvt_dvt (b : Blk) (f : Dvt → Dvt) : (b.modDvt f).dvt = f b.dvt := rfl
@[simp] theorem Blk.modDvt_clp (b : Blk) (f : Dvt → Dvt) : (b.modDvt f).clp = b.clp := rfl
@[simp] theorem Blk.modDvt_axs (b : Blk) (f : Dvt → Dvt) : (b.modDvt f).axs = b.axs := rfl
@[simp] theorem Blk.modDvt_air (b : Blk) (f : Dvt → Dvt) : (b.modDvt f).air = b.air := rfl
@[simp] theorem Blk.modDvt_hdl (b : Blk) (f : Dvt → Dvt) : (b.modDvt f).hdl = b.hdl := rfl
@[simp] theorem Blk.modDvt_gns (b : Blk) (f : Dvt → Dvt) : (b.modDvt f).gns = b.gns := rfl
@[simp] theorem Blk.modDvt_pos (b : Blk) (f : Dvt → Dvt) : (b.modDvt f).pos = b.pos := rfl
@[simp] theorem Blk.modDvt_key (b : Blk) (f : Dvt → Dvt) : (b.modDvt f).key = b.key := rfl
@[simp] theorem Blk.modDvt_pwr (b : Blk) (f : Dvt → Dvt) : (b.modDvt f).pwr = b.pwr := rfl
@[simp] theorem Blk.modDvt_reg (b : Blk) (f : Dvt → Dvt) (k : Nat) : (b.modDvt f).reg k = b.reg k := rfl

@[simp] theorem Blk.modClp_uid (b : Blk) (f : Clp → Clp) : (b.modClp f).uid = b.uid := rfl
@[simp] theorem Blk.modClp_regs (b : Blk) (f : Clp → Clp) : (b.modClp f).regs = b.regs := rfl
@[simp] theorem Blk.modClp_latch (b : Blk) (f : Clp → Clp) : (b.modClp f).latch = b.latch := rfl
@[simp] theorem Blk.modClp_heldLo (b : Blk) (f : Clp → Clp) : (b.modClp f).heldLo = b.heldLo := rfl
@[simp] theorem Blk.modClp_out (b : Blk) (f : Clp → Clp) : (b.modClp f).out = b.out := rfl
@[simp] theorem Blk.modClp_lastRead (b : Blk) (f : Clp → Clp) : (b.modClp f).lastRead = b.lastRead := rfl
@[simp] theorem Blk.modClp_fresh (b : Blk) (f : Clp → Clp) : (b.modClp f).fresh = b.fresh := rfl
@[simp] theorem Blk.modClp_hst (b : Blk) (f : Clp → Clp) : (b.modClp f).hst = b.hst := rfl
@[simp] theorem Blk.modClp_mem (b : Blk) (f : Clp → Clp) : (b.modClp f).mem = b.mem := rfl
@[simp] theorem Blk.modClp_evr (b : Blk) (f : Clp → Clp) : (b.modClp f).evr = b.evr := rfl
@[simp] theorem Blk.modClp_inv (b : Blk) (f : Clp → Clp) : (b.modClp f).inv = b.inv := rfl
@[simp] theorem Blk.modClp_fleet (b : Blk) (f : Clp → Clp) : (b.modClp f).fleet = b.fleet := rfl
@[simp] theorem Blk.modClp_dvt (b : Blk) (f : Clp → Clp) : (b.modClp f).dvt = b.dvt := rfl
@[simp] theorem Blk.modClp_clp (b : Blk) (f : Clp → Clp) : (b.modClp f).clp = f b.clp := rfl
@[simp] theorem Blk.modClp_axs (b : Blk) (f : Clp → Clp) : (b.modClp f).axs = b.axs := rfl
@[simp] theorem Blk.modClp_air (b : Blk) (f : Clp → Clp) : (b.modClp f).air = b.air := rfl
@[simp] theorem Blk.modClp_hdl (b : Blk) (f : Clp → Clp) : (b.modClp f).hdl = b.hdl := rfl
@[simp] theorem Blk.modClp_gns (b : Blk) (f : Clp → Clp) : (b.modClp f).gns = b.gns := rfl
@[simp] theorem Blk.modClp_pos (b : Blk) (f : Clp → Clp) : (b.modClp f).pos = b.pos := rfl
@[simp] theorem Blk.modClp_key (b : Blk) (f : Clp → Clp) : (b.modClp f).key = b.key := rfl
@[simp] theorem Blk.modClp_pwr (b : Blk) (f : Clp → Clp) : (b.modClp f).pwr = b.pwr := rfl
@[simp] theorem Blk.modClp_reg (b : Blk) (f : Clp → Clp) (k : Nat) : (b.modClp f).reg k = b.reg k := rfl

@[simp] theorem Blk.modAxs_uid (b : Blk) (f : Axs → Axs) : (b.modAxs f).uid = b.uid := rfl
@[simp] theorem Blk.modAxs_regs (b : Blk) (f : Axs → Axs) : (b.modAxs f).regs = b.regs := rfl
@[simp] theorem Blk.modAxs_latch (b : Blk) (f : Axs → Axs) : (b.modAxs f).latch = b.latch := rfl
@[simp] theorem Blk.modAxs_heldLo (b : Blk) (f : Axs → Axs) : (b.modAxs f).heldLo = b.heldLo := rfl
@[simp] theorem Blk.modAxs_out (b : Blk) (f : Axs → Axs) : (b.modAxs f).out = b.out := rfl
@[simp] theorem Blk.modAxs_lastRead (b : Blk) (f : Axs → Axs) : (b.modAxs f).lastRead = b.lastRead := rfl
@[simp] theorem Blk.modAxs_fresh (b : Blk) (f : Axs → Axs) : (b.modAxs f).fresh = b.fresh := rfl
@[simp] theorem Blk.modAxs_hst (b : Blk) (f : Axs → Axs) : (b.modAxs f).hst = b.hst := rfl
@[simp] theorem Blk.modAxs_mem (b : Blk) (f : Axs → Axs) : (b.modAxs f).mem = b.mem := rfl
@[simp] theorem Blk.modAxs_evr (b : Blk) (f : Axs → Axs) : (b.modAxs f).evr = b.evr := rfl
@[simp] theorem Blk.modAxs_inv (b : Blk) (f : Axs → Axs) : (b.modAxs f).inv = b.inv := rfl
@[simp] theorem Blk.modAxs_fleet (b : Blk) (f : Axs → Axs) : (b.modAxs f).fleet = b.fleet := rfl
@[simp] theorem Blk.modAxs_dvt (b : Blk) (f : Axs → Axs) : (b.modAxs f).dvt = b.dvt := rfl
@[simp] theorem Blk.modAxs_clp (b : Blk) (f : Axs → Axs) : (b.modAxs f).clp = b.clp := rfl
@[simp] theorem Blk.modAxs_axs (b : Blk) (f : Axs → Axs) : (b.modAxs f).axs = f b.axs := rfl
@[simp] theorem Blk.modAxs_air (b : Blk) (f : Axs → Axs) : (b.modAxs f).air = b.air := rfl
@[simp] theorem Blk.modAxs_hdl (b : Blk) (f : Axs → Axs) : (b.modAxs f).hdl = b.hdl := rfl
@[simp] theorem Blk.modAxs_gns (b : Blk) (f : Axs → Axs) : (b.modAxs f).gns = b.gns := rfl
@[simp] theorem Blk.modAxs_pos (b : Blk) (f : Axs → Axs) : (b.modAxs f).pos = b.pos := rfl
@[simp] theorem Blk.modAxs_key (b : Blk) (f : Axs → Axs) : (b.modAxs f).key = b.key := rfl
@[simp] theorem Blk.modAxs_pwr (b : Blk) (f : Axs → Axs) : (b.modAxs f).pwr = b.pwr := rfl
@[simp] theorem Blk.modAxs_reg (b : Blk) (f : Axs → Axs) (k : Nat) : (b.modAxs f).reg k = b.reg k := rfl

@[simp] theorem Blk.modAir_uid (b : Blk) (f : Air → Air) : (b.modAir f).uid = b.uid := rfl
@[simp] theorem Blk.modAir_regs (b : Blk) (f : Air → Air) : (b.modAir f).regs = b.regs := rfl
@[simp] theorem Blk.modAir_latch (b : Blk) (f : Air → Air) : (b.modAir f).latch = b.latch := rfl
@[simp] theorem Blk.modAir_heldLo (b : Blk) (f : Air → Air) : (b.modAir f).heldLo = b.heldLo := rfl
@[simp] theorem Blk.modAir_out (b : Blk) (f : Air → Air) : (b.modAir f).out = b.out := rfl
@[simp] theorem Blk.modAir_lastRead (b : Blk) (f : Air → Air) : (b.modAir f).lastRead = b.lastRead := rfl
@[simp] theorem Blk.modAir_fresh (b : Blk) (f : Air → Air) : (b.modAir f).fresh = b.fresh := rfl
@[simp] theorem Blk.modAir_hst (b : Blk) (f : Air → Air) : (b.modAir f).hst = b.hst := rfl
@[simp] theorem Blk.modAir_mem (b : Blk) (f : Air → Air) : (b.modAir f).mem = b.mem := rfl
@[simp] theorem Blk.modAir_evr (b : Blk) (f : Air → Air) : (b.modAir f).evr = b.evr := rfl
@[simp] theorem Blk.modAir_inv (b : Blk) (f : Air → Air) : (b.modAir f).inv = b.inv := rfl
@[simp] theorem Blk.modAir_fleet (b : Blk) (f : Air → Air) : (b.modAir f).fleet = b.fleet := rfl
@[simp] theorem Blk.modAir_dvt (b : Blk) (f : Air → Air) : (b.modAir f).dvt = b.dvt := rfl
@[simp] theorem Blk.modAir_clp (b : Blk) (f : Air → Air) : (b.modAir f).clp = b.clp := rfl
@[simp] theorem Blk.modAir_axs (b : Blk) (f : Air → Air) : (b.modAir f).axs = b.axs := rfl
@[simp] theorem Blk.modAir_air (b : Blk) (f : Air → Air) : (b.modAir f).air = f b.air := rfl
@[simp] theorem Blk.modAir_hdl (b : Blk) (f : Air → Air) : (b.modAir f).hdl = b.hdl := rfl
@[simp] theorem Blk.modAir_gns (b : Blk) (f : Air → Air) : (b.modAir f).gns = b.gns := rfl
@[simp] theorem Blk.modAir_pos (b : Blk) (f : Air → Air) : (b.modAir f).pos = b.pos := rfl
@[simp] theorem Blk.modAir_key (b : Blk) (f : Air → Air) : (b.modAir f).key = b.key := rfl
@[simp] theorem Blk.modAir_pwr (b : Blk) (f : Air → Air) : (b.modAir f).pwr = b.pwr := rfl
@[simp] theorem Blk.modAir_reg (b : Blk) (f : Air → Air) (k : Nat) : (b.modAir f).reg k = b.reg k := rfl

@[simp] theorem Blk.modHdl_uid (b : Blk) (f : Hdl → Hdl) : (b.modHdl f).uid = b.uid := rfl
@[simp] theorem Blk.modHdl_regs (b : Blk) (f : Hdl → Hdl) : (b.modHdl f).regs = b.regs := rfl
@[simp] theorem Blk.modHdl_latch (b : Blk) (f : Hdl → Hdl) : (b.modHdl f).latch = b.latch := rfl
@[simp] theorem Blk.modHdl_heldLo (b : Blk) (f : Hdl → Hdl) : (b.modHdl f).heldLo = b.heldLo := rfl
@[simp] theorem Blk.modHdl_out (b : Blk) (f : Hdl → Hdl) : (b.modHdl f).out = b.out := rfl
@[simp] theorem Blk.modHdl_lastRead (b : Blk) (f : Hdl → Hdl) : (b.modHdl f).lastRead = b.lastRead := rfl
@[simp] theorem Blk.modHdl_fresh (b : Blk) (f : Hdl → Hdl) : (b.modHdl f).fresh = b.fresh := rfl
@[simp] theorem Blk.modHdl_hst (b : Blk) (f : Hdl → Hdl) : (b.modHdl f).hst = b.hst := rfl
@[simp] theorem Blk.modHdl_mem (b : Blk) (f : Hdl → Hdl) : (b.modHdl f).mem = b.mem := rfl
@[simp] theorem Blk.modHdl_evr (b : Blk) (f : Hdl → Hdl) : (b.modHdl f).evr = b.evr := rfl
@[simp] theorem Blk.modHdl_inv (b : Blk) (f : Hdl → Hdl) : (b.modHdl f).inv = b.inv := rfl
@[simp] theorem Blk.modHdl_fleet (b : Blk) (f : Hdl → Hdl) : (b.modHdl f).fleet = b.fleet := rfl
@[simp] theorem Blk.modHdl_dvt (b : Blk) (f : Hdl → Hdl) : (b.modHdl f).dvt = b.dvt := rfl
@[simp] theorem Blk.modHdl_clp (b : Blk) (f : Hdl → Hdl) : (b.modHdl f).clp = b.clp := rfl
@[simp] theorem Blk.modHdl_axs (b : Blk) (f : Hdl → Hdl) : (b.modHdl f).axs = b.axs := rfl
@[simp] theorem Blk.modHdl_air (b : Blk) (f : Hdl → Hdl) : (b.modHdl f).air = b.air := rfl
@[simp] theorem Blk.modHdl_hdl (b : Blk) (f : Hdl → Hdl) : (b.modHdl f).hdl = f b.hdl := rfl
@[simp] theorem Blk.modHdl_gns (b : Blk) (f : Hdl → Hdl) : (b.modHdl f).gns = b.gns := rfl
@[simp] theorem Blk.modHdl_pos (b : Blk) (f : Hdl → Hdl) : (b.modHdl f).pos = b.pos := rfl
@[simp] theorem Blk.modHdl_key (b : Blk) (f : Hdl → Hdl) : (b.modHdl f).key = b.key := rfl
@[simp] theorem Blk.modHdl_pwr (b : Blk) (f : Hdl → Hdl) : (b.modHdl f).pwr = b.pwr := rfl
@[simp] theorem Blk.modHdl_reg (b : Blk) (f : Hdl → Hdl) (k : Nat) : (b.modHdl f).reg k = b.reg k := rfl

@[simp] theorem Blk.modGns_uid (b : Blk) (f : Gns → Gns) : (b.modGns f).uid = b.uid := rfl
@[simp] theorem Blk.modGns_regs (b : Blk) (f : Gns → Gns) : (b.modGns f).regs = b.regs := rfl
@[simp] theorem Blk.modGns_latch (b : Blk) (f : Gns → Gns) : (b.modGns f).latch = b.latch := rfl
@[simp] theorem Blk.modGns_heldLo (b : Blk) (f : Gns → Gns) : (b.modGns f).heldLo = b.heldLo := rfl
@[simp] theorem Blk.modGns_out (b : Blk) (f : Gns → Gns) : (b.modGns f).out = b.out := rfl
@[simp] theorem Blk.modGns_lastRead (b : Blk) (f : Gns → Gns) : (b.modGns f).lastRead = b.lastRead := rfl
@[simp] theorem Blk.modGns_fresh (b : Blk) (f : Gns → Gns) : (b.modGns f).fresh = b.fresh := rfl
@[simp] theorem Blk.modGns_hst (b : Blk) (f : Gns → Gns) : (b.modGns f).hst = b.hst := rfl
@[simp] theorem Blk.modGns_mem (b : Blk) (f : Gns → Gns) : (b.modGns f).mem = b.mem := rfl
@[simp] theorem Blk.modGns_evr (b : Blk) (f : Gns → Gns) : (b.modGns f).evr = b.evr := rfl
@[simp] theorem Blk.modGns_inv (b : Blk) (f : Gns → Gns) : (b.modGns f).inv = b.inv := rfl
@[simp] theorem Blk.modGns_fleet (b : Blk) (f : Gns → Gns) : (b.modGns f).fleet = b.fleet := rfl
@[simp] theorem Blk.modGns_dvt (b : Blk) (f : Gns → Gns) : (b.modGns f).dvt = b.dvt := rfl
@[simp] theorem Blk.modGns_clp (b : Blk) (f : Gns → Gns) : (b.modGns f).clp = b.clp := rfl
@[simp] theorem Blk.modGns_axs (b : Blk) (f : Gns → Gns) : (b.modGns f).axs = b.axs := rfl
@[simp] theorem Blk.modGns_air (b : Blk) (f : Gns → Gns) : (b.modGns f).air = b.air := rfl
@[simp] theorem Blk.modGns_hdl (b : Blk) (f : Gns → Gns) : (b.modGns f).hdl = b.hdl := rfl
@[simp] theorem Blk.modGns_gns (b : Blk) (f : Gns → Gns) : (b.modGns f).gns = f b.gns := rfl
@[simp] theorem Blk.modGns_pos (b : Blk) (f : Gns → Gns) : (b.modGns f).pos = b.pos := rfl
@[simp] theorem Blk.modGns_key (b : Blk) (f : Gns → Gns) : (b.modGns f).key = b.key := rfl
@[simp] theorem Blk.modGns_pwr (b : Blk) (f : Gns → Gns) : (b.modGns f).pwr = b.pwr := rfl
@[simp] theorem Blk.modGns_reg (b : Blk) (f : Gns → Gns) (k : Nat) : (b.modGns f).reg k = b.reg k := rfl

@[simp] theorem Blk.modPos_uid (b : Blk) (f : Pos → Pos) : (b.modPos f).uid = b.uid := rfl
@[simp] theorem Blk.modPos_regs (b : Blk) (f : Pos → Pos) : (b.modPos f).regs = b.regs := rfl
@[simp] theorem Blk.modPos_latch (b : Blk) (f : Pos → Pos) : (b.modPos f).latch = b.latch := rfl
@[simp] theorem Blk.modPos_heldLo (b : Blk) (f : Pos → Pos) : (b.modPos f).heldLo = b.heldLo := rfl
@[simp] theorem Blk.modPos_out (b : Blk) (f : Pos → Pos) : (b.modPos f).out = b.out := rfl
@[simp] theorem Blk.modPos_lastRead (b : Blk) (f : Pos → Pos) : (b.modPos f).lastRead = b.lastRead := rfl
@[simp] theorem Blk.modPos_fresh (b : Blk) (f : Pos → Pos) : (b.modPos f).fresh = b.fresh := rfl
@[simp] theorem Blk.modPos_hst (b : Blk) (f : Pos → Pos) : (b.modPos f).hst = b.hst := rfl
@[simp] theorem Blk.modPos_mem (b : Blk) (f : Pos → Pos) : (b.modPos f).mem = b.mem := rfl
@[simp] theorem Blk.modPos_evr (b : Blk) (f : Pos → Pos) : (b.modPos f).evr = b.evr := rfl
@[simp] theorem Blk.modPos_inv (b : Blk) (f : Pos → Pos) : (b.modPos f).inv = b.inv := rfl
@[simp] theorem Blk.modPos_fleet (b : Blk) (f : Pos → Pos) : (b.modPos f).fleet = b.fleet := rfl
@[simp] theorem Blk.modPos_dvt (b : Blk) (f : Pos → Pos) : (b.modPos f).dvt = b.dvt := rfl
@[simp] theorem Blk.modPos_clp (b : Blk) (f : Pos → Pos) : (b.modPos f).clp = b.clp := rfl
@[simp] theorem Blk.modPos_axs (b : Blk) (f : Pos → Pos) : (b.modPos f).axs = b.axs := rfl
@[simp] theorem Blk.modPos_air (b : Blk) (f : Pos → Pos) : (b.modPos f).air = b.air := rfl
@[simp] theorem Blk.modPos_hdl (b : Blk) (f : Pos → Pos) : (b.modPos f).hdl = b.hdl := rfl
@[simp] theorem Blk.modPos_gns (b : Blk) (f : Pos → Pos) : (b.modPos f).gns = b.gns := rfl
@[simp] theorem Blk.modPos_pos (b : Blk) (f : Pos → Pos) : (b.modPos f).pos = f b.pos := rfl
@[simp] theorem Blk.modPos_key (b : Blk) (f : Pos → Pos) : (b.modPos f).key = b.key := rfl
@[simp] theorem Blk.modPos_pwr (b : Blk) (f : Pos → Pos) : (b.modPos f).pwr = b.pwr := rfl
@[simp] theorem Blk.modPos_reg (b : Blk) (f : Pos → Pos) (k : Nat) : (b.modPos f).reg k = b.reg k := rfl

@[simp] theorem Blk.modKey_uid (b : Blk) (f : Key → Key) : (b.modKey f).uid = b.uid := rfl
@[simp] theorem Blk.modKey_regs (b : Blk) (f : Key → Key) : (b.modKey f).regs = b.regs := rfl
@[simp] theorem Blk.modKey_latch (b : Blk) (f : Key → Key) : (b.modKey f).latch = b.latch := rfl
@[simp] theorem Blk.modKey_heldLo (b : Blk) (f : Key → Key) : (b.modKey f).heldLo = b.heldLo := rfl
@[simp] theorem Blk.modKey_out (b : Blk) (f : Key → Key) : (b.modKey f).out = b.out := rfl
@[simp] theorem Blk.modKey_lastRead (b : Blk) (f : Key → Key) : (b.modKey f).lastRead = b.lastRead := rfl
@[simp] theorem Blk.modKey_fresh (b : Blk) (f : Key → Key) : (b.modKey f).fresh = b.fresh := rfl
@[simp] theorem Blk.modKey_hst (b : Blk) (f : Key → Key) : (b.modKey f).hst = b.hst := rfl
@[simp] theorem Blk.modKey_mem (b : Blk) (f : Key → Key) : (b.modKey f).mem = b.mem := rfl
@[simp] theorem Blk.modKey_evr (b : Blk) (f : Key → Key) : (b.modKey f).evr = b.evr := rfl
@[simp] theorem Blk.modKey_inv (b : Blk) (f : Key → Key) : (b.modKey f).inv = b.inv := rfl
@[simp] theorem Blk.modKey_fleet (b : Blk) (f : Key → Key) : (b.modKey f).fleet = b.fleet := rfl
@[simp] theorem Blk.modKey_dvt (b : Blk) (f : Key → Key) : (b.modKey f).dvt = b.dvt := rfl
@[simp] theorem Blk.modKey_clp (b : Blk) (f : Key → Key) : (b.modKey f).clp = b.clp := rfl
@[simp] theorem Blk.modKey_axs (b : Blk) (f : Key → Key) : (b.modKey f).axs = b.axs := rfl
@[simp] theorem Blk.modKey_air (b : Blk) (f : Key → Key) : (b.modKey f).air = b.air := rfl
@[simp] theorem Blk.modKey_hdl (b : Blk) (f : Key → Key) : (b.modKey f).hdl = b.hdl := rfl
@[simp] theorem Blk.modKey_gns (b : Blk) (f : Key → Key) : (b.modKey f).gns = b.gns := rfl
@[simp] theorem Blk.modKey_pos (b : Blk) (f : Key → Key) : (b.modKey f).pos = b.pos := rfl
@[simp] theorem Blk.modKey_key (b : Blk) (f : Key → Key) : (b.modKey f).key = f b.key := rfl
@[simp] theorem Blk.modKey_pwr (b : Blk) (f : Key → Key) : (b.modKey f).pwr = b.pwr := rfl
@[simp] theorem Blk.modKey_reg (b : Blk) (f : Key → Key) (k : Nat) : (b.modKey f).reg k = b.reg k := rfl

@[simp] theorem Blk.modPwr_uid (b : Blk) (f : Pwr → Pwr) : (b.modPwr f).uid = b.uid := rfl
@[simp] theorem Blk.modPwr_regs (b : Blk) (f : Pwr → Pwr) : (b.modPwr f).regs = b.regs := rfl
@[simp] theorem Blk.modPwr_latch (b : Blk) (f : Pwr → Pwr) : (b.modPwr f).latch = b.latch := rfl
@[simp] theorem Blk.modPwr_heldLo (b : Blk) (f : Pwr → Pwr) : (b.modPwr f).heldLo = b.heldLo := rfl
@[simp] theorem Blk.modPwr_out (b : Blk) (f : Pwr → Pwr) : (b.modPwr f).out = b.out := rfl
@[simp] theorem Blk.modPwr_lastRead (b : Blk) (f : Pwr → Pwr) : (b.modPwr f).lastRead = b.lastRead := rfl
@[simp] theorem Blk.modPwr_fresh (b : Blk) (f : Pwr → Pwr) : (b.modPwr f).fresh = b.fresh := rfl
@[simp] theorem Blk.modPwr_hst (b : Blk) (f : Pwr → Pwr) : (b.modPwr f).hst = b.hst := rfl
@[simp] theorem Blk.modPwr_mem (b : Blk) (f : Pwr → Pwr) : (b.modPwr f).mem = b.mem := rfl
@[simp] theorem Blk.modPwr_evr (b : Blk) (f : Pwr → Pwr) : (b.modPwr f).evr = b.evr := rfl
@[simp] theorem Blk.modPwr_inv (b : Blk) (f : Pwr → Pwr) : (b.modPwr f).inv = b.inv := rfl
@[simp] theorem Blk.modPwr_fleet (b : Blk) (f : Pwr → Pwr) : (b.modPwr f).fleet = b.fleet := rfl
@[simp] theorem Blk.modPwr_dvt (b : Blk) (f : Pwr → Pwr) : (b.modPwr f).dvt = b.dvt := rfl
@[simp] theorem Blk.modPwr_clp (b : Blk) (f : Pwr → Pwr) : (b.modPwr f).clp = b.clp := rfl
@[simp] theorem Blk.modPwr_axs (b : Blk) (f : Pwr → Pwr) : (b.modPwr f).axs = b.axs := rfl
@[simp] theorem Blk.modPwr_air (b : Blk) (f : Pwr → Pwr) : (b.modPwr f).air = b.air := rfl
@[simp] theorem Blk.modPwr_hdl (b : Blk) (f : Pwr → Pwr) : (b.modPwr f).hdl = b.hdl := rfl
@[simp] theorem Blk.modPwr_gns (b : Blk) (f : Pwr → Pwr) : (b.modPwr f).gns = b.gns := rfl
@[simp] theorem Blk.modPwr_pos (b : Blk) (f : Pwr → Pwr) : (b.modPwr f).pos = b.pos := rfl
@[simp] theorem Blk.modPwr_key (b : Blk) (f : Pwr → Pwr) : (b.modPwr f).key = b.key := rfl
@[simp] theorem Blk.modPwr_pwr (b : Blk) (f : Pwr → Pwr) : (b.modPwr f).pwr = f b.pwr := rfl
@[simp] theorem Blk.modPwr_reg (b : Blk) (f : Pwr → Pwr) (k : Nat) : (b.modPwr f).reg k = b.reg k := rfl

@[simp] theorem Blk.emit_out (b : Blk) (o : Out) : (b.emit o).out = o :: b.out := rfl

@[simp] theorem Blk.ring_setRing_same (b : Blk) (n : Nat) (r : Ring) : (b.setRing n r).ring n = r := by
  simp [Blk.ring, Blk.setRing]

theorem Blk.ring_setRing (b : Blk) (n k : Nat) (r : Ring) : (b.setRing n r).ring k = if n = k then r else b.ring k := by
  simp [Blk.ring, Blk.setRing, Tab.val_put]

theorem Blk.ring_setRing_ne (b : Blk) {n k : Nat} (r : Ring) (h : n ≠ k) : (b.setRing n r).ring k = b.ring k := by
  simp [Blk.ring_setRing, h]

@[simp] theorem Blk.queue_setQueue_same (b : Blk) (n : Nat) (q : Queue) : (b.setQueue n q).queue n = q := by
  simp [Blk.queue, Blk.setQueue]

theorem Blk.queue_setQueue (b : Blk) (n k : Nat) (q : Queue) : (b.setQueue n q).queue k = if n = k then q else b.queue k := by
  simp [Blk.queue, Blk.setQueue, Tab.val_put]

theorem Blk.queue_setQueue_ne (b : Blk) {n k : Nat} (q : Queue) (h : n ≠ k) : (b.setQueue n q).queue k = b.queue k := by
  simp [Blk.queue_setQueue, h]

@[simp] theorem Blk.axis_setAxis_same (b : Blk) (n : Nat) (x : Axis) : (b.setAxis n x).axis n = x := by
  simp [Blk.axis, Blk.setAxis]

theorem Blk.axis_setAxis (b : Blk) (n k : Nat) (x : Axis) : (b.setAxis n x).axis k = if n = k then x else b.axis k := by
  simp [Blk.axis, Blk.setAxis, Tab.val_put]

theorem Blk.axis_setAxis_ne (b : Blk) {n k : Nat} (x : Axis) (h : n ≠ k) : (b.setAxis n x).axis k = b.axis k := by
  simp [Blk.axis_setAxis, h]

@[simp] theorem Blk.link_setLink_same (b : Blk) (n : Nat) (l : Link) : (b.setLink n l).link n = l := by
  simp [Blk.link, Blk.setLink]

theorem Blk.link_setLink (b : Blk) (n k : Nat) (l : Link) : (b.setLink n l).link k = if n = k then l else b.link k := by
  simp [Blk.link, Blk.setLink, Tab.val_put]

theorem Blk.link_setLink_ne (b : Blk) {n k : Nat} (l : Link) (h : n ≠ k) : (b.setLink n l).link k = b.link k := by
  simp [Blk.link_setLink, h]

@[simp] theorem Blk.head_setHead_same (b : Blk) (n : Nat) (x : Head) : (b.setHead n x).head n = x := by
  simp [Blk.head, Blk.setHead]

theorem Blk.head_setHead (b : Blk) (n k : Nat) (x : Head) : (b.setHead n x).head k = if n = k then x else b.head k := by
  simp [Blk.head, Blk.setHead, Tab.val_put]

theorem Blk.head_setHead_ne (b : Blk) {n k : Nat} (x : Head) (h : n ≠ k) : (b.setHead n x).head k = b.head k := by
  simp [Blk.head_setHead, h]

@[simp] theorem Blk.cmp_setCmp_same (b : Blk) (n : Nat) (x : CmpUnit) : (b.setCmp n x).cmp n = x := by
  simp [Blk.cmp, Blk.setCmp]

theorem Blk.cmp_setCmp (b : Blk) (n k : Nat) (x : CmpUnit) : (b.setCmp n x).cmp k = if n = k then x else b.cmp k := by
  simp [Blk.cmp, Blk.setCmp, Tab.val_put]

theorem Blk.cmp_setCmp_ne (b : Blk) {n k : Nat} (x : CmpUnit) (h : n ≠ k) : (b.setCmp n x).cmp k = b.cmp k := by
  simp [Blk.cmp_setCmp, h]

@[simp] theorem Blk.lanPort_setLan_same (b : Blk) (n : Nat) (x : LanPort) : (b.setLan n x).lanPort n = x := by
  simp [Blk.lanPort, Blk.setLan]

theorem Blk.lanPort_setLan (b : Blk) (n k : Nat) (x : LanPort) : (b.setLan n x).lanPort k = if n = k then x else b.lanPort k := by
  simp [Blk.lanPort, Blk.setLan, Tab.val_put]

theorem Blk.lanPort_setLan_ne (b : Blk) {n k : Nat} (x : LanPort) (h : n ≠ k) : (b.setLan n x).lanPort k = b.lanPort k := by
  simp [Blk.lanPort_setLan, h]

end Sys2Proof.Machine
end

