-- ==== Sys2Proof/Laws/Parts.lean ====
section
/-! SUPPORT. Sys2Proof/Laws/Parts.lean: the parts of the working state that the shared operations leave as they are, as
rewriting rules. -/

namespace Sys2Proof.Machine

open Sys2Proof

set_option linter.all false
set_option linter.unusedVariables false

theorem Blk.accept_only (b : Blk) (r : Rec) : Blk.onlyIn [.evr, .regs] b (Blk.accept b r) := by simp
@[simp] theorem Blk.accept_uid (b : Blk) (r : Rec) : (Blk.accept b r).uid = b.uid := Blk.accept_only b r .uid (by
    decide)
@[simp] theorem Blk.accept_latch (b : Blk) (r : Rec) : (Blk.accept b r).latch = b.latch := Blk.accept_only b r .latch
    (by decide)
@[simp] theorem Blk.accept_heldLo (b : Blk) (r : Rec) : (Blk.accept b r).heldLo = b.heldLo := Blk.accept_only b r
    .heldLo (by decide)
@[simp] theorem Blk.accept_out (b : Blk) (r : Rec) : (Blk.accept b r).out = b.out := Blk.accept_only b r .out (by
    decide)
@[simp] theorem Blk.accept_lastRead (b : Blk) (r : Rec) : (Blk.accept b r).lastRead = b.lastRead := Blk.accept_only b
    r .lastRead (by decide)
@[simp] theorem Blk.accept_fresh (b : Blk) (r : Rec) : (Blk.accept b r).fresh = b.fresh := Blk.accept_only b r .fresh
    (by decide)
@[simp] theorem Blk.accept_hst (b : Blk) (r : Rec) : (Blk.accept b r).hst = b.hst := Blk.accept_only b r .hst (by
    decide)
@[simp] theorem Blk.accept_mem (b : Blk) (r : Rec) : (Blk.accept b r).mem = b.mem := Blk.accept_only b r .mem (by
    decide)
@[simp] theorem Blk.accept_inv (b : Blk) (r : Rec) : (Blk.accept b r).inv = b.inv := Blk.accept_only b r .inv (by
    decide)
@[simp] theorem Blk.accept_fleet (b : Blk) (r : Rec) : (Blk.accept b r).fleet = b.fleet := Blk.accept_only b r .fleet
    (by decide)
@[simp] theorem Blk.accept_dvt (b : Blk) (r : Rec) : (Blk.accept b r).dvt = b.dvt := Blk.accept_only b r .dvt (by
    decide)
@[simp] theorem Blk.accept_clp (b : Blk) (r : Rec) : (Blk.accept b r).clp = b.clp := Blk.accept_only b r .clp (by
    decide)
@[simp] theorem Blk.accept_axs (b : Blk) (r : Rec) : (Blk.accept b r).axs = b.axs := Blk.accept_only b r .axs (by
    decide)
@[simp] theorem Blk.accept_air (b : Blk) (r : Rec) : (Blk.accept b r).air = b.air := Blk.accept_only b r .air (by
    decide)
@[simp] theorem Blk.accept_hdl (b : Blk) (r : Rec) : (Blk.accept b r).hdl = b.hdl := Blk.accept_only b r .hdl (by
    decide)
@[simp] theorem Blk.accept_gns (b : Blk) (r : Rec) : (Blk.accept b r).gns = b.gns := Blk.accept_only b r .gns (by
    decide)
@[simp] theorem Blk.accept_pos (b : Blk) (r : Rec) : (Blk.accept b r).pos = b.pos := Blk.accept_only b r .pos (by
    decide)
@[simp] theorem Blk.accept_key (b : Blk) (r : Rec) : (Blk.accept b r).key = b.key := Blk.accept_only b r .key (by
    decide)
@[simp] theorem Blk.accept_pwr (b : Blk) (r : Rec) : (Blk.accept b r).pwr = b.pwr := Blk.accept_only b r .pwr (by
    decide)
theorem Blk.record_only (b : Blk) (code : Nat) (args : Bytes) : Blk.onlyIn [.evr, .regs] b (Blk.record b code args)
    := by simp
@[simp] theorem Blk.record_uid (b : Blk) (code : Nat) (args : Bytes) : (Blk.record b code args).uid = b.uid :=
    Blk.record_only b code args .uid (by decide)
@[simp] theorem Blk.record_latch (b : Blk) (code : Nat) (args : Bytes) : (Blk.record b code args).latch = b.latch :=
    Blk.record_only b code args .latch (by decide)
@[simp] theorem Blk.record_heldLo (b : Blk) (code : Nat) (args : Bytes) : (Blk.record b code args).heldLo = b.heldLo
    := Blk.record_only b code args .heldLo (by decide)
@[simp] theorem Blk.record_out (b : Blk) (code : Nat) (args : Bytes) : (Blk.record b code args).out = b.out :=
    Blk.record_only b code args .out (by decide)
@[simp] theorem Blk.record_lastRead (b : Blk) (code : Nat) (args : Bytes) : (Blk.record b code args).lastRead =
    b.lastRead := Blk.record_only b code args .lastRead (by decide)
@[simp] theorem Blk.record_fresh (b : Blk) (code : Nat) (args : Bytes) : (Blk.record b code args).fresh = b.fresh :=
    Blk.record_only b code args .fresh (by decide)
@[simp] theorem Blk.record_hst (b : Blk) (code : Nat) (args : Bytes) : (Blk.record b code args).hst = b.hst :=
    Blk.record_only b code args .hst (by decide)
@[simp] theorem Blk.record_mem (b : Blk) (code : Nat) (args : Bytes) : (Blk.record b code args).mem = b.mem :=
    Blk.record_only b code args .mem (by decide)
@[simp] theorem Blk.record_inv (b : Blk) (code : Nat) (args : Bytes) : (Blk.record b code args).inv = b.inv :=
    Blk.record_only b code args .inv (by decide)
@[simp] theorem Blk.record_fleet (b : Blk) (code : Nat) (args : Bytes) : (Blk.record b code args).fleet = b.fleet :=
    Blk.record_only b code args .fleet (by decide)
@[simp] theorem Blk.record_dvt (b : Blk) (code : Nat) (args : Bytes) : (Blk.record b code args).dvt = b.dvt :=
    Blk.record_only b code args .dvt (by decide)
@[simp] theorem Blk.record_clp (b : Blk) (code : Nat) (args : Bytes) : (Blk.record b code args).clp = b.clp :=
    Blk.record_only b code args .clp (by decide)
@[simp] theorem Blk.record_axs (b : Blk) (code : Nat) (args : Bytes) : (Blk.record b code args).axs = b.axs :=
    Blk.record_only b code args .axs (by decide)
@[simp] theorem Blk.record_air (b : Blk) (code : Nat) (args : Bytes) : (Blk.record b code args).air = b.air :=
    Blk.record_only b code args .air (by decide)
@[simp] theorem Blk.record_hdl (b : Blk) (code : Nat) (args : Bytes) : (Blk.record b code args).hdl = b.hdl :=
    Blk.record_only b code args .hdl (by decide)
@[simp] theorem Blk.record_gns (b : Blk) (code : Nat) (args : Bytes) : (Blk.record b code args).gns = b.gns :=
    Blk.record_only b code args .gns (by decide)
@[simp] theorem Blk.record_pos (b : Blk) (code : Nat) (args : Bytes) : (Blk.record b code args).pos = b.pos :=
    Blk.record_only b code args .pos (by decide)
@[simp] theorem Blk.record_key (b : Blk) (code : Nat) (args : Bytes) : (Blk.record b code args).key = b.key :=
    Blk.record_only b code args .key (by decide)
@[simp] theorem Blk.record_pwr (b : Blk) (code : Nat) (args : Bytes) : (Blk.record b code args).pwr = b.pwr :=
    Blk.record_only b code args .pwr (by decide)
theorem Blk.reserve_only (b : Blk) (n typ flags : Nat) (data : Bytes) : Blk.onlyIn [.mem, .regs] b (Blk.reserve b n
    typ flags data) := by simp
@[simp] theorem Blk.reserve_uid (b : Blk) (n typ flags : Nat) (data : Bytes) : (Blk.reserve b n typ flags data).uid =
    b.uid := Blk.reserve_only b n typ flags data .uid (by decide)
@[simp] theorem Blk.reserve_latch (b : Blk) (n typ flags : Nat) (data : Bytes) : (Blk.reserve b n typ flags
    data).latch = b.latch := Blk.reserve_only b n typ flags data .latch (by decide)
@[simp] theorem Blk.reserve_heldLo (b : Blk) (n typ flags : Nat) (data : Bytes) : (Blk.reserve b n typ flags
    data).heldLo = b.heldLo := Blk.reserve_only b n typ flags data .heldLo (by decide)
@[simp] theorem Blk.reserve_out (b : Blk) (n typ flags : Nat) (data : Bytes) : (Blk.reserve b n typ flags data).out =
    b.out := Blk.reserve_only b n typ flags data .out (by decide)
@[simp] theorem Blk.reserve_lastRead (b : Blk) (n typ flags : Nat) (data : Bytes) : (Blk.reserve b n typ flags
    data).lastRead = b.lastRead := Blk.reserve_only b n typ flags data .lastRead (by decide)
@[simp] theorem Blk.reserve_fresh (b : Blk) (n typ flags : Nat) (data : Bytes) : (Blk.reserve b n typ flags
    data).fresh = b.fresh := Blk.reserve_only b n typ flags data .fresh (by decide)
@[simp] theorem Blk.reserve_hst (b : Blk) (n typ flags : Nat) (data : Bytes) : (Blk.reserve b n typ flags data).hst =
    b.hst := Blk.reserve_only b n typ flags data .hst (by decide)
@[simp] theorem Blk.reserve_evr (b : Blk) (n typ flags : Nat) (data : Bytes) : (Blk.reserve b n typ flags data).evr =
    b.evr := Blk.reserve_only b n typ flags data .evr (by decide)
@[simp] theorem Blk.reserve_inv (b : Blk) (n typ flags : Nat) (data : Bytes) : (Blk.reserve b n typ flags data).inv =
    b.inv := Blk.reserve_only b n typ flags data .inv (by decide)
@[simp] theorem Blk.reserve_fleet (b : Blk) (n typ flags : Nat) (data : Bytes) : (Blk.reserve b n typ flags
    data).fleet = b.fleet := Blk.reserve_only b n typ flags data .fleet (by decide)
@[simp] theorem Blk.reserve_dvt (b : Blk) (n typ flags : Nat) (data : Bytes) : (Blk.reserve b n typ flags data).dvt =
    b.dvt := Blk.reserve_only b n typ flags data .dvt (by decide)
@[simp] theorem Blk.reserve_clp (b : Blk) (n typ flags : Nat) (data : Bytes) : (Blk.reserve b n typ flags data).clp =
    b.clp := Blk.reserve_only b n typ flags data .clp (by decide)
@[simp] theorem Blk.reserve_axs (b : Blk) (n typ flags : Nat) (data : Bytes) : (Blk.reserve b n typ flags data).axs =
    b.axs := Blk.reserve_only b n typ flags data .axs (by decide)
@[simp] theorem Blk.reserve_air (b : Blk) (n typ flags : Nat) (data : Bytes) : (Blk.reserve b n typ flags data).air =
    b.air := Blk.reserve_only b n typ flags data .air (by decide)
@[simp] theorem Blk.reserve_hdl (b : Blk) (n typ flags : Nat) (data : Bytes) : (Blk.reserve b n typ flags data).hdl =
    b.hdl := Blk.reserve_only b n typ flags data .hdl (by decide)
@[simp] theorem Blk.reserve_gns (b : Blk) (n typ flags : Nat) (data : Bytes) : (Blk.reserve b n typ flags data).gns =
    b.gns := Blk.reserve_only b n typ flags data .gns (by decide)
@[simp] theorem Blk.reserve_pos (b : Blk) (n typ flags : Nat) (data : Bytes) : (Blk.reserve b n typ flags data).pos =
    b.pos := Blk.reserve_only b n typ flags data .pos (by decide)
@[simp] theorem Blk.reserve_key (b : Blk) (n typ flags : Nat) (data : Bytes) : (Blk.reserve b n typ flags data).key =
    b.key := Blk.reserve_only b n typ flags data .key (by decide)
@[simp] theorem Blk.reserve_pwr (b : Blk) (n typ flags : Nat) (data : Bytes) : (Blk.reserve b n typ flags data).pwr =
    b.pwr := Blk.reserve_only b n typ flags data .pwr (by decide)
theorem Blk.flushQueue_only (b : Blk) (n : Nat) : Blk.onlyIn [.mem, .regs] b (Blk.flushQueue b n) := by simp
@[simp] theorem Blk.flushQueue_uid (b : Blk) (n : Nat) : (Blk.flushQueue b n).uid = b.uid := Blk.flushQueue_only b n
    .uid (by decide)
@[simp] theorem Blk.flushQueue_latch (b : Blk) (n : Nat) : (Blk.flushQueue b n).latch = b.latch :=
    Blk.flushQueue_only b n .latch (by decide)
@[simp] theorem Blk.flushQueue_heldLo (b : Blk) (n : Nat) : (Blk.flushQueue b n).heldLo = b.heldLo :=
    Blk.flushQueue_only b n .heldLo (by decide)
@[simp] theorem Blk.flushQueue_out (b : Blk) (n : Nat) : (Blk.flushQueue b n).out = b.out := Blk.flushQueue_only b n
    .out (by decide)
@[simp] theorem Blk.flushQueue_lastRead (b : Blk) (n : Nat) : (Blk.flushQueue b n).lastRead = b.lastRead :=
    Blk.flushQueue_only b n .lastRead (by decide)
@[simp] theorem Blk.flushQueue_fresh (b : Blk) (n : Nat) : (Blk.flushQueue b n).fresh = b.fresh :=
    Blk.flushQueue_only b n .fresh (by decide)
@[simp] theorem Blk.flushQueue_hst (b : Blk) (n : Nat) : (Blk.flushQueue b n).hst = b.hst := Blk.flushQueue_only b n
    .hst (by decide)
@[simp] theorem Blk.flushQueue_evr (b : Blk) (n : Nat) : (Blk.flushQueue b n).evr = b.evr := Blk.flushQueue_only b n
    .evr (by decide)
@[simp] theorem Blk.flushQueue_inv (b : Blk) (n : Nat) : (Blk.flushQueue b n).inv = b.inv := Blk.flushQueue_only b n
    .inv (by decide)
@[simp] theorem Blk.flushQueue_fleet (b : Blk) (n : Nat) : (Blk.flushQueue b n).fleet = b.fleet :=
    Blk.flushQueue_only b n .fleet (by decide)
@[simp] theorem Blk.flushQueue_dvt (b : Blk) (n : Nat) : (Blk.flushQueue b n).dvt = b.dvt := Blk.flushQueue_only b n
    .dvt (by decide)
@[simp] theorem Blk.flushQueue_clp (b : Blk) (n : Nat) : (Blk.flushQueue b n).clp = b.clp := Blk.flushQueue_only b n
    .clp (by decide)
@[simp] theorem Blk.flushQueue_axs (b : Blk) (n : Nat) : (Blk.flushQueue b n).axs = b.axs := Blk.flushQueue_only b n
    .axs (by decide)
@[simp] theorem Blk.flushQueue_air (b : Blk) (n : Nat) : (Blk.flushQueue b n).air = b.air := Blk.flushQueue_only b n
    .air (by decide)
@[simp] theorem Blk.flushQueue_hdl (b : Blk) (n : Nat) : (Blk.flushQueue b n).hdl = b.hdl := Blk.flushQueue_only b n
    .hdl (by decide)
@[simp] theorem Blk.flushQueue_gns (b : Blk) (n : Nat) : (Blk.flushQueue b n).gns = b.gns := Blk.flushQueue_only b n
    .gns (by decide)
@[simp] theorem Blk.flushQueue_pos (b : Blk) (n : Nat) : (Blk.flushQueue b n).pos = b.pos := Blk.flushQueue_only b n
    .pos (by decide)
@[simp] theorem Blk.flushQueue_key (b : Blk) (n : Nat) : (Blk.flushQueue b n).key = b.key := Blk.flushQueue_only b n
    .key (by decide)
@[simp] theorem Blk.flushQueue_pwr (b : Blk) (n : Nat) : (Blk.flushQueue b n).pwr = b.pwr := Blk.flushQueue_only b n
    .pwr (by decide)
theorem Blk.checkQueue_only (b : Blk) (n : Nat) : Blk.onlyIn [.evr, .mem, .regs] b (Blk.checkQueue b n) := by simp
@[simp] theorem Blk.checkQueue_uid (b : Blk) (n : Nat) : (Blk.checkQueue b n).uid = b.uid := Blk.checkQueue_only b n
    .uid (by decide)
@[simp] theorem Blk.checkQueue_latch (b : Blk) (n : Nat) : (Blk.checkQueue b n).latch = b.latch :=
    Blk.checkQueue_only b n .latch (by decide)
@[simp] theorem Blk.checkQueue_heldLo (b : Blk) (n : Nat) : (Blk.checkQueue b n).heldLo = b.heldLo :=
    Blk.checkQueue_only b n .heldLo (by decide)
@[simp] theorem Blk.checkQueue_out (b : Blk) (n : Nat) : (Blk.checkQueue b n).out = b.out := Blk.checkQueue_only b n
    .out (by decide)
@[simp] theorem Blk.checkQueue_lastRead (b : Blk) (n : Nat) : (Blk.checkQueue b n).lastRead = b.lastRead :=
    Blk.checkQueue_only b n .lastRead (by decide)
@[simp] theorem Blk.checkQueue_fresh (b : Blk) (n : Nat) : (Blk.checkQueue b n).fresh = b.fresh :=
    Blk.checkQueue_only b n .fresh (by decide)
@[simp] theorem Blk.checkQueue_hst (b : Blk) (n : Nat) : (Blk.checkQueue b n).hst = b.hst := Blk.checkQueue_only b n
    .hst (by decide)
@[simp] theorem Blk.checkQueue_inv (b : Blk) (n : Nat) : (Blk.checkQueue b n).inv = b.inv := Blk.checkQueue_only b n
    .inv (by decide)
@[simp] theorem Blk.checkQueue_fleet (b : Blk) (n : Nat) : (Blk.checkQueue b n).fleet = b.fleet :=
    Blk.checkQueue_only b n .fleet (by decide)
@[simp] theorem Blk.checkQueue_dvt (b : Blk) (n : Nat) : (Blk.checkQueue b n).dvt = b.dvt := Blk.checkQueue_only b n
    .dvt (by decide)
@[simp] theorem Blk.checkQueue_clp (b : Blk) (n : Nat) : (Blk.checkQueue b n).clp = b.clp := Blk.checkQueue_only b n
    .clp (by decide)
@[simp] theorem Blk.checkQueue_axs (b : Blk) (n : Nat) : (Blk.checkQueue b n).axs = b.axs := Blk.checkQueue_only b n
    .axs (by decide)
@[simp] theorem Blk.checkQueue_air (b : Blk) (n : Nat) : (Blk.checkQueue b n).air = b.air := Blk.checkQueue_only b n
    .air (by decide)
@[simp] theorem Blk.checkQueue_hdl (b : Blk) (n : Nat) : (Blk.checkQueue b n).hdl = b.hdl := Blk.checkQueue_only b n
    .hdl (by decide)
@[simp] theorem Blk.checkQueue_gns (b : Blk) (n : Nat) : (Blk.checkQueue b n).gns = b.gns := Blk.checkQueue_only b n
    .gns (by decide)
@[simp] theorem Blk.checkQueue_pos (b : Blk) (n : Nat) : (Blk.checkQueue b n).pos = b.pos := Blk.checkQueue_only b n
    .pos (by decide)
@[simp] theorem Blk.checkQueue_key (b : Blk) (n : Nat) : (Blk.checkQueue b n).key = b.key := Blk.checkQueue_only b n
    .key (by decide)
@[simp] theorem Blk.checkQueue_pwr (b : Blk) (n : Nat) : (Blk.checkQueue b n).pwr = b.pwr := Blk.checkQueue_only b n
    .pwr (by decide)
theorem Blk.produce_only (b : Blk) (n typ : Nat) (data : Bytes) (flags : Nat) : Blk.onlyIn [.evr, .mem, .regs] b
    (Blk.produce b n typ data flags) := by simp
@[simp] theorem Blk.produce_uid (b : Blk) (n typ : Nat) (data : Bytes) (flags : Nat) : (Blk.produce b n typ data
    flags).uid = b.uid := Blk.produce_only b n typ data flags .uid (by decide)
@[simp] theorem Blk.produce_latch (b : Blk) (n typ : Nat) (data : Bytes) (flags : Nat) : (Blk.produce b n typ data
    flags).latch = b.latch := Blk.produce_only b n typ data flags .latch (by decide)
@[simp] theorem Blk.produce_heldLo (b : Blk) (n typ : Nat) (data : Bytes) (flags : Nat) : (Blk.produce b n typ data
    flags).heldLo = b.heldLo := Blk.produce_only b n typ data flags .heldLo (by decide)
@[simp] theorem Blk.produce_out (b : Blk) (n typ : Nat) (data : Bytes) (flags : Nat) : (Blk.produce b n typ data
    flags).out = b.out := Blk.produce_only b n typ data flags .out (by decide)
@[simp] theorem Blk.produce_lastRead (b : Blk) (n typ : Nat) (data : Bytes) (flags : Nat) : (Blk.produce b n typ data
    flags).lastRead = b.lastRead := Blk.produce_only b n typ data flags .lastRead (by decide)
@[simp] theorem Blk.produce_fresh (b : Blk) (n typ : Nat) (data : Bytes) (flags : Nat) : (Blk.produce b n typ data
    flags).fresh = b.fresh := Blk.produce_only b n typ data flags .fresh (by decide)
@[simp] theorem Blk.produce_hst (b : Blk) (n typ : Nat) (data : Bytes) (flags : Nat) : (Blk.produce b n typ data
    flags).hst = b.hst := Blk.produce_only b n typ data flags .hst (by decide)
@[simp] theorem Blk.produce_inv (b : Blk) (n typ : Nat) (data : Bytes) (flags : Nat) : (Blk.produce b n typ data
    flags).inv = b.inv := Blk.produce_only b n typ data flags .inv (by decide)
@[simp] theorem Blk.produce_fleet (b : Blk) (n typ : Nat) (data : Bytes) (flags : Nat) : (Blk.produce b n typ data
    flags).fleet = b.fleet := Blk.produce_only b n typ data flags .fleet (by decide)
@[simp] theorem Blk.produce_dvt (b : Blk) (n typ : Nat) (data : Bytes) (flags : Nat) : (Blk.produce b n typ data
    flags).dvt = b.dvt := Blk.produce_only b n typ data flags .dvt (by decide)
@[simp] theorem Blk.produce_clp (b : Blk) (n typ : Nat) (data : Bytes) (flags : Nat) : (Blk.produce b n typ data
    flags).clp = b.clp := Blk.produce_only b n typ data flags .clp (by decide)
@[simp] theorem Blk.produce_axs (b : Blk) (n typ : Nat) (data : Bytes) (flags : Nat) : (Blk.produce b n typ data
    flags).axs = b.axs := Blk.produce_only b n typ data flags .axs (by decide)
@[simp] theorem Blk.produce_air (b : Blk) (n typ : Nat) (data : Bytes) (flags : Nat) : (Blk.produce b n typ data
    flags).air = b.air := Blk.produce_only b n typ data flags .air (by decide)
@[simp] theorem Blk.produce_hdl (b : Blk) (n typ : Nat) (data : Bytes) (flags : Nat) : (Blk.produce b n typ data
    flags).hdl = b.hdl := Blk.produce_only b n typ data flags .hdl (by decide)
@[simp] theorem Blk.produce_gns (b : Blk) (n typ : Nat) (data : Bytes) (flags : Nat) : (Blk.produce b n typ data
    flags).gns = b.gns := Blk.produce_only b n typ data flags .gns (by decide)
@[simp] theorem Blk.produce_pos (b : Blk) (n typ : Nat) (data : Bytes) (flags : Nat) : (Blk.produce b n typ data
    flags).pos = b.pos := Blk.produce_only b n typ data flags .pos (by decide)
@[simp] theorem Blk.produce_key (b : Blk) (n typ : Nat) (data : Bytes) (flags : Nat) : (Blk.produce b n typ data
    flags).key = b.key := Blk.produce_only b n typ data flags .key (by decide)
@[simp] theorem Blk.produce_pwr (b : Blk) (n typ : Nat) (data : Bytes) (flags : Nat) : (Blk.produce b n typ data
    flags).pwr = b.pwr := Blk.produce_only b n typ data flags .pwr (by decide)
theorem Blk.report_only (b : Blk) (off msb lsb cause flags requested applied : Nat) : Blk.onlyIn [.evr, .mem, .regs]
    b (Blk.report b off msb lsb cause flags requested applied) := by simp
@[simp] theorem Blk.report_uid (b : Blk) (off msb lsb cause flags requested applied : Nat) : (Blk.report b off msb
    lsb cause flags requested applied).uid = b.uid := Blk.report_only b off msb lsb cause flags requested applied
    .uid (by decide)
@[simp] theorem Blk.report_latch (b : Blk) (off msb lsb cause flags requested applied : Nat) : (Blk.report b off msb
    lsb cause flags requested applied).latch = b.latch := Blk.report_only b off msb lsb cause flags requested applied
    .latch (by decide)
@[simp] theorem Blk.report_heldLo (b : Blk) (off msb lsb cause flags requested applied : Nat) : (Blk.report b off msb
    lsb cause flags requested applied).heldLo = b.heldLo := Blk.report_only b off msb lsb cause flags requested
    applied .heldLo (by decide)
@[simp] theorem Blk.report_out (b : Blk) (off msb lsb cause flags requested applied : Nat) : (Blk.report b off msb
    lsb cause flags requested applied).out = b.out := Blk.report_only b off msb lsb cause flags requested applied
    .out (by decide)
@[simp] theorem Blk.report_lastRead (b : Blk) (off msb lsb cause flags requested applied : Nat) : (Blk.report b off
    msb lsb cause flags requested applied).lastRead = b.lastRead := Blk.report_only b off msb lsb cause flags
    requested applied .lastRead (by decide)
@[simp] theorem Blk.report_fresh (b : Blk) (off msb lsb cause flags requested applied : Nat) : (Blk.report b off msb
    lsb cause flags requested applied).fresh = b.fresh := Blk.report_only b off msb lsb cause flags requested applied
    .fresh (by decide)
@[simp] theorem Blk.report_hst (b : Blk) (off msb lsb cause flags requested applied : Nat) : (Blk.report b off msb
    lsb cause flags requested applied).hst = b.hst := Blk.report_only b off msb lsb cause flags requested applied
    .hst (by decide)
@[simp] theorem Blk.report_inv (b : Blk) (off msb lsb cause flags requested applied : Nat) : (Blk.report b off msb
    lsb cause flags requested applied).inv = b.inv := Blk.report_only b off msb lsb cause flags requested applied
    .inv (by decide)
@[simp] theorem Blk.report_fleet (b : Blk) (off msb lsb cause flags requested applied : Nat) : (Blk.report b off msb
    lsb cause flags requested applied).fleet = b.fleet := Blk.report_only b off msb lsb cause flags requested applied
    .fleet (by decide)
@[simp] theorem Blk.report_dvt (b : Blk) (off msb lsb cause flags requested applied : Nat) : (Blk.report b off msb
    lsb cause flags requested applied).dvt = b.dvt := Blk.report_only b off msb lsb cause flags requested applied
    .dvt (by decide)
@[simp] theorem Blk.report_clp (b : Blk) (off msb lsb cause flags requested applied : Nat) : (Blk.report b off msb
    lsb cause flags requested applied).clp = b.clp := Blk.report_only b off msb lsb cause flags requested applied
    .clp (by decide)
@[simp] theorem Blk.report_axs (b : Blk) (off msb lsb cause flags requested applied : Nat) : (Blk.report b off msb
    lsb cause flags requested applied).axs = b.axs := Blk.report_only b off msb lsb cause flags requested applied
    .axs (by decide)
@[simp] theorem Blk.report_air (b : Blk) (off msb lsb cause flags requested applied : Nat) : (Blk.report b off msb
    lsb cause flags requested applied).air = b.air := Blk.report_only b off msb lsb cause flags requested applied
    .air (by decide)
@[simp] theorem Blk.report_hdl (b : Blk) (off msb lsb cause flags requested applied : Nat) : (Blk.report b off msb
    lsb cause flags requested applied).hdl = b.hdl := Blk.report_only b off msb lsb cause flags requested applied
    .hdl (by decide)
@[simp] theorem Blk.report_gns (b : Blk) (off msb lsb cause flags requested applied : Nat) : (Blk.report b off msb
    lsb cause flags requested applied).gns = b.gns := Blk.report_only b off msb lsb cause flags requested applied
    .gns (by decide)
@[simp] theorem Blk.report_pos (b : Blk) (off msb lsb cause flags requested applied : Nat) : (Blk.report b off msb
    lsb cause flags requested applied).pos = b.pos := Blk.report_only b off msb lsb cause flags requested applied
    .pos (by decide)
@[simp] theorem Blk.report_key (b : Blk) (off msb lsb cause flags requested applied : Nat) : (Blk.report b off msb
    lsb cause flags requested applied).key = b.key := Blk.report_only b off msb lsb cause flags requested applied
    .key (by decide)
@[simp] theorem Blk.report_pwr (b : Blk) (off msb lsb cause flags requested applied : Nat) : (Blk.report b off msb
    lsb cause flags requested applied).pwr = b.pwr := Blk.report_only b off msb lsb cause flags requested applied
    .pwr (by decide)
theorem Blk.sendMsix_only (b : Blk) (v : Nat) : Blk.onlyIn [.hst, .out] b (Blk.sendMsix b v) := by simp
@[simp] theorem Blk.sendMsix_uid (b : Blk) (v : Nat) : (Blk.sendMsix b v).uid = b.uid := Blk.sendMsix_only b v .uid
    (by decide)
@[simp] theorem Blk.sendMsix_regs (b : Blk) (v : Nat) : (Blk.sendMsix b v).regs = b.regs := Blk.sendMsix_only b v
    .regs (by decide)
@[simp] theorem Blk.sendMsix_latch (b : Blk) (v : Nat) : (Blk.sendMsix b v).latch = b.latch := Blk.sendMsix_only b v
    .latch (by decide)
@[simp] theorem Blk.sendMsix_heldLo (b : Blk) (v : Nat) : (Blk.sendMsix b v).heldLo = b.heldLo := Blk.sendMsix_only b
    v .heldLo (by decide)
@[simp] theorem Blk.sendMsix_lastRead (b : Blk) (v : Nat) : (Blk.sendMsix b v).lastRead = b.lastRead :=
    Blk.sendMsix_only b v .lastRead (by decide)
@[simp] theorem Blk.sendMsix_fresh (b : Blk) (v : Nat) : (Blk.sendMsix b v).fresh = b.fresh := Blk.sendMsix_only b v
    .fresh (by decide)
@[simp] theorem Blk.sendMsix_mem (b : Blk) (v : Nat) : (Blk.sendMsix b v).mem = b.mem := Blk.sendMsix_only b v .mem
    (by decide)
@[simp] theorem Blk.sendMsix_evr (b : Blk) (v : Nat) : (Blk.sendMsix b v).evr = b.evr := Blk.sendMsix_only b v .evr
    (by decide)
@[simp] theorem Blk.sendMsix_inv (b : Blk) (v : Nat) : (Blk.sendMsix b v).inv = b.inv := Blk.sendMsix_only b v .inv
    (by decide)
@[simp] theorem Blk.sendMsix_fleet (b : Blk) (v : Nat) : (Blk.sendMsix b v).fleet = b.fleet := Blk.sendMsix_only b v
    .fleet (by decide)
@[simp] theorem Blk.sendMsix_dvt (b : Blk) (v : Nat) : (Blk.sendMsix b v).dvt = b.dvt := Blk.sendMsix_only b v .dvt
    (by decide)
@[simp] theorem Blk.sendMsix_clp (b : Blk) (v : Nat) : (Blk.sendMsix b v).clp = b.clp := Blk.sendMsix_only b v .clp
    (by decide)
@[simp] theorem Blk.sendMsix_axs (b : Blk) (v : Nat) : (Blk.sendMsix b v).axs = b.axs := Blk.sendMsix_only b v .axs
    (by decide)
@[simp] theorem Blk.sendMsix_air (b : Blk) (v : Nat) : (Blk.sendMsix b v).air = b.air := Blk.sendMsix_only b v .air
    (by decide)
@[simp] theorem Blk.sendMsix_hdl (b : Blk) (v : Nat) : (Blk.sendMsix b v).hdl = b.hdl := Blk.sendMsix_only b v .hdl
    (by decide)
@[simp] theorem Blk.sendMsix_gns (b : Blk) (v : Nat) : (Blk.sendMsix b v).gns = b.gns := Blk.sendMsix_only b v .gns
    (by decide)
@[simp] theorem Blk.sendMsix_pos (b : Blk) (v : Nat) : (Blk.sendMsix b v).pos = b.pos := Blk.sendMsix_only b v .pos
    (by decide)
@[simp] theorem Blk.sendMsix_key (b : Blk) (v : Nat) : (Blk.sendMsix b v).key = b.key := Blk.sendMsix_only b v .key
    (by decide)
@[simp] theorem Blk.sendMsix_pwr (b : Blk) (v : Nat) : (Blk.sendMsix b v).pwr = b.pwr := Blk.sendMsix_only b v .pwr
    (by decide)
@[simp] theorem Blk.sendMsix_reg (b : Blk) (v : Nat) (k : Nat) : (Blk.sendMsix b v).reg k = b.reg k := by simp
    [Blk.reg]
theorem Blk.writeEntry_only (b : Blk) (cq : Nat) (e : Entry) : Blk.onlyIn [.hst, .out] b (Blk.writeEntry b cq e) :=
    by simp
@[simp] theorem Blk.writeEntry_uid (b : Blk) (cq : Nat) (e : Entry) : (Blk.writeEntry b cq e).uid = b.uid :=
    Blk.writeEntry_only b cq e .uid (by decide)
@[simp] theorem Blk.writeEntry_regs (b : Blk) (cq : Nat) (e : Entry) : (Blk.writeEntry b cq e).regs = b.regs :=
    Blk.writeEntry_only b cq e .regs (by decide)
@[simp] theorem Blk.writeEntry_latch (b : Blk) (cq : Nat) (e : Entry) : (Blk.writeEntry b cq e).latch = b.latch :=
    Blk.writeEntry_only b cq e .latch (by decide)
@[simp] theorem Blk.writeEntry_heldLo (b : Blk) (cq : Nat) (e : Entry) : (Blk.writeEntry b cq e).heldLo = b.heldLo :=
    Blk.writeEntry_only b cq e .heldLo (by decide)
@[simp] theorem Blk.writeEntry_lastRead (b : Blk) (cq : Nat) (e : Entry) : (Blk.writeEntry b cq e).lastRead =
    b.lastRead := Blk.writeEntry_only b cq e .lastRead (by decide)
@[simp] theorem Blk.writeEntry_fresh (b : Blk) (cq : Nat) (e : Entry) : (Blk.writeEntry b cq e).fresh = b.fresh :=
    Blk.writeEntry_only b cq e .fresh (by decide)
@[simp] theorem Blk.writeEntry_mem (b : Blk) (cq : Nat) (e : Entry) : (Blk.writeEntry b cq e).mem = b.mem :=
    Blk.writeEntry_only b cq e .mem (by decide)
@[simp] theorem Blk.writeEntry_evr (b : Blk) (cq : Nat) (e : Entry) : (Blk.writeEntry b cq e).evr = b.evr :=
    Blk.writeEntry_only b cq e .evr (by decide)
@[simp] theorem Blk.writeEntry_inv (b : Blk) (cq : Nat) (e : Entry) : (Blk.writeEntry b cq e).inv = b.inv :=
    Blk.writeEntry_only b cq e .inv (by decide)
@[simp] theorem Blk.writeEntry_fleet (b : Blk) (cq : Nat) (e : Entry) : (Blk.writeEntry b cq e).fleet = b.fleet :=
    Blk.writeEntry_only b cq e .fleet (by decide)
@[simp] theorem Blk.writeEntry_dvt (b : Blk) (cq : Nat) (e : Entry) : (Blk.writeEntry b cq e).dvt = b.dvt :=
    Blk.writeEntry_only b cq e .dvt (by decide)
@[simp] theorem Blk.writeEntry_clp (b : Blk) (cq : Nat) (e : Entry) : (Blk.writeEntry b cq e).clp = b.clp :=
    Blk.writeEntry_only b cq e .clp (by decide)
@[simp] theorem Blk.writeEntry_axs (b : Blk) (cq : Nat) (e : Entry) : (Blk.writeEntry b cq e).axs = b.axs :=
    Blk.writeEntry_only b cq e .axs (by decide)
@[simp] theorem Blk.writeEntry_air (b : Blk) (cq : Nat) (e : Entry) : (Blk.writeEntry b cq e).air = b.air :=
    Blk.writeEntry_only b cq e .air (by decide)
@[simp] theorem Blk.writeEntry_hdl (b : Blk) (cq : Nat) (e : Entry) : (Blk.writeEntry b cq e).hdl = b.hdl :=
    Blk.writeEntry_only b cq e .hdl (by decide)
@[simp] theorem Blk.writeEntry_gns (b : Blk) (cq : Nat) (e : Entry) : (Blk.writeEntry b cq e).gns = b.gns :=
    Blk.writeEntry_only b cq e .gns (by decide)
@[simp] theorem Blk.writeEntry_pos (b : Blk) (cq : Nat) (e : Entry) : (Blk.writeEntry b cq e).pos = b.pos :=
    Blk.writeEntry_only b cq e .pos (by decide)
@[simp] theorem Blk.writeEntry_key (b : Blk) (cq : Nat) (e : Entry) : (Blk.writeEntry b cq e).key = b.key :=
    Blk.writeEntry_only b cq e .key (by decide)
@[simp] theorem Blk.writeEntry_pwr (b : Blk) (cq : Nat) (e : Entry) : (Blk.writeEntry b cq e).pwr = b.pwr :=
    Blk.writeEntry_only b cq e .pwr (by decide)
@[simp] theorem Blk.writeEntry_reg (b : Blk) (cq : Nat) (e : Entry) (k : Nat) : (Blk.writeEntry b cq e).reg k = b.reg
    k := by simp [Blk.reg]
theorem Blk.announce_only (b : Blk) (cq : Nat) : Blk.onlyIn [.hst, .out] b (Blk.announce b cq) := by simp
@[simp] theorem Blk.announce_uid (b : Blk) (cq : Nat) : (Blk.announce b cq).uid = b.uid := Blk.announce_only b cq
    .uid (by decide)
@[simp] theorem Blk.announce_regs (b : Blk) (cq : Nat) : (Blk.announce b cq).regs = b.regs := Blk.announce_only b cq
    .regs (by decide)
@[simp] theorem Blk.announce_latch (b : Blk) (cq : Nat) : (Blk.announce b cq).latch = b.latch := Blk.announce_only b
    cq .latch (by decide)
@[simp] theorem Blk.announce_heldLo (b : Blk) (cq : Nat) : (Blk.announce b cq).heldLo = b.heldLo := Blk.announce_only
    b cq .heldLo (by decide)
@[simp] theorem Blk.announce_lastRead (b : Blk) (cq : Nat) : (Blk.announce b cq).lastRead = b.lastRead :=
    Blk.announce_only b cq .lastRead (by decide)
@[simp] theorem Blk.announce_fresh (b : Blk) (cq : Nat) : (Blk.announce b cq).fresh = b.fresh := Blk.announce_only b
    cq .fresh (by decide)
@[simp] theorem Blk.announce_mem (b : Blk) (cq : Nat) : (Blk.announce b cq).mem = b.mem := Blk.announce_only b cq
    .mem (by decide)
@[simp] theorem Blk.announce_evr (b : Blk) (cq : Nat) : (Blk.announce b cq).evr = b.evr := Blk.announce_only b cq
    .evr (by decide)
@[simp] theorem Blk.announce_inv (b : Blk) (cq : Nat) : (Blk.announce b cq).inv = b.inv := Blk.announce_only b cq
    .inv (by decide)
@[simp] theorem Blk.announce_fleet (b : Blk) (cq : Nat) : (Blk.announce b cq).fleet = b.fleet := Blk.announce_only b
    cq .fleet (by decide)
@[simp] theorem Blk.announce_dvt (b : Blk) (cq : Nat) : (Blk.announce b cq).dvt = b.dvt := Blk.announce_only b cq
    .dvt (by decide)
@[simp] theorem Blk.announce_clp (b : Blk) (cq : Nat) : (Blk.announce b cq).clp = b.clp := Blk.announce_only b cq
    .clp (by decide)
@[simp] theorem Blk.announce_axs (b : Blk) (cq : Nat) : (Blk.announce b cq).axs = b.axs := Blk.announce_only b cq
    .axs (by decide)
@[simp] theorem Blk.announce_air (b : Blk) (cq : Nat) : (Blk.announce b cq).air = b.air := Blk.announce_only b cq
    .air (by decide)
@[simp] theorem Blk.announce_hdl (b : Blk) (cq : Nat) : (Blk.announce b cq).hdl = b.hdl := Blk.announce_only b cq
    .hdl (by decide)
@[simp] theorem Blk.announce_gns (b : Blk) (cq : Nat) : (Blk.announce b cq).gns = b.gns := Blk.announce_only b cq
    .gns (by decide)
@[simp] theorem Blk.announce_pos (b : Blk) (cq : Nat) : (Blk.announce b cq).pos = b.pos := Blk.announce_only b cq
    .pos (by decide)
@[simp] theorem Blk.announce_key (b : Blk) (cq : Nat) : (Blk.announce b cq).key = b.key := Blk.announce_only b cq
    .key (by decide)
@[simp] theorem Blk.announce_pwr (b : Blk) (cq : Nat) : (Blk.announce b cq).pwr = b.pwr := Blk.announce_only b cq
    .pwr (by decide)
@[simp] theorem Blk.announce_reg (b : Blk) (cq : Nat) (k : Nat) : (Blk.announce b cq).reg k = b.reg k := by simp
    [Blk.reg]
theorem Blk.flushHeld_only (b : Blk) (cq : Nat) : Blk.onlyIn [.hst, .out] b (Blk.flushHeld b cq) := by simp
@[simp] theorem Blk.flushHeld_uid (b : Blk) (cq : Nat) : (Blk.flushHeld b cq).uid = b.uid := Blk.flushHeld_only b cq
    .uid (by decide)
@[simp] theorem Blk.flushHeld_regs (b : Blk) (cq : Nat) : (Blk.flushHeld b cq).regs = b.regs := Blk.flushHeld_only b
    cq .regs (by decide)
@[simp] theorem Blk.flushHeld_latch (b : Blk) (cq : Nat) : (Blk.flushHeld b cq).latch = b.latch := Blk.flushHeld_only
    b cq .latch (by decide)
@[simp] theorem Blk.flushHeld_heldLo (b : Blk) (cq : Nat) : (Blk.flushHeld b cq).heldLo = b.heldLo :=
    Blk.flushHeld_only b cq .heldLo (by decide)
@[simp] theorem Blk.flushHeld_lastRead (b : Blk) (cq : Nat) : (Blk.flushHeld b cq).lastRead = b.lastRead :=
    Blk.flushHeld_only b cq .lastRead (by decide)
@[simp] theorem Blk.flushHeld_fresh (b : Blk) (cq : Nat) : (Blk.flushHeld b cq).fresh = b.fresh := Blk.flushHeld_only
    b cq .fresh (by decide)
@[simp] theorem Blk.flushHeld_mem (b : Blk) (cq : Nat) : (Blk.flushHeld b cq).mem = b.mem := Blk.flushHeld_only b cq
    .mem (by decide)
@[simp] theorem Blk.flushHeld_evr (b : Blk) (cq : Nat) : (Blk.flushHeld b cq).evr = b.evr := Blk.flushHeld_only b cq
    .evr (by decide)
@[simp] theorem Blk.flushHeld_inv (b : Blk) (cq : Nat) : (Blk.flushHeld b cq).inv = b.inv := Blk.flushHeld_only b cq
    .inv (by decide)
@[simp] theorem Blk.flushHeld_fleet (b : Blk) (cq : Nat) : (Blk.flushHeld b cq).fleet = b.fleet := Blk.flushHeld_only
    b cq .fleet (by decide)
@[simp] theorem Blk.flushHeld_dvt (b : Blk) (cq : Nat) : (Blk.flushHeld b cq).dvt = b.dvt := Blk.flushHeld_only b cq
    .dvt (by decide)
@[simp] theorem Blk.flushHeld_clp (b : Blk) (cq : Nat) : (Blk.flushHeld b cq).clp = b.clp := Blk.flushHeld_only b cq
    .clp (by decide)
@[simp] theorem Blk.flushHeld_axs (b : Blk) (cq : Nat) : (Blk.flushHeld b cq).axs = b.axs := Blk.flushHeld_only b cq
    .axs (by decide)
@[simp] theorem Blk.flushHeld_air (b : Blk) (cq : Nat) : (Blk.flushHeld b cq).air = b.air := Blk.flushHeld_only b cq
    .air (by decide)
@[simp] theorem Blk.flushHeld_hdl (b : Blk) (cq : Nat) : (Blk.flushHeld b cq).hdl = b.hdl := Blk.flushHeld_only b cq
    .hdl (by decide)
@[simp] theorem Blk.flushHeld_gns (b : Blk) (cq : Nat) : (Blk.flushHeld b cq).gns = b.gns := Blk.flushHeld_only b cq
    .gns (by decide)
@[simp] theorem Blk.flushHeld_pos (b : Blk) (cq : Nat) : (Blk.flushHeld b cq).pos = b.pos := Blk.flushHeld_only b cq
    .pos (by decide)
@[simp] theorem Blk.flushHeld_key (b : Blk) (cq : Nat) : (Blk.flushHeld b cq).key = b.key := Blk.flushHeld_only b cq
    .key (by decide)
@[simp] theorem Blk.flushHeld_pwr (b : Blk) (cq : Nat) : (Blk.flushHeld b cq).pwr = b.pwr := Blk.flushHeld_only b cq
    .pwr (by decide)
@[simp] theorem Blk.flushHeld_reg (b : Blk) (cq : Nat) (k : Nat) : (Blk.flushHeld b cq).reg k = b.reg k := by simp
    [Blk.reg]
theorem Blk.cqProduce_only (b : Blk) (cq : Nat) (e : Entry) (force : Bool) : Blk.onlyIn [.hst, .out] b (Blk.cqProduce
    b cq e force) := by simp
@[simp] theorem Blk.cqProduce_uid (b : Blk) (cq : Nat) (e : Entry) (force : Bool) : (Blk.cqProduce b cq e force).uid
    = b.uid := Blk.cqProduce_only b cq e force .uid (by decide)
@[simp] theorem Blk.cqProduce_regs (b : Blk) (cq : Nat) (e : Entry) (force : Bool) : (Blk.cqProduce b cq e
    force).regs = b.regs := Blk.cqProduce_only b cq e force .regs (by decide)
@[simp] theorem Blk.cqProduce_latch (b : Blk) (cq : Nat) (e : Entry) (force : Bool) : (Blk.cqProduce b cq e
    force).latch = b.latch := Blk.cqProduce_only b cq e force .latch (by decide)
@[simp] theorem Blk.cqProduce_heldLo (b : Blk) (cq : Nat) (e : Entry) (force : Bool) : (Blk.cqProduce b cq e
    force).heldLo = b.heldLo := Blk.cqProduce_only b cq e force .heldLo (by decide)
@[simp] theorem Blk.cqProduce_lastRead (b : Blk) (cq : Nat) (e : Entry) (force : Bool) : (Blk.cqProduce b cq e
    force).lastRead = b.lastRead := Blk.cqProduce_only b cq e force .lastRead (by decide)
@[simp] theorem Blk.cqProduce_fresh (b : Blk) (cq : Nat) (e : Entry) (force : Bool) : (Blk.cqProduce b cq e
    force).fresh = b.fresh := Blk.cqProduce_only b cq e force .fresh (by decide)
@[simp] theorem Blk.cqProduce_mem (b : Blk) (cq : Nat) (e : Entry) (force : Bool) : (Blk.cqProduce b cq e force).mem
    = b.mem := Blk.cqProduce_only b cq e force .mem (by decide)
@[simp] theorem Blk.cqProduce_evr (b : Blk) (cq : Nat) (e : Entry) (force : Bool) : (Blk.cqProduce b cq e force).evr
    = b.evr := Blk.cqProduce_only b cq e force .evr (by decide)
@[simp] theorem Blk.cqProduce_inv (b : Blk) (cq : Nat) (e : Entry) (force : Bool) : (Blk.cqProduce b cq e force).inv
    = b.inv := Blk.cqProduce_only b cq e force .inv (by decide)
@[simp] theorem Blk.cqProduce_fleet (b : Blk) (cq : Nat) (e : Entry) (force : Bool) : (Blk.cqProduce b cq e
    force).fleet = b.fleet := Blk.cqProduce_only b cq e force .fleet (by decide)
@[simp] theorem Blk.cqProduce_dvt (b : Blk) (cq : Nat) (e : Entry) (force : Bool) : (Blk.cqProduce b cq e force).dvt
    = b.dvt := Blk.cqProduce_only b cq e force .dvt (by decide)
@[simp] theorem Blk.cqProduce_clp (b : Blk) (cq : Nat) (e : Entry) (force : Bool) : (Blk.cqProduce b cq e force).clp
    = b.clp := Blk.cqProduce_only b cq e force .clp (by decide)
@[simp] theorem Blk.cqProduce_axs (b : Blk) (cq : Nat) (e : Entry) (force : Bool) : (Blk.cqProduce b cq e force).axs
    = b.axs := Blk.cqProduce_only b cq e force .axs (by decide)
@[simp] theorem Blk.cqProduce_air (b : Blk) (cq : Nat) (e : Entry) (force : Bool) : (Blk.cqProduce b cq e force).air
    = b.air := Blk.cqProduce_only b cq e force .air (by decide)
@[simp] theorem Blk.cqProduce_hdl (b : Blk) (cq : Nat) (e : Entry) (force : Bool) : (Blk.cqProduce b cq e force).hdl
    = b.hdl := Blk.cqProduce_only b cq e force .hdl (by decide)
@[simp] theorem Blk.cqProduce_gns (b : Blk) (cq : Nat) (e : Entry) (force : Bool) : (Blk.cqProduce b cq e force).gns
    = b.gns := Blk.cqProduce_only b cq e force .gns (by decide)
@[simp] theorem Blk.cqProduce_pos (b : Blk) (cq : Nat) (e : Entry) (force : Bool) : (Blk.cqProduce b cq e force).pos
    = b.pos := Blk.cqProduce_only b cq e force .pos (by decide)
@[simp] theorem Blk.cqProduce_key (b : Blk) (cq : Nat) (e : Entry) (force : Bool) : (Blk.cqProduce b cq e force).key
    = b.key := Blk.cqProduce_only b cq e force .key (by decide)
@[simp] theorem Blk.cqProduce_pwr (b : Blk) (cq : Nat) (e : Entry) (force : Bool) : (Blk.cqProduce b cq e force).pwr
    = b.pwr := Blk.cqProduce_only b cq e force .pwr (by decide)
@[simp] theorem Blk.cqProduce_reg (b : Blk) (cq : Nat) (e : Entry) (force : Bool) (k : Nat) : (Blk.cqProduce b cq e
    force).reg k = b.reg k := by simp [Blk.reg]
theorem Blk.ringError_only (b : Blk) (n status detail : Nat) : Blk.onlyIn [.hst, .out] b (Blk.ringError b n status
    detail) := by simp
@[simp] theorem Blk.ringError_uid (b : Blk) (n status detail : Nat) : (Blk.ringError b n status detail).uid = b.uid
    := Blk.ringError_only b n status detail .uid (by decide)
@[simp] theorem Blk.ringError_regs (b : Blk) (n status detail : Nat) : (Blk.ringError b n status detail).regs =
    b.regs := Blk.ringError_only b n status detail .regs (by decide)
@[simp] theorem Blk.ringError_latch (b : Blk) (n status detail : Nat) : (Blk.ringError b n status detail).latch =
    b.latch := Blk.ringError_only b n status detail .latch (by decide)
@[simp] theorem Blk.ringError_heldLo (b : Blk) (n status detail : Nat) : (Blk.ringError b n status detail).heldLo =
    b.heldLo := Blk.ringError_only b n status detail .heldLo (by decide)
@[simp] theorem Blk.ringError_lastRead (b : Blk) (n status detail : Nat) : (Blk.ringError b n status detail).lastRead
    = b.lastRead := Blk.ringError_only b n status detail .lastRead (by decide)
@[simp] theorem Blk.ringError_fresh (b : Blk) (n status detail : Nat) : (Blk.ringError b n status detail).fresh =
    b.fresh := Blk.ringError_only b n status detail .fresh (by decide)
@[simp] theorem Blk.ringError_mem (b : Blk) (n status detail : Nat) : (Blk.ringError b n status detail).mem = b.mem
    := Blk.ringError_only b n status detail .mem (by decide)
@[simp] theorem Blk.ringError_evr (b : Blk) (n status detail : Nat) : (Blk.ringError b n status detail).evr = b.evr
    := Blk.ringError_only b n status detail .evr (by decide)
@[simp] theorem Blk.ringError_inv (b : Blk) (n status detail : Nat) : (Blk.ringError b n status detail).inv = b.inv
    := Blk.ringError_only b n status detail .inv (by decide)
@[simp] theorem Blk.ringError_fleet (b : Blk) (n status detail : Nat) : (Blk.ringError b n status detail).fleet =
    b.fleet := Blk.ringError_only b n status detail .fleet (by decide)
@[simp] theorem Blk.ringError_dvt (b : Blk) (n status detail : Nat) : (Blk.ringError b n status detail).dvt = b.dvt
    := Blk.ringError_only b n status detail .dvt (by decide)
@[simp] theorem Blk.ringError_clp (b : Blk) (n status detail : Nat) : (Blk.ringError b n status detail).clp = b.clp
    := Blk.ringError_only b n status detail .clp (by decide)
@[simp] theorem Blk.ringError_axs (b : Blk) (n status detail : Nat) : (Blk.ringError b n status detail).axs = b.axs
    := Blk.ringError_only b n status detail .axs (by decide)
@[simp] theorem Blk.ringError_air (b : Blk) (n status detail : Nat) : (Blk.ringError b n status detail).air = b.air
    := Blk.ringError_only b n status detail .air (by decide)
@[simp] theorem Blk.ringError_hdl (b : Blk) (n status detail : Nat) : (Blk.ringError b n status detail).hdl = b.hdl
    := Blk.ringError_only b n status detail .hdl (by decide)
@[simp] theorem Blk.ringError_gns (b : Blk) (n status detail : Nat) : (Blk.ringError b n status detail).gns = b.gns
    := Blk.ringError_only b n status detail .gns (by decide)
@[simp] theorem Blk.ringError_pos (b : Blk) (n status detail : Nat) : (Blk.ringError b n status detail).pos = b.pos
    := Blk.ringError_only b n status detail .pos (by decide)
@[simp] theorem Blk.ringError_key (b : Blk) (n status detail : Nat) : (Blk.ringError b n status detail).key = b.key
    := Blk.ringError_only b n status detail .key (by decide)
@[simp] theorem Blk.ringError_pwr (b : Blk) (n status detail : Nat) : (Blk.ringError b n status detail).pwr = b.pwr
    := Blk.ringError_only b n status detail .pwr (by decide)
@[simp] theorem Blk.ringError_reg (b : Blk) (n status detail : Nat) (k : Nat) : (Blk.ringError b n status detail).reg
    k = b.reg k := by simp [Blk.reg]
theorem Blk.deliver_only (b : Blk) (id : OpId) (e : Entry) : Blk.onlyIn [.hst, .out] b (Blk.deliver b id e) := by simp
@[simp] theorem Blk.deliver_uid (b : Blk) (id : OpId) (e : Entry) : (Blk.deliver b id e).uid = b.uid :=
    Blk.deliver_only b id e .uid (by decide)
@[simp] theorem Blk.deliver_regs (b : Blk) (id : OpId) (e : Entry) : (Blk.deliver b id e).regs = b.regs :=
    Blk.deliver_only b id e .regs (by decide)
@[simp] theorem Blk.deliver_latch (b : Blk) (id : OpId) (e : Entry) : (Blk.deliver b id e).latch = b.latch :=
    Blk.deliver_only b id e .latch (by decide)
@[simp] theorem Blk.deliver_heldLo (b : Blk) (id : OpId) (e : Entry) : (Blk.deliver b id e).heldLo = b.heldLo :=
    Blk.deliver_only b id e .heldLo (by decide)
@[simp] theorem Blk.deliver_lastRead (b : Blk) (id : OpId) (e : Entry) : (Blk.deliver b id e).lastRead = b.lastRead
    := Blk.deliver_only b id e .lastRead (by decide)
@[simp] theorem Blk.deliver_fresh (b : Blk) (id : OpId) (e : Entry) : (Blk.deliver b id e).fresh = b.fresh :=
    Blk.deliver_only b id e .fresh (by decide)
@[simp] theorem Blk.deliver_mem (b : Blk) (id : OpId) (e : Entry) : (Blk.deliver b id e).mem = b.mem :=
    Blk.deliver_only b id e .mem (by decide)
@[simp] theorem Blk.deliver_evr (b : Blk) (id : OpId) (e : Entry) : (Blk.deliver b id e).evr = b.evr :=
    Blk.deliver_only b id e .evr (by decide)
@[simp] theorem Blk.deliver_inv (b : Blk) (id : OpId) (e : Entry) : (Blk.deliver b id e).inv = b.inv :=
    Blk.deliver_only b id e .inv (by decide)
@[simp] theorem Blk.deliver_fleet (b : Blk) (id : OpId) (e : Entry) : (Blk.deliver b id e).fleet = b.fleet :=
    Blk.deliver_only b id e .fleet (by decide)
@[simp] theorem Blk.deliver_dvt (b : Blk) (id : OpId) (e : Entry) : (Blk.deliver b id e).dvt = b.dvt :=
    Blk.deliver_only b id e .dvt (by decide)
@[simp] theorem Blk.deliver_clp (b : Blk) (id : OpId) (e : Entry) : (Blk.deliver b id e).clp = b.clp :=
    Blk.deliver_only b id e .clp (by decide)
@[simp] theorem Blk.deliver_axs (b : Blk) (id : OpId) (e : Entry) : (Blk.deliver b id e).axs = b.axs :=
    Blk.deliver_only b id e .axs (by decide)
@[simp] theorem Blk.deliver_air (b : Blk) (id : OpId) (e : Entry) : (Blk.deliver b id e).air = b.air :=
    Blk.deliver_only b id e .air (by decide)
@[simp] theorem Blk.deliver_hdl (b : Blk) (id : OpId) (e : Entry) : (Blk.deliver b id e).hdl = b.hdl :=
    Blk.deliver_only b id e .hdl (by decide)
@[simp] theorem Blk.deliver_gns (b : Blk) (id : OpId) (e : Entry) : (Blk.deliver b id e).gns = b.gns :=
    Blk.deliver_only b id e .gns (by decide)
@[simp] theorem Blk.deliver_pos (b : Blk) (id : OpId) (e : Entry) : (Blk.deliver b id e).pos = b.pos :=
    Blk.deliver_only b id e .pos (by decide)
@[simp] theorem Blk.deliver_key (b : Blk) (id : OpId) (e : Entry) : (Blk.deliver b id e).key = b.key :=
    Blk.deliver_only b id e .key (by decide)
@[simp] theorem Blk.deliver_pwr (b : Blk) (id : OpId) (e : Entry) : (Blk.deliver b id e).pwr = b.pwr :=
    Blk.deliver_only b id e .pwr (by decide)
@[simp] theorem Blk.deliver_reg (b : Blk) (id : OpId) (e : Entry) (k : Nat) : (Blk.deliver b id e).reg k = b.reg k :=
    by simp [Blk.reg]
theorem Blk.runPlane_only (b : Blk) (n : Nat) (flush : Bool) : Blk.onlyIn [.hst, .out] b (Blk.runPlane b n flush) :=
    by simp
@[simp] theorem Blk.runPlane_uid (b : Blk) (n : Nat) (flush : Bool) : (Blk.runPlane b n flush).uid = b.uid :=
    Blk.runPlane_only b n flush .uid (by decide)
@[simp] theorem Blk.runPlane_regs (b : Blk) (n : Nat) (flush : Bool) : (Blk.runPlane b n flush).regs = b.regs :=
    Blk.runPlane_only b n flush .regs (by decide)
@[simp] theorem Blk.runPlane_latch (b : Blk) (n : Nat) (flush : Bool) : (Blk.runPlane b n flush).latch = b.latch :=
    Blk.runPlane_only b n flush .latch (by decide)
@[simp] theorem Blk.runPlane_heldLo (b : Blk) (n : Nat) (flush : Bool) : (Blk.runPlane b n flush).heldLo = b.heldLo
    := Blk.runPlane_only b n flush .heldLo (by decide)
@[simp] theorem Blk.runPlane_lastRead (b : Blk) (n : Nat) (flush : Bool) : (Blk.runPlane b n flush).lastRead =
    b.lastRead := Blk.runPlane_only b n flush .lastRead (by decide)
@[simp] theorem Blk.runPlane_fresh (b : Blk) (n : Nat) (flush : Bool) : (Blk.runPlane b n flush).fresh = b.fresh :=
    Blk.runPlane_only b n flush .fresh (by decide)
@[simp] theorem Blk.runPlane_mem (b : Blk) (n : Nat) (flush : Bool) : (Blk.runPlane b n flush).mem = b.mem :=
    Blk.runPlane_only b n flush .mem (by decide)
@[simp] theorem Blk.runPlane_evr (b : Blk) (n : Nat) (flush : Bool) : (Blk.runPlane b n flush).evr = b.evr :=
    Blk.runPlane_only b n flush .evr (by decide)
@[simp] theorem Blk.runPlane_inv (b : Blk) (n : Nat) (flush : Bool) : (Blk.runPlane b n flush).inv = b.inv :=
    Blk.runPlane_only b n flush .inv (by decide)
@[simp] theorem Blk.runPlane_fleet (b : Blk) (n : Nat) (flush : Bool) : (Blk.runPlane b n flush).fleet = b.fleet :=
    Blk.runPlane_only b n flush .fleet (by decide)
@[simp] theorem Blk.runPlane_dvt (b : Blk) (n : Nat) (flush : Bool) : (Blk.runPlane b n flush).dvt = b.dvt :=
    Blk.runPlane_only b n flush .dvt (by decide)
@[simp] theorem Blk.runPlane_clp (b : Blk) (n : Nat) (flush : Bool) : (Blk.runPlane b n flush).clp = b.clp :=
    Blk.runPlane_only b n flush .clp (by decide)
@[simp] theorem Blk.runPlane_axs (b : Blk) (n : Nat) (flush : Bool) : (Blk.runPlane b n flush).axs = b.axs :=
    Blk.runPlane_only b n flush .axs (by decide)
@[simp] theorem Blk.runPlane_air (b : Blk) (n : Nat) (flush : Bool) : (Blk.runPlane b n flush).air = b.air :=
    Blk.runPlane_only b n flush .air (by decide)
@[simp] theorem Blk.runPlane_hdl (b : Blk) (n : Nat) (flush : Bool) : (Blk.runPlane b n flush).hdl = b.hdl :=
    Blk.runPlane_only b n flush .hdl (by decide)
@[simp] theorem Blk.runPlane_gns (b : Blk) (n : Nat) (flush : Bool) : (Blk.runPlane b n flush).gns = b.gns :=
    Blk.runPlane_only b n flush .gns (by decide)
@[simp] theorem Blk.runPlane_pos (b : Blk) (n : Nat) (flush : Bool) : (Blk.runPlane b n flush).pos = b.pos :=
    Blk.runPlane_only b n flush .pos (by decide)
@[simp] theorem Blk.runPlane_key (b : Blk) (n : Nat) (flush : Bool) : (Blk.runPlane b n flush).key = b.key :=
    Blk.runPlane_only b n flush .key (by decide)
@[simp] theorem Blk.runPlane_pwr (b : Blk) (n : Nat) (flush : Bool) : (Blk.runPlane b n flush).pwr = b.pwr :=
    Blk.runPlane_only b n flush .pwr (by decide)
@[simp] theorem Blk.runPlane_reg (b : Blk) (n : Nat) (flush : Bool) (k : Nat) : (Blk.runPlane b n flush).reg k =
    b.reg k := by simp [Blk.reg]
theorem Blk.completeAt_only (b : Blk) (id : OpId) (status detail epoch time : Nat) : Blk.onlyIn [.hst, .out] b
    (Blk.completeAt b id status detail epoch time) := by simp
@[simp] theorem Blk.completeAt_uid (b : Blk) (id : OpId) (status detail epoch time : Nat) : (Blk.completeAt b id
    status detail epoch time).uid = b.uid := Blk.completeAt_only b id status detail epoch time .uid (by decide)
@[simp] theorem Blk.completeAt_regs (b : Blk) (id : OpId) (status detail epoch time : Nat) : (Blk.completeAt b id
    status detail epoch time).regs = b.regs := Blk.completeAt_only b id status detail epoch time .regs (by decide)
@[simp] theorem Blk.completeAt_latch (b : Blk) (id : OpId) (status detail epoch time : Nat) : (Blk.completeAt b id
    status detail epoch time).latch = b.latch := Blk.completeAt_only b id status detail epoch time .latch (by decide)
@[simp] theorem Blk.completeAt_heldLo (b : Blk) (id : OpId) (status detail epoch time : Nat) : (Blk.completeAt b id
    status detail epoch time).heldLo = b.heldLo := Blk.completeAt_only b id status detail epoch time .heldLo (by
    decide)
@[simp] theorem Blk.completeAt_lastRead (b : Blk) (id : OpId) (status detail epoch time : Nat) : (Blk.completeAt b id
    status detail epoch time).lastRead = b.lastRead := Blk.completeAt_only b id status detail epoch time .lastRead
    (by decide)
@[simp] theorem Blk.completeAt_fresh (b : Blk) (id : OpId) (status detail epoch time : Nat) : (Blk.completeAt b id
    status detail epoch time).fresh = b.fresh := Blk.completeAt_only b id status detail epoch time .fresh (by decide)
@[simp] theorem Blk.completeAt_mem (b : Blk) (id : OpId) (status detail epoch time : Nat) : (Blk.completeAt b id
    status detail epoch time).mem = b.mem := Blk.completeAt_only b id status detail epoch time .mem (by decide)
@[simp] theorem Blk.completeAt_evr (b : Blk) (id : OpId) (status detail epoch time : Nat) : (Blk.completeAt b id
    status detail epoch time).evr = b.evr := Blk.completeAt_only b id status detail epoch time .evr (by decide)
@[simp] theorem Blk.completeAt_inv (b : Blk) (id : OpId) (status detail epoch time : Nat) : (Blk.completeAt b id
    status detail epoch time).inv = b.inv := Blk.completeAt_only b id status detail epoch time .inv (by decide)
@[simp] theorem Blk.completeAt_fleet (b : Blk) (id : OpId) (status detail epoch time : Nat) : (Blk.completeAt b id
    status detail epoch time).fleet = b.fleet := Blk.completeAt_only b id status detail epoch time .fleet (by decide)
@[simp] theorem Blk.completeAt_dvt (b : Blk) (id : OpId) (status detail epoch time : Nat) : (Blk.completeAt b id
    status detail epoch time).dvt = b.dvt := Blk.completeAt_only b id status detail epoch time .dvt (by decide)
@[simp] theorem Blk.completeAt_clp (b : Blk) (id : OpId) (status detail epoch time : Nat) : (Blk.completeAt b id
    status detail epoch time).clp = b.clp := Blk.completeAt_only b id status detail epoch time .clp (by decide)
@[simp] theorem Blk.completeAt_axs (b : Blk) (id : OpId) (status detail epoch time : Nat) : (Blk.completeAt b id
    status detail epoch time).axs = b.axs := Blk.completeAt_only b id status detail epoch time .axs (by decide)
@[simp] theorem Blk.completeAt_air (b : Blk) (id : OpId) (status detail epoch time : Nat) : (Blk.completeAt b id
    status detail epoch time).air = b.air := Blk.completeAt_only b id status detail epoch time .air (by decide)
@[simp] theorem Blk.completeAt_hdl (b : Blk) (id : OpId) (status detail epoch time : Nat) : (Blk.completeAt b id
    status detail epoch time).hdl = b.hdl := Blk.completeAt_only b id status detail epoch time .hdl (by decide)
@[simp] theorem Blk.completeAt_gns (b : Blk) (id : OpId) (status detail epoch time : Nat) : (Blk.completeAt b id
    status detail epoch time).gns = b.gns := Blk.completeAt_only b id status detail epoch time .gns (by decide)
@[simp] theorem Blk.completeAt_pos (b : Blk) (id : OpId) (status detail epoch time : Nat) : (Blk.completeAt b id
    status detail epoch time).pos = b.pos := Blk.completeAt_only b id status detail epoch time .pos (by decide)
@[simp] theorem Blk.completeAt_key (b : Blk) (id : OpId) (status detail epoch time : Nat) : (Blk.completeAt b id
    status detail epoch time).key = b.key := Blk.completeAt_only b id status detail epoch time .key (by decide)
@[simp] theorem Blk.completeAt_pwr (b : Blk) (id : OpId) (status detail epoch time : Nat) : (Blk.completeAt b id
    status detail epoch time).pwr = b.pwr := Blk.completeAt_only b id status detail epoch time .pwr (by decide)
@[simp] theorem Blk.completeAt_reg (b : Blk) (id : OpId) (status detail epoch time : Nat) (k : Nat) : (Blk.completeAt
    b id status detail epoch time).reg k = b.reg k := by simp [Blk.reg]
theorem Blk.complete_only (b : Blk) (id : OpId) (status detail : Nat) : Blk.onlyIn [.hst, .out] b (Blk.complete b id
    status detail) := by simp
@[simp] theorem Blk.complete_uid (b : Blk) (id : OpId) (status detail : Nat) : (Blk.complete b id status detail).uid
    = b.uid := Blk.complete_only b id status detail .uid (by decide)
@[simp] theorem Blk.complete_regs (b : Blk) (id : OpId) (status detail : Nat) : (Blk.complete b id status
    detail).regs = b.regs := Blk.complete_only b id status detail .regs (by decide)
@[simp] theorem Blk.complete_latch (b : Blk) (id : OpId) (status detail : Nat) : (Blk.complete b id status
    detail).latch = b.latch := Blk.complete_only b id status detail .latch (by decide)
@[simp] theorem Blk.complete_heldLo (b : Blk) (id : OpId) (status detail : Nat) : (Blk.complete b id status
    detail).heldLo = b.heldLo := Blk.complete_only b id status detail .heldLo (by decide)
@[simp] theorem Blk.complete_lastRead (b : Blk) (id : OpId) (status detail : Nat) : (Blk.complete b id status
    detail).lastRead = b.lastRead := Blk.complete_only b id status detail .lastRead (by decide)
@[simp] theorem Blk.complete_fresh (b : Blk) (id : OpId) (status detail : Nat) : (Blk.complete b id status
    detail).fresh = b.fresh := Blk.complete_only b id status detail .fresh (by decide)
@[simp] theorem Blk.complete_mem (b : Blk) (id : OpId) (status detail : Nat) : (Blk.complete b id status detail).mem
    = b.mem := Blk.complete_only b id status detail .mem (by decide)
@[simp] theorem Blk.complete_evr (b : Blk) (id : OpId) (status detail : Nat) : (Blk.complete b id status detail).evr
    = b.evr := Blk.complete_only b id status detail .evr (by decide)
@[simp] theorem Blk.complete_inv (b : Blk) (id : OpId) (status detail : Nat) : (Blk.complete b id status detail).inv
    = b.inv := Blk.complete_only b id status detail .inv (by decide)
@[simp] theorem Blk.complete_fleet (b : Blk) (id : OpId) (status detail : Nat) : (Blk.complete b id status
    detail).fleet = b.fleet := Blk.complete_only b id status detail .fleet (by decide)
@[simp] theorem Blk.complete_dvt (b : Blk) (id : OpId) (status detail : Nat) : (Blk.complete b id status detail).dvt
    = b.dvt := Blk.complete_only b id status detail .dvt (by decide)
@[simp] theorem Blk.complete_clp (b : Blk) (id : OpId) (status detail : Nat) : (Blk.complete b id status detail).clp
    = b.clp := Blk.complete_only b id status detail .clp (by decide)
@[simp] theorem Blk.complete_axs (b : Blk) (id : OpId) (status detail : Nat) : (Blk.complete b id status detail).axs
    = b.axs := Blk.complete_only b id status detail .axs (by decide)
@[simp] theorem Blk.complete_air (b : Blk) (id : OpId) (status detail : Nat) : (Blk.complete b id status detail).air
    = b.air := Blk.complete_only b id status detail .air (by decide)
@[simp] theorem Blk.complete_hdl (b : Blk) (id : OpId) (status detail : Nat) : (Blk.complete b id status detail).hdl
    = b.hdl := Blk.complete_only b id status detail .hdl (by decide)
@[simp] theorem Blk.complete_gns (b : Blk) (id : OpId) (status detail : Nat) : (Blk.complete b id status detail).gns
    = b.gns := Blk.complete_only b id status detail .gns (by decide)
@[simp] theorem Blk.complete_pos (b : Blk) (id : OpId) (status detail : Nat) : (Blk.complete b id status detail).pos
    = b.pos := Blk.complete_only b id status detail .pos (by decide)
@[simp] theorem Blk.complete_key (b : Blk) (id : OpId) (status detail : Nat) : (Blk.complete b id status detail).key
    = b.key := Blk.complete_only b id status detail .key (by decide)
@[simp] theorem Blk.complete_pwr (b : Blk) (id : OpId) (status detail : Nat) : (Blk.complete b id status detail).pwr
    = b.pwr := Blk.complete_only b id status detail .pwr (by decide)
@[simp] theorem Blk.complete_reg (b : Blk) (id : OpId) (status detail : Nat) (k : Nat) : (Blk.complete b id status
    detail).reg k = b.reg k := by simp [Blk.reg]
theorem Blk.done_only (b : Blk) (id : OpId) (detail : Nat) : Blk.onlyIn [.hst, .out] b (Blk.done b id detail) := by
    simp
@[simp] theorem Blk.done_uid (b : Blk) (id : OpId) (detail : Nat) : (Blk.done b id detail).uid = b.uid :=
    Blk.done_only b id detail .uid (by decide)
@[simp] theorem Blk.done_regs (b : Blk) (id : OpId) (detail : Nat) : (Blk.done b id detail).regs = b.regs :=
    Blk.done_only b id detail .regs (by decide)
@[simp] theorem Blk.done_latch (b : Blk) (id : OpId) (detail : Nat) : (Blk.done b id detail).latch = b.latch :=
    Blk.done_only b id detail .latch (by decide)
@[simp] theorem Blk.done_heldLo (b : Blk) (id : OpId) (detail : Nat) : (Blk.done b id detail).heldLo = b.heldLo :=
    Blk.done_only b id detail .heldLo (by decide)
@[simp] theorem Blk.done_lastRead (b : Blk) (id : OpId) (detail : Nat) : (Blk.done b id detail).lastRead = b.lastRead
    := Blk.done_only b id detail .lastRead (by decide)
@[simp] theorem Blk.done_fresh (b : Blk) (id : OpId) (detail : Nat) : (Blk.done b id detail).fresh = b.fresh :=
    Blk.done_only b id detail .fresh (by decide)
@[simp] theorem Blk.done_mem (b : Blk) (id : OpId) (detail : Nat) : (Blk.done b id detail).mem = b.mem :=
    Blk.done_only b id detail .mem (by decide)
@[simp] theorem Blk.done_evr (b : Blk) (id : OpId) (detail : Nat) : (Blk.done b id detail).evr = b.evr :=
    Blk.done_only b id detail .evr (by decide)
@[simp] theorem Blk.done_inv (b : Blk) (id : OpId) (detail : Nat) : (Blk.done b id detail).inv = b.inv :=
    Blk.done_only b id detail .inv (by decide)
@[simp] theorem Blk.done_fleet (b : Blk) (id : OpId) (detail : Nat) : (Blk.done b id detail).fleet = b.fleet :=
    Blk.done_only b id detail .fleet (by decide)
@[simp] theorem Blk.done_dvt (b : Blk) (id : OpId) (detail : Nat) : (Blk.done b id detail).dvt = b.dvt :=
    Blk.done_only b id detail .dvt (by decide)
@[simp] theorem Blk.done_clp (b : Blk) (id : OpId) (detail : Nat) : (Blk.done b id detail).clp = b.clp :=
    Blk.done_only b id detail .clp (by decide)
@[simp] theorem Blk.done_axs (b : Blk) (id : OpId) (detail : Nat) : (Blk.done b id detail).axs = b.axs :=
    Blk.done_only b id detail .axs (by decide)
@[simp] theorem Blk.done_air (b : Blk) (id : OpId) (detail : Nat) : (Blk.done b id detail).air = b.air :=
    Blk.done_only b id detail .air (by decide)
@[simp] theorem Blk.done_hdl (b : Blk) (id : OpId) (detail : Nat) : (Blk.done b id detail).hdl = b.hdl :=
    Blk.done_only b id detail .hdl (by decide)
@[simp] theorem Blk.done_gns (b : Blk) (id : OpId) (detail : Nat) : (Blk.done b id detail).gns = b.gns :=
    Blk.done_only b id detail .gns (by decide)
@[simp] theorem Blk.done_pos (b : Blk) (id : OpId) (detail : Nat) : (Blk.done b id detail).pos = b.pos :=
    Blk.done_only b id detail .pos (by decide)
@[simp] theorem Blk.done_key (b : Blk) (id : OpId) (detail : Nat) : (Blk.done b id detail).key = b.key :=
    Blk.done_only b id detail .key (by decide)
@[simp] theorem Blk.done_pwr (b : Blk) (id : OpId) (detail : Nat) : (Blk.done b id detail).pwr = b.pwr :=
    Blk.done_only b id detail .pwr (by decide)
@[simp] theorem Blk.done_reg (b : Blk) (id : OpId) (detail : Nat) (k : Nat) : (Blk.done b id detail).reg k = b.reg k
    := by simp [Blk.reg]
theorem Blk.bad_only (b : Blk) (id : OpId) (reason off : Nat) : Blk.onlyIn [.hst, .out] b (Blk.bad b id reason off)
    := by simp
@[simp] theorem Blk.bad_uid (b : Blk) (id : OpId) (reason off : Nat) : (Blk.bad b id reason off).uid = b.uid :=
    Blk.bad_only b id reason off .uid (by decide)
@[simp] theorem Blk.bad_regs (b : Blk) (id : OpId) (reason off : Nat) : (Blk.bad b id reason off).regs = b.regs :=
    Blk.bad_only b id reason off .regs (by decide)
@[simp] theorem Blk.bad_latch (b : Blk) (id : OpId) (reason off : Nat) : (Blk.bad b id reason off).latch = b.latch :=
    Blk.bad_only b id reason off .latch (by decide)
@[simp] theorem Blk.bad_heldLo (b : Blk) (id : OpId) (reason off : Nat) : (Blk.bad b id reason off).heldLo = b.heldLo
    := Blk.bad_only b id reason off .heldLo (by decide)
@[simp] theorem Blk.bad_lastRead (b : Blk) (id : OpId) (reason off : Nat) : (Blk.bad b id reason off).lastRead =
    b.lastRead := Blk.bad_only b id reason off .lastRead (by decide)
@[simp] theorem Blk.bad_fresh (b : Blk) (id : OpId) (reason off : Nat) : (Blk.bad b id reason off).fresh = b.fresh :=
    Blk.bad_only b id reason off .fresh (by decide)
@[simp] theorem Blk.bad_mem (b : Blk) (id : OpId) (reason off : Nat) : (Blk.bad b id reason off).mem = b.mem :=
    Blk.bad_only b id reason off .mem (by decide)
@[simp] theorem Blk.bad_evr (b : Blk) (id : OpId) (reason off : Nat) : (Blk.bad b id reason off).evr = b.evr :=
    Blk.bad_only b id reason off .evr (by decide)
@[simp] theorem Blk.bad_inv (b : Blk) (id : OpId) (reason off : Nat) : (Blk.bad b id reason off).inv = b.inv :=
    Blk.bad_only b id reason off .inv (by decide)
@[simp] theorem Blk.bad_fleet (b : Blk) (id : OpId) (reason off : Nat) : (Blk.bad b id reason off).fleet = b.fleet :=
    Blk.bad_only b id reason off .fleet (by decide)
@[simp] theorem Blk.bad_dvt (b : Blk) (id : OpId) (reason off : Nat) : (Blk.bad b id reason off).dvt = b.dvt :=
    Blk.bad_only b id reason off .dvt (by decide)
@[simp] theorem Blk.bad_clp (b : Blk) (id : OpId) (reason off : Nat) : (Blk.bad b id reason off).clp = b.clp :=
    Blk.bad_only b id reason off .clp (by decide)
@[simp] theorem Blk.bad_axs (b : Blk) (id : OpId) (reason off : Nat) : (Blk.bad b id reason off).axs = b.axs :=
    Blk.bad_only b id reason off .axs (by decide)
@[simp] theorem Blk.bad_air (b : Blk) (id : OpId) (reason off : Nat) : (Blk.bad b id reason off).air = b.air :=
    Blk.bad_only b id reason off .air (by decide)
@[simp] theorem Blk.bad_hdl (b : Blk) (id : OpId) (reason off : Nat) : (Blk.bad b id reason off).hdl = b.hdl :=
    Blk.bad_only b id reason off .hdl (by decide)
@[simp] theorem Blk.bad_gns (b : Blk) (id : OpId) (reason off : Nat) : (Blk.bad b id reason off).gns = b.gns :=
    Blk.bad_only b id reason off .gns (by decide)
@[simp] theorem Blk.bad_pos (b : Blk) (id : OpId) (reason off : Nat) : (Blk.bad b id reason off).pos = b.pos :=
    Blk.bad_only b id reason off .pos (by decide)
@[simp] theorem Blk.bad_key (b : Blk) (id : OpId) (reason off : Nat) : (Blk.bad b id reason off).key = b.key :=
    Blk.bad_only b id reason off .key (by decide)
@[simp] theorem Blk.bad_pwr (b : Blk) (id : OpId) (reason off : Nat) : (Blk.bad b id reason off).pwr = b.pwr :=
    Blk.bad_only b id reason off .pwr (by decide)
@[simp] theorem Blk.bad_reg (b : Blk) (id : OpId) (reason off : Nat) (k : Nat) : (Blk.bad b id reason off).reg k =
    b.reg k := by simp [Blk.reg]
theorem Blk.enter_only (b : Blk) (id : OpId) (fence : Bool) : Blk.onlyIn [.hst] b (Blk.enter b id fence) := by simp
@[simp] theorem Blk.enter_uid (b : Blk) (id : OpId) (fence : Bool) : (Blk.enter b id fence).uid = b.uid :=
    Blk.enter_only b id fence .uid (by decide)
@[simp] theorem Blk.enter_regs (b : Blk) (id : OpId) (fence : Bool) : (Blk.enter b id fence).regs = b.regs :=
    Blk.enter_only b id fence .regs (by decide)
@[simp] theorem Blk.enter_latch (b : Blk) (id : OpId) (fence : Bool) : (Blk.enter b id fence).latch = b.latch :=
    Blk.enter_only b id fence .latch (by decide)
@[simp] theorem Blk.enter_heldLo (b : Blk) (id : OpId) (fence : Bool) : (Blk.enter b id fence).heldLo = b.heldLo :=
    Blk.enter_only b id fence .heldLo (by decide)
@[simp] theorem Blk.enter_out (b : Blk) (id : OpId) (fence : Bool) : (Blk.enter b id fence).out = b.out :=
    Blk.enter_only b id fence .out (by decide)
@[simp] theorem Blk.enter_lastRead (b : Blk) (id : OpId) (fence : Bool) : (Blk.enter b id fence).lastRead =
    b.lastRead := Blk.enter_only b id fence .lastRead (by decide)
@[simp] theorem Blk.enter_fresh (b : Blk) (id : OpId) (fence : Bool) : (Blk.enter b id fence).fresh = b.fresh :=
    Blk.enter_only b id fence .fresh (by decide)
@[simp] theorem Blk.enter_mem (b : Blk) (id : OpId) (fence : Bool) : (Blk.enter b id fence).mem = b.mem :=
    Blk.enter_only b id fence .mem (by decide)
@[simp] theorem Blk.enter_evr (b : Blk) (id : OpId) (fence : Bool) : (Blk.enter b id fence).evr = b.evr :=
    Blk.enter_only b id fence .evr (by decide)
@[simp] theorem Blk.enter_inv (b : Blk) (id : OpId) (fence : Bool) : (Blk.enter b id fence).inv = b.inv :=
    Blk.enter_only b id fence .inv (by decide)
@[simp] theorem Blk.enter_fleet (b : Blk) (id : OpId) (fence : Bool) : (Blk.enter b id fence).fleet = b.fleet :=
    Blk.enter_only b id fence .fleet (by decide)
@[simp] theorem Blk.enter_dvt (b : Blk) (id : OpId) (fence : Bool) : (Blk.enter b id fence).dvt = b.dvt :=
    Blk.enter_only b id fence .dvt (by decide)
@[simp] theorem Blk.enter_clp (b : Blk) (id : OpId) (fence : Bool) : (Blk.enter b id fence).clp = b.clp :=
    Blk.enter_only b id fence .clp (by decide)
@[simp] theorem Blk.enter_axs (b : Blk) (id : OpId) (fence : Bool) : (Blk.enter b id fence).axs = b.axs :=
    Blk.enter_only b id fence .axs (by decide)
@[simp] theorem Blk.enter_air (b : Blk) (id : OpId) (fence : Bool) : (Blk.enter b id fence).air = b.air :=
    Blk.enter_only b id fence .air (by decide)
@[simp] theorem Blk.enter_hdl (b : Blk) (id : OpId) (fence : Bool) : (Blk.enter b id fence).hdl = b.hdl :=
    Blk.enter_only b id fence .hdl (by decide)
@[simp] theorem Blk.enter_gns (b : Blk) (id : OpId) (fence : Bool) : (Blk.enter b id fence).gns = b.gns :=
    Blk.enter_only b id fence .gns (by decide)
@[simp] theorem Blk.enter_pos (b : Blk) (id : OpId) (fence : Bool) : (Blk.enter b id fence).pos = b.pos :=
    Blk.enter_only b id fence .pos (by decide)
@[simp] theorem Blk.enter_key (b : Blk) (id : OpId) (fence : Bool) : (Blk.enter b id fence).key = b.key :=
    Blk.enter_only b id fence .key (by decide)
@[simp] theorem Blk.enter_pwr (b : Blk) (id : OpId) (fence : Bool) : (Blk.enter b id fence).pwr = b.pwr :=
    Blk.enter_only b id fence .pwr (by decide)
@[simp] theorem Blk.enter_reg (b : Blk) (id : OpId) (fence : Bool) (k : Nat) : (Blk.enter b id fence).reg k = b.reg k
    := by simp [Blk.reg]
theorem Blk.hold_only (b : Blk) (d : Desc) : Blk.onlyIn [.hst] b (Blk.hold b d) := by simp
@[simp] theorem Blk.hold_uid (b : Blk) (d : Desc) : (Blk.hold b d).uid = b.uid := Blk.hold_only b d .uid (by decide)
@[simp] theorem Blk.hold_regs (b : Blk) (d : Desc) : (Blk.hold b d).regs = b.regs := Blk.hold_only b d .regs (by
    decide)
@[simp] theorem Blk.hold_latch (b : Blk) (d : Desc) : (Blk.hold b d).latch = b.latch := Blk.hold_only b d .latch (by
    decide)
@[simp] theorem Blk.hold_heldLo (b : Blk) (d : Desc) : (Blk.hold b d).heldLo = b.heldLo := Blk.hold_only b d .heldLo
    (by decide)
@[simp] theorem Blk.hold_out (b : Blk) (d : Desc) : (Blk.hold b d).out = b.out := Blk.hold_only b d .out (by decide)
@[simp] theorem Blk.hold_lastRead (b : Blk) (d : Desc) : (Blk.hold b d).lastRead = b.lastRead := Blk.hold_only b d
    .lastRead (by decide)
@[simp] theorem Blk.hold_fresh (b : Blk) (d : Desc) : (Blk.hold b d).fresh = b.fresh := Blk.hold_only b d .fresh (by
    decide)
@[simp] theorem Blk.hold_mem (b : Blk) (d : Desc) : (Blk.hold b d).mem = b.mem := Blk.hold_only b d .mem (by decide)
@[simp] theorem Blk.hold_evr (b : Blk) (d : Desc) : (Blk.hold b d).evr = b.evr := Blk.hold_only b d .evr (by decide)
@[simp] theorem Blk.hold_inv (b : Blk) (d : Desc) : (Blk.hold b d).inv = b.inv := Blk.hold_only b d .inv (by decide)
@[simp] theorem Blk.hold_fleet (b : Blk) (d : Desc) : (Blk.hold b d).fleet = b.fleet := Blk.hold_only b d .fleet (by
    decide)
@[simp] theorem Blk.hold_dvt (b : Blk) (d : Desc) : (Blk.hold b d).dvt = b.dvt := Blk.hold_only b d .dvt (by decide)
@[simp] theorem Blk.hold_clp (b : Blk) (d : Desc) : (Blk.hold b d).clp = b.clp := Blk.hold_only b d .clp (by decide)
@[simp] theorem Blk.hold_axs (b : Blk) (d : Desc) : (Blk.hold b d).axs = b.axs := Blk.hold_only b d .axs (by decide)
@[simp] theorem Blk.hold_air (b : Blk) (d : Desc) : (Blk.hold b d).air = b.air := Blk.hold_only b d .air (by decide)
@[simp] theorem Blk.hold_hdl (b : Blk) (d : Desc) : (Blk.hold b d).hdl = b.hdl := Blk.hold_only b d .hdl (by decide)
@[simp] theorem Blk.hold_gns (b : Blk) (d : Desc) : (Blk.hold b d).gns = b.gns := Blk.hold_only b d .gns (by decide)
@[simp] theorem Blk.hold_pos (b : Blk) (d : Desc) : (Blk.hold b d).pos = b.pos := Blk.hold_only b d .pos (by decide)
@[simp] theorem Blk.hold_key (b : Blk) (d : Desc) : (Blk.hold b d).key = b.key := Blk.hold_only b d .key (by decide)
@[simp] theorem Blk.hold_pwr (b : Blk) (d : Desc) : (Blk.hold b d).pwr = b.pwr := Blk.hold_only b d .pwr (by decide)
@[simp] theorem Blk.hold_reg (b : Blk) (d : Desc) (k : Nat) : (Blk.hold b d).reg k = b.reg k := by simp [Blk.reg]
theorem Blk.syncReady_only (b : Blk) (i : Ident) : Blk.onlyIn [.evr, .key, .pwr, .regs] b (Blk.syncReady b i) := by
    simp
@[simp] theorem Blk.syncReady_uid (b : Blk) (i : Ident) : (Blk.syncReady b i).uid = b.uid := Blk.syncReady_only b i
    .uid (by decide)
@[simp] theorem Blk.syncReady_latch (b : Blk) (i : Ident) : (Blk.syncReady b i).latch = b.latch := Blk.syncReady_only
    b i .latch (by decide)
@[simp] theorem Blk.syncReady_heldLo (b : Blk) (i : Ident) : (Blk.syncReady b i).heldLo = b.heldLo :=
    Blk.syncReady_only b i .heldLo (by decide)
@[simp] theorem Blk.syncReady_out (b : Blk) (i : Ident) : (Blk.syncReady b i).out = b.out := Blk.syncReady_only b i
    .out (by decide)
@[simp] theorem Blk.syncReady_lastRead (b : Blk) (i : Ident) : (Blk.syncReady b i).lastRead = b.lastRead :=
    Blk.syncReady_only b i .lastRead (by decide)
@[simp] theorem Blk.syncReady_fresh (b : Blk) (i : Ident) : (Blk.syncReady b i).fresh = b.fresh := Blk.syncReady_only
    b i .fresh (by decide)
@[simp] theorem Blk.syncReady_hst (b : Blk) (i : Ident) : (Blk.syncReady b i).hst = b.hst := Blk.syncReady_only b i
    .hst (by decide)
@[simp] theorem Blk.syncReady_mem (b : Blk) (i : Ident) : (Blk.syncReady b i).mem = b.mem := Blk.syncReady_only b i
    .mem (by decide)
@[simp] theorem Blk.syncReady_inv (b : Blk) (i : Ident) : (Blk.syncReady b i).inv = b.inv := Blk.syncReady_only b i
    .inv (by decide)
@[simp] theorem Blk.syncReady_fleet (b : Blk) (i : Ident) : (Blk.syncReady b i).fleet = b.fleet := Blk.syncReady_only
    b i .fleet (by decide)
@[simp] theorem Blk.syncReady_dvt (b : Blk) (i : Ident) : (Blk.syncReady b i).dvt = b.dvt := Blk.syncReady_only b i
    .dvt (by decide)
@[simp] theorem Blk.syncReady_clp (b : Blk) (i : Ident) : (Blk.syncReady b i).clp = b.clp := Blk.syncReady_only b i
    .clp (by decide)
@[simp] theorem Blk.syncReady_axs (b : Blk) (i : Ident) : (Blk.syncReady b i).axs = b.axs := Blk.syncReady_only b i
    .axs (by decide)
@[simp] theorem Blk.syncReady_air (b : Blk) (i : Ident) : (Blk.syncReady b i).air = b.air := Blk.syncReady_only b i
    .air (by decide)
@[simp] theorem Blk.syncReady_hdl (b : Blk) (i : Ident) : (Blk.syncReady b i).hdl = b.hdl := Blk.syncReady_only b i
    .hdl (by decide)
@[simp] theorem Blk.syncReady_gns (b : Blk) (i : Ident) : (Blk.syncReady b i).gns = b.gns := Blk.syncReady_only b i
    .gns (by decide)
@[simp] theorem Blk.syncReady_pos (b : Blk) (i : Ident) : (Blk.syncReady b i).pos = b.pos := Blk.syncReady_only b i
    .pos (by decide)
theorem Blk.moveTo_only (b : Blk) (t : Nat) : Blk.onlyIn [.inv] b (Blk.moveTo b t) := by simp
@[simp] theorem Blk.moveTo_uid (b : Blk) (t : Nat) : (Blk.moveTo b t).uid = b.uid := Blk.moveTo_only b t .uid (by
    decide)
@[simp] theorem Blk.moveTo_regs (b : Blk) (t : Nat) : (Blk.moveTo b t).regs = b.regs := Blk.moveTo_only b t .regs (by
    decide)
@[simp] theorem Blk.moveTo_latch (b : Blk) (t : Nat) : (Blk.moveTo b t).latch = b.latch := Blk.moveTo_only b t .latch
    (by decide)
@[simp] theorem Blk.moveTo_heldLo (b : Blk) (t : Nat) : (Blk.moveTo b t).heldLo = b.heldLo := Blk.moveTo_only b t
    .heldLo (by decide)
@[simp] theorem Blk.moveTo_out (b : Blk) (t : Nat) : (Blk.moveTo b t).out = b.out := Blk.moveTo_only b t .out (by
    decide)
@[simp] theorem Blk.moveTo_lastRead (b : Blk) (t : Nat) : (Blk.moveTo b t).lastRead = b.lastRead := Blk.moveTo_only b
    t .lastRead (by decide)
@[simp] theorem Blk.moveTo_fresh (b : Blk) (t : Nat) : (Blk.moveTo b t).fresh = b.fresh := Blk.moveTo_only b t .fresh
    (by decide)
@[simp] theorem Blk.moveTo_hst (b : Blk) (t : Nat) : (Blk.moveTo b t).hst = b.hst := Blk.moveTo_only b t .hst (by
    decide)
@[simp] theorem Blk.moveTo_mem (b : Blk) (t : Nat) : (Blk.moveTo b t).mem = b.mem := Blk.moveTo_only b t .mem (by
    decide)
@[simp] theorem Blk.moveTo_evr (b : Blk) (t : Nat) : (Blk.moveTo b t).evr = b.evr := Blk.moveTo_only b t .evr (by
    decide)
@[simp] theorem Blk.moveTo_fleet (b : Blk) (t : Nat) : (Blk.moveTo b t).fleet = b.fleet := Blk.moveTo_only b t .fleet
    (by decide)
@[simp] theorem Blk.moveTo_dvt (b : Blk) (t : Nat) : (Blk.moveTo b t).dvt = b.dvt := Blk.moveTo_only b t .dvt (by
    decide)
@[simp] theorem Blk.moveTo_clp (b : Blk) (t : Nat) : (Blk.moveTo b t).clp = b.clp := Blk.moveTo_only b t .clp (by
    decide)
@[simp] theorem Blk.moveTo_axs (b : Blk) (t : Nat) : (Blk.moveTo b t).axs = b.axs := Blk.moveTo_only b t .axs (by
    decide)
@[simp] theorem Blk.moveTo_air (b : Blk) (t : Nat) : (Blk.moveTo b t).air = b.air := Blk.moveTo_only b t .air (by
    decide)
@[simp] theorem Blk.moveTo_hdl (b : Blk) (t : Nat) : (Blk.moveTo b t).hdl = b.hdl := Blk.moveTo_only b t .hdl (by
    decide)
@[simp] theorem Blk.moveTo_gns (b : Blk) (t : Nat) : (Blk.moveTo b t).gns = b.gns := Blk.moveTo_only b t .gns (by
    decide)
@[simp] theorem Blk.moveTo_pos (b : Blk) (t : Nat) : (Blk.moveTo b t).pos = b.pos := Blk.moveTo_only b t .pos (by
    decide)
@[simp] theorem Blk.moveTo_key (b : Blk) (t : Nat) : (Blk.moveTo b t).key = b.key := Blk.moveTo_only b t .key (by
    decide)
@[simp] theorem Blk.moveTo_pwr (b : Blk) (t : Nat) : (Blk.moveTo b t).pwr = b.pwr := Blk.moveTo_only b t .pwr (by
    decide)
@[simp] theorem Blk.moveTo_reg (b : Blk) (t : Nat) (k : Nat) : (Blk.moveTo b t).reg k = b.reg k := by simp [Blk.reg]
theorem Blk.timeItem_only (b : Blk) (event old new port : Nat) (value : Int) : Blk.onlyIn [.evr, .mem, .regs] b
    (Blk.timeItem b event old new port value) := by simp
@[simp] theorem Blk.timeItem_uid (b : Blk) (event old new port : Nat) (value : Int) : (Blk.timeItem b event old new
    port value).uid = b.uid := Blk.timeItem_only b event old new port value .uid (by decide)
@[simp] theorem Blk.timeItem_latch (b : Blk) (event old new port : Nat) (value : Int) : (Blk.timeItem b event old new
    port value).latch = b.latch := Blk.timeItem_only b event old new port value .latch (by decide)
@[simp] theorem Blk.timeItem_heldLo (b : Blk) (event old new port : Nat) (value : Int) : (Blk.timeItem b event old
    new port value).heldLo = b.heldLo := Blk.timeItem_only b event old new port value .heldLo (by decide)
@[simp] theorem Blk.timeItem_out (b : Blk) (event old new port : Nat) (value : Int) : (Blk.timeItem b event old new
    port value).out = b.out := Blk.timeItem_only b event old new port value .out (by decide)
@[simp] theorem Blk.timeItem_lastRead (b : Blk) (event old new port : Nat) (value : Int) : (Blk.timeItem b event old
    new port value).lastRead = b.lastRead := Blk.timeItem_only b event old new port value .lastRead (by decide)
@[simp] theorem Blk.timeItem_fresh (b : Blk) (event old new port : Nat) (value : Int) : (Blk.timeItem b event old new
    port value).fresh = b.fresh := Blk.timeItem_only b event old new port value .fresh (by decide)
@[simp] theorem Blk.timeItem_hst (b : Blk) (event old new port : Nat) (value : Int) : (Blk.timeItem b event old new
    port value).hst = b.hst := Blk.timeItem_only b event old new port value .hst (by decide)
@[simp] theorem Blk.timeItem_inv (b : Blk) (event old new port : Nat) (value : Int) : (Blk.timeItem b event old new
    port value).inv = b.inv := Blk.timeItem_only b event old new port value .inv (by decide)
@[simp] theorem Blk.timeItem_fleet (b : Blk) (event old new port : Nat) (value : Int) : (Blk.timeItem b event old new
    port value).fleet = b.fleet := Blk.timeItem_only b event old new port value .fleet (by decide)
@[simp] theorem Blk.timeItem_dvt (b : Blk) (event old new port : Nat) (value : Int) : (Blk.timeItem b event old new
    port value).dvt = b.dvt := Blk.timeItem_only b event old new port value .dvt (by decide)
@[simp] theorem Blk.timeItem_clp (b : Blk) (event old new port : Nat) (value : Int) : (Blk.timeItem b event old new
    port value).clp = b.clp := Blk.timeItem_only b event old new port value .clp (by decide)
@[simp] theorem Blk.timeItem_axs (b : Blk) (event old new port : Nat) (value : Int) : (Blk.timeItem b event old new
    port value).axs = b.axs := Blk.timeItem_only b event old new port value .axs (by decide)
@[simp] theorem Blk.timeItem_air (b : Blk) (event old new port : Nat) (value : Int) : (Blk.timeItem b event old new
    port value).air = b.air := Blk.timeItem_only b event old new port value .air (by decide)
@[simp] theorem Blk.timeItem_hdl (b : Blk) (event old new port : Nat) (value : Int) : (Blk.timeItem b event old new
    port value).hdl = b.hdl := Blk.timeItem_only b event old new port value .hdl (by decide)
@[simp] theorem Blk.timeItem_gns (b : Blk) (event old new port : Nat) (value : Int) : (Blk.timeItem b event old new
    port value).gns = b.gns := Blk.timeItem_only b event old new port value .gns (by decide)
@[simp] theorem Blk.timeItem_pos (b : Blk) (event old new port : Nat) (value : Int) : (Blk.timeItem b event old new
    port value).pos = b.pos := Blk.timeItem_only b event old new port value .pos (by decide)
@[simp] theorem Blk.timeItem_key (b : Blk) (event old new port : Nat) (value : Int) : (Blk.timeItem b event old new
    port value).key = b.key := Blk.timeItem_only b event old new port value .key (by decide)
@[simp] theorem Blk.timeItem_pwr (b : Blk) (event old new port : Nat) (value : Int) : (Blk.timeItem b event old new
    port value).pwr = b.pwr := Blk.timeItem_only b event old new port value .pwr (by decide)
theorem Blk.axsItem_only (b : Blk) (n event : Nat) (value : Int) (epoch : Nat) : Blk.onlyIn [.evr, .mem, .regs] b
    (Blk.axsItem b n event value epoch) := by simp
@[simp] theorem Blk.axsItem_uid (b : Blk) (n event : Nat) (value : Int) (epoch : Nat) : (Blk.axsItem b n event value
    epoch).uid = b.uid := Blk.axsItem_only b n event value epoch .uid (by decide)
@[simp] theorem Blk.axsItem_latch (b : Blk) (n event : Nat) (value : Int) (epoch : Nat) : (Blk.axsItem b n event
    value epoch).latch = b.latch := Blk.axsItem_only b n event value epoch .latch (by decide)
@[simp] theorem Blk.axsItem_heldLo (b : Blk) (n event : Nat) (value : Int) (epoch : Nat) : (Blk.axsItem b n event
    value epoch).heldLo = b.heldLo := Blk.axsItem_only b n event value epoch .heldLo (by decide)
@[simp] theorem Blk.axsItem_out (b : Blk) (n event : Nat) (value : Int) (epoch : Nat) : (Blk.axsItem b n event value
    epoch).out = b.out := Blk.axsItem_only b n event value epoch .out (by decide)
@[simp] theorem Blk.axsItem_lastRead (b : Blk) (n event : Nat) (value : Int) (epoch : Nat) : (Blk.axsItem b n event
    value epoch).lastRead = b.lastRead := Blk.axsItem_only b n event value epoch .lastRead (by decide)
@[simp] theorem Blk.axsItem_fresh (b : Blk) (n event : Nat) (value : Int) (epoch : Nat) : (Blk.axsItem b n event
    value epoch).fresh = b.fresh := Blk.axsItem_only b n event value epoch .fresh (by decide)
@[simp] theorem Blk.axsItem_hst (b : Blk) (n event : Nat) (value : Int) (epoch : Nat) : (Blk.axsItem b n event value
    epoch).hst = b.hst := Blk.axsItem_only b n event value epoch .hst (by decide)
@[simp] theorem Blk.axsItem_inv (b : Blk) (n event : Nat) (value : Int) (epoch : Nat) : (Blk.axsItem b n event value
    epoch).inv = b.inv := Blk.axsItem_only b n event value epoch .inv (by decide)
@[simp] theorem Blk.axsItem_fleet (b : Blk) (n event : Nat) (value : Int) (epoch : Nat) : (Blk.axsItem b n event
    value epoch).fleet = b.fleet := Blk.axsItem_only b n event value epoch .fleet (by decide)
@[simp] theorem Blk.axsItem_dvt (b : Blk) (n event : Nat) (value : Int) (epoch : Nat) : (Blk.axsItem b n event value
    epoch).dvt = b.dvt := Blk.axsItem_only b n event value epoch .dvt (by decide)
@[simp] theorem Blk.axsItem_clp (b : Blk) (n event : Nat) (value : Int) (epoch : Nat) : (Blk.axsItem b n event value
    epoch).clp = b.clp := Blk.axsItem_only b n event value epoch .clp (by decide)
@[simp] theorem Blk.axsItem_axs (b : Blk) (n event : Nat) (value : Int) (epoch : Nat) : (Blk.axsItem b n event value
    epoch).axs = b.axs := Blk.axsItem_only b n event value epoch .axs (by decide)
@[simp] theorem Blk.axsItem_air (b : Blk) (n event : Nat) (value : Int) (epoch : Nat) : (Blk.axsItem b n event value
    epoch).air = b.air := Blk.axsItem_only b n event value epoch .air (by decide)
@[simp] theorem Blk.axsItem_hdl (b : Blk) (n event : Nat) (value : Int) (epoch : Nat) : (Blk.axsItem b n event value
    epoch).hdl = b.hdl := Blk.axsItem_only b n event value epoch .hdl (by decide)
@[simp] theorem Blk.axsItem_gns (b : Blk) (n event : Nat) (value : Int) (epoch : Nat) : (Blk.axsItem b n event value
    epoch).gns = b.gns := Blk.axsItem_only b n event value epoch .gns (by decide)
@[simp] theorem Blk.axsItem_pos (b : Blk) (n event : Nat) (value : Int) (epoch : Nat) : (Blk.axsItem b n event value
    epoch).pos = b.pos := Blk.axsItem_only b n event value epoch .pos (by decide)
@[simp] theorem Blk.axsItem_key (b : Blk) (n event : Nat) (value : Int) (epoch : Nat) : (Blk.axsItem b n event value
    epoch).key = b.key := Blk.axsItem_only b n event value epoch .key (by decide)
@[simp] theorem Blk.axsItem_pwr (b : Blk) (n event : Nat) (value : Int) (epoch : Nat) : (Blk.axsItem b n event value
    epoch).pwr = b.pwr := Blk.axsItem_only b n event value epoch .pwr (by decide)
theorem Blk.applyField_only (b : Blk) (off : Nat) (f : FieldDesc) (w : Word) (ok : Bool) : Blk.onlyIn [.evr, .mem,
    .regs] b (Blk.applyField b off f w ok) := by simp
@[simp] theorem Blk.applyField_uid (b : Blk) (off : Nat) (f : FieldDesc) (w : Word) (ok : Bool) : (Blk.applyField b
    off f w ok).uid = b.uid := Blk.applyField_only b off f w ok .uid (by decide)
@[simp] theorem Blk.applyField_latch (b : Blk) (off : Nat) (f : FieldDesc) (w : Word) (ok : Bool) : (Blk.applyField b
    off f w ok).latch = b.latch := Blk.applyField_only b off f w ok .latch (by decide)
@[simp] theorem Blk.applyField_heldLo (b : Blk) (off : Nat) (f : FieldDesc) (w : Word) (ok : Bool) : (Blk.applyField
    b off f w ok).heldLo = b.heldLo := Blk.applyField_only b off f w ok .heldLo (by decide)
@[simp] theorem Blk.applyField_out (b : Blk) (off : Nat) (f : FieldDesc) (w : Word) (ok : Bool) : (Blk.applyField b
    off f w ok).out = b.out := Blk.applyField_only b off f w ok .out (by decide)
@[simp] theorem Blk.applyField_lastRead (b : Blk) (off : Nat) (f : FieldDesc) (w : Word) (ok : Bool) :
    (Blk.applyField b off f w ok).lastRead = b.lastRead := Blk.applyField_only b off f w ok .lastRead (by decide)
@[simp] theorem Blk.applyField_fresh (b : Blk) (off : Nat) (f : FieldDesc) (w : Word) (ok : Bool) : (Blk.applyField b
    off f w ok).fresh = b.fresh := Blk.applyField_only b off f w ok .fresh (by decide)
@[simp] theorem Blk.applyField_hst (b : Blk) (off : Nat) (f : FieldDesc) (w : Word) (ok : Bool) : (Blk.applyField b
    off f w ok).hst = b.hst := Blk.applyField_only b off f w ok .hst (by decide)
@[simp] theorem Blk.applyField_inv (b : Blk) (off : Nat) (f : FieldDesc) (w : Word) (ok : Bool) : (Blk.applyField b
    off f w ok).inv = b.inv := Blk.applyField_only b off f w ok .inv (by decide)
@[simp] theorem Blk.applyField_fleet (b : Blk) (off : Nat) (f : FieldDesc) (w : Word) (ok : Bool) : (Blk.applyField b
    off f w ok).fleet = b.fleet := Blk.applyField_only b off f w ok .fleet (by decide)
@[simp] theorem Blk.applyField_dvt (b : Blk) (off : Nat) (f : FieldDesc) (w : Word) (ok : Bool) : (Blk.applyField b
    off f w ok).dvt = b.dvt := Blk.applyField_only b off f w ok .dvt (by decide)
@[simp] theorem Blk.applyField_clp (b : Blk) (off : Nat) (f : FieldDesc) (w : Word) (ok : Bool) : (Blk.applyField b
    off f w ok).clp = b.clp := Blk.applyField_only b off f w ok .clp (by decide)
@[simp] theorem Blk.applyField_axs (b : Blk) (off : Nat) (f : FieldDesc) (w : Word) (ok : Bool) : (Blk.applyField b
    off f w ok).axs = b.axs := Blk.applyField_only b off f w ok .axs (by decide)
@[simp] theorem Blk.applyField_air (b : Blk) (off : Nat) (f : FieldDesc) (w : Word) (ok : Bool) : (Blk.applyField b
    off f w ok).air = b.air := Blk.applyField_only b off f w ok .air (by decide)
@[simp] theorem Blk.applyField_hdl (b : Blk) (off : Nat) (f : FieldDesc) (w : Word) (ok : Bool) : (Blk.applyField b
    off f w ok).hdl = b.hdl := Blk.applyField_only b off f w ok .hdl (by decide)
@[simp] theorem Blk.applyField_gns (b : Blk) (off : Nat) (f : FieldDesc) (w : Word) (ok : Bool) : (Blk.applyField b
    off f w ok).gns = b.gns := Blk.applyField_only b off f w ok .gns (by decide)
@[simp] theorem Blk.applyField_pos (b : Blk) (off : Nat) (f : FieldDesc) (w : Word) (ok : Bool) : (Blk.applyField b
    off f w ok).pos = b.pos := Blk.applyField_only b off f w ok .pos (by decide)
@[simp] theorem Blk.applyField_key (b : Blk) (off : Nat) (f : FieldDesc) (w : Word) (ok : Bool) : (Blk.applyField b
    off f w ok).key = b.key := Blk.applyField_only b off f w ok .key (by decide)
@[simp] theorem Blk.applyField_pwr (b : Blk) (off : Nat) (f : FieldDesc) (w : Word) (ok : Bool) : (Blk.applyField b
    off f w ok).pwr = b.pwr := Blk.applyField_only b off f w ok .pwr (by decide)
theorem Blk.applyFields_only (b : Blk) (off : Nat) (w : Word) (cond : Blk → FieldDesc → Bool) (fs : List FieldDesc) :
    Blk.onlyIn [.evr, .mem, .regs] b (Blk.applyFields b off w cond fs) := by simp
@[simp] theorem Blk.applyFields_uid (b : Blk) (off : Nat) (w : Word) (cond : Blk → FieldDesc → Bool) (fs : List
    FieldDesc) : (Blk.applyFields b off w cond fs).uid = b.uid := Blk.applyFields_only b off w cond fs .uid (by
    decide)
@[simp] theorem Blk.applyFields_latch (b : Blk) (off : Nat) (w : Word) (cond : Blk → FieldDesc → Bool) (fs : List
    FieldDesc) : (Blk.applyFields b off w cond fs).latch = b.latch := Blk.applyFields_only b off w cond fs .latch (by
    decide)
@[simp] theorem Blk.applyFields_heldLo (b : Blk) (off : Nat) (w : Word) (cond : Blk → FieldDesc → Bool) (fs : List
    FieldDesc) : (Blk.applyFields b off w cond fs).heldLo = b.heldLo := Blk.applyFields_only b off w cond fs .heldLo
    (by decide)
@[simp] theorem Blk.applyFields_out (b : Blk) (off : Nat) (w : Word) (cond : Blk → FieldDesc → Bool) (fs : List
    FieldDesc) : (Blk.applyFields b off w cond fs).out = b.out := Blk.applyFields_only b off w cond fs .out (by
    decide)
@[simp] theorem Blk.applyFields_lastRead (b : Blk) (off : Nat) (w : Word) (cond : Blk → FieldDesc → Bool) (fs : List
    FieldDesc) : (Blk.applyFields b off w cond fs).lastRead = b.lastRead := Blk.applyFields_only b off w cond fs
    .lastRead (by decide)
@[simp] theorem Blk.applyFields_fresh (b : Blk) (off : Nat) (w : Word) (cond : Blk → FieldDesc → Bool) (fs : List
    FieldDesc) : (Blk.applyFields b off w cond fs).fresh = b.fresh := Blk.applyFields_only b off w cond fs .fresh (by
    decide)
@[simp] theorem Blk.applyFields_hst (b : Blk) (off : Nat) (w : Word) (cond : Blk → FieldDesc → Bool) (fs : List
    FieldDesc) : (Blk.applyFields b off w cond fs).hst = b.hst := Blk.applyFields_only b off w cond fs .hst (by
    decide)
@[simp] theorem Blk.applyFields_inv (b : Blk) (off : Nat) (w : Word) (cond : Blk → FieldDesc → Bool) (fs : List
    FieldDesc) : (Blk.applyFields b off w cond fs).inv = b.inv := Blk.applyFields_only b off w cond fs .inv (by
    decide)
@[simp] theorem Blk.applyFields_fleet (b : Blk) (off : Nat) (w : Word) (cond : Blk → FieldDesc → Bool) (fs : List
    FieldDesc) : (Blk.applyFields b off w cond fs).fleet = b.fleet := Blk.applyFields_only b off w cond fs .fleet (by
    decide)
@[simp] theorem Blk.applyFields_dvt (b : Blk) (off : Nat) (w : Word) (cond : Blk → FieldDesc → Bool) (fs : List
    FieldDesc) : (Blk.applyFields b off w cond fs).dvt = b.dvt := Blk.applyFields_only b off w cond fs .dvt (by
    decide)
@[simp] theorem Blk.applyFields_clp (b : Blk) (off : Nat) (w : Word) (cond : Blk → FieldDesc → Bool) (fs : List
    FieldDesc) : (Blk.applyFields b off w cond fs).clp = b.clp := Blk.applyFields_only b off w cond fs .clp (by
    decide)
@[simp] theorem Blk.applyFields_axs (b : Blk) (off : Nat) (w : Word) (cond : Blk → FieldDesc → Bool) (fs : List
    FieldDesc) : (Blk.applyFields b off w cond fs).axs = b.axs := Blk.applyFields_only b off w cond fs .axs (by
    decide)
@[simp] theorem Blk.applyFields_air (b : Blk) (off : Nat) (w : Word) (cond : Blk → FieldDesc → Bool) (fs : List
    FieldDesc) : (Blk.applyFields b off w cond fs).air = b.air := Blk.applyFields_only b off w cond fs .air (by
    decide)
@[simp] theorem Blk.applyFields_hdl (b : Blk) (off : Nat) (w : Word) (cond : Blk → FieldDesc → Bool) (fs : List
    FieldDesc) : (Blk.applyFields b off w cond fs).hdl = b.hdl := Blk.applyFields_only b off w cond fs .hdl (by
    decide)
@[simp] theorem Blk.applyFields_gns (b : Blk) (off : Nat) (w : Word) (cond : Blk → FieldDesc → Bool) (fs : List
    FieldDesc) : (Blk.applyFields b off w cond fs).gns = b.gns := Blk.applyFields_only b off w cond fs .gns (by
    decide)
@[simp] theorem Blk.applyFields_pos (b : Blk) (off : Nat) (w : Word) (cond : Blk → FieldDesc → Bool) (fs : List
    FieldDesc) : (Blk.applyFields b off w cond fs).pos = b.pos := Blk.applyFields_only b off w cond fs .pos (by
    decide)
@[simp] theorem Blk.applyFields_key (b : Blk) (off : Nat) (w : Word) (cond : Blk → FieldDesc → Bool) (fs : List
    FieldDesc) : (Blk.applyFields b off w cond fs).key = b.key := Blk.applyFields_only b off w cond fs .key (by
    decide)
@[simp] theorem Blk.applyFields_pwr (b : Blk) (off : Nat) (w : Word) (cond : Blk → FieldDesc → Bool) (fs : List
    FieldDesc) : (Blk.applyFields b off w cond fs).pwr = b.pwr := Blk.applyFields_only b off w cond fs .pwr (by
    decide)
theorem Blk.clearW1c_only (b : Blk) (off : Nat) (w : Word) (fs : List FieldDesc) : Blk.onlyIn [.regs] b (Blk.clearW1c
    b off w fs) := by simp
@[simp] theorem Blk.clearW1c_uid (b : Blk) (off : Nat) (w : Word) (fs : List FieldDesc) : (Blk.clearW1c b off w
    fs).uid = b.uid := Blk.clearW1c_only b off w fs .uid (by decide)
@[simp] theorem Blk.clearW1c_latch (b : Blk) (off : Nat) (w : Word) (fs : List FieldDesc) : (Blk.clearW1c b off w
    fs).latch = b.latch := Blk.clearW1c_only b off w fs .latch (by decide)
@[simp] theorem Blk.clearW1c_heldLo (b : Blk) (off : Nat) (w : Word) (fs : List FieldDesc) : (Blk.clearW1c b off w
    fs).heldLo = b.heldLo := Blk.clearW1c_only b off w fs .heldLo (by decide)
@[simp] theorem Blk.clearW1c_out (b : Blk) (off : Nat) (w : Word) (fs : List FieldDesc) : (Blk.clearW1c b off w
    fs).out = b.out := Blk.clearW1c_only b off w fs .out (by decide)
@[simp] theorem Blk.clearW1c_lastRead (b : Blk) (off : Nat) (w : Word) (fs : List FieldDesc) : (Blk.clearW1c b off w
    fs).lastRead = b.lastRead := Blk.clearW1c_only b off w fs .lastRead (by decide)
@[simp] theorem Blk.clearW1c_fresh (b : Blk) (off : Nat) (w : Word) (fs : List FieldDesc) : (Blk.clearW1c b off w
    fs).fresh = b.fresh := Blk.clearW1c_only b off w fs .fresh (by decide)
@[simp] theorem Blk.clearW1c_hst (b : Blk) (off : Nat) (w : Word) (fs : List FieldDesc) : (Blk.clearW1c b off w
    fs).hst = b.hst := Blk.clearW1c_only b off w fs .hst (by decide)
@[simp] theorem Blk.clearW1c_mem (b : Blk) (off : Nat) (w : Word) (fs : List FieldDesc) : (Blk.clearW1c b off w
    fs).mem = b.mem := Blk.clearW1c_only b off w fs .mem (by decide)
@[simp] theorem Blk.clearW1c_evr (b : Blk) (off : Nat) (w : Word) (fs : List FieldDesc) : (Blk.clearW1c b off w
    fs).evr = b.evr := Blk.clearW1c_only b off w fs .evr (by decide)
@[simp] theorem Blk.clearW1c_inv (b : Blk) (off : Nat) (w : Word) (fs : List FieldDesc) : (Blk.clearW1c b off w
    fs).inv = b.inv := Blk.clearW1c_only b off w fs .inv (by decide)
@[simp] theorem Blk.clearW1c_fleet (b : Blk) (off : Nat) (w : Word) (fs : List FieldDesc) : (Blk.clearW1c b off w
    fs).fleet = b.fleet := Blk.clearW1c_only b off w fs .fleet (by decide)
@[simp] theorem Blk.clearW1c_dvt (b : Blk) (off : Nat) (w : Word) (fs : List FieldDesc) : (Blk.clearW1c b off w
    fs).dvt = b.dvt := Blk.clearW1c_only b off w fs .dvt (by decide)
@[simp] theorem Blk.clearW1c_clp (b : Blk) (off : Nat) (w : Word) (fs : List FieldDesc) : (Blk.clearW1c b off w
    fs).clp = b.clp := Blk.clearW1c_only b off w fs .clp (by decide)
@[simp] theorem Blk.clearW1c_axs (b : Blk) (off : Nat) (w : Word) (fs : List FieldDesc) : (Blk.clearW1c b off w
    fs).axs = b.axs := Blk.clearW1c_only b off w fs .axs (by decide)
@[simp] theorem Blk.clearW1c_air (b : Blk) (off : Nat) (w : Word) (fs : List FieldDesc) : (Blk.clearW1c b off w
    fs).air = b.air := Blk.clearW1c_only b off w fs .air (by decide)
@[simp] theorem Blk.clearW1c_hdl (b : Blk) (off : Nat) (w : Word) (fs : List FieldDesc) : (Blk.clearW1c b off w
    fs).hdl = b.hdl := Blk.clearW1c_only b off w fs .hdl (by decide)
@[simp] theorem Blk.clearW1c_gns (b : Blk) (off : Nat) (w : Word) (fs : List FieldDesc) : (Blk.clearW1c b off w
    fs).gns = b.gns := Blk.clearW1c_only b off w fs .gns (by decide)
@[simp] theorem Blk.clearW1c_pos (b : Blk) (off : Nat) (w : Word) (fs : List FieldDesc) : (Blk.clearW1c b off w
    fs).pos = b.pos := Blk.clearW1c_only b off w fs .pos (by decide)
@[simp] theorem Blk.clearW1c_key (b : Blk) (off : Nat) (w : Word) (fs : List FieldDesc) : (Blk.clearW1c b off w
    fs).key = b.key := Blk.clearW1c_only b off w fs .key (by decide)
@[simp] theorem Blk.clearW1c_pwr (b : Blk) (off : Nat) (w : Word) (fs : List FieldDesc) : (Blk.clearW1c b off w
    fs).pwr = b.pwr := Blk.clearW1c_only b off w fs .pwr (by decide)

end Sys2Proof.Machine
end

