-- ==== Sys2Proof/Laws/Access.lean ====
section
/-! SUPPORT. Sys2Proof/Laws/Access.lean: what the accessors read after the updates of the same table, counters and flags after
their updates, that a completion goes out, and that a started descriptor's meaning runs. -/

namespace Sys2Proof.Machine

open Sys2Proof

/-! ## Tables -/

@[simp] theorem Tab.val_put_ne' {α : Type} (t : Tab α) {i j : Nat} (x d : α) (h : ¬ j = i) :
    Tab.val (Tab.put t i x) j d = Tab.val t j d := Tab.val_put_ne t x d (fun e => h e.symm)

@[simp] theorem Blk.notch_setNotch (b : Blk) (n k : Nat) (x : Notch) :
    (b.setNotch n x).notch k = if n = k then x else b.notch k := Tab.val_put _ _ _ _ _
@[simp] theorem Blk.chan_setChan (b : Blk) (n k : Nat) (x : GChan) :
    (b.setChan n x).chan k = if n = k then x else b.chan k := Tab.val_put _ _ _ _ _
@[simp] theorem Blk.filterOf_setFilter (b : Blk) (n k : Nat) (x : Filter) :
    (b.setFilter n x).filterOf k = if n = k then x else b.filterOf k := Tab.val_put _ _ _ _ _
@[simp] theorem Blk.loopOf_setLoop (b : Blk) (n k : Nat) (x : Loop) :
    (b.setLoop n x).loopOf k = if n = k then x else b.loopOf k := Tab.val_put _ _ _ _ _
@[simp] theorem Blk.gmove_setGMove (b : Blk) (n k : Nat) (x : GMove) :
    (b.setGMove n x).gmove k = if n = k then x else b.gmove k := Tab.val_put _ _ _ _ _
@[simp] theorem Blk.table_setTable (b : Blk) (n k : Nat) (x : SegTable) :
    (b.setTable n x).table k = if n = k then x else b.table k := Tab.val_put _ _ _ _ _
@[simp] theorem Blk.group_setGroup (b : Blk) (n k : Nat) (x : GState) :
    (b.setGroup n x).group k = if n = k then x else b.group k := Tab.val_put _ _ _ _ _
@[simp] theorem Blk.axis_modMot (b : Blk) (n k : Nat) (f : AxMot → AxMot) : (b.modMot n f).axis k =
    if n = k then { b.axis n with mot := f (b.axis n).mot } else b.axis k := Blk.axis_setAxis _ _ _ _
@[simp] theorem Blk.axis_modIo (b : Blk) (n k : Nat) (f : AxIo → AxIo) : (b.modIo n f).axis k =
    if n = k then { b.axis n with io := f (b.axis n).io } else b.axis k := Blk.axis_setAxis _ _ _ _
@[simp] theorem Blk.axis_modLoop (b : Blk) (n k : Nat) (f : AxLoop → AxLoop) : (b.modLoop n f).axis k =
    if n = k then { b.axis n with loop := f (b.axis n).loop } else b.axis k := Blk.axis_setAxis _ _ _ _

/-! ## Registers -/

theorem Blk.reg_of_regs {a b : Blk} (h : a.regs = b.regs) (k : Nat) : a.reg k = b.reg k := by simp [Blk.reg, h]

theorem Blk.reg_of_regsOnly {os : List Nat} {a b : Blk} (h : a.regsOnly os b) {k : Nat} (hk : k ∉ os) :
    b.reg k = a.reg k := h k hk

theorem Blk.reg_bump (b : Blk) (i j n : Nat) :
    (b.bump i n).reg j = if i = j then word (min ((b.reg i).toNat + n) 0xFFFFFFFF) else b.reg j := Blk.reg_setReg _ _ _ _

@[simp] theorem Blk.reg_bump_ne (b : Blk) {i j n : Nat} (h : ¬ i = j) : (b.bump i n).reg j = b.reg j := by
  simp [Blk.reg_bump, h]

@[simp] theorem Blk.reg_setFlag_ne (b : Blk) {i j n : Nat} (h : ¬ i = j) : (b.setFlag i n).reg j = b.reg j :=
  Blk.reg_setReg_ne _ _ h

@[simp] theorem Blk.reg_clrFlag_ne (b : Blk) {i j n : Nat} (h : ¬ i = j) : (b.clrFlag i n).reg j = b.reg j :=
  Blk.reg_setReg_ne _ _ h

/-- A counter counts from what it showed. -/
theorem Blk.counts_bump {a b : Blk} {k n : Nat} (h : b.reg k = a.reg k) : a.counts (b.bump k n) k n := by
  simp only [Blk.counts, Blk.reg_bump, if_true, h, word, BitVec.toNat_ofNat]
  exact Nat.mod_eq_of_lt (by omega)

/-- Changes elsewhere leave a count standing. -/
theorem Blk.counts_trans {a b c : Blk} {k n : Nat} (h : a.counts b k n) (e : c.reg k = b.reg k) : a.counts c k n := by
  simp only [Blk.counts, e]; exact h

/-! ## Bits -/

theorem bitOf_setBit (v i j : Nat) : bitOf (setBit v i) j = (decide (i = j) || bitOf v j) := by
  simp [bitOf, setBit, Nat.testBit_or, Nat.testBit_two_pow, Bool.or_comm]

theorem bitOf_clearBit (v i j : Nat) : bitOf (clearBit v i) j = (!decide (i = j) && bitOf v j) := by
  by_cases h : bitOf v i = true
  · rw [clearBit, if_pos h]
    by_cases e : i = j
    · subst e; simp only [bitOf] at h; simp [bitOf, Nat.testBit_xor, Nat.testBit_two_pow_self, h]
    · simp [bitOf, Nat.testBit_xor, e]
  · rw [clearBit, if_neg h]
    by_cases e : i = j
    · subst e; simpa using h
    · simp [e]

@[simp] theorem bitOf_setBit_same (v i : Nat) : bitOf (setBit v i) i = true := by simp [bitOf_setBit]
@[simp] theorem bitOf_clearBit_same (v i : Nat) : bitOf (clearBit v i) i = false := by simp [bitOf_clearBit]

theorem Blk.flag_eq (b : Blk) (off i : Nat) : b.flag off i = bitOf (b.reg off).toNat i := by
  simp only [Blk.flag, Blk.fld, fieldOf, bitsOf, bitOf, Nat.testBit_eq_decide_div_mod_eq, Nat.sub_self, Nat.zero_add,
    Nat.pow_one]
  by_cases h : (b.reg off).toNat / 2 ^ i % 2 = 1 <;> simp [h]

theorem bitOf_word {v i : Nat} (h : v < 2 ^ 32) : bitOf (word v).toNat i = bitOf v i := by
  rw [word, BitVec.toNat_ofNat, Nat.mod_eq_of_lt h]

theorem setBit_lt {v i : Nat} (h : v < 2 ^ 32) (hi : i < 32) : setBit v i < 2 ^ 32 :=
  Nat.or_lt_two_pow h (Nat.pow_lt_pow_right (by omega) hi)

theorem clearBit_lt {v i : Nat} (h : v < 2 ^ 32) (hi : i < 32) : clearBit v i < 2 ^ 32 := by
  unfold clearBit; split
  · exact Nat.xor_lt_two_pow h (Nat.pow_lt_pow_right (by omega) hi)
  · exact h

/-- The flags of a register after one is set. -/
theorem Blk.flag_setFlag (b : Blk) {off i : Nat} (j : Nat) (h : i < 32) :
    (b.setFlag off i).flag off j = (decide (i = j) || b.flag off j) := by
  rw [Blk.flag_eq, Blk.setFlag, Blk.reg_setReg_same, bitOf_word (setBit_lt (b.reg off).isLt h), bitOf_setBit, Blk.flag_eq]

/-- The flags of a register after one is cleared. -/
theorem Blk.flag_clrFlag (b : Blk) {off i : Nat} (j : Nat) (h : i < 32) :
    (b.clrFlag off i).flag off j = (!decide (i = j) && b.flag off j) := by
  rw [Blk.flag_eq, Blk.clrFlag, Blk.reg_setReg_same, bitOf_word (clearBit_lt (b.reg off).isLt h), bitOf_clearBit,
    Blk.flag_eq]

theorem Blk.flag_of_reg {a b : Blk} {off : Nat} (h : a.reg off = b.reg off) (i : Nat) : a.flag off i = b.flag off i := by
  simp [Blk.flag, Blk.fld, h]

theorem Blk.fld_of_reg {a b : Blk} {off : Nat} (h : a.reg off = b.reg off) (i j : Nat) :
    a.fld off i j = b.fld off i j := by simp [Blk.fld, h]

/-! ## Starting and completing a descriptor (R104, R147) -/

/-- A descriptor that starts runs its meaning in the started state. -/
theorem Blk.start_of_starts {b : Blk} {d : Desc} (f : Blk → Blk) (h : b.starts d) : b.start d f = f (b.started d) := by
  obtain ⟨h1, h2⟩ := h
  simp [Blk.start, h1, Blk.startRaw, h2, Blk.started]

/-- What has gone out stays out. -/
def Blk.sends (a b : Blk) : Prop := ∃ l, b.out = l ++ a.out

@[simp] theorem Blk.sends_refl (a : Blk) : a.sends a := ⟨[], rfl⟩
theorem Blk.sends_trans {a b c : Blk} (h : a.sends b) (k : b.sends c) : a.sends c := by
  obtain ⟨l, hl⟩ := h; obtain ⟨m, hm⟩ := k
  exact ⟨m ++ l, by rw [hm, hl, List.append_assoc]⟩
theorem Blk.sends_of_out {a b : Blk} (h : b.out = a.out) : a.sends b := ⟨[], by simp [h]⟩
@[simp] theorem Blk.sends_emit (a : Blk) (o : Out) : a.sends (a.emit o) := ⟨[o], rfl⟩
theorem Blk.sends_foldl {α : Type} {f : Blk → α → Blk} (h : ∀ (b : Blk) (x : α), b.sends (f b x)) (l : List α) (b : Blk) :
    b.sends (l.foldl f b) := by
  induction l generalizing b with
  | nil => exact b.sends_refl
  | cons x l ih => exact Blk.sends_trans (h b x) (ih _)

theorem Blk.sends_sendMsix (b : Blk) (v : Nat) : b.sends (b.sendMsix v) := by
  unfold Blk.sendMsix; split
  · exact Blk.sends_of_out rfl
  · exact b.sends_emit _
theorem Blk.sends_writeEntry (b : Blk) (cq : Nat) (e : Entry) : b.sends (b.writeEntry cq e) := by
  unfold Blk.writeEntry
  exact Blk.sends_trans (b.sends_emit _) (Blk.sends_of_out rfl)
theorem Blk.sends_announce (b : Blk) (cq : Nat) : b.sends (b.announce cq) := by
  unfold Blk.announce; dsimp only; split
  · exact Blk.sends_trans (Blk.sends_of_out (by rfl)) (Blk.sends_sendMsix _ _)
  · exact b.sends_refl
theorem Blk.sends_flushHeld (b : Blk) (cq : Nat) : b.sends (b.flushHeld cq) := by
  unfold Blk.flushHeld; dsimp only; split
  · exact b.sends_refl
  · refine Blk.sends_trans (Blk.sends_trans ?_ (Blk.sends_foldl (f := fun b e => b.writeEntry cq e)
      (fun c e => Blk.sends_writeEntry c cq e) _ _)) (Blk.sends_announce _ _)
    exact Blk.sends_of_out rfl
theorem Blk.sends_cqProduce (b : Blk) (cq : Nat) (e : Entry) (f : Bool) : b.sends (b.cqProduce cq e f) := by
  unfold Blk.cqProduce; dsimp only; split
  · split
    · exact Blk.sends_trans (Blk.sends_of_out (by rfl)) (Blk.sends_flushHeld _ _)
    · exact Blk.sends_of_out (by rfl)
  · exact b.sends_refl
theorem Blk.sends_runPlane (b : Blk) (n : Nat) (f : Bool) : b.sends (b.runPlane n f) := by
  unfold Blk.runPlane
  exact Blk.sends_trans (Blk.sends_of_out (by rfl)) (Blk.sends_foldl (fun c p => Blk.sends_cqProduce c _ _ _) _ _)

/-- A completion goes out, whether its entry is written now or held (R147). -/
theorem Blk.completeAt_ended {a : Blk} (b : Blk) (id : OpId) (st detail epoch time : Nat) (h : a.sends b) :
    Ended a (b.completeAt id st detail epoch time) id st detail := by
  obtain ⟨l, hl⟩ := h
  let e : Entry := ⟨min id.tag 0xFFFF, st, id.ring, detail % 2 ^ 32, epoch, time, id.cookie⟩
  have key : (b.emit (.completion id e)).sends (b.completeAt id st detail epoch time) := by
    unfold Blk.completeAt; dsimp only
    split
    · split
      · exact Blk.sends_trans (Blk.sends_of_out (by rfl)) (Blk.sends_runPlane _ _ _)
      · split
        · exact Blk.sends_of_out (by rfl)
        · exact Blk.sends_trans (Blk.sends_of_out (by rfl)) (Blk.sends_cqProduce _ _ _ _)
    · exact Blk.sends_refl _
  obtain ⟨m, hm⟩ := key
  exact ⟨m ++ .completion id e :: l, e, by rw [hm]; simp [Blk.emit, hl], by simp, rfl, rfl⟩

theorem Blk.complete_ended {a : Blk} (b : Blk) (id : OpId) (st detail : Nat) (h : a.sends b) :
    Ended a (b.complete id st detail) id st detail := Blk.completeAt_ended b id st detail _ _ h
theorem Blk.done_ended {a : Blk} (b : Blk) (id : OpId) (detail : Nat) (h : a.sends b) :
    Ended a (b.done id detail) id St.done detail := Blk.completeAt_ended b id St.done detail _ _ h
theorem Blk.bad_ended {a : Blk} (b : Blk) (id : OpId) (reason off : Nat) (h : a.sends b) :
    Ended a (b.bad id reason off) id St.malformed (malformed reason 0xFF off) := Blk.completeAt_ended b id _ _ _ _ h

/-! The started state differs in HST's part alone. -/

@[simp] theorem Blk.started_uid (b : Blk) (d : Desc) : (b.started d).uid = b.uid := by simp [Blk.started]
@[simp] theorem Blk.started_regs (b : Blk) (d : Desc) : (b.started d).regs = b.regs := by simp [Blk.started]
@[simp] theorem Blk.started_latch (b : Blk) (d : Desc) : (b.started d).latch = b.latch := by simp [Blk.started]
@[simp] theorem Blk.started_heldLo (b : Blk) (d : Desc) : (b.started d).heldLo = b.heldLo := by simp [Blk.started]
@[simp] theorem Blk.started_out (b : Blk) (d : Desc) : (b.started d).out = b.out := by simp [Blk.started]
@[simp] theorem Blk.started_lastRead (b : Blk) (d : Desc) : (b.started d).lastRead = b.lastRead := by simp [Blk.started]
@[simp] theorem Blk.started_fresh (b : Blk) (d : Desc) : (b.started d).fresh = b.fresh := by simp [Blk.started]
@[simp] theorem Blk.started_mem (b : Blk) (d : Desc) : (b.started d).mem = b.mem := by simp [Blk.started]
@[simp] theorem Blk.started_evr (b : Blk) (d : Desc) : (b.started d).evr = b.evr := by simp [Blk.started]
@[simp] theorem Blk.started_inv (b : Blk) (d : Desc) : (b.started d).inv = b.inv := by simp [Blk.started]
@[simp] theorem Blk.started_fleet (b : Blk) (d : Desc) : (b.started d).fleet = b.fleet := by simp [Blk.started]
@[simp] theorem Blk.started_dvt (b : Blk) (d : Desc) : (b.started d).dvt = b.dvt := by simp [Blk.started]
@[simp] theorem Blk.started_clp (b : Blk) (d : Desc) : (b.started d).clp = b.clp := by simp [Blk.started]
@[simp] theorem Blk.started_axs (b : Blk) (d : Desc) : (b.started d).axs = b.axs := by simp [Blk.started]
@[simp] theorem Blk.started_air (b : Blk) (d : Desc) : (b.started d).air = b.air := by simp [Blk.started]
@[simp] theorem Blk.started_hdl (b : Blk) (d : Desc) : (b.started d).hdl = b.hdl := by simp [Blk.started]
@[simp] theorem Blk.started_gns (b : Blk) (d : Desc) : (b.started d).gns = b.gns := by simp [Blk.started]
@[simp] theorem Blk.started_pos (b : Blk) (d : Desc) : (b.started d).pos = b.pos := by simp [Blk.started]
@[simp] theorem Blk.started_key (b : Blk) (d : Desc) : (b.started d).key = b.key := by simp [Blk.started]
@[simp] theorem Blk.started_pwr (b : Blk) (d : Desc) : (b.started d).pwr = b.pwr := by simp [Blk.started]
@[simp] theorem Blk.started_reg (b : Blk) (d : Desc) (k : Nat) : (b.started d).reg k = b.reg k := by simp [Blk.reg]
@[simp] theorem Blk.started_onlyIn {ps : List Part} {a : Blk} (b : Blk) (d : Desc) (h : Part.hst ∈ ps) :
    a.onlyIn ps (b.started d) ↔ a.onlyIn ps b := by simp [Blk.started, h]
@[simp] theorem Blk.started_regsOnly {os : List Nat} {a : Blk} (b : Blk) (d : Desc) :
    a.regsOnly os (b.started d) ↔ a.regsOnly os b := by simp [Blk.started]

/-! ## Event records (R476-R479) -/

/-- The recorder takes a record alike in states that agree in what a record shows. -/
theorem Blk.record_evr {a b : Blk} (h1 : b.evr = a.evr) (h2 : b.inv = a.inv) (h3 : b.pwr = a.pwr) (h4 : b.fleet = a.fleet)
    (code : Nat) (args : Bytes) : Recorded a (b.record code args) code args := by
  have hm : b.mkRec code args = a.mkRec code args := by
    simp only [Blk.mkRec, Blk.ftValid, Blk.optime, Blk.elapsed, Blk.nowFt64, Blk.now, h2, h3, h4]
    rfl
  simp only [Recorded, Blk.record, Blk.accept, hm, h1]
  repeat' split
  all_goals rfl

end Sys2Proof.Machine
end

