-- ==== Sys2Proof/Laws/Gives.lean ====
section
/-! SUPPORT. Sys2Proof/Laws/Gives.lean: a command gives what its meaning gives: one lemma for each way in which a meaning
is lifted to the state. -/

namespace Sys2Proof.Machine

open Sys2Proof

theorem gives_of {c : Instr} {s : State} {P : Blk → Prop} (f : Blk → Blk) (h : exec c s = onBlk f s)
    (hp : s.blk.powered = true) (k : P (f s.blk)) : Gives c s P :=
  ⟨f s.blk, by rw [h]; simp [onBlk, hp], k⟩
theorem gives_ofI {c : Instr} {s : State} {P : Blk → Prop} (f : Ident → Blk → Blk) (h : exec c s = onBlkI f s)
    (hp : s.blk.powered = true) (k : P (f s.ident s.blk)) : Gives c s P :=
  ⟨f s.ident s.blk, by rw [h]; simp [onBlkI, hp], k⟩
theorem gives_island {c : Instr} {s : State} {P : Blk → Prop} (i : Island) (f : Blk → Blk) (h : exec c s = onIsland i f s)
    (hp : s.blk.runs i = true) (k : P (f s.blk)) : Gives c s P :=
  ⟨f s.blk, by rw [h]; simp [onIsland, hp], k⟩
theorem gives_islandI {c : Instr} {s : State} {P : Blk → Prop} (i : Island) (f : Ident → Blk → Blk)
    (h : exec c s = onIslandI i f s) (hp : s.blk.runs i = true) (k : P (f s.ident s.blk)) : Gives c s P :=
  ⟨f s.ident s.blk, by rw [h]; simp [onIslandI, hp], k⟩
theorem gives_ready {c : Instr} {s : State} {P : Blk → Prop} (f : Blk → Blk) (h : exec c s = onReady f s)
    (hp : s.blk.powered = true) (k : P ((f s.blk).syncReady s.ident)) : Gives c s P :=
  ⟨_, by rw [h]; simp [onReady, hp], k⟩
theorem gives_readyI {c : Instr} {s : State} {P : Blk → Prop} (f : Ident → Blk → Blk) (h : exec c s = onReadyI f s)
    (hp : s.blk.powered = true) (k : P ((f s.ident s.blk).syncReady s.ident)) : Gives c s P :=
  ⟨_, by rw [h]; simp [onReadyI, hp], k⟩
theorem gives_aon {c : Instr} {s : State} {P : Blk → Prop} (f : Blk → Blk) (h : exec c s = onAon f s)
    (k : P ((f s.blk).syncReady s.ident)) : Gives c s P := ⟨_, h, k⟩
theorem gives_aonI {c : Instr} {s : State} {P : Blk → Prop} (f : Ident → Blk → Blk) (h : exec c s = onAonI f s)
    (k : P ((f s.ident s.blk).syncReady s.ident)) : Gives c s P := ⟨_, h, k⟩

end Sys2Proof.Machine
end

