-- ==== Sys2Proof/Machine/Lands.lean ====
section
/-! DEFINITION. Sys2Proof/Machine/Lands.lean: the 2116 lands of the package and what each carries (R530-R534), the operating
ranges of the supplies (R536), and the levels of the field outputs (R340, R385-R393, R538-R541). -/

namespace Sys2Proof.Machine

open Sys2Proof

/-! ## Lands (R530-R534) -/

/-- A signal of the core region (R534). -/
inductive CoreLand where
  | refclk | ppsIn | ppsOut | tq | faultN | stopped | ready
  | tampExt (k : Nat)
  | perP (lane : Nat) | perN (lane : Nat) | petP (lane : Nat) | petN (lane : Nat)
  | pcieRefclkP | pcieRefclkN | perstN | tck | tms | tdi | tdo | trstN
  deriving DecidableEq, Repr

/-- A wire of an SGMII port (R533): transmit or receive, positive or negative. -/
inductive SgmiiWire where
  | txP | txN | rxP | rxN
  deriving DecidableEq, Repr

/-- What a land carries.  Channels carry signals 0 to 15 in the order of R531; `second` is output or circuit B. -/
inductive Land where
  | gnd | vcore | vio | vana | vfield (die : Nat) | fgnd (die : Nat)
  | channel (n s : Nat)
  | reserved
  | cmon (m : Nat)
  | sto (g : Nat) (second : Bool)
  | estopTest (loop : Nat) (second : Bool)
  | estopInput (loop : Nat) (second : Bool)
  | rfIn
  | sgmii (port : Nat) (wire : SgmiiWire)
  | core (x : CoreLand)
  deriving DecidableEq, Repr

/-- The number of land (r, c), 1 to 2116 (R530). -/
def landNumber (r c : Nat) : Nat := 46 * (r - 1) + c

/-- A land of the channels of die `d` (R531): the 25th position of the grid is reserved. -/
def channelLand (d r0 c : Nat) : Land :=
  let p := (r0 - 1) / 2
  let k := 5 * p + (c - 4) / 8
  if k < 24 then .channel (24 * d + k) ((r0 - 1) % 2 * 8 + (c - 4) % 8) else .reserved

/-- A land of field region `d` at (`r0`, `c`) (R531, R532). -/
def fieldLand (d r0 c : Nat) : Land :=
  if c = 1 then .vfield d
  else if c = 2 then .fgnd d
  else if c = 3 then (if r0 = 10 then .cmon d else .fgnd d)
  else if c < 44 then channelLand d r0 c
  else if c = 44 then .fgnd d
  else if r0 ≤ 6 then .sto (6 * d + (r0 - 1)) (c == 46)
  else
    let loop := 2 * d + (r0 - 7) / 2
    let second := (r0 - 7) % 2 == 1
    if c = 45 then .estopTest loop second else .estopInput loop second

/-- A land of columns 45 and 46 of rows 11 to 36 (R534). -/
def edgeLand (r c : Nat) : Land :=
  let first := c == 45
  match r with
  | 11 => if first then .gnd else .core .refclk
  | 13 => .core (if first then .ppsIn else .ppsOut)
  | 14 => .core (if first then .tq else .faultN)
  | 15 => .core (if first then .stopped else .ready)
  | 16 => .core (.tampExt (if first then 0 else 1))
  | 17 => .core (.tampExt (if first then 2 else 3))
  | 27 => if first then .gnd else .core .pcieRefclkP
  | 28 => if first then .gnd else .core .pcieRefclkN
  | 29 => if first then .gnd else .core .perstN
  | 30 => .core (if first then .tck else .tms)
  | 31 => .core (if first then .tdi else .tdo)
  | 32 => if first then .core .trstN else .gnd
  | _ =>
    if 18 ≤ r ∧ r ≤ 25 then
      let l := (r - 18) / 2
      .core (if (r - 18) % 2 = 0 then (if first then .perP l else .petP l) else (if first then .perN l else .petN l))
    else .gnd

/-- A land of rows 11 to 36, columns 1 and 2 (R533). -/
def westLand (r c : Nat) : Land :=
  if r = 13 ∧ c = 1 then .rfIn
  else if r < 17 then .gnd
  else .sgmii ((r - 17) / 2) (if c = 1 then (if (r - 17) % 2 = 0 then .txP else .txN)
    else (if (r - 17) % 2 = 0 then .rxP else .rxN))

/-- A supply land of rows 11 to 36, columns 3 to 44 (R534). -/
def supplyLand (r c : Nat) : Land :=
  if r ≤ 16 ∧ c ≤ 4 then .gnd
  else if (r + c) % 2 = 0 then .gnd
  else if 14 ≤ r ∧ r ≤ 33 ∧ 13 ≤ c ∧ c ≤ 34 then .vcore
  else if 34 ≤ r then .vana
  else .vio

/-- What land (r, c) carries (R530-R534); none outside the array. -/
def landAt (r c : Nat) : Option Land :=
  if r < 1 ∨ 46 < r ∨ c < 1 ∨ 46 < c then none
  else if r ≤ 10 then some (fieldLand 0 r c)
  else if 37 ≤ r then some (fieldLand 1 (47 - r) c)
  else if c ≤ 2 then some (westLand r c)
  else if c ≤ 44 then some (supplyLand r c)
  else some (edgeLand r c)

/-- How many lands carry `x` (R534). -/
def landCount (x : Land) : Nat :=
  ((List.range 46).map (fun r => ((List.range 46).filter (fun c => landAt (r + 1) (c + 1) == some x)).length)).sum

/-! ## Field outputs (R340, R385-R393, R538-R541) -/

/-- The die of channel `n` (R531). -/
def dieOf (n : Nat) : Nat := n / 24

/-- The outputs of field die `d` can be on: its logic supplies are present, and its field supply is not reversed (R538,
R539). -/
def Blk.dieUp (b : Blk) (d : Nat) : Bool :=
  b.powered && !(b.flag Reg.MON_STATUS 7 && b.clp.vfBad.any (fun q => q.1 == d))

/-- An output land of channel `n` is driven: ENA active, its die up, and not switched off by its current limit (R340, R541). -/
def Blk.chanOn (b : Blk) (n : Nat) : Bool := b.dieUp (dieOf n) && b.axEna n && !(b.axis n).io.outOff

/-- ENA of channel `n` (R340). -/
def Blk.landEna (b : Blk) (n : Nat) : Bool := b.chanOn n

/-- DIR of channel `n` in the step modes (R342). -/
def Blk.landDir (b : Blk) (n : Nat) : Bool := b.chanOn n && b.dirLevel n (b.axis n).loop.dir

/-- The frequency of PWMA and PWMB in Hz (R340, R382). -/
def Blk.pwmHz (b : Blk) (n : Nat) : Nat :=
  match b.fld (Reg.AXS_AX_IO_CFG n) 7 6 with
  | 0 => 16000
  | 1 => 20000
  | 2 => 32000
  | _ => 40000

/-- The duty of PWMA of channel `n`, 50 % × (1 + o_k), PWMB complementary (R388); none while both are held low (R340). -/
def Blk.pwmDuty (b : Blk) (n : Nat) : Option Word :=
  if b.chanOn n && b.axMode n == 3 then some (fpMul (fpRound 1 2) (fpAdd (fpRound 1 1) (b.axis n).loop.out)) else none

/-- The current reference of channel `n` in steps of 2.5 mV, 0 while ENA is inactive (R340, R393). -/
def Blk.landIref (b : Blk) (n : Nat) : Nat := if b.chanOn n then ((b.axis n).loop.iref * 4 + 5) / 10 else 0

/-- An output of STO group `g`, A or B (R181, R182, R538). -/
def Blk.landSto (b : Blk) (g : Nat) (second : Bool) : Bool :=
  b.dieUp (g / 6) && bitOf (if second then b.clp.stoB else b.clp.stoA) g

end Sys2Proof.Machine
end

