-- ==== Sys2Proof/Tests/Slice0.lean ====
section
/-! SUPPORT. Sys2Proof/Tests/Slice0.lean: the model's own tests: what `WellFormed` refuses, one step of some commands on
small states with the result that the spec gives, and for every obligation a state and operands that meet its premises. -/

namespace Sys2Proof.Tests

open Sys2Proof Sys2Proof.Machine

set_option Elab.async false

/-! ## Small states -/

/-- A state of a working state, FIELD by its fuses, with no command waiting. -/
def st (b : Blk) : State := ⟨b, ⟨.field, 1⟩, []⟩

/-- A descriptor of ring 5 with an opcode, operand bytes from 0x18 on, FLAGS, NSLOT 1 and tag 7. -/
def kd (op : Nat) (ops : Bytes) (flags : Nat := 0) : Desc :=
  ⟨5, leBytes 2 op ++ leBytes 1 flags ++ leBytes 1 1 ++ leBytes 2 7 ++ zeros 10 ++ leBytes 8 99 ++ ops ++ zeros 24, 0⟩

/-- The operation of such a descriptor. -/
def opid : OpId := ⟨5, 7, 99, 2, 0⟩

/-- In service, at stage SERVICE. -/
def up : Blk := { pwr := { pstate := 1, stage := 7 } }

/-- A channel without a stop. -/
def noSrc : Chan := { stop := false, latch := 0 }

/-- Ring 5 a submission ring of 64 slots in RUN, ring 6 its completion ring of 256 entries in RUN. -/
def rings (b : Blk) : Blk :=
  ((((b.setReg (Reg.HST_RCFG 5) (word 0x61)).setReg (Reg.HST_RSCHED 5) (word 0x40603)).setReg
    (Reg.HST_RCFG 6) (word 0x83)).setRing 5 { state := .run }).setRing 6 { state := .run, phase := true, armed := true }

/-- A map of two undirected segments between three nodes. -/
def siteMap : SiteMap :=
  ⟨7, 0, [], [⟨0, 0, 0, 0⟩, ⟨1000, 0, 0, 0⟩, ⟨2000, 0, 0, 0⟩],
    [⟨0, 1, 1000, 500, 1000, 0, 0⟩, ⟨1, 2, 1000, 500, 1000, 0, 0⟩], [], [], []⟩

/-- No stop, a map in service at epoch 10; members 4 ACTIVE and 5 UNHEARD; segment 1 held by member 2. -/
def run0 : Blk := rings { up with
  clp := { up.clp with a := noSrc, b := noSrc, groups := [(0, .on), (1, .on), (2, .off)] }
  fleet := { up.fleet with
    map := some siteMap
    epoch := 10
    coh := {
      mortise := [{}, { holder := 3 }]
      members := [(4, { state := .active }), (5, { state := .unheard })]
      tasks := [] } } }

/-- The same ten seconds after power-up. -/
def run1 : Blk := { run0 with inv := { run0.inv with ft := 2 ^ 32 * 10000000000 } }

/-- The same during a stop with S = 9, ten seconds on. -/
def stopped0 : Blk := { run0 with
  clp := { run0.clp with a := {}, b := {}, s := 9, groups := [] },
  pwr := { run0.pwr with ready := true },
  inv := { run0.inv with ft := 2 ^ 32 * 10000000000 } }

/-- Ring 5 with indices, and ring 6 with entries that the host has not taken. -/
def hb : Blk := (run0.setRing 5 { state := .run, head := 60, tail := 63 }).setRing 6
  { state := .run, phase := true, armed := true, head := 3, tail := 10 }

/-- Completion ring 6 with nine held entries and TIMER 5. -/
def heldB : Blk := (hb.setReg (Reg.HST_RIRQ 6) (word (5 * 65536 + 3 * 256 + 9))).setRing 6
  { state := .run, phase := true, armed := true, head := 3, tail := 250, held := List.replicate 9 ⟨1, 2, 3, 4, 5, 6, 7⟩
    heldSince := 1000 }

/-- A pending coalesced axis entry for ring `cq`. -/
def coalB (cq : Nat) : Blk :=
  { hb.setReg Reg.HST_COAL_CFG (word (0x80 + cq)) with hst := { hb.hst with coal := some ⟨5, 1, 1, false⟩ } }

/-- An operation in flight. -/
def opB (b : Blk) : Blk := { b with hst := { b.hst with ops := [⟨opid, false, none⟩] } }

/-- A transaction of ring 5 with flags, AFTER epoch and actions. -/
def txnD (flags after : Nat) (acts : List Bytes) : Desc :=
  ⟨5, leBytes 2 0x0101 ++ leBytes 1 flags ++ leBytes 1 1 ++ leBytes 2 7 ++ zeros 1 ++ leBytes 1 acts.length ++ zeros 8
    ++ leBytes 8 99 ++ leBytes 8 after ++ acts.flatten ++ zeros 32, 0⟩

/-- A wait in the pool. -/
def waitW (onEpoch : Bool) (after : Nat) (acts : List Bytes) : Wait :=
  ⟨⟨.host opid, 0, 0, 0, after, acts, [], none, none, acts.length⟩, 0, 0, onEpoch, [⟨1, 2, 1⟩]⟩

/-- The block with these waits. -/
def waitB (b : Blk) (w : Wait) (freed : List Nat) : Blk := { b with dvt := { b.dvt with waits := [w], freed := freed } }

/-- The state that a step, or a command, gives. -/
def nextOf (s : State) : State := match step s with | .next t => t | _ => s
def nextCmd (c : Instr) (s : State) : State := match exec c s with | .next t => t | _ => s

/-- The block with member 4 as given. -/
def memB (b : Blk) (m : Member) : Blk := { b with fleet := { b.fleet with coh := { b.fleet.coh with members := [(4, m)] } } }

/-- A request of member 4 that guards the map, in its admission place; `n` quota units used. -/
def airT : Txn := ⟨.air 4 3, 0, 0, 0, 0, [mkAct 0x54 0 (leBytes 4 7)], [4], none, none, 1⟩
def admB (b : Blk) (n : Nat) : Blk :=
  { memB b { state := .active, used := n } with dvt := { b.dvt with admission := [(4, airT)] } }

/-- The heartbeat source enabled, with the last SEQ. -/
def hbB (p : Option Nat) : Blk :=
  ({ run0 with clp := { run0.clp with hbSeq := p } }).setReg Reg.CLP_SRC_CFG (word 0x03E80007)

/-- Air service with head 2 up, members 4 and 5 linked through it, and the keys of the air held. -/
def air0 : Blk :=
  (({ run0 with
    hdl := { run0.hdl with heads := [(2, { state := .up, eui := 77 })] }
    key := { run0.key with site := some (zeros 32) }
    air := { run0.air with
      links := [(4, { eui := 9, head := 2, elems := [{ etype := 0x8D, body := zeros 3 }] }), (5, { eui := 10, head := 2 })]
      kbcn := [(0, zeros 16), (1, zeros 16)]
      kp := [(0, zeros 32), (1, zeros 32)] } }).setReg (Reg.AIR_HEAD_CFG 2) (word 0x8000)).setReg Reg.AIR_CFG 0x1F

/-- The same with DOWN, POS_DL and BCAST slots, a queued solution and a queued answer. -/
def slotB : Blk := { air0 with air := { air0.air with
  maps := [(0, [{}, { owner := air0.short 4, kind := 2, head := 2 }, { kind := 4 }, { kind := 5 }])]
  posQueue := [⟨4, [], 0⟩]
  bcasts := [⟨false, true, 9, 1, zeros 20⟩] } }

/-- MIX 7 in its handshake during a stop. -/
def assocB (m : Member) : Blk := { stopped0 with
  fleet := { stopped0.fleet with coh := { stopped0.fleet.coh with members := [(7, m)] } }
  air := { stopped0.air with links := [(7, { eui := 8, handshake := true })] } }

/-- Member 4, twice missed, with a DATA element sent. -/
def sentB : Blk := { stopped0 with air := { stopped0.air with links := [(4, { eui := 9, miss := 2
                                                                              elems := [{ etype := 0x8D, body := [], op := some opid, sent := true, tries := 9 }] })] } }

/-- Heads 2 and 3 up during a stop, the site key held. -/
def headB : Blk := ({ stopped0 with
  hdl := { stopped0.hdl with heads := [(2, { state := .up, eui := 77 }), (3, { state := .up, eui := 78 })] }
  key := { stopped0.key with site := some (zeros 32) } }).setReg (Reg.AIR_HEAD_CFG 2) (word 0x8000)

/-- A HeadLink frame in an Ethernet frame. -/
def ethF (p : Bytes) : Bytes := zeros 12 ++ leBytes 1 (up.fld Reg.HDL_CFG 31 24) ++ leBytes 1 (up.fld Reg.HDL_CFG 23 16) ++ p
def hlF (typ : Nat) (body : Bytes) : Bytes :=
  let f := hlHeader typ 0xFF 0 body.length 0 ++ body
  ethF (f ++ leBytes 4 (crc32c f).toNat)
def bcopyF : Bytes := hlF 0x10 (zeros 8)
def helloF : Bytes := hlF 1 (leBytes 8 5 ++ zeros 16)

/-- GNS with an antenna limit of 900 mA and a lower limit of 5, ten seconds after power-up. -/
def gnsB (g : Gns) : Blk := { stopped0 with gns := g }.setReg Reg.GNS_ANT_CFG (word 0x5A050001)

/-- An orbit record of a GPS satellite, and a set of four of them. -/
def orbR (sv : Nat) : Bytes := [0] ++ leBytes 1 sv ++ zeros 22 ++ leBytes 4 7200 ++ zeros 172
def orbB : Blk := { stopped0 with pos := { orbit := some ⟨77, [orbR 1, orbR 2, orbR 3, orbR 4]⟩ } }

/-- The same with channel 3 as given. -/
def chanB (c : GChan) : Blk := { orbB with gns := { chans := [(3, c)] } }

/-- A snapshot of member 4, the header and the fragment of one. -/
def snapX : GSnap := ⟨4, none, 6, zeros 48, 4, [], 0, 0, none, false, false, 0, [], false⟩
def snapOn : Blk := run0.setReg Reg.GNS_SNAP_CFG (word 1)
def snapH (c : Nat) : Bytes :=
  [1, 0, 0, 0] ++ leBytes 4 1000000 ++ zeros 4 ++ leBytes 2 5 ++ zeros 26 ++ leBytes 4 c ++ zeros 4
def snapHdr : Bytes := snapH (crc32c (zeros 1023)).toNat

/-- POS as given; an epoch of member 4; a set of one record. -/
def posB (p : Pos) : Blk := { stopped0 with pos := p }
def epX : Epoch := { mix := 4, tm := 0, dt := 0, t0 := 0, data := zeros 16 }
def orbImg : Bytes :=
  let h := leBytes 4 0x4F4C5354 ++ leBytes 2 1 ++ leBytes 2 1 ++ leBytes 4 77
  h ++ leBytes 4 (crc32c (h ++ zeros 20 ++ orbR 1)).toNat ++ zeros 16 ++ orbR 1

/-- Axis 5 STEP_OPEN in a move, its group on. -/
def axC : Curve := ⟨0, 0, [⟨655360000000000, 65536, 0, 0⟩], 6553600⟩
def axB : Blk :=
  { run0 with
    inv := stopped0.inv
    clp := { run0.clp with groups := [(1, .on)] }
    axs := { run0.axs with axes := [(5, { mot := { plan := .move ⟨axC, none⟩ }, loop := { ena := true } })] } }.setReg
      (Reg.AXS_AX_CFG 5) 1#32 |>.setReg (Reg.AXS_AX_IO_CFG 5) 0
def axLoopB (l : AxLoop) : Blk := { axB with axs := { run0.axs with axes := [(5, { loop := l })] } }
def axIdleB : Blk := { axB with axs := run0.axs }
def encB : Blk := (axIdleB.setReg (Reg.AXS_AX_IO_CFG 5) (word (2 ^ 15))).setReg (Reg.AXS_AX_CFG 5) 2#32
def followX : FollowPlan := ⟨0, 0, 0, none⟩

/-- Table 3 being loaded, an image of it, and the table used by axis 5. -/
def loadB : Blk := { run0 with axs := { run0.axs with tables := [(3, { loading := [(opid, 40)] })] } }
def tableImg : Bytes :=
  let h := leBytes 4 0x544C5354 ++ leBytes 2 1 ++ leBytes 2 2 ++ zeros 4
  let k := zeros 12 ++ leBytes 4 100 ++ leBytes 4 5 ++ zeros 4
  h ++ leBytes 4 (crc32c (h ++ zeros 4 ++ k)).toNat ++ k
def tableRun : Blk := { run0 with dvt := { run0.dvt with
  unfinished := [⟨1, 0, .axs, 0x31, 5, 0, 0, 0, leBytes 2 3, [], false, false⟩] } }

/-- INV as given, fleet time ten seconds; LAN port 1 enabled; compare unit 4 with its effects. -/
def invB (i : Inv) : Blk := { stopped0 with inv := { i with ft := stopped0.inv.ft } }
def lanB (up : Bool) : Blk := (stopped0.setReg (Reg.INV_LAN_CFG 1) (word 0x88320000)).setLan 1 { up := up }
def lanD (port len : Nat) : Desc := kd 0x0610 (leBytes 1 port ++ [0] ++ leBytes 2 len ++ zeros 4 ++ leBytes 8 4096)
def cmpE (t mode : Nat) : Effect := ⟨3, t, .inv, 0x60, 4, 1, 0, 0, leBytes 1 mode, [], false, false⟩
def cmpB (es : List Effect) (x : CmpUnit) : Blk :=
  { run0 with fleet := { run0.fleet with effects := es } }.setCmp 4 x

/-- Queue 3 bound to ring 6, and a descriptor that binds. -/
def bindB : Blk := run0.setQueue 3 { bound := some ⟨6, 12, 65536, 0, 77, []⟩ }
def bindD (q ring : Nat) : Desc := kd 0x0701 (leBytes 1 q ++ leBytes 1 ring ++ [12] ++ zeros 5 ++ leBytes 8 65536)

/-- A measurement. -/
def monX : MonIn := ⟨800, 1800, 3300, 24000, 24000, 0, 0, 100, 70000, 250, -50, 1050, 300⟩

/-- Keys: unsealed, with a commissioned slot, with a loaded cache; a descriptor that imports; an operation running. -/
def keyB (k : Key) (b : Blk := stopped0) : Blk := { b with key := k }
def se : StoreEntry := ⟨3, false, 0, [1]⟩
def k0 : Key := { isSealed := false }
def k1 : Key := { k0 with slotA := { entries := [(0, se)], lcState := 3, lcCount := 1, commit := true } }
def kc : Key := { k0 with
  store := [(1, se)]
  cache := [(32, { gen := 3, used := true, attr := 3, entry := some 1 }), (34, { gen := 7, used := true, attr := 2 }),
    (35, { gen := 5, used := true, attr := 1 })] }
def updX : StoreUpd := ⟨opid, [], some 1, none⟩
def impD (e attr : Nat) : Desc := kd 0x0802 (leBytes 1 e ++ leBytes 1 attr ++ zeros 14 ++ leBytes 4 32)
def runB (op : Nat) (ops data : Bytes) : Blk := keyB { kc with running := [⟨kd op ops, data, []⟩] }

/-- EVR as given, a record, a read of it. -/
def evrB (e : Evr) : Blk := { run0 with evr := e }
def recX (n : Nat) : Rec := ⟨n, 1, 0, 1, 5, 0, 0, []⟩
def evrD : Desc := kd 0x0901 ([1, 0, 0, 0] ++ leBytes 4 9 ++ leBytes 8 5 ++ leBytes 8 64)

/-- Power: a descriptor, and a state in SLEEP or OFF. -/
def pwrD (t w : Nat) : Desc := kd 0x0C03 (leBytes 1 t ++ zeros 3 ++ leBytes 4 w)
def sleepB (p w : Nat) (wanted : Option Nat) : Blk := { stopped0 with pwr := { stopped0.pwr with
  pstate := p
  wakeS := w
  ready := false
  stage := 0
  asleepAt := stopped0.optime
  wanted := wanted } }

/-- Surveys: one in progress, descriptors, measured values, stored results. -/
def surB (v : Option Survey) : Blk := { run0 with pwr := { run0.pwr with survey := v } }
def surX : Survey := ⟨none, 0x1F, 0x1F, 0xFF, 64, 0, 0, false, false⟩
def surD (items size : Nat) : Desc := kd 0x0C01 (leBytes 1 items ++ [0xFF, 0, 0] ++ leBytes 4 size ++ leBytes 8 64)
def surI : SurveyIn := ⟨1, [], [], [], [], [], [], 0, [], []⟩
def surR (n size : Nat) : Desc := kd 0x0C02 (leBytes 1 n ++ zeros 3 ++ leBytes 4 size ++ leBytes 8 64)
def storedB : Blk := { run0 with pwr := { run0.pwr with surveys := [(0, ⟨3, zeros 100⟩)] } }

/-- READY holds: unsealed, with the site's key. -/
def readyB : Blk := { stopped0 with key := { isSealed := false, store := [(0, se)] } }

/-! ## What an outcome or a verdict is -/

theorem nextOf_eq (s : State) (h : (match step s with | .next _ => true | _ => false) = true) : step s = .next (nextOf s) := by
  unfold nextOf
  split at h <;> simp_all

theorem nextCmd_eq (c : Instr) (s : State) (h : (match exec c s with | .next _ => true | _ => false) = true) :
    exec c s = .next (nextCmd c s) := by
  unfold nextCmd
  split at h <;> simp_all

theorem commits : (v : Verdict) → (match v with | .commit _ => true | _ => false) = true → ∃ w, v = .commit w
  | .commit w, _ => ⟨w, rfl⟩

theorem aborts : (v : Verdict) → (match v with | .abort _ _ => true | _ => false) = true → ∃ s d, v = .abort s d
  | .abort s d, _ => ⟨s, d, rfl⟩

theorem parks : (v : Verdict) → (match v with | .wait _ => true | _ => false) = true → ∃ es, v = .wait es
  | .wait es, _ => ⟨es, rfl⟩

theorem oks {α : Type} : (v : Except Nat α) → (match v with | .ok _ => true | .error _ => false) = true → ∃ o, v = .ok o
  | .ok o, _ => ⟨o, rfl⟩

theorem errs {α : Type} : (v : Except Nat α) → (match v with | .error _ => true | .ok _ => false) = true →
    ∃ k, v = .error k
  | .error k, _ => ⟨k, rfl⟩

theorem noQueue (k : Nat) : ((st run0).blk.queue k).ptrBad = false := by
  have h : run0.mem.queues = [] := by decide +kernel
  show (Tab.val run0.mem.queues k {}).ptrBad = false
  rw [h]; simp only [Tab.val]; decide

theorem le_snapH (c : Nat) (h : c < 2 ^ 32) : le (slice (snapH c) 0 48) 40 4 = c := by
  simp [snapH, le, byteAt, slice, leBytes, zeros, List.range, List.range.loop, List.replicate]
  omega

theorem snapCrc : (crc32c (slice snapHdr 48 (snapBytes (byteAt (slice snapHdr 0 48) 1)))).toNat
    = le (slice snapHdr 0 48) 40 4 := by
  have h1 : snapBytes (byteAt (slice snapHdr 0 48) 1) = 1023 := by decide +kernel
  have h2 : slice snapHdr 48 1023 = zeros 1023 := by decide +kernel
  rw [h1, h2]
  exact (le_snapH _ (crc32c (zeros 1023)).isLt).symm

/-- Member 4 evicted with a last EVICT element `l` and its effect. -/
def evE : Effect := ⟨3, 0, .air, 67, 4, 1, 0, 0, [], [], false, false⟩
def evctB (es : List Elem) (fs : List Effect) : Blk := { run0 with
  fleet := { (memB run0 { state := .evicted }).fleet with effects := fs }
  air := { run0.air with links := [(4, { keepUplinks := true, elems := es })] } }

/-- Planes mode with a completed operation of ring 2, and ring 3 in RUN. -/
def planesOp : Op := ⟨⟨2, 7, 99, 4, 0⟩, false, some ⟨7, 0, 2, 0, 0, 0, 99⟩⟩
def planesB : Blk := { hb.setRing 3 { state := .run } with hst := { (hb.setRing 3 { state := .run }).hst with
  planes := true
  ops := [planesOp] } }

/-- A correlation that finds its satellite, and one that finds none. -/
def acqX : AcqObs := ⟨0, List.replicate 127 1000, List.replicate 127 1, List.replicate 127 1000, List.replicate 127 1, 0, 0⟩
def acqNo : AcqObs := ⟨0, [], [], [], [], 0, 0⟩

def snapBad : Bytes := snapH (((crc32c (zeros 1023)).toNat + 1) % 2 ^ 32)

theorem snapCrcBad : ¬ (crc32c (slice snapBad 48 (snapBytes (byteAt (slice snapBad 0 48) 1)))).toNat
    = le (slice snapBad 0 48) 40 4 := by
  have h1 : snapBytes (byteAt (slice snapBad 0 48) 1) = 1023 := by decide +kernel
  have h2 : slice snapBad 48 1023 = zeros 1023 := by decide +kernel
  have h3 := (crc32c (zeros 1023)).isLt
  rw [h1, h2]
  unfold snapBad
  rw [le_snapH _ (by omega)]
  omega

/-- A stop with a window sent to head 2 that it has not reported. -/
def windB : Blk := { stopped0 with hdl := { stopped0.hdl with
  window := some 5, winMask := 3, heads := [(2, { state := .up, winSent := 16 })] } }

/-! ## What cannot come -/

/-- R71: a descriptor is one to five whole slots. -/
theorem test_wf_slots : WellFormed (.txn ⟨5, zeros 63, 0⟩ true) = false ∧ WellFormed (.txn ⟨5, [], 0⟩ true) = false ∧
    WellFormed (.txn ⟨5, zeros 384, 0⟩ true) = false ∧ WellFormed (.txn ⟨5, zeros 320, 0⟩ true) = true ∧
    WellFormed (.slotsOnChip 5 (zeros 65) false) = false ∧ WellFormed (.slotsOnChip 5 (zeros 128) false) = true := by
  decide +kernel

/-- NSLOT, TAG and an address of the host have their widths. -/
theorem test_wf_host : WellFormed (.descriptorFetch 256) = false ∧ WellFormed (.descriptorFetch 255) = true ∧
    WellFormed (.hstDmaErr 5 1024 0) = false ∧ WellFormed (.hstDmaErr 5 7 (2 ^ 64)) = false ∧
    WellFormed (.hstDmaErr 5 7 64) = true := by decide +kernel

/-- A frame holds a byte. -/
theorem test_wf_frame : WellFormed (.helloRx 2 []) = false ∧ WellFormed (.helloRx 2 (zeros 1523)) = false ∧
    WellFormed (.helloRx 2 (zeros 60)) = true := by decide +kernel

/-- R513: a register is a DW of the 1 MiB of BAR0. -/
theorem test_wf_offset : WellFormed (.registerWrite 0x100000 0 true) = false ∧
    WellFormed (.registerWrite 0x22 0 true) = false ∧ WellFormed (.latchedLoRead 0x1D) = false ∧
    WellFormed (.readClearCounter 0x100001) = false ∧ WellFormed (.registerWrite 0xFFFFC 0 true) = true := by decide +kernel

/-- R442: a bank has 196,608 words. -/
theorem test_wf_word : WellFormed (.eccUncorrectable 0 196608 2 0) = false ∧
    WellFormed (.eccUncorrectable 0 196607 2 0) = true := by decide +kernel

/-- An access to the SRAM names a word, an axis and a queue that exist. -/
theorem test_wf_access : wfAcc ⟨0, 0, 196608, false, 0, 0, 0⟩ = false ∧
    wfAcc ⟨0, 0, 5, false, 5, 0, 0⟩ = false ∧
    wfAcc ⟨1, 0, 5, false, 0, 0, 48⟩ = false ∧
    wfAcc ⟨8, 0, 5, false, 0, 0, 64⟩ = false ∧
    wfAcc ⟨8, 0, 5, false, 4, 0, 63⟩ = true := by decide +kernel

/-- R451: a block of the MRAM is read again at most twice, and given up only then. -/
theorem test_wf_reads : WellFormed (.recordCommit [⟨32768, 1, true⟩]) = false ∧
    WellFormed (.recordCommit [⟨1, 0, true⟩]) = false ∧ WellFormed (.recordCommit [⟨1, 3, false⟩]) = false ∧
    WellFormed (.recordCommit [⟨1, 1, false⟩]) = false ∧ WellFormed (.recordCommit [⟨1, 2, false⟩]) = true := by
  decide +kernel

/-- R7, R222, R231: an island without a PLL loses no lock; reference epochs are 50 ms apart, snapshot starts 25 ms. -/
def wfGrid : Bool := !WellFormed (.pllLockLoss .aon false) && WellFormed (.pllLockLoss .inv true) &&
  !WellFormed (.referenceEpoch 25000000 []) && WellFormed (.referenceEpoch 50000000 []) &&
  !WellFormed (.snapProcessStart 1) && WellFormed (.snapProcessStart 25000000)

theorem test_wf_grid : wfGrid = true := by decide +kernel

/-! ## One step -/

/-- What holds of the working state after one step with the command at the front of the queue. -/
def after (c : Instr) (b : Blk) (p : Blk → Bool) : Bool :=
  match step { st b with pending := [c] } with
  | .next t => t.pending.isEmpty && p t.blk
  | _ => false

/-- A completion with this status and DETAIL. -/
def done (b : Blk) (s d : Nat) : Bool :=
  b.out.any (fun o => match o with | .completion _ e => e.status == s && e.detail == d | _ => false)

/-- Both channels assert a stop with this source latched. -/
def stopBy (b : Blk) (k : Nat) : Bool :=
  b.clp.a.stop && b.clp.b.stop && bitOf b.clp.a.latch k && bitOf b.clp.b.latch k

/-- READY high, with entry 0 of the store. -/
def okb : Blk := { stopped0 with key := { isSealed := false, store := [(0, ⟨3, false, 0, [1]⟩)] } }

/-- R500, R551: after reset READY is low and both channels stop. -/
theorem test_reset : State.reset.blk.stopped = true ∧ State.reset.blk.pwr.ready = false ∧ State.reset.pending = [] := by
  decide +kernel

/-- R514: a reserved offset reads 0 and keeps nothing. -/
theorem test_reserved : after (.registerWrite 0x40 7 true) okb (fun b => b == okb) = true := by decide +kernel

/-- R515: a write with a byte enable clear is counted. -/
theorem test_partial_write : after (.registerWrite Reg.DVT_ARB_CFG 0x00500000 false) okb (fun b =>
    b.reg Reg.DVT_ARB_CFG == okb.reg Reg.DVT_ARB_CFG && b.reg Reg.SYS_ACC_ERR_COUNT == 1) = true := by decide +kernel

/-- R519: the fields are clamped one by one. -/
theorem test_clamp : after (.registerWrite Reg.DVT_ARB_CFG 0x00500000 true) okb (fun b =>
    b.reg Reg.DVT_ARB_CFG == 0x00400101 && b.reg Reg.SYS_CLAMP_COUNT == 3) = true := by decide +kernel

/-- R516: a read of INV_TIME_SEC_LO latches the rest of the time. -/
theorem test_latch : after (.latchedLoRead Reg.INV_TIME_SEC_LO)
    { okb with inv := { okb.inv with ft := 2 ^ 32 * (2 ^ 32 * 1000000000 + 7) + 2 ^ 31 } } (fun b =>
    b.readReg ⟨.field, 1⟩ Reg.INV_TIME_SEC_HI == 1 && b.readReg ⟨.field, 1⟩ Reg.INV_TIME_NS == 7 &&
    b.readReg ⟨.field, 1⟩ Reg.INV_TIME_FRAC == 0x8000) = true := by decide +kernel

/-- R517: a counter is cleared by its read. -/
theorem test_read_clear : after (.readClearCounter Reg.DVT_COMMIT_COUNT) (okb.setReg Reg.DVT_COMMIT_COUNT 9) (fun b =>
    b.lastRead == 9 && b.reg Reg.DVT_COMMIT_COUNT == 0) = true := by decide +kernel

/-- R173, R177: one open circuit of a loop stops the site. -/
theorem test_loop_open : after (.estopLoopOpen 1 false true) run0 (fun b => stopBy b 1 && (b.loopOf 1).closedA) = true := by
  decide +kernel

/-- R173: a STOP request bit of CLP_STOP_REQ stops the site. -/
theorem test_stop_req : after (.clpStopReqWrite 3) run0 (fun b => stopBy b 4) = true := by decide +kernel

/-- R176: a heartbeat that repeats its SEQ is counted. -/
theorem test_hb_repeat : after (.clpHbWrite 3) (hbB (some 3)) (fun b =>
    b.clp.hbSeq == some 3 && b.reg Reg.CLP_HB_BAD_COUNT == 1) = true := by decide +kernel

/-- R182: a dark test that finds an output stuck stops the site and keeps it off. -/
theorem test_dark : after (.stoDarkTest 1 true false) run0 (fun b =>
    stopBy b 9 && b.clp.faultCode == 4 && b.clp.faultArg == 1) = true := by decide +kernel

/-- R178: a discrepancy stops the site. -/
theorem test_discrepancy : after (.estopDiscrepancy 1000000000000 1) (run0.setLoop 1 { closedA := true }) (fun b =>
    stopBy b 1 && b.flag (Reg.CLP_ES_STATUS 1) 6) = true := by decide +kernel

/-- R203: a register marked (S) keeps its value while no stop is asserted, and the try is reported. -/
theorem test_stop_only : after (.registerWrite Reg.CLP_REL_CFG 0x0A1407D0 true)
    { run0 with key := okb.key, pwr := { run0.pwr with ready := true } } (fun b =>
    b.reg Reg.CLP_REL_CFG == run0.reg Reg.CLP_REL_CFG && b.reg Reg.SYS_CLAMP_COUNT == 1) = true := by decide +kernel

/-- R434: a pop gives the item's header and data and frees it. -/
theorem test_pop : after (.queuePop 3 []) (stopped0.setQueue 3 { items := [⟨false, 3, 0x62, 0, 0, [1, 2, 3], 0⟩] }) (fun b =>
    b.mem.popHdr == word (3 * 65536 + 0x62 * 256) && b.mem.popData == [1, 2, 3] && (b.queue 3).items == []) = true := by
  decide +kernel

/-- R433: an open item at the front cannot be popped. -/
theorem test_pop_open : after (.queuePop 3 [⟨0, 0⟩]) (stopped0.setQueue 3 { items := [⟨false, 2, 0x62, 0, 0, [1, 2, 3], 0⟩] }) (fun b =>
    b.mem.popHdr == 0) = true := by decide +kernel

/-- R435, the example: the flush loses the three committed items, and 20 words of the open one stay as VOID. -/
theorem test_flush : after (.queueFlush (kd 0x0703 (leBytes 8 8)) [⟨3, [⟨7413, 20⟩]⟩]) (stopped0.setQueue 3 {
      nextSeq := 7414, items := [⟨false, 53, 0x41, 0, 7410, [], 0⟩, ⟨false, 53, 0x41, 0, 7411, [], 0⟩,
        ⟨false, 53, 0x41, 0, 7412, [], 0⟩, ⟨false, 53, 0x41, 0, 7413, zeros 416, 0⟩] }) (fun b =>
    (b.queue 3).items == [⟨false, 21, 0xFF, 0, 7413, zeros 160, 0⟩] && (b.queue 3).nextSeq == 7414
      && b.reg (Reg.QUE_Q_LOST_COUNT 3) == 3 && b.reg Reg.QUE_VOID_COUNT == 1 && done b St.done 3) = true := by
  decide +kernel

/-- R418: Delay_Resp completes the exchange: ((100 − 0) + (260 − 200)) / 2 = 80 ns. -/
theorem test_ptp : after (.lanFrameRx 0 1 (zeros 12 ++ [0x88, 0xF7, 9] ++ zeros 30 ++ [5] ++ zeros 2 ++ zeros 8 ++ [1, 4] ++ zeros 10))
    ((lanB true).setLan 1 { up := true, sync := some ⟨7, some 0, 6553600, 0⟩, req := some ⟨5, 0, 13107200⟩ }) (fun b =>
    (b.lanPort 1).sum == 80000 && (b.lanPort 1).num == 1 && (b.lanPort 1).req == none) = true := by decide +kernel

/-- R530, R541: the lands of the map's table. -/
theorem test_lands : landAt 5 28 = some (.channel 13 0) ∧ landNumber 5 28 = 212 ∧ landAt 42 45 = some (.sto 10 false) ∧
    landNumber 42 45 = 1931 := by decide +kernel

/-- R534: how many lands supply VCORE, VIO and VANA. -/
theorem test_land_supplies : landCount .vcore = 220 ∧ landCount .vio = 257 ∧ landCount .vana = 63 := by decide +kernel

/-- R446: the scrub goes through every word of every bank and begins again. -/
theorem test_scrub : after (.sramScrub none []) { stopped0 with mem := { stopped0.mem with scrubBank := 15, scrubWord := 196607 } }
    (fun b => b.mem.scrubBank == 0 && b.mem.scrubWord == 0) = true := by decide +kernel

/-- R206: a current above the limit is a shorted antenna. -/
theorem test_antenna : after (.antennaCurrentSample 1600)
    { stopped0.setReg Reg.GNS_ANT_CFG 0x5A050001 with gns := { ant := 1 } } (fun b =>
    b.gns.ant == 3 && b.gns.iMeas == 1600) = true := by decide +kernel

/-- R407: the loss of REFCLK hands fleet time to the RC oscillator. -/
theorem test_refclk : after .refclkLoss run0 (fun b => b.inv.rcClock && !b.tq) = true := by decide +kernel

/-- R414: PPS_OUT gives one pulse a second while enabled. -/
theorem test_pps : after (.ppsOutPulse 11000000000)
    ({ stopped0 with inv := { stopped0.inv with ppsSecond := 10 } }.setReg Reg.INV_PPS_CFG 0x80640007) (fun b =>
    b.inv.ppsSecond == 11 && b.out == [.pps 11 100 true 7]) = true := by decide +kernel

/-- R463: a sealed store takes no key. -/
theorem test_sealed : after (.keyInstall (kd 0x0801 (zeros 8)) []) { stopped0 with key := {} } (fun b =>
    done b St.keySealed 0) = true := by decide +kernel

/-- R467: a life cycle not in the table is refused. -/
theorem test_lc : after (.lcChange (kd 0x080C (leBytes 8 2))) { stopped0 with key := { isSealed := false } } (fun b =>
    done b St.keyLcTarget 3) = true := by decide +kernel

/-- R478, R485: nothing is read before the scan has ended. -/
theorem test_evr_not_scanned : after (.evrRead (kd 0x0901 (leBytes 4 1 ++ leBytes 4 9 ++ leBytes 8 5 ++ leBytes 8 64)))
    { stopped0 with evr := { next := 10 } } (fun b => done b St.notReady 0) = true := by decide +kernel

/-- R510: no restart outside a stop. -/
theorem test_restart_refused : after (.systemRestart (kd 0x0C04 [])) run0 (fun b => done b 0x21 1) = true := by
  decide +kernel

/-- R510, R495: a restart begins the boot again and keeps the stop. -/
theorem test_restart : after (.systemRestart (kd 0x0C04 [])) stopped0 (fun b =>
    done b 0 0 && b.pwr.stage == 0 && b.fleet.map == none && b.clp.a.stop && b.regs == []) = true := by decide +kernel

/-- R143: a descriptor with an unknown flag is malformed. -/
theorem test_flags : after (.queueUnbind (kd 0x0702 [3] 0x80)) stopped0 (fun b =>
    b.out.any (fun o => match o with | .completion _ e => e.status == St.malformed | _ => false)) = true := by
  decide +kernel

/-- R261: the first epoch ready is taken to be solved. -/
theorem test_admit : after .posEpochAdmit { stopped0 with pos := { ready := [epX] } } (fun b =>
    b.pos.solving.length == 1 && b.pos.counting == 1) = true := by decide +kernel

/-- R296: a DOWN slot goes to the member that it names. -/
theorem test_down : after (.downSlotTx 4) slotB (fun b =>
    (b.link 4).tx == 1 && (b.link 4).elems.all (fun e => e.sent) && b.out.length == 1) = true := by decide +kernel

/-- R343, R350: an encoder error in closed-loop mode faults the axis and its group. -/
theorem test_quad : after (.encoderQuadError 5) ((({ run0 with
      clp := { run0.clp with groups := [(1, .on)] } }).setReg (Reg.AXS_AX_IO_CFG 5) 0x8000).setReg (Reg.AXS_AX_CFG 5) 2) (fun b =>
    (b.axis 5).fault == 6) = true := by decide +kernel

/-- R417: a LAN port that is not enabled takes no frame. -/
theorem test_disabled_lan : after (.lanFrameRx 5 1 (zeros 64)) (stopped0.setReg (Reg.INV_LAN_CFG 1) 0) (fun b =>
    b.lanPort 1 == stopped0.lanPort 1) = true := by decide +kernel

/-- R320: a head that is up stays up over a frame that is no HELLO. -/
theorem test_hello : after (.helloRx 2 [1]) headB (fun b => (b.head 2).state == .up) = true := by decide +kernel

/-- R489: without power a command other than the AON island's does nothing. -/
theorem test_unpowered : after (.registerWrite Reg.SYS_SCRATCH 7 true)
    { okb with pwr := { okb.pwr with pstate := 4 } } (fun b => b.regs == okb.regs) = true := by decide +kernel

/-- A step on the empty queue is one edge of INV (R405). -/
theorem test_edge : (nextOf (st run0)).blk.inv.ft = run0.inv.ft + run0.incVal := by decide +kernel

/-! ## For every obligation, what meets its premises -/

set_option maxRecDepth 10000

/-- What AnEmptyQueueIsOneEdge assumes can be met, clause by clause. -/
theorem test_witness_AnEmptyQueueIsOneEdge :
    (∃ (s : State), s.pending = [] ∧ s.blk.powered = false) ∧
    (∃ (s : State), s.pending = [] ∧ s.blk.powered = true ∧ s.blk.invEdge.settleAir.nextHeld = none) ∧
    (∃ (s : State) (d : Desc), s.pending = [] ∧ s.blk.powered = true ∧ s.blk.invEdge.settleAir.nextHeld = some d) ∧
    (∃ (s : State), s.pending = [] ∧ s.blk.powered = true ∧ s.blk.inv.rcClock = false) :=
  ⟨⟨st { up with pwr := { pstate := 3 } }, by decide +kernel⟩,
    ⟨st up, by decide +kernel⟩,
    ⟨st { rings up with hst := { (rings up).hst with fenced := [kd 0x0203 []] } }, kd 0x0203 [], by decide +kernel⟩,
    ⟨st up, by decide +kernel⟩⟩

/-- What DescriptorsAreHeldAndChecked assumes can be met, clause by clause. -/
theorem test_witness_DescriptorsAreHeldAndChecked :
    (∃ (c : Instr) (s : State) (d : Desc), c.desc = some d ∧ s.blk.powered = true ∧ (∀ (i : Island), c.island = some i → s.blk.clocked i = true) ∧ s.blk.inLine s.ident ∧ (s.blk.enter d.id d.fence).fenceBlocked d = true) ∧
    (∃ (c : Instr) (s : State) (d : Desc) (reason : Nat) (off : Nat), c.desc = some d ∧ s.blk.powered = true ∧ (∀ (i : Island), c.island = some i → s.blk.clocked i = true) ∧ s.blk.inLine s.ident ∧ s.blk.unfenced d ∧ d.headerFault = some (reason, off)) :=
  ⟨⟨.mapDiscard (kd 0x0203 [] 2), st { run0 with hst := { run0.hst with ops := [⟨⟨5, 8, 99, 2, 0⟩, false, none⟩] } }, kd 0x0203 [] 2, rfl, by decide +kernel, by rintro i ⟨⟩; decide +kernel, by unfold Blk.inLine; decide +kernel, by decide +kernel⟩,
    ⟨.mapDiscard (kd 0x0203 [] 4), st run0, kd 0x0203 [] 4, _, _, rfl, by decide +kernel, by rintro i ⟨⟩; decide +kernel, by unfold Blk.inLine; decide +kernel, by unfold Blk.unfenced; decide +kernel, rfl⟩⟩

/-- What TheLifeCycleFollowsItsTable assumes can be met, clause by clause. -/
theorem test_witness_TheLifeCycleFollowsItsTable :
    ∃ (s : State) (t : State), s.ident.legal ∧ step s = Host.Outcome.next t :=
  ⟨st up, nextOf (st up), by unfold Ident.legal; decide +kernel, nextOf_eq _ (by decide +kernel)⟩

/-- What ReadyFollowsItsConditions assumes can be met, clause by clause. -/
theorem test_witness_ReadyFollowsItsConditions :
    ∃ (s : State) (t : State), (s.blk.powered = true → s.blk.inLine s.ident) ∧ step s = Host.Outcome.next t ∧ t.blk.powered = true :=
  ⟨st up, nextOf (st up), by unfold Blk.inLine; decide +kernel, nextOf_eq _ (by decide +kernel), by decide +kernel⟩

/-- What OnlyReleaseEndsAStop assumes can be met, clause by clause. -/
theorem test_witness_OnlyReleaseEndsAStop :
    ∃ (c : Instr) (s : State) (t : State), exec c s = Host.Outcome.next t ∧ s.blk.stopped = true ∧ t.blk.stopped = false :=
  ⟨.release (kd 0x0B02 (leBytes 8 9)), st stopped0, nextCmd (.release (kd 0x0B02 (leBytes 8 9))) (st stopped0), nextCmd_eq _ _ (by decide +kernel), by decide +kernel⟩

/-- What ResetLeavesTheDeviceStopped assumes can be met, clause by clause. -/
theorem test_witness_ResetLeavesTheDeviceStopped :
    (∃ (n : Nat), n < 16) ∧
    (∃ (n : Nat), n < 64) :=
  ⟨⟨15, by decide +kernel⟩,
    ⟨63, by decide +kernel⟩⟩

/-- What DoorbellsAreTakenByTheirRings assumes can be met, clause by clause. -/
theorem test_witness_DoorbellsAreTakenByTheirRings :
    (∃ (s : State) (ring : Ring128) (half : DbHalf), s.blk.runs Island.hst = true ∧ s.blk.isCq ↑ring = false ∧ half = DbHalf.high) ∧
    (∃ (s : State) (ring : Ring128) (value : DWord) (half : DbHalf) (v : Nat), s.blk.runs Island.hst = true ∧ s.blk.isCq ↑ring = false ∧ dbValue value half = some v ∧ (s.blk.ring ↑ring).state = RingState.off) ∧
    (∃ (s : State) (ring : Ring128) (value : DWord) (half : DbHalf) (v : Nat), s.blk.runs Island.hst = true ∧ s.blk.isCq ↑ring = false ∧ dbValue value half = some v ∧ (s.blk.ring ↑ring).state ≠ RingState.off ∧ v % 2 ^ 16 < s.blk.ringSize ↑ring ∧ ((s.blk.ring ↑ring).tail + s.blk.ringSize ↑ring - (s.blk.ring ↑ring).head) % s.blk.ringSize ↑ring ≤ (v % 2 ^ 16 + s.blk.ringSize ↑ring - (s.blk.ring ↑ring).head) % s.blk.ringSize ↑ring) ∧
    (∃ (s : State) (ring : Ring128) (value : DWord) (half : DbHalf) (v : Nat), s.blk.runs Island.hst = true ∧ s.blk.isCq ↑ring = false ∧ dbValue value half = some v ∧ (s.blk.ring ↑ring).state ≠ RingState.off ∧ (¬(v % 2 ^ 16 < s.blk.ringSize ↑ring ∧ ((s.blk.ring ↑ring).tail + s.blk.ringSize ↑ring - (s.blk.ring ↑ring).head) % s.blk.ringSize ↑ring ≤ (v % 2 ^ 16 + s.blk.ringSize ↑ring - (s.blk.ring ↑ring).head) % s.blk.ringSize ↑ring))) ∧
    (∃ (s : State) (ring : Ring128) (half : DbHalf), s.blk.runs Island.hst = true ∧ s.blk.isCq ↑ring = true ∧ half = DbHalf.high) ∧
    (∃ (s : State) (ring : Ring128) (value : DWord) (half : DbHalf) (v : Nat), s.blk.runs Island.hst = true ∧ s.blk.isCq ↑ring = true ∧ dbValue value half = some v ∧ (s.blk.ring ↑ring).state = RingState.off) ∧
    (∃ (s : State) (ring : Ring128) (value : DWord) (half : DbHalf) (v : Nat), s.blk.runs Island.hst = true ∧ s.blk.isCq ↑ring = true ∧ dbValue value half = some v ∧ (s.blk.ring ↑ring).state ≠ RingState.off ∧ v % 2 ^ 16 < s.blk.ringSize ↑ring ∧ (v % 2 ^ 16 + s.blk.ringSize ↑ring - (s.blk.ring ↑ring).head) % s.blk.ringSize ↑ring ≤ ((s.blk.ring ↑ring).tail + s.blk.ringSize ↑ring - (s.blk.ring ↑ring).head) % s.blk.ringSize ↑ring) ∧
    (∃ (s : State) (ring : Ring128) (value : DWord) (half : DbHalf) (v : Nat), s.blk.runs Island.hst = true ∧ s.blk.isCq ↑ring = true ∧ dbValue value half = some v ∧ (s.blk.ring ↑ring).state ≠ RingState.off ∧ (¬(v % 2 ^ 16 < s.blk.ringSize ↑ring ∧ (v % 2 ^ 16 + s.blk.ringSize ↑ring - (s.blk.ring ↑ring).head) % s.blk.ringSize ↑ring ≤ ((s.blk.ring ↑ring).tail + s.blk.ringSize ↑ring - (s.blk.ring ↑ring).head) % s.blk.ringSize ↑ring))) :=
  ⟨⟨st hb, 5, .high, by decide +kernel⟩,
    ⟨st up, 0, 0x3F, .low, 0x3F, by decide +kernel⟩,
    ⟨st hb, 5, 59, .full, 59, by decide +kernel⟩,
    ⟨st hb, 5, 62, .low, 62, by decide +kernel⟩,
    ⟨st hb, 6, .high, by decide +kernel⟩,
    ⟨st (hb.setRing 6 {}), 6, 7, .full, 7, by decide +kernel⟩,
    ⟨st hb, 6, 0x1000A, .full, 0x1000A, by decide +kernel⟩,
    ⟨st hb, 6, 11, .low, 11, by decide +kernel⟩⟩

/-- What DescriptorsAreFetchedAndDispatched assumes can be met, clause by clause. -/
theorem test_witness_DescriptorsAreFetchedAndDispatched :
    (∃ (s : State) (n : Nat) (k : Nat), s.blk.runs Island.hst = true ∧ s.blk.pickRing = some (n, k) ∧ (s.blk.ring n).head < s.blk.ringSize n) ∧
    (∃ (s : State) (ring : Ring128) (bytes : Bytes), s.blk.runs Island.hst = true ∧ (s.blk.ring ↑ring).state = RingState.run ∧ s.blk.isCq ↑ring = false ∧ s.blk.flag (Reg.HST_RCFG ↑ring) 2 = false ∧ s.blk.hst.planes = false ∧ 1 ≤ (Desc.mk ring bytes s.blk.hst.flrs).nslot ∧ (Desc.mk ring bytes s.blk.hst.flrs).nslot ≤ 5 ∧ (Desc.mk ring bytes s.blk.hst.flrs).nslotOk false = true) ∧
    (∃ (s : State) (ring : Ring128) (bytes : Bytes), s.blk.runs Island.hst = true ∧ (s.blk.ring ↑ring).state = RingState.run ∧ s.blk.isCq ↑ring = false ∧ s.blk.flag (Reg.HST_RCFG ↑ring) 2 = true ∧ 1 ≤ (Desc.mk ring bytes s.blk.hst.flrs).nslot ∧ (Desc.mk ring bytes s.blk.hst.flrs).nslot ≤ 5 ∧ BitVec.toNat (crc32c (slice bytes 0 (64 * (Desc.mk ring bytes s.blk.hst.flrs).nslot - 4))) ≠ le bytes (64 * (Desc.mk ring bytes s.blk.hst.flrs).nslot - 4) 4 ∧ (s.blk.ring ↑ring).refetched = false) ∧
    (∃ (s : State) (ring : Ring128) (bytes : Bytes), s.blk.runs Island.hst = true ∧ (s.blk.ring ↑ring).state = RingState.run ∧ s.blk.isCq ↑ring = false ∧ s.blk.flag (Reg.HST_RCFG ↑ring) 2 = true ∧ 1 ≤ (Desc.mk ring bytes s.blk.hst.flrs).nslot ∧ (Desc.mk ring bytes s.blk.hst.flrs).nslot ≤ 5 ∧ BitVec.toNat (crc32c (slice bytes 0 (64 * (Desc.mk ring bytes s.blk.hst.flrs).nslot - 4))) ≠ le bytes (64 * (Desc.mk ring bytes s.blk.hst.flrs).nslot - 4) 4 ∧ (s.blk.ring ↑ring).refetched = true) ∧
    (∃ (s : State) (ring : Ring128), s.blk.runs Island.hst = true ∧ (s.blk.ring ↑ring).state = RingState.run ∧ s.blk.isCq ↑ring = false) ∧
    (∃ (s : State) (d : Desc), s.blk.runs Island.hst = true ∧ (⟨d.id, d.fence, none⟩ : Op) ∈ s.blk.hst.ops ∧ d.cls ≠ 1 ∧ (∀ (o : Op), o ∈ s.blk.hst.ops → o.id.ring = ↑d.ring → o.id.tag = d.tagField % 1024 → o = (⟨d.id, d.fence, none⟩ : Op))) :=
  ⟨⟨st hb, 5, 1, by decide +kernel⟩,
    ⟨st hb, 5, (kd 0x0203 []).bytes, by decide +kernel⟩,
    ⟨st (hb.setReg (Reg.HST_RCFG 5) (word 0x65)), 5, (kd 0x0203 []).bytes, by decide +kernel⟩,
    ⟨st ((hb.setReg (Reg.HST_RCFG 5) (word 0x65)).setRing 5 { state := .run, head := 60, tail := 63, refetched := true }), 5, (kd 0x0203 []).bytes, by decide +kernel⟩,
    ⟨st hb, 5, by decide +kernel⟩,
    ⟨st (opB hb), kd 0x0203 [], by decide +kernel, List.mem_singleton.2 rfl, by decide +kernel, by intro o h _ _; exact List.mem_singleton.1 h⟩⟩

/-- What WaitingCompletionsAreWritten assumes can be met, clause by clause. -/
theorem test_witness_WaitingCompletionsAreWritten :
    (∃ (s : State) (t : Nat) (cq : Ring128), s.blk.runs Island.hst = true ∧ s.blk.fld (Reg.HST_RIRQ ↑cq) 25 16 ≠ 0 ∧ (s.blk.ring ↑cq).heldSince + s.blk.fld (Reg.HST_RIRQ ↑cq) 25 16 * 1000 ≤ (s.blk.moveTo t).elapsed ∧ (s.blk.ring ↑cq).held ≠ [] ∧ (s.blk.ring ↑cq).tail < s.blk.ringSize ↑cq ∧ (s.blk.ring ↑cq).held.length ≤ s.blk.ringSize ↑cq) ∧
    (∃ (s : State), s.blk.runs Island.hst = true ∧ s.blk.hst.planes = false ∧ (∀ (o : Op), o ∈ s.blk.hst.ops → ∀ (p : Op), p ∈ s.blk.hst.ops → sameOp o.id p.id = true → o = p)) ∧
    (∃ (s : State) (l1 : List Op) (l2 : List Op) (o : Op) (e : Entry), s.blk.runs Island.hst = true ∧ s.blk.hst.planes = true ∧ s.blk.hst.ops = l1 ++ o :: l2 ∧ o.id.ring = 2 ∧ o.done = some e ∧ (∀ (p : Op), p ∈ l1 → p.id.ring = 2 → p.done.isSome = true) ∧ (s.blk.ring 3).state = RingState.run) ∧
    (∃ (s : State) (c : Coal), s.blk.runs Island.hst = true ∧ s.blk.hst.coal = some c ∧ s.blk.coalRing = none) ∧
    (∃ (s : State) (c : Coal) (cq : Nat), s.blk.runs Island.hst = true ∧ s.blk.hst.coal = some c ∧ s.blk.coalRing = some cq ∧ s.blk.cqRoom2 cq = true) ∧
    (∃ (s : State) (c : Coal) (cq : Nat), s.blk.runs Island.hst = true ∧ s.blk.hst.coal = some c ∧ s.blk.coalRing = some cq ∧ s.blk.cqRoom2 cq = false) ∧
    (∃ (s : State) (q : Queue64) (opens : List OpenItem) (bd : Binding) (i : Item) (rest : List Item) (off : Nat), s.blk.runs Island.hst = true ∧ (s.blk.queue ↑q).ptrBad = false ∧ ((s.blk.queue ↑q).atEdge opens (s.blk.queueCap ↑q)).bound = some bd ∧ ((s.blk.queue ↑q).atEdge opens (s.blk.queueCap ↑q)).items = i :: rest ∧ i.isOpen = false ∧ i.typ ≠ 255 ∧ (s.blk.ring bd.cq).state = RingState.run ∧ s.blk.cqRoom bd.cq = true ∧ List.length i.data ≤ 2 ^ bd.log2 ∧ placeItem bd (List.length i.data) = some off) :=
  ⟨⟨st heldB, 6000, 6, by decide +kernel⟩,
    ⟨st (opB hb), by decide +kernel, by decide +kernel, by intro o h p h' _; rw [List.mem_singleton.1 h, List.mem_singleton.1 h']⟩,
    ⟨st planesB, [], [], planesOp, ⟨7, 0, 2, 0, 0, 0, 99⟩, by decide +kernel, by decide +kernel, by decide +kernel, by decide +kernel, by decide +kernel, fun _ h => (nomatch h), by decide +kernel⟩,
    ⟨st (coalB 5), ⟨5, 1, 1, false⟩, by decide +kernel⟩,
    ⟨st (coalB 6), ⟨5, 1, 1, false⟩, 6, by decide +kernel⟩,
    ⟨st ((coalB 6).setRing 6 { state := .run, head := 11, tail := 10 }), ⟨5, 1, 1, false⟩, 6, by decide +kernel⟩,
    ⟨st (hb.setQueue 4 { items := [⟨false, 2, 0x20, 0, 0, [1, 2, 3], 0⟩], bound := some { cq := 6, log2 := 12, addr := 0x1000 } }), 4, [], _, _, _, 0, by decide +kernel, by decide +kernel, rfl, rfl, by decide +kernel⟩⟩

/-- What RingsStartDrainAndStop assumes can be met, clause by clause. -/
theorem test_witness_RingsStartDrainAndStop :
    (∃ (s : State) (ring : Ring128) (w : Word), s.blk.runs Island.hst = true ∧ s.blk.inSvc = true ∧ s.blk.hst.planes = false ∧ (s.blk.ring ↑ring).state = RingState.off ∧ s.blk.flag (Reg.HST_RCFG ↑ring) 0 = false ∧ fieldOf w 1 1 = 1 ∧ 7 ≤ fieldOf w 8 4 ∧ fieldOf w 8 4 ≤ 16) ∧
    (∃ (s : State) (ring : Ring128) (w : Word), s.blk.runs Island.hst = true ∧ s.blk.inSvc = true ∧ s.blk.hst.planes = false ∧ (s.blk.ring ↑ring).state = RingState.off ∧ s.blk.flag (Reg.HST_RCFG ↑ring) 0 = false ∧ fieldOf w 1 1 = 0 ∧ 6 ≤ fieldOf w 8 4 ∧ fieldOf w 8 4 ≤ 16 ∧ s.blk.cqOf ↑ring ≠ ↑ring ∧ s.blk.isCq (s.blk.cqOf ↑ring) = true ∧ (s.blk.ring (s.blk.cqOf ↑ring)).state = RingState.run) ∧
    (∃ (s : State) (ring : Ring128) (w : Word), s.blk.runs Island.hst = true ∧ s.blk.inSvc = true ∧ s.blk.hst.planes = false ∧ (s.blk.ring ↑ring).state = RingState.run ∧ s.blk.flag (Reg.HST_RCFG ↑ring) 0 = true ∧ fieldOf w 1 1 = s.blk.fld (Reg.HST_RCFG ↑ring) 1 1 ∧ fieldOf w 8 4 = s.blk.fld (Reg.HST_RCFG ↑ring) 8 4 ∧ fieldOf w 2 2 = s.blk.fld (Reg.HST_RCFG ↑ring) 2 2 ∧ (s.blk.isCq ↑ring = true → s.blk.cqNamed ↑ring = false)) ∧
    (∃ (s : State) (ring : Ring128), s.blk.runs Island.hst = true ∧ (s.blk.ring ↑ring).state = RingState.drain ∧ (∀ (o : Op), o ∈ s.blk.hst.ops → o.id.ring ≠ ↑ring)) :=
  ⟨⟨st up, 127, word 0x72, by decide +kernel⟩,
    ⟨st ((hb.setReg (Reg.HST_RCFG 5) (word 0x60)).setRing 5 {}), 5, word 0x100, by decide +kernel⟩,
    ⟨st hb, 5, word 0x60, by decide +kernel⟩,
    ⟨st (hb.setRing 5 { state := .drain }), 5, by decide +kernel⟩⟩

/-- What HostResetModeAndVectors assumes can be met, clause by clause. -/
theorem test_witness_HostResetModeAndVectors :
    (∃ (s : State) (w : Word), s.blk.runs Island.hst = true ∧ s.blk.inSvc = true ∧ BitVec.getLsbD w 1 = false ∧ s.blk.allOff = true) ∧
    (∃ (s : State) (w : Word), s.blk.runs Island.hst = true ∧ s.blk.inSvc = true ∧ BitVec.getLsbD w 1 = false ∧ s.blk.allOff = false ∧ BitVec.getLsbD w 0 ≠ s.blk.hst.planes) ∧
    (∃ (s : State), s.blk.runs Island.hst = true) :=
  ⟨⟨st up, 1, by decide +kernel⟩,
    ⟨st hb, 1, by decide +kernel⟩,
    ⟨st up, by decide +kernel⟩⟩

/-- What TransactionsCommitWholeOrLeaveNoTrace assumes can be met, clause by clause. -/
theorem test_witness_TransactionsCommitWholeOrLeaveNoTrace :
    (∃ (s : State) (d : Desc), s.blk.runs Island.dvt = true ∧ s.blk.unfenced d ∧ s.blk.quiet ∧ s.blk.dvt.admission = [] ∧ s.blk.stopped = true) ∧
    (∃ (s : State) (d : Desc), s.blk.runs Island.dvt = true ∧ s.blk.unfenced d ∧ s.blk.quiet ∧ s.blk.dvt.admission = [] ∧ s.blk.stopped = false ∧ s.blk.fleet.map ≠ none ∧ bitOf (txnOfDesc d ((s.blk.started d).flag (Reg.HST_RCFG ↑d.ring) 2)).flags 2 = true ∧ s.blk.fleet.epoch < (txnOfDesc d ((s.blk.started d).flag (Reg.HST_RCFG ↑d.ring) 2)).after) ∧
    (∃ (s : State) (d : Desc), s.blk.runs Island.dvt = true ∧ s.blk.unfenced d ∧ s.blk.quiet ∧ s.blk.dvt.admission = [] ∧ s.blk.stopped = false ∧ (bitOf (txnOfDesc d ((s.blk.started d).flag (Reg.HST_RCFG ↑d.ring) 2)).flags 2 = true → s.blk.fleet.map = none ∨ (txnOfDesc d ((s.blk.started d).flag (Reg.HST_RCFG ↑d.ring) 2)).after ≤ s.blk.fleet.epoch) ∧ ∃ (st : Nat) (dt : Nat), ((s.blk.started d).noteTurn false).judge (txnOfDesc d ((s.blk.started d).flag (Reg.HST_RCFG ↑d.ring) 2)) false = Verdict.abort st dt) ∧
    (∃ (s : State) (d : Desc), s.blk.runs Island.dvt = true ∧ s.blk.unfenced d ∧ s.blk.quiet ∧ s.blk.dvt.admission = [] ∧ s.blk.stopped = false ∧ (bitOf (txnOfDesc d ((s.blk.started d).flag (Reg.HST_RCFG ↑d.ring) 2)).flags 2 = true → s.blk.fleet.map = none ∨ (txnOfDesc d ((s.blk.started d).flag (Reg.HST_RCFG ↑d.ring) 2)).after ≤ s.blk.fleet.epoch) ∧ ∃ (w : Work), ((s.blk.started d).noteTurn false).judge (txnOfDesc d ((s.blk.started d).flag (Reg.HST_RCFG ↑d.ring) 2)) false = Verdict.commit w) ∧
    (∃ (s : State) (d : Desc), s.blk.runs Island.dvt = true ∧ s.blk.unfenced d ∧ s.blk.quiet ∧ s.blk.dvt.admission = [] ∧ s.blk.stopped = false ∧ (bitOf (txnOfDesc d ((s.blk.started d).flag (Reg.HST_RCFG ↑d.ring) 2)).flags 2 = true → s.blk.fleet.map = none ∨ (txnOfDesc d ((s.blk.started d).flag (Reg.HST_RCFG ↑d.ring) 2)).after ≤ s.blk.fleet.epoch) ∧ ∃ (es : List Edge), ((s.blk.started d).noteTurn false).judge (txnOfDesc d ((s.blk.started d).flag (Reg.HST_RCFG ↑d.ring) 2)) false = Verdict.wait es) :=
  ⟨⟨st stopped0, txnD 0 0 [mkAct 0x20 0 (leBytes 4 4096 ++ [0, 0, 0xFF, 0xFF])], by decide +kernel, by unfold Blk.unfenced; decide +kernel, by unfold Blk.quiet; decide +kernel, by decide +kernel⟩,
    ⟨st run0, txnD 4 11 [mkAct 0x54 0 (leBytes 4 7)], by decide +kernel, by unfold Blk.unfenced; decide +kernel, by unfold Blk.quiet; decide +kernel, by decide +kernel⟩,
    ⟨st run0, txnD 0 0 [], by decide +kernel, by unfold Blk.unfenced; decide +kernel, by unfold Blk.quiet; decide +kernel, by decide +kernel, by decide +kernel, by decide +kernel, aborts _ (by decide +kernel)⟩,
    ⟨st run0, txnD 4 10 [mkAct 0x54 0 (leBytes 4 7)], by decide +kernel, by unfold Blk.unfenced; decide +kernel, by unfold Blk.quiet; decide +kernel, by decide +kernel, by decide +kernel, by decide +kernel, commits _ (by decide +kernel)⟩,
    ⟨st run0, txnD 1 0 [mkAct 0x01 1 ([5, 0] ++ leBytes 2 1)], by decide +kernel, by unfold Blk.unfenced; decide +kernel, by unfold Blk.quiet; decide +kernel, by decide +kernel, by decide +kernel, by decide +kernel, parks _ (by decide +kernel)⟩⟩

/-- What WaitsEndOrAreCancelled assumes can be met, clause by clause. -/
theorem test_witness_WaitsEndOrAreCancelled :
    (∃ (s : State) (d : Desc) (id : OpId) (w : Wait), s.blk.runs Island.dvt = true ∧ s.blk.starts d ∧ d.op 24 1 < 128 ∧ d.op 25 1 = 0 ∧ d.op 26 2 < 1024 ∧ w.txn.src = Source.host id ∧ id.ring = d.op 24 1 ∧ id.tag = d.op 26 2 ∧ s.blk.dvt.waits = [w]) ∧
    (∃ (s : State) (d : Desc), s.blk.runs Island.dvt = true ∧ s.blk.starts d ∧ d.op 24 1 < 128 ∧ d.op 25 1 = 0 ∧ d.op 26 2 < 1024 ∧ (∀ (w : Wait), w ∈ s.blk.dvt.waits → ∀ (id : OpId), w.txn.src = Source.host id → ¬(id.ring = d.op 24 1 ∧ id.tag = d.op 26 2))) ∧
    (∃ (s : State) (d : Desc), s.blk.runs Island.dvt = true ∧ s.blk.starts d ∧ d.op 24 8 % 64 = 0 ∧ 16 + 16 * s.blk.edges.length ≤ d.op 32 4) ∧
    (∃ (s : State) (w : Wait) (id : OpId), s.blk.runs Island.dvt = true ∧ s.blk.dvt.waits = [w] ∧ w.onEpoch = false ∧ (∃ e, e ∈ w.edges ∧ e.seg ∈ s.blk.dvt.freed) ∧ (∀ (m : Nat), m < 128 → (s.blk.link m).reassoc = false) ∧ w.txn.src = Source.host id ∧ ∃ (k : Work), { s.blk with dvt := { s.blk.dvt with freed := [] } }.judge w.txn true = Verdict.commit k) ∧
    (∃ (s : State) (w : Wait) (id : OpId), s.blk.runs Island.dvt = true ∧ s.blk.dvt.waits = [w] ∧ w.onEpoch = true ∧ w.txn.after ≤ s.blk.fleet.epoch ∧ s.blk.dvt.freed = [] ∧ (∀ (m : Nat), m < 128 → (s.blk.link m).reassoc = false) ∧ s.blk.airDue = none ∧ s.blk.dvt.admission = [] ∧ w.txn.src = Source.host id ∧ ∃ (k : Work), ({ s.blk with dvt := { s.blk.dvt with waits := [] } }.noteTurn false).judge w.txn false = Verdict.commit k) ∧
    (∃ (s : State), s.blk.runs Island.dvt = true ∧ (∀ (w : Wait), w ∈ s.blk.dvt.waits → ∃ id, w.txn.src = Source.host id) ∧ s.blk.fld Reg.DVT_WAIT_CFG 15 0 ≠ 0) :=
  ⟨⟨st (waitB run0 (waitW false 0 []) []), kd 0x0102 [5, 0, 7, 0], opid, waitW false 0 [], by decide +kernel, by unfold Blk.starts; decide +kernel, by decide +kernel⟩,
    ⟨st run0, kd 0x0102 [5, 0, 7, 0], by decide +kernel, by unfold Blk.starts; decide +kernel, by decide +kernel, by decide +kernel, by decide +kernel, fun _ h => (nomatch h)⟩,
    ⟨st run0, kd 0x0103 (leBytes 8 64 ++ leBytes 4 16), by decide +kernel, by unfold Blk.starts; decide +kernel, by decide +kernel⟩,
    ⟨st (waitB run0 (waitW false 0 [mkAct 0x54 0 (leBytes 4 7)]) [1]), waitW false 0 [mkAct 0x54 0 (leBytes 4 7)], opid, by decide +kernel, by decide +kernel, by decide +kernel, by decide +kernel, by decide +kernel, by decide +kernel, commits _ (by decide +kernel)⟩,
    ⟨st (waitB run0 (waitW true 10 [mkAct 0x54 0 (leBytes 4 7)]) []), waitW true 10 [mkAct 0x54 0 (leBytes 4 7)], opid, by decide +kernel, by decide +kernel, by decide +kernel, by decide +kernel, by decide +kernel, by decide +kernel, by decide +kernel, by decide +kernel, by decide +kernel, commits _ (by decide +kernel)⟩,
    ⟨st (waitB run0 (waitW false 0 []) []), by decide +kernel, by intro w h; cases List.mem_singleton.1 h; exact ⟨_, rfl⟩, by decide +kernel⟩⟩

/-- What MemberRequestsUseTheirQuota assumes can be met, clause by clause. -/
theorem test_witness_MemberRequestsUseTheirQuota :
    (∃ (s : State) (mix : Nat) (t : Txn) (req : Nat), s.blk.runs Island.dvt = true ∧ s.blk.quiet ∧ s.blk.dvt.admission = [(mix, t)] ∧ t.src = Source.air mix req ∧ s.blk.stopped = true ∧ s.blk.flag Reg.DVT_EVQ_CFG 9 = false) ∧
    (∃ (s : State) (mix : Nat) (t : Txn) (req : Nat), s.blk.runs Island.dvt = true ∧ s.blk.quiet ∧ s.blk.dvt.admission = [(mix, t)] ∧ t.src = Source.air mix req ∧ s.blk.stopped = false ∧ s.blk.quotaLeft mix = 0 ∧ s.blk.flag Reg.DVT_EVQ_CFG 9 = false) ∧
    (∃ (s : State) (mix : Nat) (t : Txn) (req : Nat), s.blk.runs Island.dvt = true ∧ s.blk.quiet ∧ s.blk.dvt.admission = [(mix, t)] ∧ t.src = Source.air mix req ∧ s.blk.stopped = false ∧ s.blk.quotaLeft mix ≠ 0 ∧ ∃ (w : Work), ({ s.blk with dvt := { s.blk.dvt with admission := [], lastMix := mix } }.noteTurn true).judge t false = Verdict.commit w) ∧
    (∃ (s : State), s.blk.runs Island.dvt = true ∧ s.blk.dvt.quotaTick = true ∧ (s.blk.dvt.quotaNew = true ∨ (s.blk.air.sfn + 2 ^ 32 - s.blk.dvt.quotaSf) % 2 ^ 32 % s.blk.fld Reg.DVT_AIR_QUOTA 15 8 = 0)) ∧
    (∃ (s : State), s.blk.runs Island.dvt = true ∧ s.blk.stopped = true) ∧
    (∃ (s : State) (mix : Mix) (c : DevCause), s.blk.runs Island.dvt = true ∧ s.blk.stopped = false ∧ s.blk.quiet ∧ s.blk.dvt.admission = [] ∧ ∃ (w : Work), (s.blk.modDvt (fun v => { v with devRun := v.devRun + 1 })).judge (deviceTxn (↑mix) (s.blk.causeActs (↑mix) c)) false = Verdict.commit w) ∧
    (∃ (s : State) (mix : Mix) (c : DevCause), s.blk.runs Island.dvt = true ∧ s.blk.stopped = false ∧ s.blk.quiet ∧ s.blk.dvt.admission = [] ∧ ∃ (st : Nat) (dt : Nat), (s.blk.modDvt (fun v => { v with devRun := v.devRun + 1 })).judge (deviceTxn (↑mix) (s.blk.causeActs (↑mix) c)) false = Verdict.abort st dt) :=
  ⟨⟨st (admB stopped0 0), 4, airT, 3, by decide +kernel, by unfold Blk.quiet; decide +kernel, by decide +kernel⟩,
    ⟨st (admB run0 8), 4, airT, 3, by decide +kernel, by unfold Blk.quiet; decide +kernel, by decide +kernel⟩,
    ⟨st (admB run0 7), 4, airT, 3, by decide +kernel, by unfold Blk.quiet; decide +kernel, by decide +kernel, by decide +kernel, by decide +kernel, by decide +kernel, commits _ (by decide +kernel)⟩,
    ⟨st { run0 with dvt := { run0.dvt with quotaTick := true } }, by decide +kernel⟩,
    ⟨st stopped0, by decide +kernel⟩,
    ⟨st run0, 4, .unheard, by decide +kernel, by decide +kernel, by unfold Blk.quiet; decide +kernel, by decide +kernel, commits _ (by decide +kernel)⟩,
    ⟨st run0, 9, .taskDone, by decide +kernel, by decide +kernel, by unfold Blk.quiet; decide +kernel, by decide +kernel, aborts _ (by decide +kernel)⟩⟩

/-- What MapsAreLoadedSwitchedAndDiscarded assumes can be met, clause by clause. -/
theorem test_witness_MapsAreLoadedSwitchedAndDiscarded :
    (∃ (s : State) (d : Desc), s.blk.runs Island.dvt = true ∧ s.blk.starts d ∧ d.op 24 8 % 8 = 0 ∧ 128 ≤ d.op 32 4 ∧ d.op 32 4 ≤ 393216) ∧
    (∃ (s : State) (d : Desc), s.blk.runs Island.dvt = true ∧ s.blk.starts d ∧ d.op 24 8 % 8 = 0 ∧ (¬(128 ≤ d.op 32 4 ∧ d.op 32 4 ≤ 393216))) ∧
    (∃ (s : State) (l : MapLoad) (rest : List MapLoad), s.blk.runs Island.dvt = true ∧ s.blk.fleet.loads = l :: rest) ∧
    (∃ (s : State) (d : Desc) (m : SiteMap), s.blk.runs Island.dvt = true ∧ s.blk.starts d ∧ s.blk.airDue = none ∧ s.blk.fleet.shadow = some m ∧ m.id = d.op 24 4 ∧ s.blk.switchBusy = 0 ∧ s.blk.clp.cf14 = false ∧ s.blk.dvt.waits = [] ∧ s.blk.fleet.snapWaits = []) :=
  ⟨⟨st run0, kd 0x0201 (leBytes 8 64 ++ leBytes 4 0x60000), by decide +kernel, by unfold Blk.starts; decide +kernel, by decide +kernel⟩,
    ⟨st run0, kd 0x0201 (leBytes 8 64 ++ leBytes 4 0x7F), by decide +kernel, by unfold Blk.starts; decide +kernel, by decide +kernel⟩,
    ⟨st { run0 with fleet := { run0.fleet with loads := [⟨opid, 64, 0x80⟩] } }, _, _, by decide +kernel, rfl⟩,
    ⟨st { run0 with fleet := { run0.fleet with shadow := some siteMap, coh := {} } }, kd 0x0202 (leBytes 4 7), siteMap, by decide +kernel, by unfold Blk.starts; decide +kernel, by decide +kernel⟩⟩

/-- What SnapshotsAreTakenAndWritten assumes can be met, clause by clause. -/
theorem test_witness_SnapshotsAreTakenAndWritten :
    (∃ (s : State) (d : Desc), s.blk.runs Island.dvt = true ∧ s.blk.starts d ∧ s.blk.airDue = none ∧ s.blk.fleet.map ≠ none ∧ d.op 24 8 % 64 = 0 ∧ d.op 36 2 < 32 ∧ d.op 38 2 = 0 ∧ (d.op 40 8 = 0 ∨ d.op 40 8 = s.blk.fleet.epoch) ∧ s.blk.fleet.snaps.length < 4 ∧ (s.blk.takeSnap d s.blk.view s.blk.fleet.epoch).total ≤ d.op 32 4) ∧
    (∃ (s : State) (d : Desc), s.blk.runs Island.dvt = true ∧ s.blk.starts d ∧ s.blk.airDue = none ∧ s.blk.fleet.map ≠ none ∧ d.op 24 8 % 64 = 0 ∧ d.op 36 2 < 32 ∧ d.op 38 2 = 0 ∧ 0 < d.op 40 8 ∧ d.op 40 8 < s.blk.fleet.epoch) ∧
    (∃ (s : State) (d : Desc), s.blk.runs Island.dvt = true ∧ s.blk.starts d ∧ s.blk.airDue = none ∧ s.blk.fleet.map ≠ none ∧ d.op 24 8 % 64 = 0 ∧ d.op 36 2 < 32 ∧ d.op 38 2 = 0 ∧ s.blk.fleet.epoch < d.op 40 8 ∧ s.blk.fleet.snapWaits.length < 16) ∧
    (∃ (s : State) (w : SnapWait), s.blk.runs Island.dvt = true ∧ s.blk.fleet.snapWaits = [w] ∧ w.atEpoch ≤ s.blk.fleet.epoch ∧ s.blk.fleet.snaps.length < 4 ∧ (s.blk.takeSnap w.d (w.copy.getD s.blk.view) w.atEpoch).total ≤ w.d.op 32 4) ∧
    (∃ (s : State) (k : Snap) (rest : List Snap), s.blk.runs Island.dvt = true ∧ s.blk.fleet.snaps = k :: rest ∧ s.blk.fleet.snapQueue = []) :=
  ⟨⟨st run0, kd 0x0210 (leBytes 8 64 ++ leBytes 4 0x1000 ++ leBytes 2 0), by decide +kernel, by unfold Blk.starts; decide +kernel, by decide +kernel⟩,
    ⟨st run0, kd 0x0210 (leBytes 8 64 ++ zeros 8 ++ leBytes 8 9), by decide +kernel, by unfold Blk.starts; decide +kernel, by decide +kernel⟩,
    ⟨st run0, kd 0x0210 (leBytes 8 64 ++ zeros 8 ++ leBytes 8 11), by decide +kernel, by unfold Blk.starts; decide +kernel, by decide +kernel⟩,
    ⟨st { run0 with fleet := { run0.fleet with snapWaits := [⟨kd 0x0210 (leBytes 8 64 ++ leBytes 4 0x1000), 10, 0, none⟩] } }, _, by decide +kernel, rfl, by decide +kernel⟩,
    ⟨st { run0 with fleet := { run0.fleet with snaps := [⟨opid, 64, 10, 128, zeros 128, []⟩] } }, _, _, by decide +kernel, rfl, by decide +kernel⟩⟩

/-- What StopFreezesTheSite assumes can be met, clause by clause. -/
theorem test_witness_StopFreezesTheSite :
    (∃ (s : State) (d : Desc), s.blk.powered = true ∧ s.blk.starts d ∧ 1 < d.op 24 1) ∧
    (∃ (s : State) (d : Desc), s.blk.powered = true ∧ s.blk.starts d ∧ d.op 24 1 ≤ 1 ∧ s.blk.stopped = true) ∧
    (∃ (s : State) (d : Desc), s.blk.powered = true ∧ s.blk.starts d ∧ d.op 24 1 ≤ 1 ∧ s.blk.stopped = false ∧ s.blk.inService = true ∧ s.blk.clp.cf14 = false) ∧
    (∃ (s : State) (d : Desc), s.blk.powered = true ∧ s.blk.starts d ∧ d.op 24 1 ≤ 1 ∧ s.blk.stopped = false ∧ (s.blk.inService = false ∨ s.blk.clp.cf14 = true)) :=
  ⟨⟨st run0, kd 0x0B01 [2], by decide +kernel, by unfold Blk.starts; decide +kernel, by decide +kernel⟩,
    ⟨st stopped0, kd 0x0B01 [1], by decide +kernel, by unfold Blk.starts; decide +kernel, by decide +kernel⟩,
    ⟨st run0, kd 0x0B01 [1], by decide +kernel, by unfold Blk.starts; decide +kernel, by decide +kernel⟩,
    ⟨st { run0 with fleet := { run0.fleet with map := none } }, kd 0x0B01 [1], by decide +kernel, by unfold Blk.starts; decide +kernel, by decide +kernel⟩⟩

/-- What ReleaseEndsTheStop assumes can be met, clause by clause. -/
theorem test_witness_ReleaseEndsTheStop :
    (∃ (s : State) (d : Desc), s.blk.powered = true ∧ s.blk.starts d ∧ s.blk.stopped = false) ∧
    (∃ (s : State) (d : Desc), s.blk.powered = true ∧ s.blk.starts d ∧ s.blk.stopped = true ∧ d.op 24 8 ≠ s.blk.clp.s) ∧
    (∃ (s : State) (d : Desc), s.blk.powered = true ∧ s.blk.starts d ∧ s.blk.stopped = true ∧ d.op 24 8 = s.blk.clp.s ∧ s.blk.releaseBlock ≠ 0) ∧
    (∃ (s : State) (d : Desc), s.blk.powered = true ∧ s.blk.starts d ∧ s.blk.stopped = true ∧ d.op 24 8 = s.blk.clp.s ∧ s.blk.releaseBlock = 0 ∧ s.blk.clp.cf14 = false ∧ s.blk.dvt.deferred = []) ∧
    (∃ (s : State) (t : Nat), s.blk.powered = true ∧ s.blk.stopped = false ∧ s.blk.clp.releaseAt + s.blk.fld Reg.CLP_REL_CFG 23 16 * 1000000 ≤ (s.blk.moveTo t).elapsed) :=
  ⟨⟨st run0, kd 0x0B02 (leBytes 8 9), by decide +kernel, by unfold Blk.starts; decide +kernel, by decide +kernel⟩,
    ⟨st stopped0, kd 0x0B02 (leBytes 8 8), by decide +kernel, by unfold Blk.starts; decide +kernel, by decide +kernel⟩,
    ⟨st { stopped0 with clp := { stopped0.clp with stoA := 8 } }, kd 0x0B02 (leBytes 8 9), by decide +kernel, by unfold Blk.starts; decide +kernel, by decide +kernel⟩,
    ⟨st stopped0, kd 0x0B02 (leBytes 8 9), by decide +kernel, by unfold Blk.starts; decide +kernel, by decide +kernel⟩,
    ⟨st run1, 20, by decide +kernel⟩⟩

/-- What GroupsAndMembersFollowARelease assumes can be met, clause by clause. -/
theorem test_witness_GroupsAndMembersFollowARelease :
    (∃ (s : State) (d : Desc), s.blk.powered = true ∧ s.blk.starts d ∧ d.op 24 2 < 2 ^ 12 ∧ s.blk.stopped = true) ∧
    (∃ (s : State) (d : Desc), s.blk.powered = true ∧ s.blk.starts d ∧ d.op 24 2 < 2 ^ 12 ∧ s.blk.stopped = false) ∧
    (∃ (s : State) (t : Nat) (g : Group12), s.blk.powered = true ∧ s.blk.group ↑g = GState.ramp ∧ Tab.val s.blk.clp.rampSince (↑g) 0 + s.blk.rampLimit ↑g * 1000000 ≤ (s.blk.moveTo t).elapsed) ∧
    (∃ (s : State) (d : Desc), s.blk.powered = true ∧ s.blk.starts d ∧ d.op 40 1 ≤ 1 ∧ s.blk.stopped = true) ∧
    (∃ (s : State) (d : Desc), s.blk.powered = true ∧ s.blk.starts d ∧ d.op 40 1 ≤ 1 ∧ s.blk.stopped = false ∧ (∀ (m : Nat), ¬(m < 128 ∧ bitOf (d.op 24 16) m = true ∧ (s.blk.member m).state = MState.stopped))) ∧
    (∃ (s : State) (d : Desc), s.blk.powered = true ∧ s.blk.starts d ∧ d.op 40 1 ≤ 1 ∧ s.blk.stopped = false ∧ (∃ m, m < 128 ∧ bitOf (d.op 24 16) m = true ∧ (s.blk.member m).state = MState.stopped)) :=
  ⟨⟨st stopped0, kd 0x0B04 (leBytes 2 0xFFF), by decide +kernel, by unfold Blk.starts; decide +kernel, by decide +kernel⟩,
    ⟨st run0, kd 0x0B04 (leBytes 2 5), by decide +kernel, by unfold Blk.starts; decide +kernel, by decide +kernel⟩,
    ⟨st (run1.setGroup 11 .ramp), 500, 11, by decide +kernel⟩,
    ⟨st stopped0, kd 0x0B03 (leBytes 16 0x10), by decide +kernel, by unfold Blk.starts; decide +kernel, by decide +kernel⟩,
    ⟨st { run0 with fleet := { run0.fleet with coh := {} } }, kd 0x0B03 (leBytes 16 0x10), by decide +kernel, by unfold Blk.starts; decide +kernel, by decide +kernel, by decide +kernel, fun _ h => MState.noConfusion h.2.2⟩,
    ⟨st (memB run0 { state := .stopped }), kd 0x0B03 (leBytes 16 0x10 ++ [1]), by decide +kernel, by unfold Blk.starts; decide +kernel, by decide +kernel, by decide +kernel, ⟨4, by decide +kernel⟩⟩⟩

/-- What EstopLoopsAssertAndClear assumes can be met, clause by clause. -/
theorem test_witness_EstopLoopsAssertAndClear :
    (∃ (s : State), s.blk.powered = true) ∧
    (∃ (s : State) (t : Nat) (n : Loop4) (o : PulseObs), s.blk.powered = true ∧ s.blk.flag (Reg.CLP_ES_CFG ↑n) 0 = true ∧ (∀ (p : Nat), (if o.circuitB = true then (s.blk.loopOf ↑n).pulseB else (s.blk.loopOf ↑n).pulseA) = some p → p + s.blk.fld (Reg.CLP_ES_CFG ↑n) 31 22 * 1000000 ≤ (s.blk.moveTo t).elapsed)) ∧
    (∃ (s : State) (t : Nat) (n : Loop4), s.blk.powered = true ∧ s.blk.flag (Reg.CLP_ES_CFG ↑n) 0 = true ∧ (s.blk.loopOf ↑n).closedA ≠ (s.blk.loopOf ↑n).closedB ∧ (s.blk.loopOf ↑n).discAt + s.blk.fld (Reg.CLP_ES_CFG ↑n) 12 4 * 1000000 < (s.blk.moveTo t).elapsed) ∧
    (∃ (s : State) (n : Loop4), s.blk.powered = true ∧ (s.blk.loopOf ↑n).closedA = true ∧ (s.blk.loopOf ↑n).closedB = true ∧ 2 ≤ (s.blk.loopOf ↑n).goodA ∧ 2 ≤ (s.blk.loopOf ↑n).goodB) ∧
    (∃ (s : State) (n : Loop4), s.blk.powered = true ∧ (¬((s.blk.loopOf ↑n).closedA = true ∧ (s.blk.loopOf ↑n).closedB = true ∧ 2 ≤ (s.blk.loopOf ↑n).goodA ∧ 2 ≤ (s.blk.loopOf ↑n).goodB))) :=
  ⟨⟨st run0, by decide +kernel⟩,
    ⟨st run0, 0, 3, ⟨true, none, false, 0⟩, by decide +kernel, by decide +kernel, fun _ h => (nomatch h)⟩,
    ⟨st (run0.setLoop 3 { closedA := true }), 1000000000000, 3, by decide +kernel⟩,
    ⟨st (run0.setLoop 3 { closedA := true, closedB := true, goodA := 2, goodB := 2 }), 3, by decide +kernel⟩,
    ⟨st (run0.setLoop 3 { closedA := true, closedB := true, goodA := 2, goodB := 1 }), 3, by decide +kernel⟩⟩

/-- What HostSourcesAssertAndEnd assumes can be met, clause by clause. -/
theorem test_witness_HostSourcesAssertAndEnd :
    (∃ (s : State) (w : Word), s.blk.powered = true ∧ s.blk.inSvc = true ∧ BitVec.getLsbD w 0 = true) ∧
    (∃ (s : State) (w : Word), s.blk.powered = true ∧ s.blk.inSvc = true ∧ BitVec.getLsbD w 0 = false) ∧
    (∃ (s : State), s.blk.powered = true ∧ s.blk.inSvc = true ∧ s.blk.flag Reg.CLP_SRC_CFG 2 = false) ∧
    (∃ (s : State) (w : Word), s.blk.powered = true ∧ s.blk.inSvc = true ∧ s.blk.flag Reg.CLP_SRC_CFG 2 = true ∧ (∀ (p : Nat), s.blk.clp.hbSeq = some p → fieldOf w 15 0 = (p + 1) % 65536)) ∧
    (∃ (s : State) (w : Word) (p : Nat), s.blk.powered = true ∧ s.blk.inSvc = true ∧ s.blk.flag Reg.CLP_SRC_CFG 2 = true ∧ s.blk.clp.hbSeq = some p ∧ fieldOf w 15 0 ≠ (p + 1) % 65536) ∧
    (∃ (s : State) (t : Nat), s.blk.powered = true ∧ s.blk.flag Reg.CLP_SRC_CFG 2 = true ∧ s.blk.clp.hbAt + s.blk.fld Reg.CLP_SRC_CFG 31 16 * 1000000 ≤ (s.blk.moveTo t).elapsed ∧ bitOf s.blk.clp.a.active 7 = false) :=
  ⟨⟨st run0, 3, by decide +kernel⟩,
    ⟨st run0, 2, by decide +kernel⟩,
    ⟨st run0, by decide +kernel⟩,
    ⟨st (hbB (some 0xFFFF)), 0, by decide +kernel, by decide +kernel, by decide +kernel, by rintro p ⟨⟩; decide⟩,
    ⟨st (hbB (some 7)), 9, 7, by decide +kernel⟩,
    ⟨st { hbB none with inv := stopped0.inv }, 1000, by decide +kernel⟩⟩

/-- What LatchedFaultsStopTheSite assumes can be met, clause by clause. -/
theorem test_witness_LatchedFaultsStopTheSite :
    (∃ (s : State), s.blk.powered = true ∧ s.blk.clp.faultCode = 0) ∧
    (∃ (s : State) (isl : Island) (r : Bool), s.blk.powered = true ∧ s.blk.clp.faultCode = 0 ∧ (r = true ∨ isl.hasPll = true)) ∧
    (∃ (s : State) (t : Nat), s.blk.powered = true ∧ s.blk.clp.faultCode = 0 ∧ (s.blk.moveTo t).keyLate = true) ∧
    (∃ (s : State) (t : Nat), s.blk.powered = true ∧ s.blk.clp.faultCode = 0 ∧ (s.blk.moveTo t).keyLate = false) ∧
    (∃ (s : State) (t : Nat), s.blk.powered = true ∧ s.blk.clp.faultCode = 0 ∧ (s.blk.stopped = true ∧ (s.blk.moveTo t).windowOpen = true ∧ s.blk.hdl.window.getD 0 * 1000000 + 328000 ≤ (s.blk.moveTo t).now)) ∧
    (∃ (s : State) (t : Nat), s.blk.powered = true ∧ s.blk.clp.faultCode = 0 ∧ (¬(s.blk.stopped = true ∧ (s.blk.moveTo t).windowOpen = true ∧ s.blk.hdl.window.getD 0 * 1000000 + 328000 ≤ (s.blk.moveTo t).now))) ∧
    (∃ (s : State), s.blk.powered = true ∧ s.blk.clp.faultCode = 0) ∧
    (∃ (s : State) (g : Group12), s.blk.powered = true ∧ s.blk.clp.faultCode = 0 ∧ s.blk.pairOn ↑g = true) ∧
    (∃ (s : State) (g : Group12), s.blk.powered = true ∧ s.blk.clp.faultCode = 0 ∧ s.blk.pairOn ↑g = false) :=
  ⟨⟨st run0, by decide +kernel⟩,
    ⟨st run0, .inv, false, by decide +kernel⟩,
    ⟨st run0, 65000000000, by decide +kernel⟩,
    ⟨st run0, 0, by decide +kernel⟩,
    ⟨st windB, 10000000000, by decide +kernel⟩,
    ⟨st { run0 with hdl := windB.hdl }, 10000000000, by decide +kernel⟩,
    ⟨st run0, by decide +kernel⟩,
    ⟨st run0, 1, by decide +kernel⟩,
    ⟨st run0, 2, by decide +kernel⟩⟩

/-- What PassingFaultsHoldTheStop assumes can be met, clause by clause. -/
theorem test_witness_PassingFaultsHoldTheStop :
    (∃ (s : State), s.blk.powered = true) ∧
    (∃ (s : State) (t : Nat) (die : Fin 2) (held : Nat), s.blk.powered = true ∧ 100000000 ≤ held ∧ (∃ q, q ∈ s.blk.clp.vfBad ∧ q.fst = ↑die ∧ q.snd + held ≤ (s.blk.moveTo t).elapsed)) ∧
    (∃ (s : State), s.blk.powered = true) :=
  ⟨⟨st run0, by decide +kernel⟩,
    ⟨st { run0 with clp := { run0.clp with vfBad := [(1, 0)] } }, 100000000, 1, 100000000, by decide +kernel, by decide +kernel, ⟨(1, 0), List.mem_singleton.2 rfl, by decide +kernel⟩⟩,
    ⟨st run0, by decide +kernel⟩⟩

/-- What SuperframesAndTheirKeysTurnOver assumes can be met, clause by clause. -/
theorem test_witness_SuperframesAndTheirKeysTurnOver :
    (∃ (s : State), s.blk.runs Island.air = true) ∧
    (∃ (s : State), s.blk.runs Island.air = true ∧ s.blk.flag Reg.AIR_CFG 0 = false) ∧
    (∃ (s : State), s.blk.runs Island.air = true ∧ s.blk.flag Reg.AIR_CFG 0 = true) ∧
    (∃ (s : State) (site : Bytes), s.blk.runs Island.key = true ∧ s.blk.key.site = some site) ∧
    (∃ (s : State), s.blk.runs Island.air = true ∧ (List.any s.blk.air.kp fun q => q.fst == (s.blk.keyPeriod + 1) % 2 ^ 32) = true ∧ (List.any s.blk.air.kbcn fun q => q.fst == (s.blk.keyPeriod + 1) % 2 ^ 32) = true) ∧
    (∃ (s : State) (port : Fin 2), s.blk.runs Island.air = true ∧ (s.blk.flag Reg.AIR_SUB_CFG 0 = false ∨ s.blk.fld Reg.AIR_SUB_CFG 1 1 ≠ ↑port)) ∧
    (∃ (s : State) (port : Fin 2) (frame : Bytes) (site : Bytes) (f : HlRx), s.blk.runs Island.air = true ∧ s.blk.flag Reg.AIR_SUB_CFG 0 = true ∧ s.blk.fld Reg.AIR_SUB_CFG 1 1 = ↑port ∧ s.blk.key.site = some site ∧ (s.blk.ethPayload frame).bind hlParse = some f ∧ f.typ = 16) ∧
    (∃ (s : State), s.blk.runs Island.air = true ∧ (s.blk.flag Reg.AIR_SUB_CFG 0 = false ∨ s.blk.air.sub.lastSfn = some ((s.blk.air.sfn + 2 ^ 32 - 1) % 2 ^ 32) ∨ s.blk.air.sub.lastSfn = some s.blk.air.sfn)) ∧
    (∃ (s : State), s.blk.runs Island.air = true ∧ s.blk.flag Reg.AIR_SUB_CFG 0 = true ∧ (¬(s.blk.air.sub.lastSfn = some ((s.blk.air.sfn + 2 ^ 32 - 1) % 2 ^ 32) ∨ s.blk.air.sub.lastSfn = some s.blk.air.sfn))) :=
  ⟨⟨st run0, by decide +kernel⟩,
    ⟨st run0, by decide +kernel⟩,
    ⟨st air0, by decide +kernel⟩,
    ⟨st { air0 with air := { air0.air with kp := [], kbcn := [] } }, zeros 32, by decide +kernel⟩,
    ⟨st air0, by decide +kernel⟩,
    ⟨st run0, 1, by decide +kernel⟩,
    ⟨st (air0.setReg Reg.AIR_SUB_CFG 1), 0, bcopyF, zeros 32, _, by decide +kernel, by decide +kernel, by decide +kernel, by decide +kernel, rfl, by decide +kernel⟩,
    ⟨st run0, by decide +kernel⟩,
    ⟨st (air0.setReg Reg.AIR_SUB_CFG 1), by decide +kernel⟩⟩

/-- What SlotsCarryWhatTheyAreFor assumes can be met, clause by clause. -/
theorem test_witness_SlotsCarryWhatTheyAreFor :
    (∃ (s : State) (mix : Mix), s.blk.runs Island.air = true ∧ s.blk.downSlot ↑mix = none) ∧
    (∃ (s : State) (mix : Mix) (k : Nat) (o : Owner), s.blk.runs Island.air = true ∧ s.blk.downSlot ↑mix = some (k, o) ∧ s.blk.canSend o = false) ∧
    (∃ (s : State) (mix : Mix) (k : Nat) (o : Owner), s.blk.runs Island.air = true ∧ s.blk.downSlot ↑mix = some (k, o) ∧ s.blk.canSend o = true ∧ (s.blk.link ↑mix).offer = none ∧ (∀ (e : Elem), e ∈ (s.blk.link ↑mix).elems → e.etype ≠ 137)) ∧
    (∃ (s : State) (c : Fin 2) (k : Nat), s.blk.runs Island.air = true ∧ (¬(((s.blk.slots (c == 1)).getD (k - 2) { }).kind = 4 ∧ 2 ≤ k ∧ (((s.blk.slots (c == 1)).getD (k - 2) { }).hprf = true → s.blk.chanHprf (c == 1) = true) ∧ List.take (if ((s.blk.slots (c == 1)).getD (k - 2) { }).hprf = true then 10 else 2) (List.filter (fun q => (s.blk.link q.mix).chan9 == (c == 1) && decide (q.at' + 20000 ≤ slotStart s.blk.sfIndex k) && (!((s.blk.slots (c == 1)).getD (k - 2) { }).hprf || bitOf (s.blk.link q.mix).cap 0)) s.blk.air.posQueue) ≠ [] ∧ s.blk.bcnKey (slotLaunch s.blk.sfIndex k) ≠ none))) ∧
    (∃ (s : State) (c : Fin 2) (k : Nat), s.blk.runs Island.air = true ∧ (((s.blk.slots (c == 1)).getD (k - 2) { }).kind = 4 ∧ 2 ≤ k ∧ (((s.blk.slots (c == 1)).getD (k - 2) { }).hprf = true → s.blk.chanHprf (c == 1) = true) ∧ List.take (if ((s.blk.slots (c == 1)).getD (k - 2) { }).hprf = true then 10 else 2) (List.filter (fun q => (s.blk.link q.mix).chan9 == (c == 1) && decide (q.at' + 20000 ≤ slotStart s.blk.sfIndex k) && (!((s.blk.slots (c == 1)).getD (k - 2) { }).hprf || bitOf (s.blk.link q.mix).cap 0)) s.blk.air.posQueue) ≠ [] ∧ s.blk.bcnKey (slotLaunch s.blk.sfIndex k) ≠ none)) ∧
    (∃ (s : State) (c : Fin 2), s.blk.runs Island.air = true ∧ (∀ (q : Bcast), q ∈ s.blk.air.bcasts → q.chan9 ≠ (c == 1))) ∧
    (∃ (s : State) (c : Fin 2), s.blk.runs Island.air = true ∧ (∀ (x : Slot), x ∈ s.blk.slots (c == 1) → x.kind ≠ 5)) ∧
    (∃ (s : State) (c : Fin 2) (q : Bcast) (i : Nat), s.blk.runs Island.air = true ∧ List.find? (fun q => q.chan9 == (c == 1)) s.blk.air.bcasts = some q ∧ List.findIdx? (fun x => x.kind == 5) (s.blk.slots (c == 1)) = some i ∧ (q.rsp = true → s.blk.key.site ≠ none) ∧ (q.rsp = false → s.blk.bcnKey (slotLaunch s.blk.sfIndex (i + 2)) ≠ none)) :=
  ⟨⟨st air0, 4, by decide +kernel⟩,
    ⟨st (slotB.setReg (Reg.AIR_HEAD_CFG 2) 0), 4, 3, { owner := air0.short 4, kind := 2, head := 2 }, by decide +kernel⟩,
    ⟨st slotB, 4, 3, { owner := air0.short 4, kind := 2, head := 2 }, by decide +kernel⟩,
    ⟨st run0, 0, 19, by decide +kernel⟩,
    ⟨st slotB, 0, 4, by decide +kernel⟩,
    ⟨st slotB, 1, by decide +kernel⟩,
    ⟨st slotB, 1, by decide +kernel⟩,
    ⟨st slotB, 0, ⟨false, true, 9, 1, zeros 20⟩, 3, by decide +kernel⟩⟩

/-- What MemberFramesAreChecked assumes can be met, clause by clause. -/
theorem test_witness_MemberFramesAreChecked :
    ∃ (s : State), s.blk.runs Island.air = true :=
  ⟨st air0, by decide +kernel⟩

/-- What PartnersAssociateOrWait assumes can be met, clause by clause. -/
theorem test_witness_PartnersAssociateOrWait :
    (∃ (s : State) (site : Bytes), s.blk.runs Island.air = true ∧ s.blk.key.site = some site) ∧
    (∃ (s : State) (t : Nat) (mix : Mix), s.blk.runs Island.air = true ∧ (s.blk.link ↑mix).handshake = true ∧ (s.blk.link ↑mix).reassoc = false ∧ (s.blk.link ↑mix).acceptedAt + 1000000000 ≤ (s.blk.moveTo t).elapsed ∧ s.blk.stopped = true ∧ (s.blk.member ↑mix).state = MState.absent) ∧
    (∃ (s : State) (t : Nat) (mix : Mix), s.blk.runs Island.air = true ∧ (s.blk.link ↑mix).handshake = true ∧ (s.blk.link ↑mix).reassoc = false ∧ (s.blk.link ↑mix).acceptedAt + 1000000000 ≤ (s.blk.moveTo t).elapsed ∧ s.blk.stopped = true ∧ (s.blk.member ↑mix).state ≠ MState.absent) ∧
    (∃ (s : State), s.blk.runs Island.air = true) :=
  ⟨⟨st air0, zeros 32, by decide +kernel⟩,
    ⟨st (assocB {}), 1000000000, 7, by decide +kernel⟩,
    ⟨st (assocB { state := .unheard }), 1000000000, 7, by decide +kernel⟩,
    ⟨st run0, by decide +kernel⟩⟩

/-- What DownlinksAreDeliveredOrMissed assumes can be met, clause by clause. -/
theorem test_witness_DownlinksAreDeliveredOrMissed :
    (∃ (s : State), s.blk.runs Island.air = true) ∧
    (∃ (s : State) (mix : Mix), s.blk.runs Island.air = true ∧ (∀ (e : Elem), e ∈ (s.blk.link ↑mix).elems → e.sent = false)) ∧
    (∃ (s : State) (mix : Mix), s.blk.runs Island.air = true ∧ (∃ e, e ∈ (s.blk.link ↑mix).elems ∧ e.sent = true)) ∧
    (∃ (s : State) (mix : Mix), s.blk.runs Island.air = true ∧ (s.blk.member ↑mix).state.served = true ∧ (s.blk.link ↑mix).miss ≠ 2) ∧
    (∃ (s : State) (mix : Mix), s.blk.runs Island.air = true ∧ (s.blk.member ↑mix).state.served = true ∧ (s.blk.link ↑mix).miss = 2 ∧ s.blk.stopped = true) ∧
    (∃ (s : State) (mix : Mix), s.blk.runs Island.air = true ∧ (s.blk.link ↑mix).keepUplinks = true ∧ (s.blk.member ↑mix).state = MState.evicted ∧ (∀ (e : Elem), e ∈ (s.blk.link ↑mix).elems → e.etype = 132 → e.tries = 0)) ∧
    (∃ (s : State) (mix : Mix) (f : Effect), s.blk.runs Island.air = true ∧ (s.blk.link ↑mix).keepUplinks = true ∧ (s.blk.member ↑mix).state = MState.evicted ∧ (∃ e, e ∈ (s.blk.link ↑mix).elems ∧ e.etype = 132 ∧ 0 < e.tries) ∧ s.blk.fleet.effects = [f] ∧ f.dest = Dest.air ∧ f.obj = ↑mix ∧ f.act = 67 ∧ f.t ≤ s.blk.now) :=
  ⟨⟨st air0, by decide +kernel⟩,
    ⟨st run0, 4, by decide +kernel⟩,
    ⟨st sentB, 4, by decide +kernel, ⟨_, List.mem_singleton.2 rfl, rfl⟩⟩,
    ⟨st run0, 4, by decide +kernel⟩,
    ⟨st sentB, 4, by decide +kernel⟩,
    ⟨st (evctB [] []), 4, by decide +kernel⟩,
    ⟨st (evctB [{ etype := 132, body := [], tries := 1 }] [evE]), 4, evE, by decide +kernel, by decide +kernel, by decide +kernel, ⟨_, List.mem_singleton.2 rfl, by decide⟩, by decide +kernel⟩⟩

/-- What AirDescriptorsServeMembers assumes can be met, clause by clause. -/
theorem test_witness_AirDescriptorsServeMembers :
    (∃ (s : State) (d : Desc), s.blk.runs Island.air = true ∧ s.blk.starts d ∧ d.op 24 1 < s.blk.nMix ∧ d.op 25 1 = 0 ∧ 1 ≤ d.op 26 2 ∧ d.op 26 2 ≤ 615 ∧ d.op 28 4 = 0 ∧ (s.blk.member (d.op 24 1)).state.served = false) ∧
    (∃ (s : State) (d : Desc), s.blk.runs Island.air = true ∧ s.blk.starts d ∧ d.op 24 1 < s.blk.nMix ∧ d.op 25 1 = 0 ∧ 1 ≤ d.op 26 2 ∧ d.op 26 2 ≤ 615 ∧ d.op 28 4 = 0 ∧ (s.blk.member (d.op 24 1)).state.served = true ∧ payloadMax (s.blk.hprf (d.op 24 1)) - 3 < d.op 26 2) ∧
    (∃ (s : State) (d : Desc), s.blk.runs Island.air = true ∧ s.blk.starts d ∧ d.op 24 1 < s.blk.nMix ∧ d.op 25 1 = 0 ∧ 1 ≤ d.op 26 2 ∧ d.op 26 2 ≤ 615 ∧ d.op 28 4 = 0 ∧ (s.blk.member (d.op 24 1)).state.served = true ∧ d.op 26 2 ≤ payloadMax (s.blk.hprf (d.op 24 1)) - 3) ∧
    (∃ (s : State) (d : Desc), s.blk.runs Island.air = true ∧ s.blk.starts d ∧ d.op 24 1 < 64) ∧
    (∃ (s : State) (d : Desc), s.blk.runs Island.air = true ∧ s.blk.starts d ∧ d.op 32 1 = 0 ∧ s.blk.air.admitted.contains (d.op 24 8) = true) ∧
    (∃ (s : State) (d : Desc), s.blk.runs Island.air = true ∧ s.blk.starts d ∧ d.op 32 1 = 0 ∧ s.blk.air.admitted.contains (d.op 24 8) = false ∧ s.blk.air.admitted.length < 256) ∧
    (∃ (s : State) (d : Desc), s.blk.runs Island.air = true ∧ s.blk.starts d ∧ d.op 32 1 = 0 ∧ s.blk.air.admitted.contains (d.op 24 8) = false ∧ 256 ≤ s.blk.air.admitted.length) ∧
    (∃ (s : State) (d : Desc), s.blk.runs Island.air = true ∧ s.blk.starts d ∧ d.op 32 1 = 1) ∧
    (∃ (s : State) (d : Desc), s.blk.runs Island.air = true ∧ s.blk.starts d ∧ d.op 32 1 = 2) ∧
    (∃ (s : State) (d : Desc), s.blk.runs Island.air = true ∧ s.blk.starts d ∧ d.op 24 8 % 64 = 0) :=
  ⟨⟨st air0, kd 0x0301 [5, 0, 1, 0], by decide +kernel, by unfold Blk.starts; decide +kernel, by decide +kernel⟩,
    ⟨st air0, kd 0x0301 ([4, 0] ++ leBytes 2 615), by decide +kernel, by unfold Blk.starts; decide +kernel, by decide +kernel⟩,
    ⟨st air0, kd 0x0301 [4, 0, 1, 0], by decide +kernel, by unfold Blk.starts; decide +kernel, by decide +kernel⟩,
    ⟨st air0, kd 0x0302 [63], by decide +kernel, by unfold Blk.starts; decide +kernel, by decide +kernel⟩,
    ⟨st { run0 with air := { run0.air with admitted := [5] } }, kd 0x0303 (leBytes 8 5), by decide +kernel, by unfold Blk.starts; decide +kernel, by decide +kernel⟩,
    ⟨st run0, kd 0x0303 (leBytes 8 5), by decide +kernel, by unfold Blk.starts; decide +kernel, by decide +kernel⟩,
    ⟨st { run0 with air := { run0.air with admitted := List.range' 100 256 } }, kd 0x0303 (leBytes 8 5), by decide +kernel, by unfold Blk.starts; decide +kernel, by decide +kernel⟩,
    ⟨st run0, kd 0x0303 (leBytes 8 5 ++ [1]), by decide +kernel, by unfold Blk.starts; decide +kernel, by decide +kernel⟩,
    ⟨st run0, kd 0x0303 (leBytes 8 5 ++ [2]), by decide +kernel, by unfold Blk.starts; decide +kernel, by decide +kernel⟩,
    ⟨st run0, kd 0x0304 (leBytes 8 64), by decide +kernel, by unfold Blk.starts; decide +kernel, by decide +kernel⟩⟩

/-- What HeadsJoinAndAreLost assumes can be met, clause by clause. -/
theorem test_witness_HeadsJoinAndAreLost :
    (∃ (s : State) (frame : Bytes) (site : Bytes) (p : Bytes), s.blk.runs Island.hdl = true ∧ s.blk.inSvc = true ∧ s.blk.ethPayload frame = some p ∧ s.blk.key.site = some site ∧ hlParse p = none) ∧
    (∃ (s : State) (h : Head8) (frame : Bytes) (site : Bytes) (p : Bytes) (f : HlRx), s.blk.runs Island.hdl = true ∧ s.blk.inSvc = true ∧ s.blk.ethPayload frame = some p ∧ s.blk.key.site = some site ∧ hlParse p = some f ∧ f.typ = 1 ∧ ((s.blk.head ↑h).joined = true ∨ s.blk.headEui ↑h ≠ 0 ∧ s.blk.headEui ↑h ≠ le (slice f.rest 0 24) 0 8)) ∧
    (∃ (s : State) (h : Head8) (frame : Bytes) (site : Bytes) (p : Bytes) (f : HlRx), s.blk.runs Island.hdl = true ∧ s.blk.inSvc = true ∧ s.blk.ethPayload frame = some p ∧ s.blk.key.site = some site ∧ hlParse p = some f ∧ f.typ = 1 ∧ (¬((s.blk.head ↑h).joined = true ∨ s.blk.headEui ↑h ≠ 0 ∧ s.blk.headEui ↑h ≠ le (slice f.rest 0 24) 0 8)) ∧ (∀ (q : Nat × Nat), q ∈ s.blk.hdl.joins → q.fst ≠ le (slice f.rest 0 24) 0 8)) ∧
    (∃ (s : State) (h : Head8) (frame : Bytes) (site : Bytes) (p : Bytes) (f : HlRx) (q : Nat × Nat), s.blk.runs Island.hdl = true ∧ s.blk.inSvc = true ∧ s.blk.ethPayload frame = some p ∧ s.blk.key.site = some site ∧ hlParse p = some f ∧ f.typ = 1 ∧ (¬((s.blk.head ↑h).joined = true ∨ s.blk.headEui ↑h ≠ 0 ∧ s.blk.headEui ↑h ≠ le (slice f.rest 0 24) 0 8)) ∧ List.find? (fun q => q.fst == le (slice f.rest 0 24) 0 8) s.blk.hdl.joins = some q ∧ f.cnt ≤ q.snd) ∧
    (∃ (s : State) (h : Head8) (t : Nat), s.blk.runs Island.hdl = true ∧ (s.blk.head ↑h).joined = true ∧ (s.blk.head ↑h).lastHb + s.blk.fld Reg.HDL_SYNC_CFG 1 0 * 125000 ≤ (s.blk.moveTo t).elapsed) ∧
    (∃ (s : State) (h : Head8), s.blk.runs Island.hdl = true ∧ (s.blk.head ↑h).joined = true ∧ 3 ≤ (s.blk.head ↑h).winMiss) ∧
    (∃ (s : State) (h : Head8) (port : Fin 10), s.blk.runs Island.hdl = true ∧ (s.blk.head ↑h).joined = true ∧ (port : Nat) = h) ∧
    (∃ (s : State) (port : Fin 10) (up : Bool), s.blk.runs Island.hdl = true ∧ ↑port < 8 ∧ up = true) ∧
    (∃ (s : State) (port : Fin 10), s.blk.runs Island.hdl = true ∧ 8 ≤ ↑port) :=
  ⟨⟨st headB, ethF [], zeros 32, _, by decide +kernel, by decide +kernel, rfl, by decide +kernel⟩,
    ⟨st headB, 2, helloF, zeros 32, _, _, by decide +kernel, by decide +kernel, rfl, by decide +kernel, rfl, by decide +kernel⟩,
    ⟨st headB, 7, helloF, zeros 32, _, _, by decide +kernel, by decide +kernel, rfl, by decide +kernel, rfl, by decide +kernel⟩,
    ⟨st { headB with hdl := { headB.hdl with joins := [(5, 2 ^ 32)] } }, 7, helloF, zeros 32, _, _, (5, 2 ^ 32), by decide +kernel, by decide +kernel, rfl, by decide +kernel, rfl, by decide +kernel⟩,
    ⟨st headB, 2, 0, by decide +kernel⟩,
    ⟨st { headB with hdl := { headB.hdl with heads := [(2, { state := .up, winMiss := 3 })] } }, 2, by decide +kernel⟩,
    ⟨st headB, 2, 2, by decide +kernel⟩,
    ⟨st headB, 7, true, by decide +kernel⟩,
    ⟨st headB, 8, by decide +kernel⟩⟩

/-- What HeadsKeepTime assumes can be met, clause by clause. -/
theorem test_witness_HeadsKeepTime :
    (∃ (s : State), s.blk.runs Island.hdl = true) ∧
    (∃ (s : State), s.blk.runs Island.hdl = true) ∧
    (∃ (s : State) (t : Nat) (h : Head8), s.blk.runs Island.hdl = true ∧ ((s.blk.head ↑h).state = HState.suspect ∧ (s.blk.head ↑h).suspectAt + s.blk.fld Reg.HDL_SYNC_CFG 31 24 * 1000000000 ≤ (s.blk.moveTo t).elapsed)) ∧
    (∃ (s : State) (t : Nat) (h : Head8), s.blk.runs Island.hdl = true ∧ (¬((s.blk.head ↑h).state = HState.suspect ∧ (s.blk.head ↑h).suspectAt + s.blk.fld Reg.HDL_SYNC_CFG 31 24 * 1000000000 ≤ (s.blk.moveTo t).elapsed))) :=
  ⟨⟨st headB, by decide +kernel⟩,
    ⟨st headB, by decide +kernel⟩,
    ⟨st { headB with hdl := { headB.hdl with heads := [(2, { state := .suspect })] } }, 5000000000, 2, by decide +kernel⟩,
    ⟨st headB, 0, 2, by decide +kernel⟩⟩

/-- What HeadsAreRecalibratedAndReport assumes can be met, clause by clause. -/
theorem test_witness_HeadsAreRecalibratedAndReport :
    (∃ (s : State) (h : Head8) (w : Word), s.blk.runs Island.hdl = true ∧ s.blk.inSvc = true ∧ BitVec.getLsbD w 0 = true ∧ BitVec.getLsbD w 1 = true ∧ (s.blk.head ↑h).joined = true) ∧
    (∃ (s : State) (h : Head8) (w : Word) (e : Exch), s.blk.runs Island.hdl = true ∧ s.blk.inSvc = true ∧ BitVec.getLsbD w 0 = true ∧ BitVec.getLsbD w 1 = false ∧ (s.blk.head ↑h).state = HState.suspect ∧ (s.blk.head ↑h).lastX = some e) ∧
    (∃ (s : State) (h : Head8) (w : Word), s.blk.runs Island.hdl = true ∧ s.blk.inSvc = true ∧ BitVec.getLsbD w 0 = true ∧ BitVec.getLsbD w 1 = false ∧ (s.blk.head ↑h).state ≠ HState.suspect) ∧
    (∃ (s : State), s.blk.runs Island.hdl = true) ∧
    (∃ (s : State) (t : Nat), s.blk.runs Island.hdl = true ∧ s.blk.stopped = true ∧ (s.blk.moveTo (t / 1000000 * 1000000 - 48000)).windowMask (t / 1000000 * 1000000) ≠ 0) ∧
    (∃ (s : State) (h : Nat), s.blk.runs Island.hdl = true ∧ h < 8 ∧ s.blk.stopped = true ∧ s.blk.hdl.window ≠ none ∧ bitOf (s.blk.head h).winSent 4 = true) ∧
    (∃ (s : State), s.blk.runs Island.hdl = true ∧ s.blk.stopped = false) :=
  ⟨⟨st headB, 2, 3, by decide +kernel⟩,
    ⟨st { headB with hdl := { headB.hdl with heads := [(2, { state := .suspect, lastX := some ⟨1, 2, 3, 4⟩ })] } }, 2, 1, ⟨1, 2, 3, 4⟩, by decide +kernel⟩,
    ⟨st headB, 2, 1, by decide +kernel⟩,
    ⟨st headB, by decide +kernel⟩,
    ⟨st headB, 10000000000, by decide +kernel⟩,
    ⟨st { headB with hdl := { headB.hdl with window := some 5, heads := [(2, { state := .up, winSent := 16 })] } }, 2, by decide +kernel⟩,
    ⟨st run0, by decide +kernel⟩⟩

/-- What FrontEndWatchesItsInput assumes can be met, clause by clause. -/
theorem test_witness_FrontEndWatchesItsInput :
    (∃ (s : State), s.blk.runs Island.gns = true ∧ s.blk.fld Reg.GNS_ANT_CFG 1 0 = 0) ∧
    (∃ (s : State), s.blk.runs Island.gns = true ∧ s.blk.fld Reg.GNS_ANT_CFG 1 0 ≠ 0 ∧ s.blk.gns.ant = 3) ∧
    (∃ (s : State) (i : Nat), s.blk.runs Island.gns = true ∧ s.blk.fld Reg.GNS_ANT_CFG 1 0 ≠ 0 ∧ s.blk.gns.ant ≠ 3 ∧ (s.blk.fld Reg.GNS_ANT_CFG 31 24 * 10 ≤ i ∨ 1500 ≤ i) ∧ (s.blk.gns.ant = 4 → 9 ≤ s.blk.gns.antTot)) ∧
    (∃ (s : State) (i : Nat), s.blk.runs Island.gns = true ∧ s.blk.fld Reg.GNS_ANT_CFG 1 0 ≠ 0 ∧ s.blk.gns.ant = 4 ∧ (s.blk.fld Reg.GNS_ANT_CFG 31 24 * 10 ≤ i ∨ 1500 ≤ i) ∧ s.blk.gns.antTot < 9) ∧
    (∃ (s : State) (i : Nat), s.blk.runs Island.gns = true ∧ s.blk.fld Reg.GNS_ANT_CFG 1 0 ≠ 0 ∧ s.blk.gns.ant ≠ 3 ∧ (¬(s.blk.fld Reg.GNS_ANT_CFG 31 24 * 10 ≤ i ∨ 1500 ≤ i)) ∧ (s.blk.gns.antCond = if i < s.blk.fld Reg.GNS_ANT_CFG 23 16 then 2 else 1) ∧ 99 ≤ s.blk.gns.antN) ∧
    (∃ (s : State) (i : Nat), s.blk.runs Island.gns = true ∧ s.blk.fld Reg.GNS_ANT_CFG 1 0 ≠ 0 ∧ s.blk.gns.ant ≠ 3 ∧ (¬(s.blk.fld Reg.GNS_ANT_CFG 31 24 * 10 ≤ i ∨ 1500 ≤ i)) ∧ (s.blk.gns.antCond ≠ if i < s.blk.fld Reg.GNS_ANT_CFG 23 16 then 2 else 1)) ∧
    (∃ (s : State) (t : Nat), s.blk.runs Island.gns = true ∧ (s.blk.gns.ant = 3 ∧ s.blk.fld Reg.GNS_ANT_CFG 1 0 ≠ 0 ∧ s.blk.gns.antAt + 1000000000 ≤ (s.blk.moveTo t).elapsed)) ∧
    (∃ (s : State) (t : Nat), s.blk.runs Island.gns = true ∧ (¬(s.blk.gns.ant = 3 ∧ s.blk.fld Reg.GNS_ANT_CFG 1 0 ≠ 0 ∧ s.blk.gns.antAt + 1000000000 ≤ (s.blk.moveTo t).elapsed))) ∧
    (∃ (s : State), s.blk.runs Island.gns = true) ∧
    (∃ (s : State), s.blk.runs Island.gns = true ∧ 8 ≤ s.blk.fld Reg.GNS_JAM_CFG 7 0) ∧
    (∃ (s : State) (l : SpecLine), s.blk.runs Island.gns = true ∧ s.blk.fld Reg.GNS_NOTCH_CFG 15 8 ≤ l.level ∧ (∀ (n : Nat), n < 4 → (s.blk.notch n).on = false) ∧ s.blk.flag Reg.GNS_NOTCH_CFG 16 = true ∧ (∃ o, List.find? (fun x => x.line == l.line) s.blk.gns.lines = some o ∧ 9 ≤ o.count)) ∧
    (∃ (s : State) (l : SpecLine), s.blk.runs Island.gns = true ∧ s.blk.fld Reg.GNS_NOTCH_CFG 15 8 ≤ l.level ∧ (∀ (n : Nat), n < 4 → (s.blk.notch n).on = false) ∧ s.blk.flag Reg.GNS_NOTCH_CFG 16 = true ∧ (∀ (o : NLine), List.find? (fun x => x.line == l.line) s.blk.gns.lines = some o → o.count < 9)) ∧
    (∃ (s : State) (l : SpecLine) (n : Nat), s.blk.runs Island.gns = true ∧ s.blk.fld Reg.GNS_NOTCH_CFG 15 8 ≤ l.level ∧ n < 4 ∧ (s.blk.notch n).on = true ∧ (s.blk.notch n).line = l.line ∧ (∀ (m : Nat), m < 4 → m ≠ n → (s.blk.notch m).on = false) ∧ s.blk.flag Reg.GNS_NOTCH_CFG (16 + n) = true) :=
  ⟨⟨st ((gnsB {}).setReg Reg.GNS_ANT_CFG 0), by decide +kernel⟩,
    ⟨st (gnsB { ant := 3 }), by decide +kernel⟩,
    ⟨st (gnsB { ant := 1 }), 1500, by decide +kernel⟩,
    ⟨st (gnsB { ant := 4 }), 1500, by decide +kernel⟩,
    ⟨st (gnsB { ant := 2, antCond := 1, antN := 99 }), 100, by decide +kernel⟩,
    ⟨st (gnsB { ant := 2, antCond := 2, antN := 99 }), 100, by decide +kernel⟩,
    ⟨st (gnsB { ant := 3 }), 0, by decide +kernel⟩,
    ⟨st (gnsB { ant := 2 }), 0, by decide +kernel⟩,
    ⟨st run0, by decide +kernel⟩,
    ⟨st run0, by decide +kernel⟩,
    ⟨st (gnsB { lines := [⟨7, 9, 0⟩] }), ⟨7, 100, 200, 70⟩, by decide +kernel, by decide +kernel, by decide +kernel, by decide +kernel, ⟨_, rfl, by decide⟩⟩,
    ⟨st (gnsB { lines := [⟨7, 8, 0⟩] }), ⟨7, 100, 200, 70⟩, by decide +kernel, by decide +kernel, by decide +kernel, by decide +kernel, by rintro o ⟨⟩; decide⟩,
    ⟨st (gnsB { notches := [(2, { on := true, line := 7 })] }), ⟨7, 100, 200, 70⟩, 2, by decide +kernel⟩⟩

/-- What ChannelsSearchTrackAndTime assumes can be met, clause by clause. -/
theorem test_witness_ChannelsSearchTrackAndTime :
    (∃ (s : State) (t : Nat), s.blk.runs Island.gns = true ∧ (s.blk.moveTo t).noOrbit = false ∧ (s.blk.moveTo t).refPos ≠ none) ∧
    (∃ (s : State) (t : Nat) (n : Nat) (i : Nat) (q : Nat × Nat), s.blk.runs Island.gns = true ∧ (s.blk.moveTo t).noOrbit = true ∧ n < 64 ∧ (∀ (k : Nat), k < 64 → ((s.blk.chan k).st = 0 ↔ k = n)) ∧ s.blk.nextSearch = some (i, q)) ∧
    (∃ (s : State) (n : Chan64) (o : AcqObs), s.blk.runs Island.gns = true ∧ ((s.blk.chan ↑n).st = 1 ∨ (s.blk.chan ↑n).st = 4) ∧ s.blk.acqFound (s.blk.chan ↑n) o = true) ∧
    (∃ (s : State) (n : Chan64) (o : AcqObs), s.blk.runs Island.gns = true ∧ ((s.blk.chan ↑n).st = 1 ∨ (s.blk.chan ↑n).st = 4) ∧ s.blk.acqFound (s.blk.chan ↑n) o = false ∧ s.blk.noOrbit = false) ∧
    (∃ (s : State) (n : Chan64) (o : AcqObs) (i : Nat) (q : Nat × Nat), s.blk.runs Island.gns = true ∧ ((s.blk.chan ↑n).st = 1 ∨ (s.blk.chan ↑n).st = 4) ∧ s.blk.acqFound (s.blk.chan ↑n) o = false ∧ s.blk.noOrbit = true ∧ (s.blk.freeChan ↑n).nextSearch = some (i, q)) ∧
    (∃ (s : State) (p : List TrkIn) (q : List TrkIn) (x : TrkIn), s.blk.runs Island.gns = true ∧ (∀ (y : TrkIn), y ∈ p ++ q → y.chan ≠ x.chan)) ∧
    (∃ (s : State) (n : Chan64), s.blk.runs Island.gns = true ∧ ((s.blk.chan ↑n).st = 2 ∨ (s.blk.chan ↑n).st = 3)) ∧
    (∃ (s : State) (n : Chan64), s.blk.runs Island.gns = true ∧ (s.blk.chan ↑n).st = 3 ∧ (s.blk.chan ↑n).pilot = false ∧ (s.blk.chan ↑n).half = false) ∧
    (∃ (s : State) (n : Chan64) (first : Nat) (nSym : Nat) (gap : Bool), s.blk.runs Island.gns = true ∧ (¬(s.blk.fld Reg.GNS_OUT_CFG 21 16 ≠ 0 ∧ 1 ≤ nSym ∧ nSym ≤ (symbolsOf (s.blk.chan ↑n).last.fst).fst ∧ first % 1000000000 + (nSym - 1) * (symbolsOf (s.blk.chan ↑n).last.fst).snd < 1000000000 ∧ (s.blk.chan ↑n).last.snd ≠ 0 ∧ ((s.blk.chan ↑n).st = 3 ∨ gap = true)))) ∧
    (∃ (s : State) (n : Chan64) (first : Nat) (nSym : Nat) (gap : Bool), s.blk.runs Island.gns = true ∧ (s.blk.fld Reg.GNS_OUT_CFG 21 16 ≠ 0 ∧ 1 ≤ nSym ∧ nSym ≤ (symbolsOf (s.blk.chan ↑n).last.fst).fst ∧ first % 1000000000 + (nSym - 1) * (symbolsOf (s.blk.chan ↑n).last.fst).snd < 1000000000 ∧ (s.blk.chan ↑n).last.snd ≠ 0 ∧ ((s.blk.chan ↑n).st = 3 ∨ gap = true))) ∧
    (∃ (s : State) (t : Nat), s.blk.runs Island.gns = true ∧ t % 50000000 ≠ 0) ∧
    (∃ (s : State) (t : Nat), s.blk.runs Island.gns = true ∧ t % 50000000 = 0) :=
  ⟨⟨st { orbB with pos := { orbB.pos with ref := some (zeros 24) } }, 10000000000, by decide +kernel⟩,
    ⟨st { stopped0 with gns := { chans := (List.range 63).map (fun i => (i, { st := 3, sys := 3, svid := 63 })) } }, 0, 63, 1, (0, 1), by decide +kernel⟩,
    ⟨st { stopped0 with gns := { chans := [(3, { st := 4 })] } }, 3, acqX, by decide +kernel⟩,
    ⟨st (chanB { st := 4 }), 3, acqNo, by decide +kernel⟩,
    ⟨st { stopped0 with gns := { chans := [(3, { st := 1 })] } }, 3, acqNo, 1, (0, 1), by decide +kernel⟩,
    ⟨st run0, [], [], ⟨3, 300, 4000⟩, by decide +kernel⟩,
    ⟨st (chanB { st := 2 }), 3, by decide +kernel⟩,
    ⟨st (chanB { st := 3 }), 3, by decide +kernel⟩,
    ⟨st (run0.setReg Reg.GNS_OUT_CFG 0), 63, 0, 5, false, by decide +kernel⟩,
    ⟨st ((chanB { st := 3, last := (0, 1) }).setReg Reg.GNS_OUT_CFG (word 0x30000)), 3, 0, 5, false, by decide +kernel⟩,
    ⟨st run0, 1, by decide +kernel⟩,
    ⟨st run0, 50000000, by decide +kernel⟩⟩

/-- What SnapshotsAreProcessedInTurn assumes can be met, clause by clause. -/
theorem test_witness_SnapshotsAreProcessedInTurn :
    (∃ (s : State) (t : Nat) (x : GSnap), s.blk.runs Island.gns = true ∧ s.blk.gns.snaps = [x] ∧ x.doneAt = none ∧ x.host = none ∧ x.orphan = false ∧ x.at' + s.blk.fld Reg.GNS_SNAP_CFG 31 16 * 1000000 ≤ (s.blk.moveTo t).elapsed) ∧
    (∃ (s : State) (t : Nat) (x : GSnap), s.blk.runs Island.gns = true ∧ s.blk.gns.snaps = [x] ∧ x.doneAt = none ∧ x.host = none ∧ x.orphan = false ∧ (s.blk.moveTo t).elapsed < x.at' + s.blk.fld Reg.GNS_SNAP_CFG 31 16 * 1000000) ∧
    (∃ (s : State) (t : Nat), s.blk.runs Island.gns = true ∧ (t % 25000000 ≠ 0 ∨ s.blk.gns.lastStart = some t ∨ (s.blk.moveTo t).nextSnap = none ∨ 9 ≤ (List.filter (fun y => y.running) s.blk.gns.snaps).length)) ∧
    (∃ (s : State) (t : Nat) (x : GSnap), s.blk.runs Island.gns = true ∧ t % 25000000 = 0 ∧ s.blk.gns.lastStart ≠ some t ∧ (s.blk.moveTo t).nextSnap = some x ∧ ¬9 ≤ (List.filter (fun y => y.running) s.blk.gns.snaps).length ∧ (s.blk.moveTo t).noOrbit = false) ∧
    (∃ (s : State) (t : Nat) (x : GSnap), s.blk.runs Island.gns = true ∧ t % 25000000 = 0 ∧ s.blk.gns.lastStart ≠ some t ∧ (s.blk.moveTo t).nextSnap = some x ∧ ¬9 ≤ (List.filter (fun y => y.running) s.blk.gns.snaps).length ∧ (s.blk.moveTo t).noOrbit = true) ∧
    (∃ (s : State), s.blk.runs Island.gns = true ∧ (∀ (y : GSnap), y ∈ s.blk.gns.snaps → y.running = false)) ∧
    (∃ (s : State) (x : GSnap), s.blk.runs Island.gns = true ∧ List.find? (fun y => y.running) s.blk.gns.snaps = some x ∧ x.void = true) ∧
    (∃ (s : State) (x : GSnap), s.blk.runs Island.gns = true ∧ List.find? (fun y => y.running) s.blk.gns.snaps = some x ∧ x.void = false) :=
  ⟨⟨st (gnsB { snaps := [snapX] }), 0, snapX, by decide +kernel⟩,
    ⟨st (gnsB { snaps := [{ snapX with at' := 10000000000 }] }), 0, _, by decide +kernel, rfl, by decide +kernel⟩,
    ⟨st run0, 1, by decide +kernel⟩,
    ⟨st { orbB with gns := { orbB.gns with snaps := [{ snapX with doneAt := some 5 }] } }, 10000000000, { snapX with doneAt := some 5 }, by decide +kernel⟩,
    ⟨st (gnsB { snaps := [{ snapX with doneAt := some 5 }] }), 25000000, { snapX with doneAt := some 5 }, by decide +kernel⟩,
    ⟨st run0, by decide +kernel⟩,
    ⟨st (gnsB { snaps := [{ snapX with running := true, void := true }] }), { snapX with running := true, void := true }, by decide +kernel⟩,
    ⟨st (gnsB { snaps := [{ snapX with running := true }] }), { snapX with running := true }, by decide +kernel⟩⟩

/-- What GnssAndPositioningDescriptorsAct assumes can be met, clause by clause. -/
theorem test_witness_GnssAndPositioningDescriptorsAct :
    (∃ (s : State) (d : Desc), s.blk.runs Island.gns = true ∧ s.blk.starts d ∧ d.op 24 1 = 0) ∧
    (∃ (s : State) (d : Desc), s.blk.runs Island.gns = true ∧ s.blk.starts d ∧ d.op 24 1 = 1) ∧
    (∃ (s : State) (d : Desc), s.blk.runs Island.gns = true ∧ s.blk.starts d ∧ d.op 24 8 % 8 = 0 ∧ s.blk.flag Reg.GNS_SNAP_CFG 0 = false) ∧
    (∃ (s : State) (d : Desc) (data : Bytes) (o : Nat), s.blk.runs Island.gns = true ∧ s.blk.starts d ∧ d.op 24 8 % 8 = 0 ∧ s.blk.flag Reg.GNS_SNAP_CFG 0 = true ∧ snapHeaderBad (slice data 0 48) true = some o) ∧
    (∃ (s : State) (d : Desc) (data : Bytes), s.blk.runs Island.gns = true ∧ s.blk.starts d ∧ d.op 24 8 % 8 = 0 ∧ s.blk.flag Reg.GNS_SNAP_CFG 0 = true ∧ snapHeaderBad (slice data 0 48) true = none ∧ d.op 32 4 ≠ 48 + snapBytes (byteAt (slice data 0 48) 1)) ∧
    (∃ (s : State) (d : Desc) (data : Bytes), s.blk.runs Island.gns = true ∧ s.blk.starts d ∧ d.op 24 8 % 8 = 0 ∧ s.blk.flag Reg.GNS_SNAP_CFG 0 = true ∧ snapHeaderBad (slice data 0 48) true = none ∧ d.op 32 4 = 48 + snapBytes (byteAt (slice data 0 48) 1) ∧ ¬BitVec.toNat (crc32c (slice data 48 (snapBytes (byteAt (slice data 0 48) 1)))) = le (slice data 0 48) 40 4) ∧
    (∃ (s : State) (d : Desc) (data : Bytes), s.blk.runs Island.gns = true ∧ s.blk.starts d ∧ d.op 24 8 % 8 = 0 ∧ s.blk.flag Reg.GNS_SNAP_CFG 0 = true ∧ snapHeaderBad (slice data 0 48) true = none ∧ d.op 32 4 = 48 + snapBytes (byteAt (slice data 0 48) 1) ∧ BitVec.toNat (crc32c (slice data 48 (snapBytes (byteAt (slice data 0 48) 1)))) = le (slice data 0 48) 40 4 ∧ s.blk.snapPlaces < 160) ∧
    (∃ (s : State) (d : Desc) (data : Bytes), s.blk.runs Island.gns = true ∧ s.blk.starts d ∧ d.op 24 8 % 8 = 0 ∧ s.blk.flag Reg.GNS_SNAP_CFG 0 = true ∧ snapHeaderBad (slice data 0 48) true = none ∧ d.op 32 4 = 48 + snapBytes (byteAt (slice data 0 48) 1) ∧ BitVec.toNat (crc32c (slice data 48 (snapBytes (byteAt (slice data 0 48) 1)))) = le (slice data 0 48) 40 4 ∧ 160 ≤ s.blk.snapPlaces) ∧
    (∃ (s : State) (d : Desc), s.blk.runs Island.gns = true ∧ s.blk.starts d ∧ d.op 24 8 % 64 = 0 ∧ d.op 32 4 < 2048) ∧
    (∃ (s : State) (d : Desc), s.blk.runs Island.gns = true ∧ s.blk.starts d ∧ d.op 24 8 % 64 = 0 ∧ 2048 ≤ d.op 32 4) ∧
    (∃ (s : State), s.blk.runs Island.pos = true ∧ s.blk.pos.orbitNext = []) ∧
    (∃ (s : State) (l : List (OpId × OrbitSet × Nat)) (id : OpId) (o : OrbitSet) (a : Nat), s.blk.runs Island.pos = true ∧ s.blk.pos.orbitNext = l ++ [(id, o, a)]) ∧
    (∃ (s : State) (d : Desc), s.blk.runs Island.pos = true ∧ s.blk.starts d ∧ posFinite (slice d.bytes 24 24) = false) ∧
    (∃ (s : State) (d : Desc), s.blk.runs Island.pos = true ∧ s.blk.starts d ∧ posFinite (slice d.bytes 24 24) = true ∧ ((distSq (coords (slice d.bytes 24 24)) earthCentre).fst < 6340000 * 6340000 * (distSq (coords (slice d.bytes 24 24)) earthCentre).snd ∨ 6400000 * 6400000 * (distSq (coords (slice d.bytes 24 24)) earthCentre).snd < (distSq (coords (slice d.bytes 24 24)) earthCentre).fst)) ∧
    (∃ (s : State) (d : Desc), s.blk.runs Island.pos = true ∧ s.blk.starts d ∧ posFinite (slice d.bytes 24 24) = true ∧ (¬((distSq (coords (slice d.bytes 24 24)) earthCentre).fst < 6340000 * 6340000 * (distSq (coords (slice d.bytes 24 24)) earthCentre).snd ∨ 6400000 * 6400000 * (distSq (coords (slice d.bytes 24 24)) earthCentre).snd < (distSq (coords (slice d.bytes 24 24)) earthCentre).fst))) ∧
    (∃ (s : State) (d : Desc), s.blk.runs Island.pos = true ∧ s.blk.starts d ∧ d.op 24 8 % 8 = 0 ∧ (∃ q, q ∈ s.blk.pos.orbitNext ∧ q.snd.snd = s.blk.elapsed)) ∧
    (∃ (s : State) (d : Desc) (set : Bytes), s.blk.runs Island.pos = true ∧ s.blk.starts d ∧ d.op 24 8 % 8 = 0 ∧ (¬∃ q, q ∈ s.blk.pos.orbitNext ∧ q.snd.snd = s.blk.elapsed) ∧ ∃ (o : OrbitSet), checkOrbit (d.op 32 4) set = Except.ok o) ∧
    (∃ (s : State) (d : Desc) (set : Bytes), s.blk.runs Island.pos = true ∧ s.blk.starts d ∧ d.op 24 8 % 8 = 0 ∧ (¬∃ q, q ∈ s.blk.pos.orbitNext ∧ q.snd.snd = s.blk.elapsed) ∧ ∃ (k : Nat), checkOrbit (d.op 32 4) set = Except.error k) ∧
    (∃ (s : State) (d : Desc), s.blk.runs Island.pos = true ∧ s.blk.starts d ∧ d.op 24 8 % 8 = 0 ∧ d.op 32 4 ≠ 128) ∧
    (∃ (s : State) (d : Desc) (tab : Bytes), s.blk.runs Island.pos = true ∧ s.blk.starts d ∧ d.op 24 8 % 8 = 0 ∧ d.op 32 4 = 128 ∧ ∃ (hs : List PHead), parseHeads tab = Except.ok hs) ∧
    (∃ (s : State) (d : Desc) (tab : Bytes), s.blk.runs Island.pos = true ∧ s.blk.starts d ∧ d.op 24 8 % 8 = 0 ∧ d.op 32 4 = 128 ∧ ∃ (k : Nat), parseHeads tab = Except.error k) ∧
    (∃ (s : State) (d : Desc), s.blk.runs Island.pos = true ∧ s.blk.starts d ∧ d.op 24 8 % 64 = 0) :=
  ⟨⟨st run0, kd 0x0401 [0], by decide +kernel, by unfold Blk.starts; decide +kernel, by decide +kernel⟩,
    ⟨st run0, kd 0x0401 [1], by decide +kernel, by unfold Blk.starts; decide +kernel, by decide +kernel⟩,
    ⟨st (run0.setReg Reg.GNS_SNAP_CFG 0), kd 0x0402 (leBytes 8 64 ++ leBytes 4 47), by decide +kernel, by unfold Blk.starts; decide +kernel, by decide +kernel⟩,
    ⟨st snapOn, kd 0x0402 (leBytes 8 64 ++ leBytes 4 47), [], _, by decide +kernel, by unfold Blk.starts; decide +kernel, by decide +kernel, by decide +kernel, rfl⟩,
    ⟨st snapOn, kd 0x0402 (leBytes 8 64 ++ leBytes 4 47), snapHdr, by decide +kernel, by unfold Blk.starts; decide +kernel, by decide +kernel⟩,
    ⟨st snapOn, kd 0x0402 (leBytes 8 64 ++ leBytes 4 (48 + snapBytes (byteAt snapBad 1))), snapBad, by decide +kernel, by unfold Blk.starts; decide +kernel, by decide +kernel, by decide +kernel, by decide +kernel, by decide +kernel, snapCrcBad⟩,
    ⟨st snapOn, kd 0x0402 (leBytes 8 64 ++ leBytes 4 (48 + snapBytes (byteAt snapHdr 1))), snapHdr, by decide +kernel, by unfold Blk.starts; decide +kernel, by decide +kernel, by decide +kernel, by decide +kernel, by decide +kernel, snapCrc, by decide +kernel⟩,
    ⟨st { snapOn with gns := { snapOn.gns with snaps := List.replicate 160 { snapX with doneAt := some 5 } } }, kd 0x0402 (leBytes 8 64 ++ leBytes 4 (48 + snapBytes (byteAt snapHdr 1))), snapHdr, by decide +kernel, by unfold Blk.starts; decide +kernel, by decide +kernel, by decide +kernel, by decide +kernel, by decide +kernel, snapCrc, by decide +kernel⟩,
    ⟨st run0, kd 0x0403 (leBytes 8 64 ++ leBytes 4 2047), by decide +kernel, by unfold Blk.starts; decide +kernel, by decide +kernel⟩,
    ⟨st run0, kd 0x0403 (leBytes 8 64 ++ leBytes 4 2048), by decide +kernel, by unfold Blk.starts; decide +kernel, by decide +kernel⟩,
    ⟨st run0, by decide +kernel⟩,
    ⟨st (posB { orbitNext := [(opid, ⟨77, []⟩, 0)] }), [], opid, ⟨77, []⟩, 0, by decide +kernel⟩,
    ⟨st run0, kd 0x0410 (leBytes 8 0x7FF0000000000000 ++ zeros 16), by decide +kernel, by unfold Blk.starts; decide +kernel, by decide +kernel⟩,
    ⟨st run0, kd 0x0410 (leBytes 8 0x4148400000000000 ++ zeros 16), by decide +kernel, by unfold Blk.starts; decide +kernel, by decide +kernel⟩,
    ⟨st run0, kd 0x0410 (leBytes 8 0x4158400000000000 ++ zeros 16), by decide +kernel, by unfold Blk.starts; decide +kernel, by decide +kernel⟩,
    ⟨st (posB { orbitNext := [(opid, ⟨77, []⟩, 10000000000)] }), kd 0x0411 (leBytes 8 64 ++ leBytes 4 128), by decide +kernel, by unfold Blk.starts; decide +kernel, by decide +kernel, ⟨_, List.mem_singleton.2 rfl, by decide +kernel⟩⟩,
    ⟨st run0, kd 0x0411 (leBytes 8 64 ++ leBytes 4 orbImg.length), orbImg, by decide +kernel, by unfold Blk.starts; decide +kernel, by decide +kernel, by rintro ⟨_, h, _⟩; exact (nomatch h), oks _ (by decide +kernel)⟩,
    ⟨st run0, kd 0x0411 (leBytes 8 64 ++ leBytes 4 128), zeros 128, by decide +kernel, by unfold Blk.starts; decide +kernel, by decide +kernel, by rintro ⟨_, h, _⟩; exact (nomatch h), errs _ (by decide +kernel)⟩,
    ⟨st run0, kd 0x0412 (leBytes 8 64 ++ leBytes 4 127), by decide +kernel, by unfold Blk.starts; decide +kernel, by decide +kernel⟩,
    ⟨st run0, kd 0x0412 (leBytes 8 64 ++ leBytes 4 128), zeros 128, by decide +kernel, by unfold Blk.starts; decide +kernel, by decide +kernel, by decide +kernel, oks _ (by decide +kernel)⟩,
    ⟨st run0, kd 0x0412 (leBytes 8 64 ++ leBytes 4 128), List.replicate 128 0xFF, by decide +kernel, by unfold Blk.starts; decide +kernel, by decide +kernel, by decide +kernel, errs _ (by decide +kernel)⟩,
    ⟨st run0, kd 0x0414 (leBytes 8 64), by decide +kernel, by unfold Blk.starts; decide +kernel, by decide +kernel⟩⟩

/-- What EpochsAreAdmittedAndSolved assumes can be met, clause by clause. -/
theorem test_witness_EpochsAreAdmittedAndSolved :
    (∃ (s : State) (mix : Mix), s.blk.runs Island.pos = true ∧ (s.blk.filterOf ↑mix).asm = none) ∧
    (∃ (s : State) (t : Nat) (mix : Mix) (p : Payload), s.blk.runs Island.pos = true ∧ (s.blk.filterOf ↑mix).asm = some p ∧ p.at' + 10000000 < (s.blk.moveTo t).elapsed) ∧
    (∃ (s : State) (t : Nat) (mix : Mix) (p : Payload), s.blk.runs Island.pos = true ∧ (s.blk.filterOf ↑mix).asm = some p ∧ (s.blk.moveTo t).elapsed ≤ p.at' + 10000000) ∧
    (∃ (s : State), s.blk.runs Island.pos = true ∧ (s.blk.nextEpoch = none ∨ 4 ≤ s.blk.pos.solving.length)) ∧
    (∃ (s : State) (e : Epoch), s.blk.runs Island.pos = true ∧ s.blk.nextEpoch = some e ∧ s.blk.pos.solving.length < 4) ∧
    (∃ (s : State) (t : Nat) (mix : Mix), s.blk.runs Island.pos = true ∧ (∃ e, e ∈ s.blk.pos.solving ∧ e.mix = ↑mix ∧ e.aborted = false ∧ e.refused = false ∧ e.t0 + 1800000 ≤ (s.blk.moveTo t).now)) ∧
    (∃ (s : State) (t : Nat) (mix : Mix), s.blk.runs Island.pos = true ∧ (∀ (e : Epoch), e ∈ s.blk.pos.solving → ¬(e.mix = ↑mix ∧ e.aborted = false ∧ e.refused = false ∧ e.t0 + 1800000 ≤ (s.blk.moveTo t).now))) ∧
    (∃ (s : State), s.blk.runs Island.pos = true ∧ s.blk.pos.solving = []) ∧
    (∃ (s : State) (e : Epoch) (rest : List Epoch), s.blk.runs Island.pos = true ∧ s.blk.pos.solving = e :: rest ∧ (s.blk.link e.mix).reassoc = false) ∧
    (∃ (s : State), s.blk.runs Island.pos = true ∧ s.blk.pos.degrade ≤ 5) :=
  ⟨⟨st run0, 4, by decide +kernel⟩,
    ⟨st (posB { filters := [(4, { on := true, asm := some ⟨1, 2, [], 0, 0, (0, 0)⟩ })] }), 11, 4, _, by decide +kernel, rfl, by decide +kernel⟩,
    ⟨st (posB { filters := [(4, { on := true, asm := some ⟨1, 2, [], 10000000000, 0, (0, 0)⟩ })] }), 10000000000, 4, _, by decide +kernel, rfl, by decide +kernel⟩,
    ⟨st run0, by decide +kernel⟩,
    ⟨st (posB { ready := [epX] }), epX, by decide +kernel⟩,
    ⟨st (posB { solving := [epX] }), 1800000, 4, by decide +kernel, ⟨epX, List.mem_singleton.2 rfl, by decide +kernel⟩⟩,
    ⟨st (posB {}), 1800000, 4, by decide +kernel, fun _ h => nomatch h⟩,
    ⟨st run0, by decide +kernel⟩,
    ⟨st (posB { solving := [epX] }), epX, [], by decide +kernel⟩,
    ⟨st run0, by decide +kernel⟩⟩

/-- What AxesFollowTheirProfiles assumes can be met, clause by clause. -/
theorem test_witness_AxesFollowTheirProfiles :
    (∃ (s : State) (t : Nat) (n : Nat) (c : Curve), s.blk.runs Island.axs = true ∧ n < 48 ∧ (∀ (k : Nat), k < 48 → k ≠ n → s.blk.axMode k = 0) ∧ s.blk.axMode n = 1 ∧ s.blk.encKind n = 0 ∧ s.blk.fld (Reg.AXS_AX_CFG n) 5 4 ≠ 1 ∧ t % s.blk.axPeriod n = 0 ∧ (s.blk.axis n).sampled ≠ some t ∧ (s.blk.axis n).mot.plan = Plan.move { c := c, after := none } ∧ (s.blk.axis n).mot.arm = none ∧ (s.blk.axis n).fault = 0 ∧ (s.blk.axis n).io.inbox = [] ∧ (s.blk.axis n).loop.reset = false ∧ (s.blk.axis n).loop.ena = true ∧ (s.blk.axis n).loop.applyAt = none ∧ s.blk.group (n / 4) = GState.on ∧ (∀ (g : Nat), g < 12 → s.blk.group g ≠ GState.ramp) ∧ s.blk.fld (Reg.AXS_AX_INPOS n) 31 16 ≠ 0 ∧ s.blk.axs.groups = [] ∧ s.blk.axs.completed = 0 ∧ s.blk.fleet.effects = [] ∧ c.isOver ((↑t - (s.blk.moveTo t).inv.jumped).toNat * 65536) = false) ∧
    (∃ (s : State) (n : Axis48), s.blk.runs Island.axs = true ∧ s.blk.axMode ↑n = 0) ∧
    (∃ (s : State) (n : Axis48), s.blk.runs Island.axs = true ∧ s.blk.axMode ↑n ≠ 0 ∧ (s.blk.axis ↑n).loop.ovr = false) ∧
    (∃ (s : State) (n : Axis48), s.blk.runs Island.axs = true ∧ s.blk.axMode ↑n ≠ 0 ∧ (s.blk.axis ↑n).loop.ovr = true ∧ (s.blk.axis ↑n).fault = 0) :=
  ⟨⟨st axB, 5000000000, 5, axC, by decide +kernel⟩,
    ⟨st run0, 47, by decide +kernel⟩,
    ⟨st axB, 5, by decide +kernel⟩,
    ⟨st (axLoopB { ovr := true }), 5, by decide +kernel⟩⟩

/-- What AxisFaultsAreRaised assumes can be met, clause by clause. -/
theorem test_witness_AxisFaultsAreRaised :
    (∃ (s : State) (n : Axis48) (w : Fin 3) (level : Bool), s.blk.runs Island.axs = true ∧ s.blk.flag (Reg.AXS_AX_IN_CFG ↑n) ↑w = true ∧ (s.blk.axis ↑n).io.input ↑w ≠ (level != s.blk.flag (Reg.AXS_AX_IN_CFG ↑n) (3 + ↑w))) ∧
    (∃ (s : State) (n : Axis48), s.blk.runs Island.axs = true ∧ s.blk.encKind ↑n = 2) ∧
    (∃ (s : State) (n : Axis48), s.blk.runs Island.axs = true ∧ s.blk.encKind ↑n ≠ 2) ∧
    (∃ (s : State) (n : Axis48), s.blk.runs Island.axs = true ∧ (s.blk.axis ↑n).fault = 0 ∧ s.blk.axMode ↑n ≠ 0 ∧ s.blk.axFeedback ↑n = true ∧ (s.blk.encKind ↑n = 1 ∨ s.blk.encKind ↑n = 2)) ∧
    (∃ (s : State) (n : Axis48) (p : Fin 3), s.blk.runs Island.axs = true ∧ (s.blk.axis ↑n).fault = 0 ∧ s.blk.axMode ↑n ≠ 0 ∧ s.blk.axFeedback ↑n = true ∧ (s.blk.encKind ↑n = 2 ∨ s.blk.encKind ↑n = 1 ∧ ↑p < 2)) ∧
    (∃ (s : State) (n : Axis48) (t : Nat), s.blk.runs Island.axs = true ∧ (s.blk.axis ↑n).fault = 0 ∧ s.blk.axMode ↑n ≠ 0 ∧ (s.blk.moveTo t).stallDue ↑n = true) ∧
    (∃ (s : State) (n : Axis48) (t : Nat), s.blk.runs Island.axs = true ∧ (s.blk.axis ↑n).fault = 0 ∧ s.blk.axMode ↑n ≠ 0 ∧ (s.blk.moveTo t).stallDue ↑n = false ∧ (s.blk.moveTo t).feDue ↑n = true) ∧
    (∃ (s : State) (n : Axis48) (t : Nat) (since : Nat), s.blk.runs Island.axs = true ∧ (s.blk.axis ↑n).fault = 0 ∧ s.blk.axMode ↑n ≠ 0 ∧ (s.blk.axis ↑n).io.spSince = some since ∧ (s.blk.mot ↑n).plan.followed = true ∧ since + 10000000 ≤ (s.blk.moveTo t).elapsed) ∧
    (∃ (s : State), s.blk.runs Island.axs = true ∧ s.blk.inSvc = true) :=
  ⟨⟨st (axB.setReg (Reg.AXS_AX_IN_CFG 5) (word 2)), 5, 1, true, by decide +kernel⟩,
    ⟨st encB, 5, by decide +kernel⟩,
    ⟨st axB, 5, by decide +kernel⟩,
    ⟨st encB, 5, by decide +kernel⟩,
    ⟨st { encB with axs := run0.axs }, 5, 1, by decide +kernel⟩,
    ⟨st { encB with axs := (axLoopB { stallSince := some 0, feSince := some 0 }).axs }, 5, 0, by decide +kernel⟩,
    ⟨st { encB with axs := (axLoopB { feSince := some 0 }).axs }, 5, 0, by decide +kernel⟩,
    ⟨st { encB with axs := { encB.axs with axes := [(5, { io := { spSince := some 0 }, mot := { plan := .follow followX } })] } }, 5, 10000000, 0, by decide +kernel⟩,
    ⟨st axB, by decide +kernel⟩⟩

/-- What AxisDescriptorsAct assumes can be met, clause by clause. -/
theorem test_witness_AxisDescriptorsAct :
    (∃ (s : State) (i : Table256) (img : Bytes) (id : OpId) (size : Nat) (rest : List (OpId × Nat)) (o : Nat), s.blk.runs Island.axs = true ∧ (s.blk.table ↑i).loading = (id, size) :: rest ∧ tableFault img size = some o) ∧
    (∃ (s : State) (i : Table256) (img : Bytes) (id : OpId) (size : Nat) (rest : List (OpId × Nat)), s.blk.runs Island.axs = true ∧ (s.blk.table ↑i).loading = (id, size) :: rest ∧ tableFault img size = none ∧ firstFit (s.blk.setTable ↑i { loading := rest }).poolUse (imageKnots img).length = none) ∧
    (∃ (s : State) (i : Table256) (img : Bytes) (id : OpId) (size : Nat) (rest : List (OpId × Nat)) (f : Nat), s.blk.runs Island.axs = true ∧ (s.blk.table ↑i).loading = (id, size) :: rest ∧ tableFault img size = none ∧ firstFit (s.blk.setTable ↑i { loading := rest }).poolUse (imageKnots img).length = some f) ∧
    (∃ (s : State) (d : Desc) (n : Nat), s.blk.runs Island.axs = true ∧ s.blk.starts d ∧ d.op 24 8 % 8 = 0 ∧ d.op 36 2 < 256 ∧ s.blk.tableUser (d.op 36 2) = some n) ∧
    (∃ (s : State) (d : Desc), s.blk.runs Island.axs = true ∧ s.blk.starts d ∧ d.op 24 8 % 8 = 0 ∧ d.op 36 2 < 256 ∧ s.blk.tableUser (d.op 36 2) = none) ∧
    (∃ (s : State) (d : Desc) (n : Nat), s.blk.runs Island.axs = true ∧ s.blk.starts d ∧ d.op 24 2 < 256 ∧ s.blk.tableUser (d.op 24 2) = some n) ∧
    (∃ (s : State) (d : Desc), s.blk.runs Island.axs = true ∧ s.blk.starts d ∧ d.op 24 2 < 256 ∧ s.blk.tableUser (d.op 24 2) = none) ∧
    (∃ (s : State) (d : Desc), s.blk.runs Island.axs = true ∧ s.blk.starts d ∧ d.op 24 8 < 2 ^ 48) ∧
    (∃ (s : State) (d : Desc), s.blk.runs Island.axs = true ∧ s.blk.starts d ∧ d.op 24 1 < s.blk.nAxes ∧ d.op 25 3 = 0 ∧ (s.blk.axIdle (d.op 24 1) = false ∨ s.blk.axisBusy (d.op 24 1) ≠ 0)) ∧
    (∃ (s : State) (d : Desc), s.blk.runs Island.axs = true ∧ s.blk.starts d ∧ d.op 24 1 < s.blk.nAxes ∧ d.op 25 3 = 0 ∧ s.blk.axIdle (d.op 24 1) = true ∧ s.blk.axisBusy (d.op 24 1) = 0 ∧ (∃ m, s.blk.fleet.map = some m ∧ (m.swings.any fun x => x.axis == d.op 24 1) = true)) ∧
    (∃ (s : State) (d : Desc), s.blk.runs Island.axs = true ∧ s.blk.starts d ∧ d.op 24 1 < s.blk.nAxes ∧ d.op 25 3 = 0 ∧ s.blk.axIdle (d.op 24 1) = true ∧ s.blk.axisBusy (d.op 24 1) = 0 ∧ (¬∃ m, s.blk.fleet.map = some m ∧ (m.swings.any fun x => x.axis == d.op 24 1) = true) ∧ s.blk.axMode (d.op 24 1) = 1) ∧
    (∃ (s : State) (d : Desc), s.blk.runs Island.axs = true ∧ s.blk.starts d ∧ d.op 24 8 % 64 = 0) :=
  ⟨⟨st loadB, 3, [], opid, 40, [], _, by decide +kernel, by decide +kernel, rfl⟩,
    ⟨st { loadB with axs := { loadB.axs with tables := loadB.axs.tables ++ [(4, { valid := true, knots := List.replicate 65536 ⟨0, 0, 0⟩ })] } }, 3, tableImg, opid, 40, [], by decide +kernel⟩,
    ⟨st loadB, 3, tableImg, opid, 40, [], 0, by decide +kernel⟩,
    ⟨st tableRun, kd 0x0501 (leBytes 8 64 ++ leBytes 4 40 ++ leBytes 2 3), 5, by decide +kernel, by unfold Blk.starts; decide +kernel, by decide +kernel⟩,
    ⟨st run0, kd 0x0501 (leBytes 8 64 ++ leBytes 4 40 ++ leBytes 2 255), by decide +kernel, by unfold Blk.starts; decide +kernel, by decide +kernel⟩,
    ⟨st tableRun, kd 0x0502 (leBytes 2 3), 5, by decide +kernel, by unfold Blk.starts; decide +kernel, by decide +kernel⟩,
    ⟨st run0, kd 0x0502 (leBytes 2 255), by decide +kernel, by unfold Blk.starts; decide +kernel, by decide +kernel⟩,
    ⟨st run0, kd 0x0503 (leBytes 8 (2 ^ 48 - 1)), by decide +kernel, by unfold Blk.starts; decide +kernel, by decide +kernel⟩,
    ⟨st axB, kd 0x0504 (leBytes 4 5 ++ leBytes 4 77), by decide +kernel, by unfold Blk.starts; decide +kernel, by decide +kernel⟩,
    ⟨st { axIdleB with fleet := { axIdleB.fleet with map := some { siteMap with swings := [⟨5, true, 0, 0, 100⟩] } } }, kd 0x0504 (leBytes 4 5 ++ leBytes 4 77), by decide +kernel, by unfold Blk.starts; decide +kernel, by decide +kernel, by decide +kernel, by decide +kernel, by decide +kernel, ⟨_, rfl, by decide⟩⟩,
    ⟨st axIdleB, kd 0x0504 (leBytes 4 5 ++ leBytes 4 77), by decide +kernel, by unfold Blk.starts; decide +kernel, by decide +kernel, by decide +kernel, by decide +kernel, by decide +kernel, by rintro ⟨_, ⟨⟩, h⟩; exact absurd h (by decide), by decide +kernel⟩,
    ⟨st run0, kd 0x0505 (leBytes 8 64), by decide +kernel, by unfold Blk.starts; decide +kernel, by decide +kernel⟩⟩

/-- What TimeStateFollowsTheReferences assumes can be met, clause by clause. -/
theorem test_witness_TimeStateFollowsTheReferences :
    (∃ (s : State) (t : Nat), s.blk.powered = true ∧ s.blk.inv.state = TimeState.holdover ∧ ¬s.blk.inv.holdOff.natAbs * 10000000000 + s.blk.fld Reg.INV_HOLD_CFG 31 16 * ((s.blk.moveTo t).elapsed - s.blk.inv.holdAt) ≤ s.blk.fld Reg.INV_HOLD_CFG 15 0 * 100000000000 ∧ ((if (s.blk.moveTo t).gnssQ = true then 1 else if (s.blk.moveTo t).ppsQ = true then 2 else if (s.blk.moveTo t).hostQ = true then 3 else 0) = 0)) ∧
    (∃ (s : State) (t : Nat), s.blk.powered = true ∧ (s.blk.inv.state ≠ TimeState.holdover ∨ s.blk.inv.holdOff.natAbs * 10000000000 + s.blk.fld Reg.INV_HOLD_CFG 31 16 * ((s.blk.moveTo t).elapsed - s.blk.inv.holdAt) ≤ s.blk.fld Reg.INV_HOLD_CFG 15 0 * 100000000000)) ∧
    (∃ (s : State) (t : Nat) (at' : Nat), s.blk.powered = true ∧ s.blk.inv.hostAt = some at' ∧ at' + s.blk.fld Reg.INV_REF_CFG 31 24 * 1000000000 < (s.blk.moveTo t).elapsed) ∧
    (∃ (s : State) (t : Nat), s.blk.powered = true ∧ t % 8000000000 = 0) ∧
    (∃ (s : State) (t : Nat), s.blk.powered = true ∧ t % 8000000000 ≠ 0) ∧
    (∃ (s : State), s.blk.powered = true ∧ s.blk.pwr.noRefclk = true) ∧
    (∃ (s : State), s.blk.powered = true ∧ s.blk.pwr.noRefclk = false) :=
  ⟨⟨st (invB { state := .holdover, holdOff := 10 ^ 9 }), 0, by decide +kernel⟩,
    ⟨st run0, 0, by decide +kernel⟩,
    ⟨st (invB { hostAt := some 0 }), 300000000000, 0, by decide +kernel⟩,
    ⟨st run0, 16000000000, by decide +kernel⟩,
    ⟨st run0, 15999999999, by decide +kernel⟩,
    ⟨st { run0 with pwr := { run0.pwr with noRefclk := true } }, by decide +kernel⟩,
    ⟨st run0, by decide +kernel⟩⟩

/-- What PulsesRatesAndOffsetsAreTaken assumes can be met, clause by clause. -/
theorem test_witness_PulsesRatesAndOffsetsAreTaken :
    (∃ (s : State) (t : Nat), s.blk.powered = true ∧ (s.blk.moveTo t).now / 1000000000 ≤ s.blk.inv.ppsSecond) ∧
    (∃ (s : State) (t : Nat), s.blk.powered = true ∧ s.blk.inv.ppsSecond < (s.blk.moveTo t).now / 1000000000) ∧
    (∃ (s : State) (rising : Bool), s.blk.powered = true ∧ (s.blk.inv.rcClock = true ∨ rising = s.blk.flag Reg.INV_PPS_CFG 29)) ∧
    (∃ (s : State), s.blk.powered = true ∧ s.blk.inv.rcClock = false) ∧
    (∃ (s : State) (t : Nat) (l : Nat), s.blk.powered = true ∧ s.blk.inv.ppsLast = some l ∧ (s.blk.moveTo t).now < l + 1500000000) ∧
    (∃ (s : State) (t : Nat) (l : Nat), s.blk.powered = true ∧ s.blk.inv.ppsLast = some l ∧ l + 1500000000 ≤ (s.blk.moveTo t).now) ∧
    (∃ (s : State), s.blk.powered = true ∧ s.blk.inSvc = true) :=
  ⟨⟨st (invB { ppsSecond := 10 }), 10000000000, by decide +kernel⟩,
    ⟨st (invB { ppsSecond := 10 }), 11000000000, by decide +kernel⟩,
    ⟨st run0, false, by decide +kernel⟩,
    ⟨st run0, by decide +kernel⟩,
    ⟨st { run0 with inv := { ppsLast := some 0 } }, 1499999999, 0, by decide +kernel⟩,
    ⟨st (invB { ppsLast := some 0 }), 1500000000, 0, by decide +kernel⟩,
    ⟨st run0, by decide +kernel⟩⟩

/-- What FleetTimeStepsForward assumes can be met, clause by clause. -/
theorem test_witness_FleetTimeStepsForward :
    (∃ (s : State) (d : Desc), s.blk.powered = true ∧ s.blk.starts d ∧ (¬(1 ≤ d.op 24 8 ∧ d.op 24 8 < 2 ^ 63 ∧ (s.blk.now + 100000 + 10000000 - 1) / 10000000 * 10000000 + d.op 24 8 < 2 ^ 48 * 1000000000))) ∧
    (∃ (s : State) (d : Desc), s.blk.powered = true ∧ s.blk.starts d ∧ (1 ≤ d.op 24 8 ∧ d.op 24 8 < 2 ^ 63 ∧ (s.blk.now + 100000 + 10000000 - 1) / 10000000 * 10000000 + d.op 24 8 < 2 ^ 48 * 1000000000) ∧ s.blk.stopped = false) ∧
    (∃ (s : State) (d : Desc), s.blk.powered = true ∧ s.blk.starts d ∧ (1 ≤ d.op 24 8 ∧ d.op 24 8 < 2 ^ 63 ∧ (s.blk.now + 100000 + 10000000 - 1) / 10000000 * 10000000 + d.op 24 8 < 2 ^ 48 * 1000000000) ∧ s.blk.stopped = true ∧ s.blk.flag Reg.AIR_CFG 0 = true ∧ ((s.blk.now + 100000 + 10000000 - 1) / 10000000 * 10000000 + d.op 24 8) / 1000000 % 2 ^ 48 / 2 ^ 16 ≠ (s.blk.now + 100000 + 10000000 - 1) / 10000000 * 10000000 / 1000000 % 2 ^ 48 / 2 ^ 16) ∧
    (∃ (s : State) (d : Desc) (p : StepPend), s.blk.powered = true ∧ s.blk.starts d ∧ (1 ≤ d.op 24 8 ∧ d.op 24 8 < 2 ^ 63 ∧ (s.blk.now + 100000 + 10000000 - 1) / 10000000 * 10000000 + d.op 24 8 < 2 ^ 48 * 1000000000) ∧ s.blk.stopped = true ∧ (s.blk.flag Reg.AIR_CFG 0 = false ∨ ((s.blk.now + 100000 + 10000000 - 1) / 10000000 * 10000000 + d.op 24 8) / 1000000 % 2 ^ 48 / 2 ^ 16 = (s.blk.now + 100000 + 10000000 - 1) / 10000000 * 10000000 / 1000000 % 2 ^ 48 / 2 ^ 16) ∧ s.blk.inv.step = some p) ∧
    (∃ (s : State) (d : Desc), s.blk.powered = true ∧ s.blk.starts d ∧ (1 ≤ d.op 24 8 ∧ d.op 24 8 < 2 ^ 63 ∧ (s.blk.now + 100000 + 10000000 - 1) / 10000000 * 10000000 + d.op 24 8 < 2 ^ 48 * 1000000000) ∧ s.blk.stopped = true ∧ (s.blk.flag Reg.AIR_CFG 0 = false ∨ ((s.blk.now + 100000 + 10000000 - 1) / 10000000 * 10000000 + d.op 24 8) / 1000000 % 2 ^ 48 / 2 ^ 16 = (s.blk.now + 100000 + 10000000 - 1) / 10000000 * 10000000 / 1000000 % 2 ^ 48 / 2 ^ 16) ∧ s.blk.inv.step = none) ∧
    (∃ (s : State) (p : StepPend), s.blk.powered = true ∧ s.blk.inv.step = some p ∧ s.blk.now ≤ p.tj) :=
  ⟨⟨st run0, kd 0x0601 (leBytes 8 0), by decide +kernel, by unfold Blk.starts; decide +kernel, by decide +kernel⟩,
    ⟨st run0, kd 0x0601 (leBytes 8 1), by decide +kernel, by unfold Blk.starts; decide +kernel, by decide +kernel⟩,
    ⟨st (stopped0.setReg Reg.AIR_CFG 1), kd 0x0601 (leBytes 8 65536000000), by decide +kernel, by unfold Blk.starts; decide +kernel, by decide +kernel⟩,
    ⟨st { stopped0 with inv := { stopped0.inv with step := some ⟨opid, 5, 6⟩ } }, kd 0x0601 (leBytes 8 5), ⟨opid, 5, 6⟩, by decide +kernel, by unfold Blk.starts; decide +kernel, by decide +kernel⟩,
    ⟨st stopped0, kd 0x0601 (leBytes 8 1), by decide +kernel, by unfold Blk.starts; decide +kernel, by decide +kernel⟩,
    ⟨st { stopped0 with inv := { stopped0.inv with step := some ⟨opid, 5, 10000000000⟩ } }, ⟨opid, 5, 10000000000⟩, by decide +kernel⟩⟩

/-- What LanPortsMeasureSendAndDeliver assumes can be met, clause by clause. -/
theorem test_witness_LanPortsMeasureSendAndDeliver :
    (∃ (s : State) (port : Fin 2), s.blk.powered = true ∧ s.blk.flag (Reg.INV_LAN_CFG ↑port) 31 = false) ∧
    (∃ (s : State) (port : Fin 2) (frame : Bytes), s.blk.powered = true ∧ s.blk.flag (Reg.INV_LAN_CFG ↑port) 31 = true ∧ (¬((be frame 0 6 = macOf s.blk.uid.toNat (8 + ↑port) ∨ byteAt frame 0 % 2 = 1) ∧ ¬(be frame 12 2 = s.blk.fld Reg.HDL_CFG 31 16 ∧ byteAt frame 15 = 16)))) ∧
    (∃ (s : State) (port : Fin 2) (frame : Bytes), s.blk.powered = true ∧ s.blk.flag (Reg.INV_LAN_CFG ↑port) 31 = true ∧ ((be frame 0 6 = macOf s.blk.uid.toNat (8 + ↑port) ∨ byteAt frame 0 % 2 = 1) ∧ ¬(be frame 12 2 = s.blk.fld Reg.HDL_CFG 31 16 ∧ byteAt frame 15 = 16)) ∧ s.blk.inv.lanQueue = 0) ∧
    (∃ (s : State) (port : Fin 2) (frame : Bytes), s.blk.powered = true ∧ s.blk.flag (Reg.INV_LAN_CFG ↑port) 31 = true ∧ ((be frame 0 6 = macOf s.blk.uid.toNat (8 + ↑port) ∨ byteAt frame 0 % 2 = 1) ∧ ¬(be frame 12 2 = s.blk.fld Reg.HDL_CFG 31 16 ∧ byteAt frame 15 = 16)) ∧ s.blk.inv.lanQueue ≠ 0) ∧
    (∃ (s : State), s.blk.powered = true ∧ s.blk.inSvc = true) ∧
    (∃ (s : State) (d : Desc), s.blk.powered = true ∧ s.blk.starts d ∧ d.op 24 1 < 2 ∧ d.op 25 1 = 0 ∧ 60 ≤ d.op 26 2 ∧ d.op 26 2 ≤ 1518 ∧ s.blk.flag (Reg.INV_LAN_CFG (d.op 24 1)) 31 = false) ∧
    (∃ (s : State) (d : Desc), s.blk.powered = true ∧ s.blk.starts d ∧ d.op 24 1 < 2 ∧ d.op 25 1 = 0 ∧ 60 ≤ d.op 26 2 ∧ d.op 26 2 ≤ 1518 ∧ s.blk.flag (Reg.INV_LAN_CFG (d.op 24 1)) 31 = true ∧ (s.blk.lanPort (d.op 24 1)).up = false) ∧
    (∃ (s : State) (d : Desc), s.blk.powered = true ∧ s.blk.starts d ∧ d.op 24 1 < 2 ∧ d.op 25 1 = 0 ∧ 60 ≤ d.op 26 2 ∧ d.op 26 2 ≤ 1518 ∧ s.blk.flag (Reg.INV_LAN_CFG (d.op 24 1)) 31 = true ∧ (s.blk.lanPort (d.op 24 1)).up = true ∧ s.blk.inv.rcClock = false) ∧
    (∃ (s : State) (d : Desc), s.blk.powered = true ∧ s.blk.starts d ∧ 2 ≤ d.op 24 1) ∧
    (∃ (s : State) (d : Desc), s.blk.powered = true ∧ s.blk.starts d ∧ d.op 24 1 < 64) ∧
    (∃ (s : State) (d : Desc), s.blk.powered = true ∧ s.blk.starts d ∧ 64 ≤ d.op 24 1) :=
  ⟨⟨st run0, 1, by decide +kernel⟩,
    ⟨st (lanB true), 1, zeros 60, by decide +kernel⟩,
    ⟨st (lanB true), 1, List.replicate 60 0xFF, by decide +kernel⟩,
    ⟨st { lanB true with inv := { (lanB true).inv with lanQueue := 3 } }, 1, List.replicate 60 0xFF, by decide +kernel⟩,
    ⟨st run0, by decide +kernel⟩,
    ⟨st run0, lanD 1 60, by decide +kernel, by unfold Blk.starts; decide +kernel, by decide +kernel⟩,
    ⟨st (lanB false), lanD 1 1518, by decide +kernel, by unfold Blk.starts; decide +kernel, by decide +kernel⟩,
    ⟨st (lanB true), lanD 1 1518, by decide +kernel, by unfold Blk.starts; decide +kernel, by decide +kernel⟩,
    ⟨st run0, lanD 2 60, by decide +kernel, by unfold Blk.starts; decide +kernel, by decide +kernel⟩,
    ⟨st run0, kd 0x0611 [63], by decide +kernel, by unfold Blk.starts; decide +kernel, by decide +kernel⟩,
    ⟨st run0, kd 0x0611 [64], by decide +kernel, by unfold Blk.starts; decide +kernel, by decide +kernel⟩⟩

/-- What CompareUnitsFireAtTheirTargets assumes can be met, clause by clause. -/
theorem test_witness_CompareUnitsFireAtTheirTargets :
    (∃ (s : State) (t : Nat) (n : Cmp32), s.blk.powered = true ∧ s.blk.fleet.effects = [] ∧ ((s.blk.cmp ↑n).state = CmpState.idle ∨ ↑((s.blk.moveTo t).now / 2) < (s.blk.cmp ↑n).target)) ∧
    (∃ (s : State) (t : Nat) (n : Cmp32), s.blk.powered = true ∧ s.blk.fleet.effects = [] ∧ (s.blk.cmp ↑n).state ≠ CmpState.idle ∧ (s.blk.cmp ↑n).target ≤ ↑((s.blk.moveTo t).now / 2) ∧ (s.blk.cmp ↑n).periodic = false) ∧
    (∃ (s : State) (t : Nat) (n : Cmp32), s.blk.powered = true ∧ s.blk.fleet.effects = [] ∧ (s.blk.cmp ↑n).state ≠ CmpState.idle ∧ (s.blk.cmp ↑n).target ≤ ↑((s.blk.moveTo t).now / 2) ∧ (s.blk.cmp ↑n).periodic = true ∧ 500 ≤ BitVec.toNat (s.blk.reg (Reg.INV_CMP_PERIOD ↑n))) ∧
    (∃ (s : State) (t : Nat) (n : Cmp32) (e : Effect), s.blk.powered = true ∧ s.blk.fleet.effects = [e] ∧ e.dest = Dest.inv ∧ e.obj = ↑n ∧ (s.blk.cmp ↑n).state = CmpState.idle ∧ byteAt e.ops 0 = 0 ∧ e.t ≤ (s.blk.moveTo t).now) ∧
    (∃ (s : State) (t : Nat) (n : Cmp32) (e : Effect), s.blk.powered = true ∧ s.blk.fleet.effects = [e] ∧ e.dest = Dest.inv ∧ e.obj = ↑n ∧ (s.blk.cmp ↑n).state = CmpState.idle ∧ byteAt e.ops 0 = 1 ∧ e.t + 1 ≤ (s.blk.moveTo t).now) ∧
    (∃ (s : State), s.blk.powered = true ∧ s.blk.inSvc = true) :=
  ⟨⟨st (cmpB [] { state := .armed, target := 5 }), 9, 4, by decide +kernel⟩,
    ⟨st (cmpB [] { state := .armed, target := 5 }), 10, 4, by decide +kernel⟩,
    ⟨st ((cmpB [] { state := .armed, target := 5, periodic := true }).setReg (Reg.INV_CMP_PERIOD 4) 500), 10, 4, by decide +kernel⟩,
    ⟨st (cmpB [cmpE 10 0] {}), 10, 4, _, by decide +kernel, rfl, by decide +kernel⟩,
    ⟨st (cmpB [cmpE 10 1] {}), 11, 4, _, by decide +kernel, rfl, by decide +kernel⟩,
    ⟨st run0, by decide +kernel⟩⟩

/-- What QueuesGrantPopMarkAndFlush assumes can be met, clause by clause. -/
theorem test_witness_QueuesGrantPopMarkAndFlush :
    (∃ (s : State) (n : Queue64), s.blk.runs Island.mem = true ∧ (s.blk.queue ↑n).nextSeq < 2 ^ 32 ∧ (s.blk.queue ↑n).ptrBad = false) ∧
    (∃ (s : State) (w : Word) (opens : List OpenItem) (bd : Binding), s.blk.runs Island.mem = true ∧ s.blk.inSvc = true ∧ (s.blk.queue (BitVec.toNat w % 64)).ptrBad = false ∧ ((s.blk.queue (BitVec.toNat w % 64)).atEdge opens (s.blk.queueCap (BitVec.toNat w % 64))).bound = some bd) ∧
    (∃ (s : State) (w : Word) (opens : List OpenItem), s.blk.runs Island.mem = true ∧ s.blk.inSvc = true ∧ (s.blk.queue (BitVec.toNat w % 64)).ptrBad = false ∧ ((s.blk.queue (BitVec.toNat w % 64)).atEdge opens (s.blk.queueCap (BitVec.toNat w % 64))).bound = none ∧ Option.all (fun x => x.isOpen) ((s.blk.queue (BitVec.toNat w % 64)).atEdge opens (s.blk.queueCap (BitVec.toNat w % 64))).items.head? = true) ∧
    (∃ (s : State) (w : Word) (opens : List OpenItem) (i : Item) (rest : List Item), s.blk.runs Island.mem = true ∧ s.blk.inSvc = true ∧ (s.blk.queue (BitVec.toNat w % 64)).ptrBad = false ∧ ((s.blk.queue (BitVec.toNat w % 64)).atEdge opens (s.blk.queueCap (BitVec.toNat w % 64))).bound = none ∧ ((s.blk.queue (BitVec.toNat w % 64)).atEdge opens (s.blk.queueCap (BitVec.toNat w % 64))).items = i :: rest ∧ i.isOpen = false) ∧
    (∃ (s : State), s.blk.runs Island.mem = true) ∧
    (∃ (s : State) (d : Desc) (bd : Binding), s.blk.runs Island.mem = true ∧ s.blk.starts d ∧ (d.op 24 1 < 64 ∧ d.op 25 1 < 128 ∧ 12 ≤ d.op 26 1 ∧ d.op 26 1 ≤ 24 ∧ allZero d.bytes 27 5 = true ∧ d.op 32 8 % 2 ^ d.op 26 1 = 0) ∧ (s.blk.queue (d.op 24 1)).bound = some bd) ∧
    (∃ (s : State) (d : Desc), s.blk.runs Island.mem = true ∧ s.blk.starts d ∧ (d.op 24 1 < 64 ∧ d.op 25 1 < 128 ∧ 12 ≤ d.op 26 1 ∧ d.op 26 1 ≤ 24 ∧ allZero d.bytes 27 5 = true ∧ d.op 32 8 % 2 ^ d.op 26 1 = 0) ∧ (s.blk.queue (d.op 24 1)).bound = none ∧ (¬(s.blk.isCq (d.op 25 1) = true ∧ (s.blk.ring (d.op 25 1)).state = RingState.run ∧ (s.blk.hst.planes = true → d.op 25 1 = 1 ∨ d.op 25 1 = 3 ∨ d.op 25 1 = 5)))) ∧
    (∃ (s : State) (d : Desc), s.blk.runs Island.mem = true ∧ s.blk.starts d ∧ (d.op 24 1 < 64 ∧ d.op 25 1 < 128 ∧ 12 ≤ d.op 26 1 ∧ d.op 26 1 ≤ 24 ∧ allZero d.bytes 27 5 = true ∧ d.op 32 8 % 2 ^ d.op 26 1 = 0) ∧ (s.blk.queue (d.op 24 1)).bound = none ∧ (s.blk.isCq (d.op 25 1) = true ∧ (s.blk.ring (d.op 25 1)).state = RingState.run ∧ (s.blk.hst.planes = true → d.op 25 1 = 1 ∨ d.op 25 1 = 3 ∨ d.op 25 1 = 5)) ∧ s.blk.queueOn (d.op 24 1) = false) ∧
    (∃ (s : State) (d : Desc), s.blk.runs Island.mem = true ∧ s.blk.starts d ∧ (d.op 24 1 < 64 ∧ d.op 25 1 < 128 ∧ 12 ≤ d.op 26 1 ∧ d.op 26 1 ≤ 24 ∧ allZero d.bytes 27 5 = true ∧ d.op 32 8 % 2 ^ d.op 26 1 = 0) ∧ (s.blk.queue (d.op 24 1)).bound = none ∧ (s.blk.isCq (d.op 25 1) = true ∧ (s.blk.ring (d.op 25 1)).state = RingState.run ∧ (s.blk.hst.planes = true → d.op 25 1 = 1 ∨ d.op 25 1 = 3 ∨ d.op 25 1 = 5)) ∧ s.blk.queueOn (d.op 24 1) = true) ∧
    (∃ (s : State) (d : Desc), s.blk.runs Island.mem = true ∧ s.blk.starts d ∧ d.op 24 1 < 64 ∧ (s.blk.queue (d.op 24 1)).bound = none) ∧
    (∃ (s : State) (d : Desc) (bd : Binding), s.blk.runs Island.mem = true ∧ s.blk.starts d ∧ d.op 24 1 < 64 ∧ (s.blk.queue (d.op 24 1)).bound = some bd) ∧
    (∃ (s : State) (d : Desc), s.blk.runs Island.mem = true ∧ s.blk.starts d ∧ (∀ (k : Nat), k < 64 ∧ bitOf (d.op 24 8) k = true → (s.blk.queue k).ptrBad = false)) :=
  ⟨⟨st (run0.setQueue 3 { nextSeq := 2 ^ 32 - 1 }), 3, by decide +kernel⟩,
    ⟨st bindB, 3, [], ⟨6, 12, 65536, 0, 77, []⟩, by decide +kernel⟩,
    ⟨st (run0.setQueue 3 { items := [⟨false, 2, 0x62, 0, 0, [1], 0⟩] }), 3, [⟨0, 0⟩], by decide +kernel⟩,
    ⟨st (run0.setQueue 3 { items := [⟨true, 5, 0x62, 0, 0, [1], 0⟩] }), 67, [], _, _, by decide +kernel, by decide +kernel, by decide +kernel, by decide +kernel, rfl, by decide +kernel⟩,
    ⟨st run0, by decide +kernel⟩,
    ⟨st bindB, bindD 3 6, ⟨6, 12, 65536, 0, 77, []⟩, by decide +kernel, by unfold Blk.starts; decide +kernel, by decide +kernel⟩,
    ⟨st run0, bindD 3 5, by decide +kernel, by unfold Blk.starts; decide +kernel, by decide +kernel⟩,
    ⟨st (run0.setReg (Reg.QUE_Q_CFG 3) 4), bindD 3 6, by decide +kernel, by unfold Blk.starts; decide +kernel, by decide +kernel⟩,
    ⟨st run0, bindD 3 6, by decide +kernel, by unfold Blk.starts; decide +kernel, by decide +kernel⟩,
    ⟨st run0, kd 0x0702 [63], by decide +kernel, by unfold Blk.starts; decide +kernel, by decide +kernel⟩,
    ⟨st bindB, kd 0x0702 [3], ⟨6, 12, 65536, 0, 77, []⟩, by decide +kernel, by unfold Blk.starts; decide +kernel, by decide +kernel⟩,
    ⟨st run0, kd 0x0703 (leBytes 8 8), by decide +kernel, by unfold Blk.starts; decide +kernel, fun k _ => noQueue k⟩⟩

/-- What ScrubAndMeasurementsRunOn assumes can be met, clause by clause. -/
theorem test_witness_ScrubAndMeasurementsRunOn :
    (∃ (s : State), s.blk.powered = true ∧ s.blk.mem.scrubBank < 16 ∧ s.blk.mem.scrubWord < 196608) ∧
    (∃ (s : State) (a : MemAcc), s.blk.powered = true ∧ a.word < 196608 ∧ a.crc ≤ 4) ∧
    (∃ (s : State), s.blk.powered = true ∧ s.blk.pwr.stage = 0) ∧
    (∃ (s : State) (x : MonIn), s.blk.powered = true ∧ s.blk.pwr.stage ≠ 0 ∧ (-32768 ≤ x.tDig ∧ x.tDig < 32768) ∧ (-32768 ≤ x.tRf ∧ x.tRf < 32768)) :=
  ⟨⟨st { run0 with mem := { run0.mem with scrubBank := 15, scrubWord := 196607 } }, by decide +kernel⟩,
    ⟨st run0, ⟨0, 0, 196607, false, 4, 0, 0⟩, by decide +kernel⟩,
    ⟨st { run0 with pwr := { run0.pwr with stage := 0 } }, by decide +kernel⟩,
    ⟨st run0, monX, by decide +kernel⟩⟩

/-- What KeyStoreChangesAreWhole assumes can be met, clause by clause. -/
theorem test_witness_KeyStoreChangesAreWhole :
    (∃ (s : State) (d : Desc) (st : Nat), s.blk.runs Island.key = true ∧ s.blk.starts d ∧ s.blk.keyBar s.ident d.opcode = some st ∧ (d.op 24 1 < 32 ∧ d.op 25 1 < 2 ∧ allZero d.bytes 28 4 = true ∧ (d.op 40 4 = 32 ∨ d.op 40 4 = 48))) ∧
    (∃ (s : State) (d : Desc) (st : Nat), s.blk.runs Island.key = true ∧ s.blk.starts d ∧ s.blk.keyBar s.ident d.opcode = some st ∧ 1 ≤ d.op 24 1 ∧ d.op 24 1 < 32) ∧
    (∃ (s : State) (d : Desc), s.blk.runs Island.key = true ∧ s.blk.starts d ∧ s.blk.keyBar s.ident d.opcode = none ∧ s.blk.key.update ≠ none ∧ (d.op 24 1 < 32 ∧ d.op 25 1 < 2 ∧ allZero d.bytes 28 4 = true ∧ (d.op 40 4 = 32 ∨ d.op 40 4 = 48))) ∧
    (∃ (s : State) (d : Desc), s.blk.runs Island.key = true ∧ s.blk.starts d ∧ s.blk.keyBar s.ident d.opcode = none ∧ s.blk.key.update ≠ none ∧ 1 ≤ d.op 24 1 ∧ d.op 24 1 < 32) ∧
    (∃ (s : State) (d : Desc) (key : Bytes), s.blk.runs Island.key = true ∧ s.blk.starts d ∧ s.blk.keyBar s.ident d.opcode = none ∧ s.blk.key.update = none ∧ s.blk.entry0 s.ident = some key) ∧
    (∃ (s : State) (d : Desc), s.blk.runs Island.key = true ∧ s.blk.starts d ∧ s.blk.keyBar s.ident d.opcode = none ∧ s.blk.key.update = none ∧ s.blk.entry0 s.ident = none ∧ (s.ident.lc ≠ LifeCycle.field ∨ s.blk.key.store ≠ [] ∨ s.blk.stopped = false)) ∧
    (∃ (s : State) (d : Desc), s.blk.runs Island.key = true ∧ s.blk.starts d ∧ s.blk.keyBar s.ident d.opcode = none ∧ s.blk.key.update = none ∧ s.blk.entry0 s.ident = none ∧ s.ident.lc = LifeCycle.field ∧ s.blk.key.store = [] ∧ s.blk.stopped = true) ∧
    (∃ (s : State) (d : Desc), s.blk.runs Island.key = true ∧ s.blk.starts d ∧ s.blk.keyBar s.ident d.opcode = none ∧ s.blk.key.update = none ∧ (d.op 24 1 < 32 ∧ d.op 25 1 < 2 ∧ allZero d.bytes 28 4 = true ∧ (d.op 40 4 = 32 ∨ d.op 40 4 = 48)) ∧ d.op 24 1 = 0 ∧ (d.op 25 1 = 1 ∨ s.blk.stopped = false)) ∧
    (∃ (s : State) (d : Desc), s.blk.runs Island.key = true ∧ s.blk.starts d ∧ s.blk.keyBar s.ident d.opcode = none ∧ s.blk.key.update = none ∧ (d.op 24 1 < 32 ∧ d.op 25 1 < 2 ∧ allZero d.bytes 28 4 = true ∧ (d.op 40 4 = 32 ∨ d.op 40 4 = 48)) ∧ (d.op 24 1 ≠ 0 ∨ s.blk.stopped = true) ∧ d.op 25 1 = 0 ∧ s.blk.key.site = none) ∧
    (∃ (s : State) (d : Desc) (site : Bytes), s.blk.runs Island.key = true ∧ s.blk.starts d ∧ s.blk.keyBar s.ident d.opcode = none ∧ s.blk.key.update = none ∧ (d.op 24 1 < 32 ∧ d.op 25 1 < 2 ∧ allZero d.bytes 28 4 = true ∧ (d.op 40 4 = 32 ∨ d.op 40 4 = 48)) ∧ (d.op 24 1 ≠ 0 ∨ s.blk.stopped = true) ∧ d.op 25 1 = 0 ∧ s.blk.key.site = some site) ∧
    (∃ (s : State) (d : Desc), s.blk.runs Island.key = true ∧ s.blk.starts d ∧ s.blk.keyBar s.ident d.opcode = none ∧ s.blk.key.update = none ∧ 1 ≤ d.op 24 1 ∧ d.op 24 1 < 32 ∧ (List.any s.blk.key.store fun p => p.fst == d.op 24 1) = true) ∧
    (∃ (s : State) (d : Desc), s.blk.runs Island.key = true ∧ s.blk.starts d ∧ s.blk.keyBar s.ident d.opcode = none ∧ s.blk.key.update = none ∧ 1 ≤ d.op 24 1 ∧ d.op 24 1 < 32 ∧ (List.any s.blk.key.store fun p => p.fst == d.op 24 1) = false) ∧
    (∃ (s : State) (u : StoreUpd), s.blk.powered = true ∧ s.blk.key.update = some u) :=
  ⟨⟨st (keyB {}), impD 0 0, _, by decide +kernel, by unfold Blk.starts; decide +kernel, rfl, by decide +kernel⟩,
    ⟨st (keyB {}), kd 0x0803 [31], _, by decide +kernel, by unfold Blk.starts; decide +kernel, rfl, by decide +kernel⟩,
    ⟨st (keyB { k0 with update := some updX }), impD 31 0, by decide +kernel, by unfold Blk.starts; decide +kernel, by decide +kernel⟩,
    ⟨st (keyB { k0 with update := some updX }), kd 0x0803 [31], by decide +kernel, by unfold Blk.starts; decide +kernel, by decide +kernel⟩,
    ⟨st (keyB k1), kd 0x0801 (leBytes 8 64), [1], by decide +kernel, by unfold Blk.starts; decide +kernel, by decide +kernel⟩,
    ⟨st (keyB { k0 with store := [(1, se)] }), kd 0x0801 (leBytes 8 64), by decide +kernel, by unfold Blk.starts; decide +kernel, by decide +kernel⟩,
    ⟨st (keyB k0), kd 0x0801 (leBytes 8 64), by decide +kernel, by unfold Blk.starts; decide +kernel, by decide +kernel⟩,
    ⟨st (keyB k0), impD 0 1, by decide +kernel, by unfold Blk.starts; decide +kernel, by decide +kernel⟩,
    ⟨st (keyB k0), impD 31 0, by decide +kernel, by unfold Blk.starts; decide +kernel, by decide +kernel⟩,
    ⟨st (keyB { k0 with site := some [1] }), impD 31 0, [1], by decide +kernel, by unfold Blk.starts; decide +kernel, by decide +kernel⟩,
    ⟨st (keyB { k0 with store := [(1, se)] }), kd 0x0803 [1], by decide +kernel, by unfold Blk.starts; decide +kernel, by decide +kernel⟩,
    ⟨st (keyB k0), kd 0x0803 [1], by decide +kernel, by unfold Blk.starts; decide +kernel, by decide +kernel⟩,
    ⟨st (keyB { k0 with update := some updX }), updX, by decide +kernel⟩⟩

/-- What KeysServeOnlyTheirUse assumes can be met, clause by clause. -/
theorem test_witness_KeysServeOnlyTheirUse :
    (∃ (s : State) (d : Desc), s.blk.runs Island.key = true ∧ s.blk.starts d ∧ s.blk.keyBar s.ident d.opcode = none ∧ 1 ≤ d.op 24 1 ∧ d.op 24 1 < 32 ∧ List.find? (fun p => p.fst == d.op 24 1) s.blk.key.store = none) ∧
    (∃ (s : State) (d : Desc) (p : Nat × StoreEntry), s.blk.runs Island.key = true ∧ s.blk.starts d ∧ s.blk.keyBar s.ident d.opcode = none ∧ 1 ≤ d.op 24 1 ∧ d.op 24 1 < 32 ∧ List.find? (fun p => p.fst == d.op 24 1) s.blk.key.store = some p ∧ s.blk.freeCache = none) ∧
    (∃ (s : State) (d : Desc) (p : Nat × StoreEntry) (c : Nat), s.blk.runs Island.key = true ∧ s.blk.starts d ∧ s.blk.keyBar s.ident d.opcode = none ∧ 1 ≤ d.op 24 1 ∧ d.op 24 1 < 32 ∧ List.find? (fun p => p.fst == d.op 24 1) s.blk.key.store = some p ∧ s.blk.freeCache = some c) ∧
    (∃ (s : State) (d : Desc), s.blk.runs Island.key = true ∧ s.blk.starts d ∧ s.blk.keyBar s.ident d.opcode = none ∧ 32 ≤ d.op 24 1 ∧ ((s.blk.cacheOf (d.op 24 1)).used = false ∨ (s.blk.cacheOf (d.op 24 1)).gen ≠ d.op 25 1)) ∧
    (∃ (s : State) (d : Desc), s.blk.runs Island.key = true ∧ s.blk.starts d ∧ s.blk.keyBar s.ident d.opcode = none ∧ 32 ≤ d.op 24 1 ∧ (s.blk.cacheOf (d.op 24 1)).used = true ∧ (s.blk.cacheOf (d.op 24 1)).gen = d.op 25 1) ∧
    (∃ (s : State) (d : Desc), s.blk.runs Island.key = true ∧ s.blk.starts d ∧ s.blk.keyBar s.ident d.opcode = none ∧ d.op 24 1 < 2 ∧ d.op 25 1 = 0 ∧ allZero d.bytes 28 4 = true ∧ 32 ≤ d.op 26 1 ∧ (s.blk.cacheOf (d.op 26 1)).used = true ∧ (s.blk.cacheOf (d.op 26 1)).gen = d.op 27 1 ∧ (s.blk.cacheOf (d.op 26 1)).attr ≠ 2) ∧
    (∃ (s : State) (d : Desc), s.blk.runs Island.key = true ∧ s.blk.starts d ∧ s.blk.keyBar s.ident d.opcode = none ∧ d.op 24 1 < 2 ∧ d.op 25 1 = 0 ∧ allZero d.bytes 28 4 = true ∧ 32 ≤ d.op 26 1 ∧ (s.blk.cacheOf (d.op 26 1)).used = true ∧ (s.blk.cacheOf (d.op 26 1)).gen = d.op 27 1 ∧ (s.blk.cacheOf (d.op 26 1)).attr = 2 ∧ s.blk.key.site = none) ∧
    (∃ (s : State) (d : Desc) (site : Bytes), s.blk.runs Island.key = true ∧ s.blk.starts d ∧ s.blk.keyBar s.ident d.opcode = none ∧ d.op 24 1 < 2 ∧ d.op 25 1 = 0 ∧ allZero d.bytes 28 4 = true ∧ 32 ≤ d.op 26 1 ∧ (s.blk.cacheOf (d.op 26 1)).used = true ∧ (s.blk.cacheOf (d.op 26 1)).gen = d.op 27 1 ∧ (s.blk.cacheOf (d.op 26 1)).attr = 2 ∧ s.blk.key.site = some site) ∧
    (∃ (s : State) (d : Desc), s.blk.runs Island.key = true ∧ s.blk.starts d ∧ s.blk.keyBar s.ident d.opcode = none ∧ d.op 24 1 < 3 ∧ allZero d.bytes 25 7 = true) ∧
    (∃ (s : State) (d : Desc), s.blk.runs Island.key = true ∧ s.blk.starts d ∧ s.blk.keyBar s.ident d.opcode = none ∧ d.op 26 1 < 4 ∧ d.op 27 1 < 2 ∧ 1 ≤ d.op 28 1 ∧ d.op 28 1 ≤ 16 ∧ d.op 29 1 ≤ 64 ∧ allZero d.bytes 30 2 = true) ∧
    (∃ (s : State) (d : Desc), s.blk.runs Island.key = true ∧ s.blk.starts d ∧ s.blk.keyBar s.ident d.opcode = none ∧ d.op 26 1 < 6 ∧ allZero d.bytes 27 1 = true ∧ d.op 28 4 ≤ 65536 ∧ (d.op 28 4 % 16 = 0 ∨ 2 ≤ d.op 26 1)) ∧
    (∃ (s : State) (d : Desc), s.blk.runs Island.key = true ∧ s.blk.starts d ∧ s.blk.keyBar s.ident d.opcode = none ∧ d.op 24 4 ≤ 16777216 ∧ allZero d.bytes 28 4 = true) ∧
    (∃ (s : State) (r : KeyRun) (rest : List KeyRun), s.blk.runs Island.key = true ∧ s.blk.key.running = r :: rest ∧ r.d.opcode = 2053 ∧ (32 ≤ r.d.op 24 2 % 256 ∧ (s.blk.cacheOf (r.d.op 24 2 % 256)).used = true ∧ (s.blk.cacheOf (r.d.op 24 2 % 256)).gen = r.d.op 24 2 / 256) ∧ (s.blk.cacheOf (r.d.op 24 2 % 256)).attr ≠ 3) ∧
    (∃ (s : State) (r : KeyRun) (rest : List KeyRun), s.blk.runs Island.key = true ∧ s.blk.key.running = r :: rest ∧ r.d.opcode = 2053 ∧ (32 ≤ r.d.op 24 2 % 256 ∧ (s.blk.cacheOf (r.d.op 24 2 % 256)).used = true ∧ (s.blk.cacheOf (r.d.op 24 2 % 256)).gen = r.d.op 24 2 / 256) ∧ (s.blk.cacheOf (r.d.op 24 2 % 256)).attr = 3 ∧ 8 ≤ (s.blk.cacheOf (r.d.op 24 2 % 256)).depth) ∧
    (∃ (s : State) (r : KeyRun) (rest : List KeyRun) (c : Nat), s.blk.runs Island.key = true ∧ s.blk.key.running = r :: rest ∧ r.d.opcode = 2053 ∧ (32 ≤ r.d.op 24 2 % 256 ∧ (s.blk.cacheOf (r.d.op 24 2 % 256)).used = true ∧ (s.blk.cacheOf (r.d.op 24 2 % 256)).gen = r.d.op 24 2 / 256) ∧ (s.blk.cacheOf (r.d.op 24 2 % 256)).attr = 3 ∧ (s.blk.cacheOf (r.d.op 24 2 % 256)).depth < 8 ∧ s.blk.freeCache = some c ∧ slice (slice r.data 0 (r.d.op 28 1)) 0 8 ≠ ascii "TSL9648-") ∧
    (∃ (s : State) (r : KeyRun) (rest : List KeyRun), s.blk.runs Island.key = true ∧ s.blk.key.running = r :: rest ∧ r.d.opcode = 2054 ∧ (32 ≤ r.d.op 24 2 % 256 ∧ (s.blk.cacheOf (r.d.op 24 2 % 256)).used = true ∧ (s.blk.cacheOf (r.d.op 24 2 % 256)).gen = r.d.op 24 2 / 256) ∧ (s.blk.cacheOf (r.d.op 24 2 % 256)).attr ≠ r.d.op 26 1 % 2) ∧
    (∃ (s : State) (r : KeyRun) (rest : List KeyRun), s.blk.runs Island.key = true ∧ s.blk.key.running = r :: rest ∧ r.d.opcode = 2054 ∧ (32 ≤ r.d.op 24 2 % 256 ∧ (s.blk.cacheOf (r.d.op 24 2 % 256)).used = true ∧ (s.blk.cacheOf (r.d.op 24 2 % 256)).gen = r.d.op 24 2 / 256) ∧ (s.blk.cacheOf (r.d.op 24 2 % 256)).attr = r.d.op 26 1 % 2) ∧
    (∃ (s : State) (r : KeyRun) (rest : List KeyRun), s.blk.runs Island.key = true ∧ s.blk.key.running = r :: rest ∧ r.d.opcode = 2057) :=
  ⟨⟨st (keyB k0), kd 0x0804 [31], by decide +kernel, by unfold Blk.starts; decide +kernel, by decide +kernel⟩,
    ⟨st (keyB { kc with cache := (List.range 256).map (fun i => (i, { gen := 1, used := true })) }), kd 0x0804 [1], _, by decide +kernel, by unfold Blk.starts; decide +kernel, by decide +kernel, by decide +kernel, by decide +kernel, rfl, by decide +kernel⟩,
    ⟨st (keyB kc), kd 0x0804 [1], _, _, by decide +kernel, by unfold Blk.starts; decide +kernel, by decide +kernel, by decide +kernel, by decide +kernel, rfl, rfl⟩,
    ⟨st (keyB kc), kd 0x0808 [32, 4], by decide +kernel, by unfold Blk.starts; decide +kernel, by decide +kernel⟩,
    ⟨st (keyB kc), kd 0x0808 [32, 3], by decide +kernel, by unfold Blk.starts; decide +kernel, by decide +kernel⟩,
    ⟨st (keyB kc), kd 0x0807 [0, 0, 32, 3], by decide +kernel, by unfold Blk.starts; decide +kernel, by decide +kernel⟩,
    ⟨st (keyB kc), kd 0x0807 [0, 0, 34, 7], by decide +kernel, by unfold Blk.starts; decide +kernel, by decide +kernel⟩,
    ⟨st (keyB { kc with site := some [1] }), kd 0x0807 [1, 0, 34, 7], [1], by decide +kernel, by unfold Blk.starts; decide +kernel, by decide +kernel⟩,
    ⟨st (keyB k0), kd 0x080A [2], by decide +kernel, by unfold Blk.starts; decide +kernel, by decide +kernel⟩,
    ⟨st (keyB kc), kd 0x0805 [32, 3, 3, 1, 16, 64], by decide +kernel, by unfold Blk.starts; decide +kernel, by decide +kernel⟩,
    ⟨st (keyB kc), kd 0x0806 [32, 3, 5, 0, 17, 0], by decide +kernel, by unfold Blk.starts; decide +kernel, by decide +kernel⟩,
    ⟨st (keyB k0), kd 0x0809 (leBytes 4 16777216), by decide +kernel, by unfold Blk.starts; decide +kernel, by decide +kernel⟩,
    ⟨st (runB 0x0805 [34, 7] []), _, _, by decide +kernel, rfl, by decide +kernel⟩,
    ⟨st { runB 0x0805 [32, 3] [] with key := { (runB 0x0805 [32, 3] []).key with cache := [(32, { gen := 3, used := true, attr := 3, depth := 8 })] } }, _, _, by decide +kernel, rfl, by decide +kernel⟩,
    ⟨st (runB 0x0805 [32, 3, 0, 0, 1] [65]), _, _, _, by decide +kernel, rfl, by decide +kernel, by decide +kernel, by decide +kernel, by decide +kernel, rfl, by decide +kernel⟩,
    ⟨st (runB 0x0806 [34, 7] []), _, _, by decide +kernel, rfl, by decide +kernel⟩,
    ⟨st (runB 0x0806 [35, 5, 1] []), _, _, by decide +kernel, rfl, by decide +kernel⟩,
    ⟨st (runB 0x0809 [] []), _, _, by decide +kernel, rfl, by decide +kernel⟩⟩

/-- What TamperDestroysTheKeys assumes can be met, clause by clause. -/
theorem test_witness_TamperDestroysTheKeys :
    (∃ (s : State) (src : Fin 6) (high : Bool) (held : Nat), (¬(↑src = 0 ∨ ↑src = 5 ∨ bitOf (s.blk.fld Reg.TMP_CFG 5 0) ↑src = true ∧ high ≠ bitOf (s.blk.fld Reg.TMP_EXT_CFG 19 16) (↑src - 1) ∧ s.blk.fld Reg.TMP_EXT_CFG (4 * ↑src - 1) (4 * ↑src - 4) * 1000 ≤ held)) ∧ s.blk.pwr.ready = (s.blk.readyCause s.ident == 0)) ∧
    (∃ (s : State) (src : Fin 6) (high : Bool) (held : Nat), (↑src = 0 ∨ ↑src = 5 ∨ bitOf (s.blk.fld Reg.TMP_CFG 5 0) ↑src = true ∧ high ≠ bitOf (s.blk.fld Reg.TMP_EXT_CFG 19 16) (↑src - 1) ∧ s.blk.fld Reg.TMP_EXT_CFG (4 * ↑src - 1) (4 * ↑src - 4) * 1000 ≤ held) ∧ s.blk.powered = true ∧ s.blk.pwr.entering = none ∧ s.blk.key.readyOnce = false) ∧
    (∃ (s : State) (src : Fin 6) (high : Bool) (held : Nat), (↑src = 0 ∨ ↑src = 5 ∨ bitOf (s.blk.fld Reg.TMP_CFG 5 0) ↑src = true ∧ high ≠ bitOf (s.blk.fld Reg.TMP_EXT_CFG 19 16) (↑src - 1) ∧ s.blk.fld Reg.TMP_EXT_CFG (4 * ↑src - 1) (4 * ↑src - 4) * 1000 ≤ held) ∧ s.blk.powered = true ∧ s.blk.pwr.entering = none ∧ s.blk.key.readyOnce = true) ∧
    (∃ (s : State) (src : Fin 6) (high : Bool) (held : Nat), (↑src = 0 ∨ ↑src = 5 ∨ bitOf (s.blk.fld Reg.TMP_CFG 5 0) ↑src = true ∧ high ≠ bitOf (s.blk.fld Reg.TMP_EXT_CFG 19 16) (↑src - 1) ∧ s.blk.fld Reg.TMP_EXT_CFG (4 * ↑src - 1) (4 * ↑src - 4) * 1000 ≤ held) ∧ s.blk.pwr.pstate = 3 ∧ s.blk.pwr.entering = none) ∧
    (∃ (s : State) (src : Fin 6) (high : Bool) (held : Nat), (↑src = 0 ∨ ↑src = 5 ∨ bitOf (s.blk.fld Reg.TMP_CFG 5 0) ↑src = true ∧ high ≠ bitOf (s.blk.fld Reg.TMP_EXT_CFG 19 16) (↑src - 1) ∧ s.blk.fld Reg.TMP_EXT_CFG (4 * ↑src - 1) (4 * ↑src - 4) * 1000 ≤ held) ∧ s.blk.pwr.pstate = 4 ∧ s.blk.pwr.entering = none) ∧
    (∃ (s : State), s.blk.runs Island.key = true) ∧
    (∃ (s : State) (t : Nat) (q : Nat), s.blk.powered = true ∧ s.blk.key.holdAt = some q ∧ q + s.blk.fld Reg.TMP_CFG 31 24 * 1000000 ≤ (s.blk.moveTo t).elapsed) ∧
    (∃ (s : State) (t : Nat) (q : Nat), s.blk.powered = true ∧ s.blk.key.holdAt = some q ∧ ¬q + s.blk.fld Reg.TMP_CFG 31 24 * 1000000 ≤ (s.blk.moveTo t).elapsed) ∧
    (∃ (s : State) (d : Desc), s.blk.powered = true ∧ s.blk.starts d ∧ s.blk.keyBar s.ident d.opcode = none ∧ (s.blk.key.lockout = true ∨ s.blk.key.live ≠ 0 ∨ s.blk.stopped = false)) ∧
    (∃ (s : State) (d : Desc), s.blk.powered = true ∧ s.blk.starts d ∧ s.blk.keyBar s.ident d.opcode = none ∧ s.blk.key.lockout = false ∧ s.blk.key.live = 0 ∧ s.blk.stopped = true ∧ s.blk.entry0 s.ident = none) ∧
    (∃ (s : State) (d : Desc) (site : Bytes), s.blk.powered = true ∧ s.blk.starts d ∧ s.blk.keyBar s.ident d.opcode = none ∧ s.blk.key.lockout = false ∧ s.blk.key.live = 0 ∧ s.blk.stopped = true ∧ s.blk.entry0 s.ident = some site) :=
  ⟨⟨st (keyB k0 run0), 1, true, 0, by decide +kernel⟩,
    ⟨st (keyB k0 run0), 0, true, 0, by decide +kernel⟩,
    ⟨st (keyB { k0 with readyOnce := true } (run0.setReg Reg.TMP_CFG (word 0x64000031))), 4, true, 2000, by decide +kernel⟩,
    ⟨st { run0 with pwr := { run0.pwr with pstate := 3 } }, 0, true, 0, by decide +kernel⟩,
    ⟨st { run0 with pwr := { run0.pwr with pstate := 4 } }, 5, true, 0, by decide +kernel⟩,
    ⟨st run0, by decide +kernel⟩,
    ⟨st (keyB { k0 with holdAt := some 0 } run0), 300000000000, 0, by decide +kernel⟩,
    ⟨st ((keyB { k0 with holdAt := some 0 } run0).setReg Reg.TMP_CFG (word 0x64000021)), 1, 0, by decide +kernel⟩,
    ⟨st (keyB k0 run0), kd 0x080B [], by decide +kernel, by unfold Blk.starts; decide +kernel, by decide +kernel⟩,
    ⟨st (keyB k0), kd 0x080B [], by decide +kernel, by unfold Blk.starts; decide +kernel, by decide +kernel⟩,
    ⟨st (keyB k1), kd 0x080B [], [1], by decide +kernel, by unfold Blk.starts; decide +kernel, by decide +kernel⟩⟩

/-- What LifeCycleChangesDestroyKeys assumes can be met, clause by clause. -/
theorem test_witness_LifeCycleChangesDestroyKeys :
    (∃ (s : State) (d : Desc), s.blk.powered = true ∧ s.blk.starts d ∧ allZero d.bytes 25 7 = true ∧ s.blk.keyBar s.ident d.opcode = none ∧ s.blk.keyBar s.ident 2060 = none ∧ s.blk.stopped = false) ∧
    (∃ (s : State) (d : Desc), s.blk.powered = true ∧ s.blk.starts d ∧ allZero d.bytes 25 7 = true ∧ s.blk.keyBar s.ident d.opcode = none ∧ s.blk.keyBar s.ident 2060 = none ∧ s.blk.stopped = true ∧ s.blk.key.update ≠ none) ∧
    (∃ (s : State) (d : Desc), s.blk.powered = true ∧ s.blk.starts d ∧ allZero d.bytes 25 7 = true ∧ s.blk.keyBar s.ident d.opcode = none ∧ s.blk.keyBar s.ident 2060 = none ∧ s.blk.stopped = true ∧ s.blk.key.update = none ∧ (¬(s.ident.lc = LifeCycle.manuf ∧ d.op 24 1 = 3 ∨ s.ident.lc = LifeCycle.field ∧ d.op 24 1 = 3 ∨ s.ident.lc = LifeCycle.field ∧ d.op 24 1 = 4 ∨ s.ident.lc = LifeCycle.rma ∧ d.op 24 1 = 3 ∨ s.ident.lc ≠ LifeCycle.scrapped ∧ d.op 24 1 = 5) ∨ s.ident.lcCount = 63 ∧ d.op 24 1 ≠ 5)) ∧
    (∃ (s : State) (d : Desc), s.blk.powered = true ∧ s.blk.starts d ∧ allZero d.bytes 25 7 = true ∧ s.blk.keyBar s.ident d.opcode = none ∧ s.blk.keyBar s.ident 2060 = none ∧ s.blk.stopped = true ∧ s.blk.key.update = none ∧ s.ident.lc ≠ LifeCycle.scrapped ∧ d.op 24 1 = 5) ∧
    (∃ (s : State) (d : Desc), s.blk.powered = true ∧ s.blk.starts d ∧ allZero d.bytes 25 7 = true ∧ s.blk.keyBar s.ident d.opcode = none ∧ s.blk.keyBar s.ident 2060 = none ∧ s.blk.stopped = true ∧ s.blk.key.update = none ∧ s.ident.lcCount ≠ 63 ∧ s.ident.lc = LifeCycle.field ∧ d.op 24 1 = 3 ∧ s.blk.entry0 s.ident = none) ∧
    (∃ (s : State) (d : Desc) (new : LifeCycle) (key : Bytes), s.blk.powered = true ∧ s.blk.starts d ∧ allZero d.bytes 25 7 = true ∧ s.blk.keyBar s.ident d.opcode = none ∧ s.blk.keyBar s.ident 2060 = none ∧ s.blk.stopped = true ∧ s.blk.key.update = none ∧ s.ident.lcCount ≠ 63 ∧ (s.ident.lc = LifeCycle.manuf ∧ d.op 24 1 = 3 ∧ new = LifeCycle.field ∧ key = s.blk.kLca s.ident ∨ s.ident.lc = LifeCycle.field ∧ d.op 24 1 = 4 ∧ new = LifeCycle.rma ∧ key = s.blk.kLca s.ident ∨ s.ident.lc = LifeCycle.rma ∧ d.op 24 1 = 3 ∧ new = LifeCycle.field ∧ key = s.blk.kLca s.ident ∨ s.ident.lc = LifeCycle.field ∧ d.op 24 1 = 3 ∧ new = LifeCycle.field ∧ Option.map s.blk.kTa (s.blk.entry0 s.ident) = some key)) :=
  ⟨⟨st (keyB k0 run0), kd 0x080C [3], by decide +kernel, by unfold Blk.starts; decide +kernel, by decide +kernel⟩,
    ⟨st (keyB { k0 with update := some updX }), kd 0x080C [3], by decide +kernel, by unfold Blk.starts; decide +kernel, by decide +kernel⟩,
    ⟨⟨keyB k0, ⟨.field, 63⟩, []⟩, kd 0x080C [3], by decide +kernel, by unfold Blk.starts; decide +kernel, by decide +kernel⟩,
    ⟨⟨keyB k0, ⟨.manuf, 63⟩, []⟩, kd 0x080C [5], by decide +kernel, by unfold Blk.starts; decide +kernel, by decide +kernel⟩,
    ⟨st (keyB k0), kd 0x080C [3], by decide +kernel, by unfold Blk.starts; decide +kernel, by decide +kernel⟩,
    ⟨st (keyB k0), kd 0x080C [4], .rma, (keyB k0).kLca ⟨.field, 1⟩, by decide +kernel, by unfold Blk.starts; decide +kernel, by decide +kernel, by decide +kernel, by decide +kernel, by decide +kernel, by decide +kernel, by decide +kernel, Or.inr (Or.inl ⟨rfl, by decide, rfl, rfl⟩)⟩⟩

/-- What RecordsAreCommittedReadAndCleared assumes can be met, clause by clause. -/
theorem test_witness_RecordsAreCommittedReadAndCleared :
    (∃ (s : State), s.blk.powered = true ∧ s.blk.evr.staging = []) ∧
    (∃ (s : State) (r : Rec) (rest : List Rec), s.blk.powered = true ∧ s.blk.evr.staging = r :: rest ∧ s.blk.evr.clear = none ∧ s.blk.evr.dropped = 0) ∧
    (∃ (s : State) (r : Rec) (rest : List Rec), s.blk.powered = true ∧ s.blk.evr.staging = r :: rest ∧ s.blk.evr.clear = none ∧ 0 < s.blk.evr.dropped ∧ s.blk.evr.staging.length ≤ 256) ∧
    (∃ (s : State), s.blk.powered = true) ∧
    (∃ (s : State) (d : Desc), s.blk.powered = true ∧ s.blk.starts d ∧ d.op 24 1 < 2 ∧ allZero d.bytes 25 3 = true ∧ 1 ≤ d.op 28 4 ∧ d.op 28 4 ≤ 16384 ∧ d.op 40 8 % 64 = 0 ∧ s.blk.evr.scanDone = false) ∧
    (∃ (s : State) (d : Desc), s.blk.powered = true ∧ s.blk.starts d ∧ d.op 24 1 < 2 ∧ allZero d.bytes 25 3 = true ∧ 1 ≤ d.op 28 4 ∧ d.op 28 4 ≤ 16384 ∧ d.op 40 8 % 64 = 0 ∧ s.blk.evr.scanDone = true) ∧
    (∃ (s : State) (x : EvrRead) (rest : List EvrRead), s.blk.powered = true ∧ s.blk.evr.reads = x :: rest) ∧
    (∃ (s : State) (d : Desc), s.blk.powered = true ∧ s.blk.starts d ∧ s.blk.key.site = none) ∧
    (∃ (s : State) (d : Desc) (site : Bytes), s.blk.powered = true ∧ s.blk.starts d ∧ s.blk.key.site = some site) ∧
    (∃ (s : State) (c : EvrClear), s.blk.powered = true ∧ s.blk.evr.clear = some c ∧ (c.committed = true ∨ ∃ x, x ∈ s.blk.evr.reads ∧ x.n ≤ c.n)) ∧
    (∃ (s : State) (c : EvrClear), s.blk.powered = true ∧ s.blk.evr.clear = some c ∧ c.committed = false ∧ (∀ (x : EvrRead), x ∈ s.blk.evr.reads → c.n < x.n)) ∧
    (∃ (s : State) (c : EvrClear), s.blk.powered = true ∧ s.blk.evr.clear = some c ∧ c.committed = true) :=
  ⟨⟨st (evrB {}), by decide +kernel⟩,
    ⟨st (evrB { staging := [recX 5, recX 6, recX 9], next := 10 }), _, _, by decide +kernel, rfl, by decide +kernel⟩,
    ⟨st (evrB { staging := [recX 5], next := 10, dropped := 3 }), _, _, by decide +kernel, rfl, by decide +kernel⟩,
    ⟨st run0, by decide +kernel⟩,
    ⟨st (evrB {}), evrD, by decide +kernel, by unfold Blk.starts; decide +kernel, by decide +kernel⟩,
    ⟨st (evrB { scanDone := true }), evrD, by decide +kernel, by unfold Blk.starts; decide +kernel, by decide +kernel⟩,
    ⟨st (evrB { reads := [⟨opid, 1, 5, 2, 64, 10⟩] }), _, _, by decide +kernel, rfl⟩,
    ⟨st run0, kd 0x0902 [], by decide +kernel, by unfold Blk.starts; decide +kernel, by decide +kernel⟩,
    ⟨st headB, kd 0x0902 [], zeros 32, by decide +kernel, by unfold Blk.starts; decide +kernel, by decide +kernel⟩,
    ⟨st (evrB { clear := some ⟨opid, 10, 3, true⟩ }), _, by decide +kernel, rfl, Or.inl rfl⟩,
    ⟨st (evrB { clear := some ⟨opid, 10, 3, false⟩ }), _, by decide +kernel, rfl, by decide +kernel⟩,
    ⟨st (evrB { clear := some ⟨opid, 10, 3, true⟩ }), _, by decide +kernel, rfl, by decide +kernel⟩⟩

/-- What PowerStatesAreEnteredAndLeft assumes can be met, clause by clause. -/
theorem test_witness_PowerStatesAreEnteredAndLeft :
    (∃ (s : State) (d : Desc), s.blk.powered = true ∧ s.blk.starts d ∧ 1 ≤ d.op 24 1 ∧ d.op 24 1 ≤ 2 ∧ allZero d.bytes 25 3 = true ∧ (d.op 28 4 = 0 ∨ 20 ≤ d.op 28 4 ∧ d.op 28 4 ≤ 4000000)) ∧
    (∃ (s : State) (d : Desc), s.blk.powered = true ∧ s.blk.starts d ∧ 3 ≤ d.op 24 1 ∧ d.op 24 1 ≤ 4 ∧ allZero d.bytes 25 3 = true ∧ (d.op 28 4 = 0 ∨ 20 ≤ d.op 28 4 ∧ d.op 28 4 ≤ 4000000) ∧ (s.blk.started d).restRefusal ≠ 0) ∧
    (∃ (s : State) (d : Desc), s.blk.powered = true ∧ s.blk.starts d ∧ 3 ≤ d.op 24 1 ∧ d.op 24 1 ≤ 4 ∧ allZero d.bytes 25 3 = true ∧ (d.op 28 4 = 0 ∨ 20 ≤ d.op 28 4 ∧ d.op 28 4 ≤ 4000000) ∧ (s.blk.started d).restRefusal = 0) ∧
    (∃ (s : State) (t : Nat) (w : Nat), s.blk.pwr.entering = some (t, w) ∧ (t = 3 ∨ t = 4) ∧ (s.blk.pwr.wanted ≠ some 3 ∨ t = 4)) ∧
    (∃ (s : State) (t : Nat) (w : Nat), s.blk.pwr.entering = some (t, w) ∧ (t = 3 ∨ t = 4) ∧ s.blk.pwr.wanted = some 3 ∧ t = 3) ∧
    (∃ (s : State), s.blk.asleep = true ∧ s.blk.pwr.down = false ∧ s.blk.pwr.wakeS ≠ 0) ∧
    (∃ (s : State), s.blk.asleep = true ∧ s.blk.pwr.down = false ∧ s.blk.pwr.wakeS = 0 ∧ s.blk.pwr.ready = false ∧ s.blk.readyCause s.ident ≠ 0) ∧
    (∃ (s : State) (ms : Nat), s.blk.asleep = true ∧ s.blk.pwr.down = false ∧ 20000 ≤ (s.blk.sleepTo ms).optime - s.blk.pwr.asleepAt) ∧
    (∃ (s : State) (ms : Nat), s.blk.asleep = true ∧ s.blk.pwr.down = false ∧ (s.blk.sleepTo ms).optime - s.blk.pwr.asleepAt < 20000) ∧
    (∃ (s : State) (src : Nat), s.blk.asleep = true ∧ s.blk.pwr.down = false ∧ s.blk.pwr.wanted = some src) ∧
    (∃ (s : State), s.blk.asleep = false ∧ s.blk.pwr.entering = none) :=
  ⟨⟨st run0, pwrD 2 0, by decide +kernel, by unfold Blk.starts; decide +kernel, by decide +kernel⟩,
    ⟨st run0, pwrD 4 20, by decide +kernel, by unfold Blk.starts; decide +kernel, by decide +kernel⟩,
    ⟨st stopped0, pwrD 3 4000000, by decide +kernel, by unfold Blk.starts; decide +kernel, by decide +kernel⟩,
    ⟨st { stopped0 with pwr := { stopped0.pwr with entering := some (4, 30), wanted := some 3 } }, 4, 30, by decide +kernel⟩,
    ⟨st { stopped0 with pwr := { stopped0.pwr with entering := some (3, 30), wanted := some 3 } }, 3, 30, by decide +kernel⟩,
    ⟨st (sleepB 3 30 none), by decide +kernel⟩,
    ⟨st (sleepB 4 0 none), by decide +kernel⟩,
    ⟨st (sleepB 3 0 none), 20000, by decide +kernel⟩,
    ⟨st (sleepB 4 0 none), 19999, by decide +kernel⟩,
    ⟨st (sleepB 3 0 (some 1)), 1, by decide +kernel⟩,
    ⟨st run0, by decide +kernel⟩⟩

/-- What BootReachesServiceStageByStage assumes can be met, clause by clause. -/
theorem test_witness_BootReachesServiceStageByStage :
    (∃ (s : State), s.blk.pwr.pstate ≠ 4) ∧
    (∃ (s : State), s.blk.powered = true) ∧
    (∃ (s : State), s.blk.powered = true) :=
  ⟨⟨st run0, by decide +kernel⟩,
    ⟨st run0, by decide +kernel⟩,
    ⟨st { run0 with pwr := { run0.pwr with stage := 0 } }, by decide +kernel⟩⟩

/-- What SurveysRunStoreAndAreRead assumes can be met, clause by clause. -/
theorem test_witness_SurveysRunStoreAndAreRead :
    (∃ (s : State) (d : Desc), s.blk.powered = true ∧ s.blk.starts d ∧ d.op 24 1 < 128 ∧ (d.op 25 1 < 8 ∨ d.op 25 1 = 255) ∧ allZero d.bytes 26 2 = true ∧ d.op 32 8 % 64 = 0 ∧ s.blk.pwr.survey ≠ none) ∧
    (∃ (s : State) (d : Desc), s.blk.powered = true ∧ s.blk.starts d ∧ d.op 24 1 < 128 ∧ (d.op 25 1 < 8 ∨ d.op 25 1 = 255) ∧ allZero d.bytes 26 2 = true ∧ d.op 32 8 % 64 = 0 ∧ s.blk.pwr.survey = none ∧ d.op 28 4 < resultBytes (d.op 24 1)) ∧
    (∃ (s : State) (d : Desc), s.blk.powered = true ∧ s.blk.starts d ∧ d.op 24 1 < 128 ∧ (d.op 25 1 < 8 ∨ d.op 25 1 = 255) ∧ allZero d.bytes 26 2 = true ∧ d.op 32 8 % 64 = 0 ∧ s.blk.pwr.survey = none ∧ resultBytes (d.op 24 1) ≤ d.op 28 4) ∧
    (∃ (s : State) (v : Survey), s.blk.powered = true ∧ s.blk.pwr.survey = some v ∧ v.items < 128 ∧ v.done < 128) ∧
    (∃ (s : State) (d : Desc), s.blk.powered = true ∧ s.blk.starts d ∧ d.op 32 8 % 64 = 0 ∧ d.op 24 1 < 3 ∧ allZero d.bytes 25 3 = true ∧ s.blk.storedSurvey (d.op 24 1) = none) ∧
    (∃ (s : State) (d : Desc) (r : SurveyRec), s.blk.powered = true ∧ s.blk.starts d ∧ d.op 32 8 % 64 = 0 ∧ d.op 24 1 < 3 ∧ allZero d.bytes 25 3 = true ∧ s.blk.storedSurvey (d.op 24 1) = some r ∧ d.op 28 4 < List.length r.data) ∧
    (∃ (s : State) (d : Desc) (r : SurveyRec), s.blk.powered = true ∧ s.blk.starts d ∧ d.op 32 8 % 64 = 0 ∧ d.op 24 1 < 3 ∧ allZero d.bytes 25 3 = true ∧ s.blk.storedSurvey (d.op 24 1) = some r ∧ List.length r.data ≤ d.op 28 4) ∧
    (∃ (s : State) (d : Desc), s.blk.powered = true ∧ s.blk.starts d ∧ d.op 32 8 % 64 = 0 ∧ allZero d.bytes 24 8 = true) :=
  ⟨⟨st (surB (some surX)), surD 127 4000, by decide +kernel, by unfold Blk.starts; decide +kernel, by decide +kernel⟩,
    ⟨st run0, surD 127 0, by decide +kernel, by unfold Blk.starts; decide +kernel, by decide +kernel⟩,
    ⟨st run0, surD 0 4000, by decide +kernel, by unfold Blk.starts; decide +kernel, by decide +kernel⟩,
    ⟨st (surB (some surX)), _, by decide +kernel, rfl, by decide +kernel⟩,
    ⟨st run0, surR 2 0, by decide +kernel, by unfold Blk.starts; decide +kernel, by decide +kernel⟩,
    ⟨st storedB, surR 0 99, ⟨3, zeros 100⟩, by decide +kernel, by unfold Blk.starts; decide +kernel, by decide +kernel⟩,
    ⟨st storedB, surR 0 100, ⟨3, zeros 100⟩, by decide +kernel, by unfold Blk.starts; decide +kernel, by decide +kernel⟩,
    ⟨st run0, kd 0x0C05 (zeros 8 ++ leBytes 8 64), by decide +kernel, by unfold Blk.starts; decide +kernel, by decide +kernel⟩⟩

/-- What ReservedOffsetsReadZero assumes can be met, clause by clause. -/
theorem test_witness_ReservedOffsetsReadZero :
    ∃ (s : State) (off : Nat), regDescAt off = none ∧ s.blk.powered = true ∧ s.blk.inSvc = true ∧ (s.blk.pwr.ready = true ↔ s.blk.readyCause s.ident = 0) :=
  ⟨st readyB, 0x40, by decide +kernel⟩

/-- What LatchedPairsReadTogether assumes can be met, clause by clause. -/
theorem test_witness_LatchedPairsReadTogether :
    (∃ (s : State) (off : Nat), s.blk.powered = true ∧ off = Reg.SYS_OPTIME_LO) ∧
    (∃ (s : State) (off : Nat), s.blk.powered = true ∧ off = Reg.MAP_EPOCH_LO) ∧
    (∃ (s : State) (off : Nat), s.blk.powered = true ∧ off = Reg.CLP_STOP_EPOCH_LO) ∧
    (∃ (s : State) (off : Nat), s.blk.powered = true ∧ off = Reg.CLP_WC_LO) ∧
    (∃ (s : State) (off : Nat), s.blk.powered = true ∧ off = Reg.INV_TIME_SEC_LO) ∧
    (∃ (s : State) (off : Nat), s.blk.powered = true ∧ off = Reg.INV_OFFSET_LO) ∧
    (∃ (s : State) (off : Nat), s.blk.powered = true ∧ off = Reg.INV_UTC_LO) ∧
    (∃ (s : State) (off : Nat), s.blk.powered = true ∧ off = Reg.EVR_NEXT_LO) ∧
    (∃ (s : State) (off : Nat), s.blk.powered = true ∧ off = Reg.EVR_OLDEST_LO) ∧
    (∃ (s : State) (off : Nat) (n : Nat), s.blk.powered = true ∧ n < 48 ∧ off = Reg.CTL_AX_INTEG_LO n) ∧
    (∃ (b : Blk) (hi : Nat), latchedHi hi = true ∧ (∀ (p : Nat × Word), p ∈ b.latch → p.fst ≠ hi)) ∧
    (∃ (s : State) (lo : Nat), s.blk.powered = true ∧ s.blk.inSvc = true ∧ (lo = Reg.INV_INC_LO ∨ lo = Reg.INV_UTC_OFF_LO) ∧ (s.blk.pwr.ready = true ↔ s.blk.readyCause s.ident = 0)) :=
  ⟨⟨st run0, Reg.SYS_OPTIME_LO, by decide +kernel⟩,
    ⟨st run0, Reg.MAP_EPOCH_LO, by decide +kernel⟩,
    ⟨st run0, Reg.CLP_STOP_EPOCH_LO, by decide +kernel⟩,
    ⟨st run0, Reg.CLP_WC_LO, by decide +kernel⟩,
    ⟨st run0, Reg.INV_TIME_SEC_LO, by decide +kernel⟩,
    ⟨st run0, Reg.INV_OFFSET_LO, by decide +kernel⟩,
    ⟨st run0, Reg.INV_UTC_LO, by decide +kernel⟩,
    ⟨st run0, Reg.EVR_NEXT_LO, by decide +kernel⟩,
    ⟨st run0, Reg.EVR_OLDEST_LO, by decide +kernel⟩,
    ⟨st run0, Reg.CTL_AX_INTEG_LO 47, 47, by decide +kernel⟩,
    ⟨run0, Reg.MAP_EPOCH_HI, by decide +kernel⟩,
    ⟨st readyB, Reg.INV_INC_LO, by decide +kernel⟩⟩

/-- What RegisterWritesAreCheckedByField assumes can be met, clause by clause. -/
theorem test_witness_RegisterWritesAreCheckedByField :
    (∃ (s : State), s.blk.powered = true ∧ (s.blk.pwr.ready = true ↔ s.blk.readyCause s.ident = 0) ∧ s.blk.inSvc = false) ∧
    (∃ (s : State) (full : Bool), s.blk.powered = true ∧ (s.blk.pwr.ready = true ↔ s.blk.readyCause s.ident = 0) ∧ s.blk.inSvc = true ∧ full = false) ∧
    (∃ (s : State) (off : Nat) (full : Bool), s.blk.powered = true ∧ (s.blk.pwr.ready = true ↔ s.blk.readyCause s.ident = 0) ∧ s.blk.inSvc = true ∧ full = true ∧ off = Reg.SYS_SCRATCH) ∧
    (∃ (s : State) (off : Nat) (full : Bool), s.blk.powered = true ∧ (s.blk.pwr.ready = true ↔ s.blk.readyCause s.ident = 0) ∧ s.blk.inSvc = true ∧ full = true ∧ off = Reg.DVT_ARB_CFG) ∧
    (∃ (s : State) (off : Nat) (full : Bool), s.blk.powered = true ∧ (s.blk.pwr.ready = true ↔ s.blk.readyCause s.ident = 0) ∧ s.blk.inSvc = true ∧ full = true ∧ off = Reg.CLP_REL_CFG ∧ s.blk.stopped = false) ∧
    (∃ (s : State) (off : Nat) (k : Nat) (d : RegDesc), s.blk.powered = true ∧ regDescAt off = some (d, k) ∧ rcMask d.fields = 4294967295 ∧ off ≠ Reg.GNS_JAM_STATUS ∧ off ≠ Reg.MON_TEMP_PEAK) :=
  ⟨⟨st { up with pwr := { up.pwr with stage := 6 } }, by decide +kernel⟩,
    ⟨st readyB, false, by decide +kernel⟩,
    ⟨st readyB, Reg.SYS_SCRATCH, true, by decide +kernel⟩,
    ⟨st readyB, Reg.DVT_ARB_CFG, true, by decide +kernel⟩,
    ⟨st { readyB with clp := run0.clp }, Reg.CLP_REL_CFG, true, by decide +kernel⟩,
    ⟨st run0, Reg.DVT_COMMIT_COUNT, _, _, by decide +kernel, rfl, by decide +kernel⟩⟩

end Sys2Proof.Tests
end

section
/-! PROOF. Every command answers a next state and changes its own parts alone (O3): one lemma for each way in which a
meaning is lifted to the state, the frames of boots and wakes, and the commands island by island. -/

namespace Sys2Proof.Machine

open Sys2Proof

/-! ## What a lifted meaning may do -/

/-- `o` is an answer that the command `c` may give in `s`: a next state with the same queue, changed in the parts that
`c` touches alone and never in the UID, with the fuses as they were but for LC_CHANGE, and nothing changed where the
command's island has no power (R489) or no clock (R10, R202). -/
def Within (c : Instr) (s : State) (o : Host.Outcome State Fault Refusal) : Prop :=
  ∃ t : State, o = .next t ∧ t.pending = s.pending ∧
    s.blk.onlyIn c.touches t.blk ∧ t.blk.uid = s.blk.uid ∧
    ((∀ d, c ≠ .lcChange d) → t.ident = s.ident) ∧
    (s.blk.powered = false → c.aon = false → t = s) ∧
    (∀ i, c.island = some i → s.blk.clocked i = false → t = s)

theorem uid_notMem_touches (c : Instr) : Part.uid ∉ c.touches := by
  cases c <;> dsimp only [Instr.touches] <;> decide

theorem within_self (c : Instr) (s : State) : Within c s (.next s) :=
  ⟨s, rfl, rfl, Blk.onlyIn_refl _ _, rfl, fun _ => rfl, fun _ _ => rfl, fun _ _ _ => rfl⟩

/-- Every lift but that of LC_CHANGE has this shape: the meaning's working state while the gate `on` is open. -/
theorem within_gate {c : Instr} {s : State} {b : Blk} (on : Bool) (hf : s.blk.onlyIn c.touches b)
    (hp : s.blk.powered = false → c.aon = false → on = false)
    (hk : ∀ i, c.island = some i → s.blk.clocked i = false → on = false) :
    Within c s (.next (if on then { s with blk := b } else s)) := by
  cases on with
  | false => exact within_self c s
  | true =>
    exact ⟨_, rfl, rfl, hf, hf .uid (uid_notMem_touches c), fun _ => rfl,
      fun p a => absurd (hp p a) (by decide), fun i e k => absurd (hk i e k) (by decide)⟩

theorem within_islandI {c : Instr} {s : State} {i : Island} {f : Ident → Blk → Blk} (hi : c.island = some i)
    (hf : s.blk.onlyIn c.touches (f s.ident s.blk)) : Within c s (onIslandI i f s) := by
  refine within_gate _ hf (fun p _ => by simp [Blk.runs, p]) (fun j e k => ?_)
  obtain rfl : i = j := by simpa [hi] using e
  simp [Blk.runs, k]

theorem within_island {c : Instr} {s : State} {i : Island} {f : Blk → Blk} (hi : c.island = some i)
    (hf : s.blk.onlyIn c.touches (f s.blk)) : Within c s (onIsland i f s) := within_islandI (f := fun _ => f) hi hf

theorem within_blkI {c : Instr} {s : State} {f : Ident → Blk → Blk} (hi : c.island = none)
    (hf : s.blk.onlyIn c.touches (f s.ident s.blk)) : Within c s (onBlkI f s) :=
  within_gate _ hf (fun p _ => p) (fun _ e => by simp [hi] at e)

theorem within_blk {c : Instr} {s : State} {f : Blk → Blk} (hi : c.island = none)
    (hf : s.blk.onlyIn c.touches (f s.blk)) : Within c s (onBlk f s) := within_blkI (f := fun _ => f) hi hf

theorem within_readyI {c : Instr} {s : State} {f : Ident → Blk → Blk} (hi : c.island = none)
    (hf : s.blk.onlyIn c.touches ((f s.ident s.blk).syncReady s.ident)) : Within c s (onReadyI f s) :=
  within_blkI (f := fun i b => (f i b).syncReady i) hi hf

theorem within_ready {c : Instr} {s : State} {f : Blk → Blk} (hi : c.island = none)
    (hf : s.blk.onlyIn c.touches ((f s.blk).syncReady s.ident)) : Within c s (onReady f s) :=
  within_readyI (f := fun _ => f) hi hf

/-- The gate of the AON island is always open (R489). -/
theorem within_aon {c : Instr} {s : State} {f : Blk → Blk} (ha : c.aon = true) (hi : c.island = none)
    (hf : s.blk.onlyIn c.touches ((f s.blk).syncReady s.ident)) : Within c s (onAon f s) :=
  within_gate true hf (fun _ a => by simp [ha] at a) (fun _ e => by simp [hi] at e)

/-! ## Boots and wakes

A boot may change every part but the UID, so its frame is stated for the one list of these parts. -/

/-- Every part of the working state but the UID. -/
abbrev bootParts : List Part :=
  [.regs, .latch, .heldLo, .out, .lastRead, .fresh, .hst, .mem, .evr, .inv,
    .fleet, .dvt, .clp, .axs, .air, .hdl, .gns, .pos, .key, .pwr]

theorem onlyIn_bootParts {a b : Blk} (h : b.uid = a.uid) : a.onlyIn bootParts b := by
  intro p hp
  cases p with
  | uid => exact h
  | _ => exact absurd (by decide) hp

@[simp] theorem Blk.bare_onlyIn {a : Blk} (b : Blk) (torn : Bool) :
    a.onlyIn bootParts (b.bare torn) ↔ a.onlyIn bootParts b := Blk.onlyIn_iff (onlyIn_bootParts rfl)

@[simp] theorem Blk.bootFrom_onlyIn {a : Blk} (b : Blk) (reason source prev old : Nat) (cycle : Bool) :
    a.onlyIn bootParts (b.bootFrom reason source prev old cycle) ↔ a.onlyIn bootParts b := by
  unfold Blk.bootFrom; dsimp only; split <;> simp

@[simp] theorem Blk.restart_onlyIn {a : Blk} (b : Blk) : a.onlyIn bootParts b.restart ↔ a.onlyIn bootParts b := by
  simp [Blk.restart]

@[simp] theorem Blk.powerUp_onlyIn {a : Blk} (b : Blk) : a.onlyIn bootParts b.powerUp ↔ a.onlyIn bootParts b := by
  simp [Blk.powerUp]

@[simp] theorem Blk.hold'_onlyIn {a : Blk} (b : Blk) (torn : Bool) :
    a.onlyIn bootParts (b.hold' torn) ↔ a.onlyIn bootParts b := Blk.onlyIn_iff (onlyIn_bootParts rfl)

@[simp] theorem Blk.wakeSleep_onlyIn {a : Blk} (b : Blk) (source : Nat) :
    a.onlyIn bootParts (b.wakeSleep source) ↔ a.onlyIn bootParts b := by
  have huid : b.clampWoken.flr.uid = b.uid := by
    have h : b.onlyIn bootParts b.clampWoken.flr := by simp
    exact h .uid (by decide)
  unfold Blk.wakeSleep
  simp only [Blk.startSources_onlyIn, Blk.recordPower_onlyIn, List.mem_cons, true_or, or_true, reduceCtorEq]
  exact Blk.onlyIn_iff (onlyIn_bootParts huid)

@[simp] theorem Blk.wake_onlyIn {a : Blk} (b : Blk) (source : Nat) :
    a.onlyIn bootParts (b.wake source) ↔ a.onlyIn bootParts b := by
  unfold Blk.wake; split <;> simp

@[simp] theorem Blk.wakeTimer_onlyIn {a : Blk} (b : Blk) : a.onlyIn bootParts b.wakeTimer ↔ a.onlyIn bootParts b := by
  unfold Blk.wakeTimer; split <;> simp

@[simp] theorem Blk.perst_onlyIn {a : Blk} (b : Blk) (ms : Nat) :
    a.onlyIn bootParts (b.perst ms) ↔ a.onlyIn bootParts b := by
  by_cases h : b.asleep <;> simp [Blk.perst, h, Blk.ite_onlyIn]

@[simp] theorem Blk.deferredWake_onlyIn {a : Blk} (b : Blk) :
    a.onlyIn bootParts b.deferredWake ↔ a.onlyIn bootParts b := by
  unfold Blk.deferredWake; split <;> simp [Blk.ite_onlyIn]

@[simp] theorem Blk.sleepEntry_onlyIn {a : Blk} (b : Blk) :
    a.onlyIn bootParts b.sleepEntry ↔ a.onlyIn bootParts b := by
  unfold Blk.sleepEntry
  split
  · rfl
  · exact Blk.onlyIn_iff (by simp [Blk.ite_onlyIn])

@[simp] theorem Blk.tamperQualify_onlyIn {a : Blk} (b : Blk) (src ms : Nat) (high : Bool) (held : Nat) :
    a.onlyIn bootParts (b.tamperQualify src ms high held) ↔ a.onlyIn bootParts b := by
  unfold Blk.tamperQualify; dsimp only
  repeat' split
  all_goals simp

@[simp] theorem Blk.sysRestart_onlyIn {a : Blk} (d : Desc) (b : Blk) :
    a.onlyIn bootParts (b.sysRestart d) ↔ a.onlyIn bootParts b := by
  unfold Blk.sysRestart; split <;> simp

@[simp] theorem Blk.lcDone_onlyIn {a : Blk} (i : Ident) (d : Desc) (new : LifeCycle) (b : Blk) :
    a.onlyIn bootParts (b.lcDone i d new) ↔ a.onlyIn bootParts b := by
  simp [Blk.lcDone]

/-! ## The commands of each island

Each command is the lift of one operation.  The lift's lemma leaves the frame of the operation, for which
Laws/Frames.lean has a rewriting rule; a meaning with a condition of its own (R497) is looked at on both sides of it, one
that takes a list step by step. -/

theorem hst_within {c : Instr} (hi : c.island = some .hst) (s : State) : Within c s (exec c s) := by
  cases c with
  | sqDoorbellWrite | cqDoorbellWrite | descriptorFetch | slotsOnChip | hstFetchErr | moderationTimerExpiry
  | superframeBatchFlush | coalescedPendingWrite | queueItemCopy | functionLevelReset | sqDrainDone
  | msixTableEntryWrite =>
    dsimp only [exec]
    exact within_island rfl (by dsimp only [Instr.touches]; simp)
  | ringEnable | ringDisable | hstModeWrite | modePersist =>
    dsimp only [exec]
    exact within_island rfl (by dsimp only [Instr.touches]; simp [Blk.ite_onlyIn])
  | _ => cases hi

theorem dvt_within {c : Instr} (hi : c.island = some .dvt) (s : State) : Within c s (exec c s) := by
  cases c with
  | txn | waitCancel | waitsRead | waitRejudge | afterEpochRelease | waitLimitExpiry | afterLimitExpiry
  | airTxnJudge | deviceTxn | quotaPeriodStart | mapLoad | mapImageValidated | mapSwitch | mapDiscard
  | snapshot | snapshotAtEpoch | snapshotWaitTimeout | snapshotWritten =>
    dsimp only [exec]
    exact within_island rfl (by dsimp only [Instr.touches]; simp)
  | _ => cases hi

theorem pos_within {c : Instr} (hi : c.island = some .pos) (s : State) : Within c s (exec c s) := by
  cases c with
  | obsPayloadTimeout | posEpochAdmit | searchDeadline | solutionComplete | degradeEvaluate
  | orbitSetActivate | posRefSet | orbitLoad | headSet | memberFilterReset | posOfferRead =>
    dsimp only [exec]
    exact within_island rfl (by dsimp only [Instr.touches]; simp)
  | _ => cases hi

theorem gns_within {c : Instr} (hi : c.island = some .gns) (s : State) : Within c s (exec c s) := by
  cases c with
  | referenceEpoch | agcUpdate | spectrumUpdate | jamUpdate | antennaCurrentSample | antennaRetry
  | channelReview | acqSearchDone | navSymbolItem | snapFragmentTimeout | snapProcessStart | snapResult
  | gnsRestart | gnsSnapHost | gnsSpectrum | preambleDecoded =>
    dsimp only [exec]
    exact within_island rfl (by dsimp only [Instr.touches]; simp)
  | trackingUpdate =>
    dsimp only [exec]
    exact within_island rfl (by dsimp only [Instr.touches]; simp [Blk.foldl_onlyIn])
  | bitSyncFound =>
    dsimp only [exec]
    exact within_island rfl (by dsimp only [Instr.touches]; simp [Blk.ite_onlyIn])
  | _ => cases hi

theorem air_within {c : Instr} (hi : c.island = some .air) (s : State) : Within c s (exec c s) := by
  cases c with
  | superframeStart | rxplanSend | upFrameRx | pollRx | assocReqRx | assocTimeout | waitListKeepExpiry
  | waitListDrop | downSlotTx | downAckRx | downNoAck | expectedUplinkMissed | posDlSlotTx | bcastSlotTx
  | keyDeliveryStart | bcopyRx | primaryBeaconMissed | airSend | airRxBind | airAdmit | airMembersRead =>
    dsimp only [exec]
    exact within_island rfl (by dsimp only [Instr.touches]; simp)
  | _ => cases hi

theorem hdl_within {c : Instr} (hi : c.island = some .hdl) (s : State) : Within c s (exec c s) := by
  cases c with
  | stopWindow | hbDnTx | hbUpRx | syncIntervalEnd | suspectHoldExpiry | txReportRx | headHbLoss
  | sgmiiLinkChange =>
    dsimp only [exec]
    exact within_island rfl (by dsimp only [Instr.touches]; simp)
  | helloRx | headRecalHold | headRecalSet | stopwinReportMissing =>
    dsimp only [exec]
    exact within_island rfl (by dsimp only [Instr.touches]; simp [Blk.ite_onlyIn])
  | _ => cases hi

theorem axs_within {c : Instr} (hi : c.island = some .axs) (s : State) : Within c s (exec c s) := by
  cases c with
  | axisSample | sampleOverrun | limitInputEdge | zEdgeCapture | encoderQuadError | encoderOpenWire
  | followErrorExpiry | stallExpiry | spRangeExpiry | outputCurrentLimit | outputOvervoltage | axsTableLoad
  | tableValidated | axsTableFree | axsFaultClear | axsSetPos | axsRead =>
    dsimp only [exec]
    exact within_island rfl (by dsimp only [Instr.touches]; simp)
  | ctlApply =>
    dsimp only [exec]
    exact within_island rfl (by dsimp only [Instr.touches]; simp [Blk.ite_onlyIn])
  | _ => cases hi

theorem key_within {c : Instr} (hi : c.island = some .key) (s : State) : Within c s (exec c s) := by
  cases c with
  | periodKeyDerive | tamperSourceInactive | keyOperationDone =>
    dsimp only [exec]
    exact within_island rfl (by dsimp only [Instr.touches]; simp)
  | keyInstall | keyImport | keyDelete | keyLoad | keyDerive | keyCipher | keyExportEnrol | keyEvict
  | keyHash | keyChallenge =>
    dsimp only [exec]
    exact within_islandI rfl (by dsimp only [Instr.touches]; simp)
  | _ => cases hi

theorem mem_within {c : Instr} (hi : c.island = some .mem) (s : State) : Within c s (exec c s) := by
  cases c with
  | reservationGrant | queueMarkApply | queueBind | queueUnbind | queueFlush =>
    dsimp only [exec]
    exact within_island rfl (by dsimp only [Instr.touches]; simp)
  | queuePop =>
    dsimp only [exec]
    exact within_island rfl (by dsimp only [Instr.touches]; simp [Blk.ite_onlyIn])
  | _ => cases hi

theorem aon_within {c : Instr} (ha : c.aon = true) (s : State) : Within c s (exec c s) := by
  cases c with
  | tamperQualify | powerUp | vanaLoss | perstNDeassert | wakeTimer | sleepEntryDone | deferredWake =>
    dsimp only [exec]
    exact within_aon rfl rfl (by dsimp only [Instr.touches]; simp)
  | brownOut =>
    dsimp only [exec]
    exact within_aon rfl rfl (by dsimp only [Instr.touches]; simp [Blk.ite_onlyIn])
  | _ => cases ha

/-- The commands that need power and no clock of an island's PLL. -/
theorem unclocked_within {c : Instr} (hi : c.island = none) (ha : c.aon = false) (hl : ∀ d, c ≠ .lcChange d)
    (s : State) : Within c s (exec c s) := by
  cases c with
  | hstDmaErr | estopLoopOpen | estopTestPulse | estopDiscrepancy | estopLoopCleared | heartbeatTimeout
  | stop | cmonMismatch | clockDeviation | freezeAckTimeout | windowConfirmTimeout | periodKeyNotReady
  | eccUncorrectable | rampLimitExpiry | stoDarkTest | stoReadbackFault | stoDelayExpiry | release
  | groupRelease | resume | resumeTimeout | fleetSecondsStore | timeStateEval | ppsOutPulse | ppsInEdge
  | ppsInLoss | hostRefLoss | timeStep | timeStepApply | lanFrameRx | lanIntervalEnd | lanSend | lanRxBind
  | compareTargetLoad | compareFire | evrRead | evrClear | clearStart | clearComplete | powerState | survey
  | surveyComplete | surveyRead | wakeInfo | monMeasure | evrReadDone =>
    dsimp only [exec]
    exact within_blk rfl (by dsimp only [Instr.touches]; simp)
  | sramScrub | recordCommit =>
    dsimp only [exec]
    exact within_blk rfl (by dsimp only [Instr.touches]; simp [Blk.foldl_onlyIn])
  | clpStopReqWrite | clpHbWrite | channelCrossCheck | holdoverBudgetExpiry | invIncWrite | invUtcOffWrite
  | invHostOffWrite | lanRecal | compareHostArm =>
    dsimp only [exec]
    exact within_blk rfl (by dsimp only [Instr.touches]; simp [Blk.ite_onlyIn])
  | latchedLoRead | readClearCounter =>
    dsimp only [exec]
    exact within_blkI rfl (by dsimp only [Instr.touches]; simp)
  | pllLockLoss | vfieldOutOfRange | vfieldRecovered | dieOvertemp | refclkRestore | airHoldExpiry
  | supplyOutOfRange | systemRestart | registerWrite | supplyRecovered =>
    dsimp only [exec]
    exact within_ready rfl (by dsimp only [Instr.touches]; simp)
  | refclkLoss =>
    dsimp only [exec]
    exact within_ready rfl (by dsimp only [Instr.touches]; simp [Blk.ite_onlyIn])
  | storeUpdateDone | tamperAck =>
    dsimp only [exec]
    exact within_readyI rfl (by dsimp only [Instr.touches]; simp)
  | bootStageAdvance =>
    dsimp only [exec]
    exact within_readyI rfl (by dsimp only [Instr.touches]; simp [Blk.ite_onlyIn, Blk.foldl_onlyIn])
  | lcChange d => exact absurd rfl (hl d)
  | tamperQualify | powerUp | brownOut | vanaLoss | perstNDeassert | wakeTimer | sleepEntryDone
  | deferredWake => cases ha
  | _ => cases hi

/-- Only LC_CHANGE changes the fuses, and only where R467 accepts it. -/
theorem lcChange_within (d : Desc) (s : State) : Within (.lcChange d) s (exec (.lcChange d) s) := by
  dsimp only [exec, execLcChange]
  cases hp : s.blk.powered with
  | false => exact within_self _ s
  | true =>
    have done (new : LifeCycle) (i : Ident) :
        s.blk.onlyIn bootParts ((s.blk.lcDone s.ident d new).syncReady i) := by simp
    have refused : s.blk.onlyIn bootParts ((s.blk.lcRefused s.ident d).syncReady s.ident) := by simp
    rw [if_pos rfl]
    split
    · exact ⟨_, rfl, rfl, done _ _, done _ _ .uid (by decide), fun h => absurd rfl (h d),
        fun p => by simp [hp] at p, fun _ e => by cases e⟩
    · exact ⟨_, rfl, rfl, refused, refused .uid (by decide), fun _ => rfl,
        fun p => by simp [hp] at p, fun _ e => by cases e⟩

/-! ## Every command -/

theorem island_within {c : Instr} {i : Island} (hi : c.island = some i) (s : State) : Within c s (exec c s) := by
  cases i with
  | hst => exact hst_within hi s
  | dvt => exact dvt_within hi s
  | pos => exact pos_within hi s
  | gns => exact gns_within hi s
  | air => exact air_within hi s
  | hdl => exact hdl_within hi s
  | axs => exact axs_within hi s
  | key => exact key_within hi s
  | mem => exact mem_within hi s
  | inv | clpA | clpB | aon => cases c <;> cases hi

theorem exec_within (c : Instr) (s : State) : Within c s (exec c s) := by
  cases hi : c.island with
  | some i => exact island_within hi s
  | none =>
    cases ha : c.aon with
    | true => exact aon_within ha s
    | false =>
      by_cases hl : ∃ d, c = .lcChange d
      · obtain ⟨d, rfl⟩ := hl
        exact lcChange_within d s
      · exact unclocked_within hi ha (fun d h => hl ⟨d, h⟩) s

/-- Settles O3, by the lift of each command and the frame of the operation that it lifts.  That nothing happens without
power, and nothing on an island without its clock, is the model's reading of R489, R10 and R202 (log 13, 52, 108). -/
theorem commandsStayWithinTheirParts : Obligations.CommandsStayWithinTheirParts := exec_within

end Sys2Proof.Machine
end

section
/-! PROOF. A descriptor that a FENCE holds back is held, and one with a bad header completes malformed (O4): every command
with a descriptor lifts `Blk.start` of it, and READY stays as it is while nothing but HST's part and the outbox changes. -/

namespace Sys2Proof.Machine

open Sys2Proof

/-! ## READY stays in line (R500) -/

/-- A block whose READY agrees with its cause word is left as it is when READY is brought in line. -/
theorem Blk.syncReady_of_inLine {b : Blk} {i : Ident} (h : b.inLine i) : b.syncReady i = b := by
  unfold Blk.syncReady
  exact if_pos (by simpa using h.symm)

/-- The READY cause word and READY itself depend on the register store, CLP, INV, KEY and PWR alone. -/
theorem Blk.inLine_of_onlyIn {ps : List Part} {a b : Blk} {i : Ident} (h : a.onlyIn ps b)
    (hps : ∀ p ∈ [Part.regs, .clp, .inv, .key, .pwr], p ∉ ps) (ha : a.inLine i) : b.inLine i := by
  have hr : b.regs = a.regs := h .regs (hps _ (by decide))
  have hc : b.clp = a.clp := h .clp (hps _ (by decide))
  have hv : b.inv = a.inv := h .inv (hps _ (by decide))
  have hk : b.key = a.key := h .key (hps _ (by decide))
  have hp : b.pwr = a.pwr := h .pwr (hps _ (by decide))
  simpa only [Blk.inLine, Blk.readyCause, Blk.fld, Blk.reg, hr, hc, hv, hk, hp] using ha

/-! ## Every descriptor starts through the check of its header (R104, R143) -/

/-- `o` is the answer of a command whose meaning is the start of descriptor `d`, with READY brought in line after it or
not. -/
def StartsDesc (d : Desc) (s : State) (o : Host.Outcome State Fault Refusal) : Prop :=
  ∃ f, o = .next { s with blk := s.blk.start d f } ∨ o = .next { s with blk := (s.blk.start d f).syncReady s.ident }

/-- A key operation starts its descriptor (R464). -/
theorem Blk.keyOp_starts (i : Ident) (d : Desc) (cs : List (Bool × Nat × Nat)) (f : Blk → Blk) (b : Blk) :
    ∃ g, Blk.keyOp i d cs f b = b.start d g := ⟨_, rfl⟩

section lifts

variable {d : Desc} {s : State}

theorem startsDesc_islandI {i : Island} {g : Ident → Blk → Blk} (hr : s.blk.runs i = true)
    (hg : ∃ f, g s.ident s.blk = s.blk.start d f) : StartsDesc d s (onIslandI i g s) := by
  obtain ⟨f, hf⟩ := hg
  exact ⟨f, .inl (by simp [onIslandI, hr, hf])⟩

theorem startsDesc_island {i : Island} (f : Blk → Blk) (hr : s.blk.runs i = true) :
    StartsDesc d s (onIsland i (fun b => b.start d f) s) :=
  startsDesc_islandI (g := fun _ b => b.start d f) hr ⟨f, rfl⟩

theorem startsDesc_blk (f : Blk → Blk) (hp : s.blk.powered = true) :
    StartsDesc d s (onBlk (fun b => b.start d f) s) := ⟨f, .inl (by simp [onBlk, hp])⟩

theorem startsDesc_readyI {g : Ident → Blk → Blk} (hp : s.blk.powered = true)
    (hg : ∃ f, g s.ident s.blk = s.blk.start d f) : StartsDesc d s (onReadyI g s) := by
  obtain ⟨f, hf⟩ := hg
  exact ⟨f, .inr (by simp [onReadyI, hp, hf])⟩

theorem startsDesc_ready (f : Blk → Blk) (hp : s.blk.powered = true) :
    StartsDesc d s (onReady (fun b => b.start d f) s) :=
  startsDesc_readyI (g := fun _ b => b.start d f) hp ⟨f, rfl⟩

/-- An LC_CHANGE that is not accepted is refused by its start (R467). -/
theorem startsDesc_lcChange (hp : s.blk.powered = true) (hl : s.blk.lcAccepted s.ident d = none) :
    StartsDesc d s (execLcChange d s) := by
  have he : execLcChange d s = onReadyI (fun i b => b.lcRefused i d) s := by
    simp [execLcChange, onReadyI, hp, hl]
  rw [he]
  exact startsDesc_readyI hp (Blk.keyOp_starts _ _ _ _ _)

end lifts

/-- Every command that brings a descriptor starts it; of LC_CHANGE this is so while the change is not accepted. -/
theorem exec_startsDesc {c : Instr} {s : State} {d : Desc} (hd : c.desc = some d) (hp : s.blk.powered = true)
    (hk : ∀ i, c.island = some i → s.blk.clocked i = true) (hl : s.blk.lcAccepted s.ident d = none) :
    StartsDesc d s (exec c s) := by
  have hr {i : Island} (hi : c.island = some i) : s.blk.runs i = true := by simp [Blk.runs, hp, hk i hi]
  cases c with
  | waitCancel | waitsRead | mapLoad | mapSwitch | mapDiscard | snapshot | airSend | airRxBind | airAdmit
  | airMembersRead | gnsRestart | gnsSnapHost | gnsSpectrum | posRefSet | orbitLoad | headSet | memberFilterReset
  | posOfferRead | axsTableLoad | axsTableFree | axsFaultClear | axsSetPos | axsRead | queueBind | queueUnbind
  | queueFlush =>
    cases hd
    dsimp only [exec]
    exact startsDesc_island _ (hr rfl)
  | keyInstall | keyImport | keyDelete | keyLoad | keyDerive | keyCipher | keyExportEnrol | keyEvict | keyHash
  | keyChallenge =>
    cases hd
    dsimp only [exec]
    exact startsDesc_islandI (hr rfl) (Blk.keyOp_starts _ _ _ _ _)
  | stop | release | groupRelease | resume | timeStep | lanSend | lanRxBind | evrRead | evrClear | powerState
  | survey | surveyRead | wakeInfo =>
    cases hd
    dsimp only [exec]
    exact startsDesc_blk _ hp
  | systemRestart =>
    cases hd
    dsimp only [exec]
    exact startsDesc_ready _ hp
  | tamperAck =>
    cases hd
    dsimp only [exec]
    exact startsDesc_readyI hp (Blk.keyOp_starts _ _ _ _ _)
  | lcChange =>
    cases hd
    dsimp only [exec]
    exact startsDesc_lcChange hp hl
  | _ => cases hd

/-- A start that changes HST's part and the outbox alone, whatever the meaning of the descriptor, is all that its command
does. -/
theorem gives_start {c : Instr} {s : State} {d : Desc} {P : Blk → Prop} (hd : c.desc = some d)
    (hp : s.blk.powered = true) (hk : ∀ i, c.island = some i → s.blk.clocked i = true)
    (hl : s.blk.lcAccepted s.ident d = none) (hy : s.blk.inLine s.ident)
    (hf : ∀ f, s.blk.onlyIn [.hst, .out] (s.blk.start d f)) (h : ∀ f, P (s.blk.start d f)) : Gives c s P := by
  obtain ⟨f, e | e⟩ := exec_startsDesc hd hp hk hl
  · exact ⟨_, e, h f⟩
  · rw [Blk.syncReady_of_inLine (Blk.inLine_of_onlyIn (hf f) (by decide) hy)] at e
    exact ⟨_, e, h f⟩

/-! ## What a start does that does not come to the meaning -/

theorem Blk.mem_fenced_hold (b : Blk) (d : Desc) : d ∈ (b.hold d).hst.fenced := by
  unfold Blk.hold
  split
  · exact List.contains_iff_mem.1 ‹_›
  · simp [Blk.recheck, Blk.endVisit, apply_ite Blk.hst, apply_ite Hst.fenced]

theorem Blk.start_of_fenceBlocked {b : Blk} {d : Desc} (f : Blk → Blk)
    (h : (b.enter d.id d.fence).fenceBlocked d = true) : b.start d f = (b.enter d.id d.fence).hold d := by
  simp [Blk.start, Blk.startRaw, h]

theorem Blk.start_of_headerFault {b : Blk} {d : Desc} {reason off : Nat} (f : Blk → Blk) (hu : b.unfenced d)
    (h : d.headerFault = some (reason, off)) : b.start d f = (b.started d).bad d.id reason off := by
  have hu' : (b.enter d.id d.fence).fenceBlocked d = false := hu
  simp [Blk.start, Blk.startRaw, hu', h, Blk.started]

/-- LC_CHANGE is accepted only where it runs now with a good header (R143, R467). -/
theorem Blk.lcAccepted_eq_none {b : Blk} {d : Desc} (i : Ident)
    (h : (b.enter d.id d.fence).fenceBlocked d = true ∨ d.headerFault.isSome = true) : b.lcAccepted i d = none := by
  obtain h | h := h <;> simp [Blk.lcAccepted, h]

/-- Settles O4: a descriptor's command starts it, and both cases end before the meaning of the descriptor. -/
theorem descriptorsAreHeldAndChecked : Obligations.DescriptorsAreHeldAndChecked := by
  intro c s d hd hp hk hy
  refine ⟨fun hb => ?_, fun hu reason off hh => ?_⟩
  · have hf (f : Blk → Blk) : s.blk.onlyIn [.hst] (s.blk.start d f) := by
      rw [Blk.start_of_fenceBlocked f hb]; simp
    refine gives_start hd hp hk (Blk.lcAccepted_eq_none _ (.inl hb)) hy
      (fun f => Blk.onlyIn_mono (hf f) (by decide)) (fun f => ⟨?_, hf f⟩)
    rw [Blk.start_of_fenceBlocked f hb]
    exact Blk.mem_fenced_hold _ d
  · have hf (f : Blk → Blk) : s.blk.onlyIn [.hst, .out] (s.blk.start d f) := by
      rw [Blk.start_of_headerFault f hu hh]; simp
    refine gives_start hd hp hk (Blk.lcAccepted_eq_none _ (.inr (by simp [hh]))) hy hf (fun f => ⟨?_, hf f⟩)
    rw [Blk.start_of_headerFault f hu hh]
    exact Blk.bad_ended _ _ _ _ (Blk.sends_of_out (by simp))

end Sys2Proof.Machine
end

section
/-! SUPPORT. What a commit and an abort do to the fleet, to Dovetail, to the counters and to the elements of the member
that is answered. -/

namespace Sys2Proof.Machine

open Sys2Proof

/-! ## Changes of the pending effects alone -/

/-- The fleet's part and Dovetail's part are as before but for the lists of pending and unfinished effects. -/
def Blk.effectsOnly (a b : Blk) : Prop :=
  (∃ es, b.fleet = { a.fleet with effects := es }) ∧ ∃ us, b.dvt = { a.dvt with unfinished := us }

theorem Blk.effectsOnly_of_eq {a b : Blk} (hf : b.fleet = a.fleet) (hd : b.dvt = a.dvt) : a.effectsOnly b :=
  ⟨⟨a.fleet.effects, hf⟩, a.dvt.unfinished, hd⟩

theorem Blk.effectsOnly_of_onlyIn {ps : List Part} {a b : Blk} (h : a.onlyIn ps b)
    (hps : Part.fleet ∉ ps ∧ Part.dvt ∉ ps) : a.effectsOnly b :=
  Blk.effectsOnly_of_eq (h .fleet hps.1) (h .dvt hps.2)

theorem Blk.effectsOnly_trans {a b c : Blk} (h : a.effectsOnly b) (k : b.effectsOnly c) : a.effectsOnly c := by
  obtain ⟨⟨_, hf⟩, _, hd⟩ := h
  obtain ⟨⟨es, kf⟩, us, kd⟩ := k
  exact ⟨⟨es, by rw [kf, hf]⟩, us, by rw [kd, hd]⟩

theorem Blk.effectsOnly_foldl {α : Type} {f : Blk → α → Blk} (h : ∀ (b : Blk) (x : α), b.effectsOnly (f b x))
    (l : List α) (b : Blk) : b.effectsOnly (l.foldl f b) := by
  induction l generalizing b with
  | nil => exact Blk.effectsOnly_of_eq rfl rfl
  | cons x l ih => exact Blk.effectsOnly_trans (h b x) (ih _)

theorem Blk.cancelEffects_effectsOnly (b : Blk) (p : Effect → Bool) : b.effectsOnly (b.cancelEffects p) := by
  unfold Blk.cancelEffects
  refine Blk.effectsOnly_trans ?_ (Blk.effectsOnly_foldl (fun c e => ?_) _ _)
  · exact ⟨⟨_, rfl⟩, _, rfl⟩
  · exact Blk.effectsOnly_of_onlyIn (ps := [.air, .inv]) (by simp [Blk.ite_onlyIn]) (by decide)

theorem Blk.memberLeft_effectsOnly (b : Blk) (mix : Nat) (st : MState) : b.effectsOnly (b.memberLeft mix st) := by
  unfold Blk.memberLeft
  dsimp only
  refine Blk.effectsOnly_trans
    (b.cancelEffects_effectsOnly (fun e => e.dest == .air && e.obj == mix && e.act != 0x43)) ?_
  exact Blk.effectsOnly_of_onlyIn (ps := [.air, .hst, .out, .regs])
    (by simp [Blk.foldl_onlyIn, Blk.ite_onlyIn]) (by decide)

theorem Blk.memberServices_effectsOnly (b : Blk) (mix : Nat) (old new : MState) :
    b.effectsOnly (b.memberServices mix old new) :=
  Blk.effectsOnly_of_onlyIn (ps := [.gns, .pos]) (by simp) (by decide)

theorem Blk.memberChanged_effectsOnly (b : Blk) (mix : Nat) (old new : MState) :
    b.effectsOnly (b.memberChanged mix old new) := by
  unfold Blk.memberChanged
  dsimp only
  refine Blk.effectsOnly_trans (b.memberServices_effectsOnly mix old new) ?_
  refine Blk.effectsOnly_trans (b := if old.served && !new.served then
    (b.memberServices mix old new).memberLeft mix new else b.memberServices mix old new) ?_ ?_
  · split
    · exact Blk.memberLeft_effectsOnly _ _ _
    · exact Blk.effectsOnly_of_eq rfl rfl
  · exact Blk.effectsOnly_of_onlyIn (ps := [.air, .hdl, .out]) (by simp [Blk.ite_onlyIn]) (by decide)

theorem Blk.membersChanged_effectsOnly (b : Blk) (old : Coherent) : b.effectsOnly (b.membersChanged old) := by
  refine Blk.effectsOnly_foldl (fun c mix => ?_) _ _
  dsimp only
  split
  · exact Blk.effectsOnly_of_eq rfl rfl
  · exact c.memberChanged_effectsOnly _ _ _

/-! ## A new coherent state put in force (R39, R91) -/

/-- The state in which a commit has put `c` in force, before what follows from it for members, elements and compare
units. -/
def Blk.inForce (b : Blk) (c : Coherent) (epoch : Nat) (es : List Effect) : Blk :=
  let b1 := b.copySnaps
  { b1 with
    fleet := { b1.fleet with coh := c, epoch := epoch, effects := b1.fleet.effects ++ es,
                             commitAt := if epoch = 0 then b1.fleet.commitAt else b1.inv.ft }
    dvt := { b1.dvt with unfinished := b1.dvt.unfinished ++ es.filter Effect.isAxs
                         freed := b1.dvt.freed ++ b1.freedBy c } }

theorem Blk.install_eq_inForce (b : Blk) (c : Coherent) (epoch : Nat) (es : List Effect) :
    b.install c epoch es =
      (((b.inForce c epoch es).membersChanged b.copySnaps.fleet.coh).pushEffects es).loadTargets := rfl

theorem Blk.inForce_dvt (b : Blk) (c : Coherent) (epoch : Nat) (es : List Effect) :
    (b.inForce c epoch es).dvt = { b.dvt with unfinished := b.dvt.unfinished ++ es.filter Effect.isAxs
                                              freed := b.dvt.freed ++ b.freedBy c } := rfl

theorem Blk.install_effectsOnly (b : Blk) (c : Coherent) (epoch : Nat) (es : List Effect) :
    (b.inForce c epoch es).effectsOnly (b.install c epoch es) := by
  rw [Blk.install_eq_inForce]
  refine Blk.effectsOnly_trans (Blk.membersChanged_effectsOnly _ b.copySnaps.fleet.coh) ?_
  exact Blk.effectsOnly_of_onlyIn (ps := [.air, .inv]) (by simp) (by decide)

/-- What a commit puts in force is the state of its epoch; of Dovetail it changes the unfinished effects and the freed
segments alone. -/
theorem Blk.install_parts (b : Blk) (c : Coherent) (epoch : Nat) (es : List Effect) :
    (b.install c epoch es).fleet.coh = c ∧ (b.install c epoch es).fleet.epoch = epoch ∧
      ∃ us, (b.install c epoch es).dvt = { b.dvt with unfinished := us, freed := b.dvt.freed ++ b.freedBy c } := by
  obtain ⟨⟨_, hf⟩, us, hd⟩ := b.install_effectsOnly c epoch es
  refine ⟨by rw [hf]; rfl, by rw [hf]; rfl, us, by rw [hd, Blk.inForce_dvt]⟩

@[simp] theorem Blk.install_coh (b : Blk) (c : Coherent) (epoch : Nat) (es : List Effect) :
    (b.install c epoch es).fleet.coh = c := (b.install_parts c epoch es).1

@[simp] theorem Blk.install_epoch (b : Blk) (c : Coherent) (epoch : Nat) (es : List Effect) :
    (b.install c epoch es).fleet.epoch = epoch := (b.install_parts c epoch es).2.1

/-- With nothing waiting, no segment has waiters that a commit could free (R99). -/
theorem Blk.freedBy_of_waits_nil {b : Blk} (h : b.dvt.waits = []) (c : Coherent) : b.freedBy c = [] := by
  simp [Blk.freedBy, Blk.waiterSegs, Blk.edges, h]

/-! ## Answers (R91, R107, R110) -/

theorem Blk.answer_only (b : Blk) (t : Txn) (status detail epoch : Nat) (commit : Bool) :
    b.onlyIn [.air, .evr, .hst, .mem, .out, .regs] (b.answer t status detail epoch commit) := by
  unfold Blk.answer
  cases t.src <;> simp [Blk.ite_onlyIn]

@[simp] theorem Blk.answer_fleet (b : Blk) (t : Txn) (status detail epoch : Nat) (commit : Bool) :
    (b.answer t status detail epoch commit).fleet = b.fleet :=
  b.answer_only t status detail epoch commit .fleet (by decide)

@[simp] theorem Blk.answer_dvt (b : Blk) (t : Txn) (status detail epoch : Nat) (commit : Bool) :
    (b.answer t status detail epoch commit).dvt = b.dvt :=
  b.answer_only t status detail epoch commit .dvt (by decide)

/-- An answer raises no counter but those of the queue of its report item. -/
theorem Blk.answer_itemRegs (b : Blk) (t : Txn) (status detail epoch : Nat) (commit : Bool) :
    b.regsOnly itemRegs (b.answer t status detail epoch commit) := by
  unfold Blk.answer
  cases t.src <;> simp [Blk.ite_regsOnly]

/-- The device's own transaction is answered by its report item alone (R109). -/
theorem Blk.answer_device_only {t : Txn} {mix : Nat} (h : t.src = .device mix) (b : Blk) (status detail epoch : Nat)
    (commit : Bool) : b.onlyIn [.evr, .mem, .regs] (b.answer t status detail epoch commit) := by
  simp [Blk.answer, h]

/-- The bytes of a REPLY element (R298). -/
def replyBody (req status detail epoch : Nat) : Bytes :=
  leBytes 1 req ++ leBytes 1 status ++ zeros 2 ++ leBytes 4 detail ++ leBytes 8 epoch

theorem Blk.airReply_elems (b : Blk) (mix req status detail epoch : Nat) :
    ((b.airReply mix req status detail epoch).link mix).elems =
      (b.link mix).elems ++ [{ etype := 0x88, body := replyBody req status detail epoch }] := by
  simp [Blk.airReply, replyBody]

/-- A member's request is answered by a REPLY element (R107). -/
theorem Blk.answer_air_mem {t : Txn} {mix req : Nat} (h : t.src = .air mix req) (b : Blk)
    (status detail epoch : Nat) (commit : Bool) :
    { etype := 0x88, body := replyBody req status detail epoch : Elem } ∈
      ((b.answer t status detail epoch commit).link mix).elems := by
  have hr : { etype := 0x88, body := replyBody req status detail epoch : Elem } ∈
      ((b.airReply mix req status detail epoch).link mix).elems := by simp [Blk.airReply_elems]
  have hi (c : Blk) : (c.dvtItem 1 mix t status detail epoch).air = c.air := by
    have h : c.onlyIn [.evr, .mem, .regs] (c.dvtItem 1 mix t status detail epoch) := by simp
    exact h .air (by decide)
  simp only [Blk.answer, h]
  split
  · simpa only [Blk.link, hi] using hr
  · exact hr

/-! ## Commits (R91, R92) -/

/-- A commit of a transaction while nothing waits: the fleet shows its epoch, and of Dovetail's part the unfinished
effects alone may differ. -/
theorem Blk.commit_parts {b : Blk} (hw : b.dvt.waits = []) (t : Txn) (w : Work) :
    (b.commit t w).fleet.coh = w.coh ∧ (b.commit t w).fleet.epoch = w.epoch ∧
      ∃ us, (b.commit t w).dvt = { b.dvt with unfinished := us } := by
  obtain ⟨_, _, us, hd⟩ := b.install_parts w.coh w.epoch w.effs
  rw [Blk.freedBy_of_waits_nil hw, List.append_nil] at hd
  exact ⟨by simp [Blk.commit], by simp [Blk.commit], us, by simp [Blk.commit, hd]⟩

theorem Blk.commit_counts (b : Blk) (t : Txn) (w : Work) : b.counts (b.commit t w) Reg.DVT_COMMIT_COUNT := by
  have hi : b.regsOnly [Reg.AIR_EFFECT_DROP_COUNT] (b.install w.coh w.epoch w.effs) := by simp
  exact Blk.counts_trans (Blk.counts_bump (hi _ (by decide))) (Blk.answer_itemRegs _ _ _ _ _ _ _ (by decide))

/-! ## Aborts (R91, R119) -/

theorem Blk.abort_counts (b : Blk) (t : Txn) (status detail : Nat) :
    b.counts (b.abort t status detail) Reg.DVT_ABORT_COUNT := by
  have hb : b.counts (b.bump Reg.DVT_ABORT_COUNT) Reg.DVT_ABORT_COUNT := Blk.counts_bump rfl
  unfold Blk.abort
  refine Blk.counts_trans ?_ (Blk.answer_itemRegs _ _ _ _ _ _ _ (by decide))
  split
  · exact Blk.counts_trans hb (Blk.reg_bump_ne _ (by decide))
  · exact hb

@[simp] theorem Blk.abort_fleet (b : Blk) (t : Txn) (status detail : Nat) :
    (b.abort t status detail).fleet = b.fleet := by
  simp only [Blk.abort, Blk.answer_fleet, apply_ite Blk.fleet, Blk.bump_fleet, ite_self]

@[simp] theorem Blk.abort_dvt (b : Blk) (t : Txn) (status detail : Nat) :
    (b.abort t status detail).dvt = b.dvt := by
  simp only [Blk.abort, Blk.answer_dvt, apply_ite Blk.dvt, Blk.bump_dvt, ite_self]

/-- An abort of the device's own transaction shows in its report item alone (R109). -/
theorem Blk.abort_device_only {t : Txn} {mix : Nat} (h : t.src = .device mix) (b : Blk) (status detail : Nat) :
    b.onlyIn [.evr, .mem, .regs] (b.abort t status detail) := by
  unfold Blk.abort
  refine Blk.onlyIn_trans ?_ (Blk.answer_device_only h _ _ _ _ _)
  simp [Blk.ite_onlyIn]

/-- A member's request that aborts is answered by its REPLY alone while refusals are not reported (R107, R110). -/
theorem Blk.abort_air {b : Blk} {t : Txn} {mix req status : Nat} (hs : t.src = .air mix req)
    (hq : b.flag Reg.DVT_EVQ_CFG 9 = false) (hd : status ≠ St.deadlock) (detail : Nat) :
    b.abort t status detail = (b.bump Reg.DVT_ABORT_COUNT).airReply mix req status detail b.fleet.epoch := by
  have hq' : (b.bump Reg.DVT_ABORT_COUNT).flag Reg.DVT_EVQ_CFG 9 = false := by
    rw [Blk.flag_of_reg (Blk.reg_bump_ne b (by decide)), hq]
  simp [Blk.abort, Blk.answer, hs, hd, hq']

end Sys2Proof.Machine
end

section
/-! PROOF. A member's request is answered and uses its quota, a quota period makes the units whole, and the device's own
transactions commit or are kept (O16): a Dovetail with nothing else due judges each of them at once. -/

namespace Sys2Proof.Machine

open Sys2Proof

/-! ## A quiet Dovetail (R99, R116) -/

theorem Blk.quiet.waits_nil {b : Blk} (h : b.quiet) : b.dvt.waits = [] := by
  obtain ⟨_, hw, _, _⟩ := h
  exact hw

theorem Blk.quiet.freed_nil {b : Blk} (h : b.quiet) : b.dvt.freed = [] := by
  obtain ⟨_, _, hf, _⟩ := h
  exact hf

/-- Without a freed segment nothing is judged again (R99). -/
theorem Blk.rejudge_of_freed_nil {b : Blk} (h : b.dvt.freed = []) : b.rejudge = b := by
  simp [Blk.rejudge, Blk.rejudge.go, h]

theorem Blk.settleAir_of_airDue_none {b : Blk} (h : b.airDue = none) : b.settleAir = b := by
  unfold Blk.settleAir
  cases b.fleet.effects.length with
  | zero => rfl
  | succ n => simp [Blk.settleAir.go, h]

theorem Blk.settleReassoc_of_none {b : Blk} (h : ∀ m, m < 128 → (b.link m).reassoc = false) : b.settleReassoc = b := by
  unfold Blk.settleReassoc
  refine List.foldlRecOn (motive := fun c => c = b) _ _ rfl (fun c hc m hm => ?_)
  subst hc
  simp [h m (List.mem_range.1 hm)]

theorem Blk.ahead_of_quiet {b : Blk} (h : b.quiet) : b.ahead = b := by
  obtain ⟨hdue, _, hfreed, hre⟩ := h
  rw [Blk.ahead, Blk.settleAir_of_airDue_none hdue, Blk.rejudge_of_freed_nil hfreed, Blk.settleReassoc_of_none hre]

theorem Blk.released_of_waits_nil {b : Blk} (h : b.dvt.waits = []) : b.released = none := by
  simp [Blk.released, h]

/-! ## A member's request (R107, R113, R117) -/

/-- The state in which the request of `mix` is judged, the only one admitted. -/
def Blk.takenFrom (b : Blk) (mix : Nat) : Blk :=
  Blk.noteTurn { b with dvt := { b.dvt with admission := [], lastMix := mix } } true

/-- A quiet Dovetail with one request admitted judges that request (R106, R117). -/
theorem Blk.airJudge_of_quiet {b : Blk} {mix : Nat} {t : Txn} (hq : b.quiet) (ha : b.dvt.admission = [(mix, t)]) :
    b.airJudge = (b.takenFrom mix).airTxn mix t := by
  have hn : b.nextAdmitted = some (mix, t) := by
    by_cases h : b.dvt.lastMix < mix <;> simp [Blk.nextAdmitted, ha, h]
  simp [Blk.airJudge, Blk.airJudge.go, Blk.ahead_of_quiet hq, hn, Blk.released_of_waits_nil hq.waits_nil, Blk.runAdmitted,
    Blk.takenFrom, Blk.modDvt, ha, Tab.del]

/-- During a stop a member's request is refused (R113). -/
theorem Blk.airTxn_of_stopped {b : Blk} (h : b.stopped = true) (mix : Nat) (t : Txn) :
    b.airTxn mix t = b.abort t St.stopped (b.clp.s % 2 ^ 32) := if_pos h

/-- A member without a unit left is refused (R107). -/
theorem Blk.airTxn_of_no_quota {b : Blk} {mix : Nat} (h : b.stopped = false) (hq : b.quotaLeft mix = 0) (t : Txn) :
    b.airTxn mix t = b.abort t St.quota (b.toQuota * 2 ^ 16 + mix) := by
  simp [Blk.airTxn, h, hq]

/-- A member's request that commits uses one unit, and while nothing waits nothing is judged again (R99, R107). -/
theorem Blk.airTxn_of_commit {b : Blk} {mix : Nat} {t : Txn} {w : Work} (h : b.stopped = false)
    (hq : b.quotaLeft mix ≠ 0) (hw : b.dvt.waits = []) (hf : b.dvt.freed = []) (hj : b.judge t false = .commit w) :
    b.airTxn mix t = (b.commit t w).useQuota mix := by
  obtain ⟨_, _, us, hd⟩ := Blk.commit_parts hw t w
  simp only [Blk.airTxn, h, hq, Blk.airRun, hj, if_false, Bool.false_eq_true]
  exact Blk.rejudge_of_freed_nil (by simp [Blk.useQuota, hd, hf])

/-- A member's request that is refused before it is judged is answered by its REPLY alone, and only counted (R107, R113). -/
theorem Blk.takenFrom_abort {b : Blk} {t : Txn} {mix req status : Nat} (hs : t.src = .air mix req)
    (hq : b.flag Reg.DVT_EVQ_CFG 9 = false) (hd : status ≠ St.deadlock) (detail : Nat) :
    let b' := (b.takenFrom mix).abort t status detail
    b'.dvt = (b.takenFrom mix).dvt ∧ b.counts b' Reg.DVT_ABORT_COUNT ∧
      (b'.link mix).elems = (b.link mix).elems ++
        [{ etype := 0x88, body := replyBody req status detail b.fleet.epoch }] ∧
      b.onlyIn [.dvt, .air, .regs] b' ∧ b.regsOnly [Reg.DVT_ABORT_COUNT] b' := by
  have he := Blk.abort_air (b := b.takenFrom mix) hs hq hd detail
  refine ⟨by simp, Blk.abort_counts (b.takenFrom mix) t status detail, ?_, ?_, ?_⟩
  · rw [he]; exact Blk.airReply_elems _ _ _ _ _ _
  · rw [he]; simp [Blk.takenFrom]
  · rw [he]; simp [Blk.takenFrom]

/-- A member's request that commits (R107). -/
theorem Blk.commit_useQuota_parts {b : Blk} {t : Txn} {mix req : Nat} (hs : t.src = .air mix req)
    (hw : b.dvt.waits = []) (w : Work) :
    let b' := (b.commit t w).useQuota mix
    (∃ us, b'.dvt = { b.dvt with unfinished := us }) ∧ b'.fleet.epoch = w.epoch ∧
      b'.fleet.coh = w.coh.setMember mix { w.coh.member mix with used := (w.coh.member mix).used + 1 } ∧
      b.counts b' Reg.DVT_COMMIT_COUNT ∧
      { etype := 0x88, body := replyBody req (commitStatus w.clamp) (w.clamp * 2 ^ 16) w.epoch : Elem } ∈
        (b'.link mix).elems := by
  obtain ⟨hc, he, hd⟩ := Blk.commit_parts hw t w
  exact ⟨hd, he, by simp [Blk.useQuota, Blk.member, hc], b.commit_counts t w, Blk.answer_air_mem hs _ _ _ _ _⟩

/-! ## Quota periods (R107) -/

theorem Tab.val_map {α : Type} (t : Tab α) (f : α → α) (i : Nat) (d : α) (hd : f d = d) :
    Tab.val (t.map (fun p => (p.1, f p.2))) i d = f (Tab.val t i d) := by
  induction t with
  | nil => exact hd.symm
  | cons p t ih =>
    obtain ⟨k, y⟩ := p
    by_cases h : k = i <;> simp [Tab.val, h, ih]

/-- A quota period that is due makes every member's units whole (R107). -/
theorem Blk.quotaPeriod_of_due {b : Blk} (h : b.quotaDue = true) : b.quotaPeriod = { b with
    fleet := { b.fleet with coh := { b.fleet.coh with
      members := b.fleet.coh.members.map (fun p => (p.1, { p.2 with used := 0 })) } }
    dvt := { b.dvt with quotaSf := b.air.sfn, quotaNew := false, quotaTick := false } } := by
  simp [Blk.quotaPeriod, h]

theorem Blk.member_quotaPeriod {b : Blk} (h : b.quotaDue = true) (m : Nat) :
    b.quotaPeriod.member m = { b.member m with used := 0 } := by
  rw [Blk.quotaPeriod_of_due h]
  exact Tab.val_map _ (fun x : Member => { x with used := 0 }) m {} rfl

/-! ## The device's own transactions (R109, R114) -/

theorem Tab.val_upd {α : Type} (t : Tab α) (i j : Nat) (d : α) (f : α → α) :
    Tab.val (Tab.upd t i d f) j d = if i = j then f (Tab.val t i d) else Tab.val t j d := Tab.val_put _ _ _ _ _

/-- During a stop a cause of the device's own is kept (R114). -/
theorem Blk.device_of_stopped {b : Blk} (h : b.stopped = true) (mix : Nat) (c : DevCause) :
    b.device mix c = { b with dvt := { b.dvt with
      deferred := Tab.upd b.dvt.deferred mix {} (fun d => deferCause (b.member mix).task d c) } } := if_pos h

/-- The state in which the device's own transaction is judged, one more in a row (R116). -/
def Blk.ownTurn (b : Blk) : Blk := b.modDvt (fun v => { v with devRun := v.devRun + 1 })

/-- A quiet Dovetail with no request admitted judges a transaction of the device's own at once (R109, R116). -/
theorem Blk.device_of_quiet {b : Blk} (hs : b.stopped = false) (hq : b.quiet) (ha : b.dvt.admission = []) (mix : Nat)
    (c : DevCause) : b.device mix c = (b.ownTurn.runTxn (deviceTxn mix (b.causeActs mix c))).rejudge := by
  have hn : b.nextAdmitted = none := by simp [Blk.nextAdmitted, ha]
  have hy : b.yield = b := by simp [Blk.yield, Blk.takeTurn, Blk.released_of_waits_nil hq.waits_nil, hn]
  simp [Blk.device, hs, Blk.ahead_of_quiet hq, hy, Blk.runDevice, Blk.ownTurn]

/-- A transaction judged while nothing waits: a commit frees no segment, so that nothing is judged again (R99). -/
theorem Blk.runTxn_of_commit {b : Blk} {t : Txn} {w : Work} (hw : b.dvt.waits = []) (hf : b.dvt.freed = [])
    (hj : b.judge t false = .commit w) : (b.runTxn t).rejudge = b.commit t w := by
  obtain ⟨_, _, us, hd⟩ := Blk.commit_parts hw t w
  simp only [Blk.runTxn, hj]
  exact Blk.rejudge_of_freed_nil (by simp [hd, hf])

theorem Blk.runTxn_of_abort {b : Blk} {t : Txn} {st dt : Nat} (hf : b.dvt.freed = [])
    (hj : b.judge t false = .abort st dt) : (b.runTxn t).rejudge = b.abort t st dt := by
  simp only [Blk.runTxn, hj]
  exact Blk.rejudge_of_freed_nil (by simp [hf])

/-! ## The commands -/

/-- AIR_TXN_JUDGE with one request in a quiet Dovetail gives what that request gives (R106). -/
theorem gives_airTxnJudge {s : State} {mix : Nat} {t : Txn} {P : Blk → Prop} (hr : s.blk.runs .dvt = true)
    (hq : s.blk.quiet) (ha : s.blk.dvt.admission = [(mix, t)]) (h : P ((s.blk.takenFrom mix).airTxn mix t)) :
    Gives .airTxnJudge s P :=
  gives_island .dvt Blk.airJudge rfl hr (by rw [Blk.airJudge_of_quiet hq ha]; exact h)

/-- DEVICE_TXN gives what its cause gives (R109). -/
theorem gives_deviceTxn {s : State} {mix : Mix} {c : DevCause} {P : Blk → Prop} (hr : s.blk.runs .dvt = true)
    (h : P (s.blk.device mix.val c)) : Gives (.deviceTxn mix c) s P :=
  gives_island .dvt (fun b => b.device mix.val c) rfl hr h

/-- Settles O16, by the answers to a member's request, the quota period and the device's own transactions. -/
theorem memberRequestsUseTheirQuota : Obligations.MemberRequestsUseTheirQuota := by
  refine ⟨fun s mix t req hr hq ha hs => ?request, fun s hr ht hn => ?period, fun s mix c hr => ?device⟩
  case request =>
    have hw : s.blk.dvt.waits = [] := hq.waits_nil
    refine ⟨fun hst hev => gives_airTxnJudge hr hq ha ?_, fun hst hn hev => gives_airTxnJudge hr hq ha ?_,
      fun w hst hn hj => gives_airTxnJudge hr hq ha ?_⟩
    · rw [Blk.airTxn_of_stopped (b := s.blk.takenFrom mix) hst]
      exact Blk.takenFrom_abort hs hev (by decide) _
    · rw [Blk.airTxn_of_no_quota (b := s.blk.takenFrom mix) hst hn]
      exact Blk.takenFrom_abort hs hev (by decide) _
    · rw [Blk.airTxn_of_commit (b := s.blk.takenFrom mix) hst hn hw hq.freed_nil hj]
      obtain ⟨⟨us, hd⟩, he, hc, hcnt, hel⟩ := Blk.commit_useQuota_parts (b := s.blk.takenFrom mix) hs hw w
      exact ⟨by rw [hd]; rfl, by rw [hd]; rfl, he, hc, hcnt, hel, by simp [Blk.takenFrom]⟩
  case period =>
    have hd : s.blk.quotaDue = true := by simpa [Blk.quotaDue, Blk.quotaAge, ht] using hn
    refine gives_island .dvt Blk.quotaPeriod rfl hr ⟨fun m => ?_, ?_, ?_, ?_, by simp⟩
    · rw [Blk.member_quotaPeriod hd]
      exact ⟨rfl, rfl⟩
    all_goals rw [Blk.quotaPeriod_of_due hd]
  case device =>
    refine ⟨fun hst => gives_deviceTxn hr ?_, fun hst hq ha =>
      ⟨fun w hj => gives_deviceTxn hr ?_, fun st dt hj => gives_deviceTxn hr ?_⟩⟩
    · rw [Blk.device_of_stopped hst]
      exact ⟨by simp [Tab.val_upd], fun m hm => by simp [Tab.val_upd, hm.symm], by simp⟩
    · have hw : s.blk.ownTurn.dvt.waits = [] := hq.waits_nil
      rw [Blk.device_of_quiet hst hq ha, Blk.runTxn_of_commit hw hq.freed_nil hj]
      obtain ⟨hc, he, _⟩ := Blk.commit_parts hw (deviceTxn mix.val (s.blk.causeActs mix.val c)) w
      exact ⟨hc, he, Blk.commit_counts s.blk.ownTurn _ w, by simp [Blk.ownTurn]⟩
    · rw [Blk.device_of_quiet hst hq ha, Blk.runTxn_of_abort (b := s.blk.ownTurn) hq.freed_nil hj]
      have ho := Blk.abort_device_only (t := deviceTxn mix.val (s.blk.causeActs mix.val c)) rfl s.blk.ownTurn st dt
      exact ⟨Blk.abort_fleet s.blk.ownTurn _ st dt, Blk.abort_dvt s.blk.ownTurn _ st dt,
        Blk.abort_counts s.blk.ownTurn _ st dt,
        Blk.onlyIn_trans (b := s.blk.ownTurn) (by simp [Blk.ownTurn]) (Blk.onlyIn_mono ho (by decide))⟩

end Sys2Proof.Machine
end
